-- ==== Sys2Proof/Word.lean ====
section
/-! DEFINITION. The plain types of the NK8 model: index ranges (R3), words, and sparse tables. -/
namespace Sys2Proof

/-- A byte (R2). -/
abbrev Byte := BitVec 8
/-- A register of the register space (R336). -/
abbrev Reg64 := BitVec 64
/-- A warp header flit or data flit (R126). -/
abbrev Flit := BitVec 512
/-- A line of a scratchpad, pool, tile buffer or edge slot: 128 bytes (R59, R105). -/
abbrev Line := BitVec 1024
/-- A vector register: 256 bytes (R54). -/
abbrev VReg := BitVec 2048

/-- Global core number (R3). -/
abbrev CoreIx := Fin 2048
/-- Global cluster number: pair × 32 + 16 for die U + cluster (R207). -/
abbrev ClusterIx := Fin 256
/-- Pair ST0 to ST7 (R3). -/
abbrev PairIx := Fin 8
/-- Loom site: PS0-PS7 are 0-7, MS0-MS7 are 8-15, XS00-XS15 are 16-31 (R124). -/
abbrev SiteIx := Fin 32
/-- External port XP00 to XP31 (R3). -/
abbrev PortIx := Fin 32
/-- Bulk stack BM0 to BM7 (R3). -/
abbrev StackIx := Fin 8
/-- Logical link, ports 2n and 2n + 1 by default (R195). -/
abbrev LinkIx := Fin 16
/-- Shuttle channel of a core (R307). -/
abbrev ChIx := Fin 4
/-- Laser input LI00 to LI23 (R3). -/
abbrev LaserIx := Fin 24
/-- PCIe function PF0 to PF8 (R332). -/
abbrev FnIx := Fin 9
/-- Partition number: 1 to 8 name P1 to P8, 0 names none (R4). -/
abbrev PartNo := Fin 9

/-- A sparse table: rising keys, no entry equal to the default of its reader (log entry 6). -/
abbrev Tab (α : Type) := List (Nat × α)

end Sys2Proof
end

