-- ==== Sys2Proof/Syntax.lean ====
section
/-! DEFINITION. The commands of the block (spec/opcode_table.json), one constructor of `Instr` per row, and the
operands they carry. -/
namespace Sys2Proof

/-- The M slot a memory-slot operation sits in (R66): M0 or M1. -/
inductive MSlot | m0 | m1
deriving DecidableEq, Repr

/-- Common fields of an M-slot operation (R66): the scratchpad side. `len` is lines − 1. -/
structure MAddr where
  ar : BitVec 4
  offset : BitVec 12
  len : BitVec 3
  inc : Bool
deriving DecidableEq, Repr

/-- Fields of MMV (R66). -/
structure MmvF where
  mask : BitVec 4
  buf : Bool
  slice : BitVec 2
  set : BitVec 3
  clr : Bool
  aofs : BitVec 9
  wfmt : BitVec 4
  afmt : BitVec 4
deriving DecidableEq, Repr

/-- Fields of a V slot besides the operation code (R66). -/
structure VFields where
  vd : BitVec 5
  va : BitVec 5
  vb : BitVec 5
  vc : BitVec 5
  slotk : BitVec 4
  imm : BitVec 16
  fmt : BitVec 4
  part : BitVec 2
  bf : Bool
deriving DecidableEq, Repr

/-- A fault found in a memory word at an access: the word's number within the access, in order of addresses, and
whether it is uncorrectable (R62, R68, R108). Single-bit errors are corrected. -/
structure Upset where
  word : Nat
  ue : Bool
deriving DecidableEq, Repr

/-- An access arriving at a core's landing port (R60, R82): its byte address, the bytes it writes in accesses of 64
bytes (8 for an atomic), whether it is a reply to the core's own request, and the knot it increments when it is done. -/
structure LandAcc where
  addr : BitVec 22
  data : List Byte
  reply : Bool
  knot : Option (BitVec 6)
deriving DecidableEq, Repr

/-- Operation codes of the V slot (R56), NOP apart. -/
inductive VCode
  | fadd | fsub | fmul | fma | fmax | fmin | fcmplt | fcmpeq | sel | fabs | fneg | fred | fredmax
  | cvt | tcvt | tpack | tadd | treq | tfrom | iadd | isub | iand | ior | ixor | ishl | isra | movi | movf | perm
deriving DecidableEq, Repr

/-- Operation codes of the S slot (R58), NOP apart. -/
inductive SCode | exp | rcp | rsqrt
deriving DecidableEq, Repr

/-- An M-slot operation (R66, R110). -/
inductive MOp
  | nop
  | vld (a : MAddr) (v : BitVec 5)
  | vst (a : MAddr) (v : BitVec 5)
  | tld (a : MAddr) (bline : BitVec 5) (mask : BitVec 4) (buf : Bool)
  | ald (a : MAddr) (aline : BitVec 7) (mask : BitVec 4)
  | tst (a : MAddr) (set : BitVec 3) (eng : BitVec 2)
  | tla (a : MAddr) (set : BitVec 3) (eng : BitVec 2)
  | arset (ar : BitVec 4) (val : BitVec 15)
  | pld (a : MAddr) (pr : BitVec 2) (pinc : Bool) (pofs : BitVec 12)
  | pst (a : MAddr) (pr : BitVec 2) (pinc : Bool) (dcl : BitVec 4) (ddie : Bool) (pofs : BitVec 7)
  | esa (a : MAddr) (slot : BitVec 5) (first : Bool) (wide : Bool) (sofs : BitVec 4)
  | prset (pr : BitVec 2) (val : BitVec 16)
deriving DecidableEq, Repr

/-- An E-slot operation (R66). -/
inductive EOp
  | nop
  | mmv (f : MmvF)
  | spec (mask : BitVec 4) (set : BitVec 3) (tspec : BitVec 16)
  | zero (mask : BitVec 4) (sets : BitVec 8)
deriving DecidableEq, Repr

/-- A V-slot operation (R66). -/
inductive VOp
  | nop
  | op (code : VCode) (f : VFields)
deriving DecidableEq, Repr

/-- An S-slot operation (R66). -/
inductive SOp
  | nop
  | op (code : SCode) (vd va : BitVec 5) (q : BitVec 2)
deriving DecidableEq, Repr

/-- A control-slot operation (R71). -/
inductive COp
  | nop
  | jmp (target : BitVec 11)
  | loop (endIx : BitVec 11) (count : BitVec 16)
  | halt
  | kwait (knot : BitVec 6) (consume : Bool) (n : BitVec 32)
  | ksig (knot : BitVec 6) (n : BitVec 16)
  | kset (knot : BitVec 6) (val : BitVec 32)
  | lzopen (zmask : BitVec 8)
  | lzclose (zmask : BitVec 8)
  | flagmv (vd : BitVec 5)
  | flagclr (fmask : BitVec 7)
  | shkick (ch : BitVec 2) (count : BitVec 12)
  | bound
deriving DecidableEq, Repr

/-- A bundle's six slots (R67). -/
structure Bundle where
  scrub : Bool
  c : COp
  m0 : MOp
  m1 : MOp
  e : EOp
  v : VOp
  s : SOp
deriving DecidableEq, Repr

/-- A pool-port access of a cluster (R107): 64-byte granules at a byte offset of the pool. -/
structure PoolAcc where
  addr : BitVec 23
  write : Bool
  data : List Byte
deriving DecidableEq, Repr

/-- A fault record (R376). The CRC is computed when the record is laid out in bytes. -/
structure FaultRec where
  seq : BitVec 32
  cls : BitVec 8
  code : BitVec 8
  status : BitVec 8
  flags : BitVec 8
  time : BitVec 64
  node : BitVec 16
  context : BitVec 16
  unit : BitVec 16
  sub : BitVec 16
  addr : BitVec 64
  detail : BitVec 192
  suppressed : BitVec 32
deriving DecidableEq, Repr

/-- A packet of the fabric (R129, R183): its header flit and data flits, and the source node, destination node and
external hops that the port header names and the warp header has no field for (log entry 9). -/
structure Pkt where
  hdr : Flit
  data : List Flit
  snode : BitVec 14
  dnode : BitVec 14
  hops : BitVec 3
deriving DecidableEq, Repr

/-- A ring of a site, and the lane it serves, named as LM_RING_SEL names it (R173): PLANE [1:0], DIR [2], WG [6:3],
WL [11:7]. -/
structure RingRef where
  site : SiteIx
  sel : BitVec 12
deriving DecidableEq, Repr

/-- A receive waveguide of the weft plane (R134, R135); at a pair site 0-7 stand for the standing, 8-15 for the phase
waveguides (log entry 10). -/
structure WeftRx where
  site : SiteIx
  wg : Fin 16
deriving DecidableEq, Repr

/-- A lane block of a weft frame (R163): the payload and bytes 64 to 67. -/
structure LaneBlock where
  payload : Flit
  tail : BitVec 32
deriving DecidableEq, Repr

/-- What a stack's PHY training and identification data show (R287): training done, DRAM dies, bytes of a pseudo-channel,
pseudo-channel mode, and by physical pseudo-channel its die and its rank on it. -/
structure StackIdent where
  trained : Bool
  dies : Nat
  bytes : Nat
  pcMode : Bool
  pcs : List (Nat × Nat)
deriving DecidableEq, Repr

/-- What a named output's receiver measures on one lane in a verification (R164): average power in 0.01 dBm, the source
index delivered and the consecutive good pilot frames. -/
structure OutMeas where
  out : BitVec 7
  wl : BitVec 5
  cdbm : Int
  src : BitVec 7
  pilots : Nat
deriving DecidableEq, Repr

/-- A change made as one step at a frame boundary (R155): whether a lane carries traffic, or the line its ring serves. -/
inductive LaneStep | carry (on : Bool) | line (wl : BitVec 5)
deriving DecidableEq, Repr

/-- A resonance crossing of a census sweep (R157). -/
structure Crossing where
  heater : BitVec 20
  marker : Bool
deriving DecidableEq, Repr

/-- The Bobbin's registers (R165). -/
structure BobbinRegs where
  model : BitVec 8
  state : BitVec 8
  marker : BitVec 8
  lineFault : BitVec 32
  outFault : BitVec 24
  temp : BitVec 8
deriving DecidableEq, Repr

/-- A symbol of a stored line that a DRAM read returns wrong: codeword, symbol, and the difference (R290). -/
structure SymErr where
  w : Fin 4
  x : Fin 72
  e : BitVec 16
deriving DecidableEq, Repr

/-- What the DRAM returns for a line: the errors of the first and second read, the slots that fail the probe, and
whether the line is locked (R291, R292, R295). -/
structure DramRead where
  first : List SymErr
  second : List SymErr
  suspect : BitVec 9
deriving DecidableEq, Repr

/-- A standing unit header (R297). -/
abbrev StandUnit := BitVec 128

/-- A request that has arrived at an endpoint of a site (R209): the packet, the memory errors that struck before it, and
what the DRAM returns for the lines it reads, in ascending order. -/
structure Arrival where
  site : SiteIx
  ep : BitVec 3
  pk : Pkt
  up : List Upset
  dram : List DramRead
deriving DecidableEq, Repr

/-- An arbitrated resource of a pair (R257). -/
inductive ArbRef
  | egress (p : PairIx) (e : Fin 16) (standing : Bool)
  | lane (cl : ClusterIx) (j : Fin 4)
deriving DecidableEq, Repr

/-- Who holds a request (R210, R347): a core, with the slot of its tag, or the Heddle, named by the destination node and
the SEQ. -/
inductive Requester
  | core (c : CoreIx) (slot : Fin 32)
  | heddle (node : BitVec 14) (seq : BitVec 32)
deriving DecidableEq, Repr

/-- What one piece of a bulk self-test does (R303): DATAPATH passed or failed, a spare row of q tested, the run ends, or
the test yields. -/
inductive SelfEv
  | datapath (ok : Bool)
  | spare (q : BitVec 6) (row : BitVec 2) (ok : Bool)
  | done
  | yields
  | interrupted
deriving DecidableEq, Repr

/-- The fields of a MOVE (R312, R318): local address, package bulk byte offset, lines and direction. -/
structure MoveDesc where
  lcl : BitVec 32
  addr : BitVec 64
  len : BitVec 32
  toBulk : Bool
deriving DecidableEq, Repr

/-- A collective descriptor at the head of a channel (R267). -/
structure ColDesc where
  core : CoreIx
  ch : ChIx
  raw : BitVec 512
deriving DecidableEq, Repr

/-- A mailbox request header (R339). -/
structure MbHdr where
  opcode : BitVec 16
  flags : BitVec 8
  part : BitVec 8
  target : BitVec 16
  seq : BitVec 16
  length : BitVec 32
  rsv : BitVec 32
  haddr : BitVec 64
  hlen : BitVec 64
deriving DecidableEq, Repr

/-- A mailbox command (R339, R341): the mailbox it comes from (0 to 8 PF0 to PF8, 9 the SMBus, 10 the tether mailbox), its
header and payload. -/
structure Mail where
  src : Fin 11
  hdr : MbHdr
  payload : List (BitVec 8)
deriving DecidableEq, Repr

/-- A host access to the register space (R334 to R336, R338): function, BAR (false BAR0, true BAR2), byte offset, and its
size in bytes. -/
structure HostAcc where
  fn : FnIx
  bar2 : Bool
  offset : BitVec 32
  size : Nat
deriving DecidableEq, Repr

/-- What S0 finds (R399): the firmware banks whose verification fails. -/
structure BootRes where
  bad : BitVec 2
deriving DecidableEq, Repr

/-- An SPDM request (R402): on SMBus or on the DOE, its body, and whether the security processor accepts it. -/
structure SpdmReq where
  smb : Bool
  body : List (BitVec 8)
  ok : Bool
deriving DecidableEq, Repr

/-- Header of a Holnilet SMBus message (R404) besides its CMD: the bits that must be 0 are 0, SEQ. -/
structure SmbMsg where
  clean : Bool
  seq : BitVec 8
deriving DecidableEq, Repr

/-- The commands: one constructor per row of spec/opcode_table.json. -/
inductive Instr
  -- CoreOps
  /-- BUNDLE_ISSUE (R68) -/
  | bundleIssue (c : CoreIx) (up : List Upset)
  /-- VLD (R63) -/
  | vld (c : CoreIx) (sl : MSlot) (a : MAddr) (v : BitVec 5)
  /-- VST (R63) -/
  | vst (c : CoreIx) (sl : MSlot) (a : MAddr) (v : BitVec 5)
  /-- TLD (R63) -/
  | tld (c : CoreIx) (sl : MSlot) (a : MAddr) (bline : BitVec 5) (mask : BitVec 4) (buf : Bool)
  /-- ALD (R63) -/
  | ald (c : CoreIx) (sl : MSlot) (a : MAddr) (aline : BitVec 7) (mask : BitVec 4)
  /-- TST (R53) -/
  | tst (c : CoreIx) (sl : MSlot) (a : MAddr) (set : BitVec 3) (eng : BitVec 2)
  /-- TLA (R53) -/
  | tla (c : CoreIx) (sl : MSlot) (a : MAddr) (set : BitVec 3) (eng : BitVec 2)
  /-- ARSET (R66) -/
  | arset (c : CoreIx) (sl : MSlot) (ar : BitVec 4) (val : BitVec 15)
  /-- PLD (R111) -/
  | pld (c : CoreIx) (sl : MSlot) (a : MAddr) (pr : BitVec 2) (pinc : Bool) (pofs : BitVec 12)
  /-- PST (R111) -/
  | pst (c : CoreIx) (sl : MSlot) (a : MAddr) (pr : BitVec 2) (pinc : Bool) (dcl : BitVec 4) (ddie : Bool) (pofs : BitVec 7)
  /-- ESA (R114) -/
  | esa (c : CoreIx) (sl : MSlot) (a : MAddr) (slot : BitVec 5) (first : Bool) (wide : Bool) (sofs : BitVec 4)
  /-- PRSET (R109) -/
  | prset (c : CoreIx) (sl : MSlot) (pr : BitVec 2) (val : BitVec 16)
  /-- MMV (R51) -/
  | mmv (c : CoreIx) (f : MmvF)
  /-- SPEC (R52) -/
  | spec (c : CoreIx) (mask : BitVec 4) (set : BitVec 3) (tspec : BitVec 16)
  /-- ZERO (R52) -/
  | zero (c : CoreIx) (mask : BitVec 4) (sets : BitVec 8)
  -- Vector
  /-- FADD (R56) -/
  | fadd (c : CoreIx) (f : VFields)
  /-- FSUB (R56) -/
  | fsub (c : CoreIx) (f : VFields)
  /-- FMUL (R56) -/
  | fmul (c : CoreIx) (f : VFields)
  /-- FMA (R56) -/
  | fma (c : CoreIx) (f : VFields)
  /-- FMAX (R56) -/
  | fmax (c : CoreIx) (f : VFields)
  /-- FMIN (R56) -/
  | fmin (c : CoreIx) (f : VFields)
  /-- FCMPLT (R56) -/
  | fcmplt (c : CoreIx) (f : VFields)
  /-- FCMPEQ (R56) -/
  | fcmpeq (c : CoreIx) (f : VFields)
  /-- SEL (R56) -/
  | sel (c : CoreIx) (f : VFields)
  /-- FABS (R56) -/
  | fabs (c : CoreIx) (f : VFields)
  /-- FNEG (R56) -/
  | fneg (c : CoreIx) (f : VFields)
  /-- FRED (R56) -/
  | fred (c : CoreIx) (f : VFields)
  /-- FREDMAX (R56) -/
  | fredmax (c : CoreIx) (f : VFields)
  /-- CVT (R57) -/
  | cvt (c : CoreIx) (f : VFields)
  /-- TCVT (R57) -/
  | tcvt (c : CoreIx) (f : VFields)
  /-- TPACK (R57) -/
  | tpack (c : CoreIx) (f : VFields)
  /-- TADD (R56) -/
  | tadd (c : CoreIx) (f : VFields)
  /-- TREQ (R57) -/
  | treq (c : CoreIx) (f : VFields)
  /-- TFROM (R57) -/
  | tfrom (c : CoreIx) (f : VFields)
  /-- IADD (R56) -/
  | iadd (c : CoreIx) (f : VFields)
  /-- ISUB (R56) -/
  | isub (c : CoreIx) (f : VFields)
  /-- IAND (R56) -/
  | iand (c : CoreIx) (f : VFields)
  /-- IOR (R56) -/
  | ior (c : CoreIx) (f : VFields)
  /-- IXOR (R56) -/
  | ixor (c : CoreIx) (f : VFields)
  /-- ISHL (R56) -/
  | ishl (c : CoreIx) (f : VFields)
  /-- ISRA (R56) -/
  | isra (c : CoreIx) (f : VFields)
  /-- MOVI (R56) -/
  | movi (c : CoreIx) (f : VFields)
  /-- MOVF (R56) -/
  | movf (c : CoreIx) (f : VFields)
  /-- PERM (R56) -/
  | perm (c : CoreIx) (f : VFields)
  /-- EXP (R58) -/
  | exp (c : CoreIx) (vd : BitVec 5) (va : BitVec 5) (q : BitVec 2)
  /-- RCP (R58) -/
  | rcp (c : CoreIx) (vd : BitVec 5) (va : BitVec 5) (q : BitVec 2)
  /-- RSQRT (R58) -/
  | rsqrt (c : CoreIx) (vd : BitVec 5) (va : BitVec 5) (q : BitVec 2)
  -- Control
  /-- JMP (R70) -/
  | jmp (c : CoreIx) (target : BitVec 11)
  /-- LOOP (R70) -/
  | loop (c : CoreIx) (endIx : BitVec 11) (count : BitVec 16)
  /-- HALT (R87) -/
  | halt (c : CoreIx)
  /-- KWAIT (R74) -/
  | kwait (c : CoreIx) (knot : BitVec 6) (consume : Bool) (n : BitVec 32)
  /-- KSIG (R73) -/
  | ksig (c : CoreIx) (knot : BitVec 6) (n : BitVec 16)
  /-- KSET (R73) -/
  | kset (c : CoreIx) (knot : BitVec 6) (val : BitVec 32)
  /-- LZOPEN (R81) -/
  | lzopen (c : CoreIx) (zmask : BitVec 8)
  /-- LZCLOSE (R81) -/
  | lzclose (c : CoreIx) (zmask : BitVec 8)
  /-- FLAGMV (R85) -/
  | flagmv (c : CoreIx) (vd : BitVec 5)
  /-- FLAGCLR (R85) -/
  | flagclr (c : CoreIx) (fmask : BitVec 7)
  /-- SHKICK (R71) -/
  | shkick (c : CoreIx) (ch : BitVec 2) (count : BitVec 12)
  /-- BOUND (R86) -/
  | bound (c : CoreIx)
  -- Beats
  /-- PIPELINE_WRITEBACK (R56) -/
  | pipelineWriteback (c : CoreIx)
  /-- BANK_BEAT (R61) -/
  | bankBeat (c : CoreIx) (up : List Upset)
  /-- LINK_CLAIM (R103) -/
  | linkClaim (p : PairIx)
  /-- POOL_BANK_BEAT (R106) -/
  | poolBankBeat (cl : ClusterIx) (up : List Upset)
  /-- SLOT_BEAT (R114) -/
  | slotBeat (p : PairIx) (sl : Fin 32)
  /-- KNOT_UPDATE (R73) -/
  | knotUpdate (cl : ClusterIx) (k : Fin 64)
  /-- KWAIT_SUCCESS (R74) -/
  | kwaitSuccess (c : CoreIx)
  /-- GROUP_RELEASE (R76) -/
  | groupRelease (p : PairIx) (g : Fin 32)
  /-- WAIT_LIMIT (R79) -/
  | waitLimit (c : CoreIx)
  /-- HELD_BEAT_SCRUB (R84) -/
  | heldBeatScrub (c : CoreIx) (up : List Upset)
  /-- LANDING_PORT_SCRUB (R84) -/
  | landingPortScrub (c : CoreIx) (up : List Upset)
  /-- LANDING_WRITE (R82) -/
  | landingWrite (c : CoreIx) (a : LandAcc)
  /-- LANDING_BUFFER_DRAIN (R82) -/
  | landingBufferDrain (c : CoreIx) (z : Fin 8)
  /-- GROUP_STOP (R88) -/
  | groupStop (p : PairIx) (g : Fin 32)
  /-- PART_STOP (R88) -/
  | partStop (part : PartNo)
  /-- GROUP_DRAIN_END (R87) -/
  | groupDrainEnd (p : PairIx) (g : Fin 32)
  /-- POOL_PORT_ACCESS (R107) -/
  | poolPortAccess (cl : ClusterIx) (a : PoolAcc) (up : List Upset)
  /-- POOL_SCRUB (R108) -/
  | poolScrub (cl : ClusterIx) (up : List Upset)
  -- Gears
  /-- GEAR_LATCH (R121) -/
  | gearLatch (p : PairIx)
  /-- GEAR_ACK_CHECK (R122) -/
  | gearAckCheck (p : PairIx) (acks : BitVec 32)
  /-- GEAR_BOUNDARY (R122) -/
  | gearBoundary (p : PairIx) (low : BitVec 32)
  /-- VOLT_CONFIRM (R424) -/
  | voltConfirm (p : PairIx) (g : Fin 25)
  /-- VOLT_TIMEOUT (R424) -/
  | voltTimeout (p : PairIx) (g : Fin 25) (mv : BitVec 16)
  /-- CROSSING_MARGIN_LOW (R118) -/
  | crossingMarginLow (cl : ClusterIx) (port : Fin 6)
  /-- CROSSING_SLIP (R118) -/
  | crossingSlip (cl : ClusterIx) (port : Fin 6)
  -- Weave
  /-- WARP_PACKET_SEND (R128) -/
  | warpPacketSend (site : SiteIx) (d : SiteIx) (busy : BitVec 16)
  /-- WARP_PACKET_RECEIVE (R130) -/
  | warpPacketReceive (site : SiteIx) (wg : Fin 16) (src : SiteIx) (pk : Pkt) (marked : Bool)
  /-- WARP_ACK_SEND (R131) -/
  | warpAckSend (site : SiteIx) (d : SiteIx) (busy : BitVec 16)
  /-- WARP_REPLAY_TIMEOUT (R132) -/
  | warpReplayTimeout (site : SiteIx) (d : SiteIx)
  /-- WEFT_FRAME_RECEIVE (R163) -/
  | weftFrameReceive (f : WeftRx) (lanes : List (BitVec 544)) (marked : Bool)
  /-- LANE_FLOOD (R162) -/
  | laneFlood (l : RingRef) (meas : List (Bool × OutMeas))
  /-- PHASE_SWITCH_REQUEST (R141) -/
  | phaseSwitchRequest (part : PartNo) (slot : BitVec 4) (byHeddle : Bool)
  /-- PHASE_SWITCH_SETTLED (R142) -/
  | phaseSwitchSettled (part : PartNo)
  /-- PHASE_SWITCH_VERIFY (R143) -/
  | phaseSwitchVerify (part : PartNo) (meas : List OutMeas)
  /-- LANE_MAP_STEP (R155) -/
  | laneMapStep (l : RingRef) (step : LaneStep)
  -- Optics
  /-- LASER_TAP_SAMPLE (R151) -/
  | laserTapSample (n : LaserIx) (cdbm : BitVec 16)
  /-- LASER_OVER_TIMEOUT (R166) -/
  | laserOverTimeout (n : LaserIx)
  /-- RING_TRACK_ITERATION (R154) -/
  | ringTrackIteration (r : RingRef) (step : Int) (mon : BitVec 16)
  /-- RING_SEARCH_END (R154) -/
  | ringSearchEnd (r : RingRef) (found : Option (BitVec 20))
  /-- CENSUS_RING_DONE (R158) -/
  | censusRingDone (r : RingRef) (xs : List Crossing)
  /-- CENSUS_RESTART (R158) -/
  | censusRestart
  /-- LM_DAC_CTL_WRITE (R159) -/
  | lmDacCtlWrite (site : SiteIx) (val : BitVec 64)
  /-- BOBBIN_POLL (R165) -/
  | bobbinPoll (acks : List Bool) (regs : BobbinRegs)
  /-- BOBBIN_OK_LOW (R166) -/
  | bobbinOkLow
  /-- BOBBIN_TIMEOUT (R166) -/
  | bobbinTimeout
  /-- LASER_EN_RETRY (R166) -/
  | laserEnRetry
  /-- LIGHT_HOLD_ENTER (R167) -/
  | lightHoldEnter
  /-- LIGHT_HOLD_EXIT (R167) -/
  | lightHoldExit (lost : List RingRef) (meas : List (Bool × OutMeas))
  /-- LIGHT_HOLD_TIMEOUT (R167) -/
  | lightHoldTimeout
  /-- RECAL_START (R170) -/
  | recalStart (l : RingRef)
  /-- RECAL_DONE (R170) -/
  | recalDone (l : RingRef) (pass : Bool) (testFlits : Nat)
  /-- PORT_LANE_BER_LIMIT (R169) -/
  | portLaneBerLimit (p : PortIx) (f : Fin 4) (m : Fin 8) (severe : Bool)
  -- Ports
  /-- SUPERFRAME_SEND (R178) -/
  | superframeSend (p : PortIx)
  /-- CONTROL_BLOCK_RECEIVE (R180) -/
  | controlBlockReceive (p : PortIx) (raw : List (BitVec 8)) (marked : Bool)
  /-- DATA_BLOCK_RECEIVE (R185) -/
  | dataBlockReceive (p : PortIx) (raw : List (BitVec 8)) (marked : Bool)
  /-- BLOCK_REPLAY_TIMEOUT (R185) -/
  | blockReplayTimeout (p : PortIx)
  /-- RETRY_EXHAUSTED (R186) -/
  | retryExhausted (p : PortIx)
  /-- DOWN_NOTICE_END (R192) -/
  | downNoticeEnd (p : PortIx)
  /-- PORT_LANE_MAP_STEP (R188) -/
  | portLaneMapStep (p : PortIx) (tx : Bool)
  /-- KEY_EPOCH_STEP (R182) -/
  | keyEpochStep (p : PortIx) (tx : Bool)
  /-- PORT_PACKET_RECEIVE (R184) -/
  | portPacketReceive (p : PortIx) (claim : BitVec 16) (hdr : BitVec 512) (data : List (BitVec 512))
  /-- ATTEMPT_START (R190) -/
  | attemptStart (p : PortIx)
  /-- ALIGN_DONE (R191) -/
  | alignDone (p : PortIx)
  /-- ATTEMPT_STEP_LIMIT (R191) -/
  | attemptStepLimit (p : PortIx) (light : Bool)
  /-- TRAIN (R191) -/
  | train (p : PortIx) (msg : BitVec 512)
  /-- EXCHANGE (R191) -/
  | exchange (p : PortIx) (msg : BitVec 512)
  /-- EXCHANGE_ACK (R191) -/
  | exchangeAck (p : PortIx) (msg : BitVec 512)
  /-- KEYX (R406) -/
  | keyx (p : PortIx) (msg : BitVec 512)
  /-- REKEY_MESSAGE (R407) -/
  | rekeyMessage (p : PortIx) (msg : BitVec 512)
  /-- PORT_ACTIVE (R191) -/
  | portActive (p : PortIx)
  /-- PORT_ENABLE (R204) -/
  | portEnable (p : PortIx) (on : Bool)
  /-- RESTART (R204) -/
  | restart (p : PortIx)
  /-- REKEY (R182) -/
  | rekey (p : PortIx)
  /-- HB_SEND (R198) -/
  | hbSend (n : LinkIx)
  /-- HEARTBEAT_MISS (R198) -/
  | heartbeatMiss (n : LinkIx) (path : Bool)
  /-- SWITCH_OVER (R200) -/
  | switchOver (n : LinkIx)
  /-- SWITCH (R201) -/
  | switch (n : LinkIx)
  /-- SELFTEST_START (R202) -/
  | selftestStart (n : LinkIx)
  /-- SELFTEST_DONE (R203) -/
  | selftestDone (n : LinkIx)
  /-- XP_SEL_CTL_WRITE (R205) -/
  | xpSelCtlWrite (n : LinkIx) (val : BitVec 64)
  -- Fabric
  /-- READ (R213) -/
  | read (a : Arrival)
  /-- WRITE (R213) -/
  | write (a : Arrival)
  /-- COPY (R216) -/
  | copy (a : Arrival)
  /-- ADD (R214) -/
  | add (a : Arrival)
  /-- MIN (R214) -/
  | min (a : Arrival)
  /-- MAX (R214) -/
  | max (a : Arrival)
  /-- CAS (R214) -/
  | cas (a : Arrival)
  /-- SWAP (R214) -/
  | swap (a : Arrival)
  /-- FWD_WRITE (R219) -/
  | fwdWrite (a : Arrival)
  /-- RSP_RECEIVE (R222) -/
  | rspReceive (pk : Pkt)
  /-- FILTER_FILL (R228) -/
  | filterFill (node : BitVec 14) (fwd : Bool)
  /-- REISSUE (R233) -/
  | reissue (q : Requester)
  /-- TIMEOUT (R233) -/
  | timeout (q : Requester)
  /-- QUARANTINE_END (R233) -/
  | quarantineEnd (q : Requester)
  /-- ORDER_HOLD_RELEASE (R250) -/
  | orderHoldRelease (node : BitVec 14) (fwd : Bool)
  /-- ARB_DECISION (R258) -/
  | arbDecision (r : ArbRef)
  /-- ARB_BACKOFF_END (R259) -/
  | arbBackoffEnd (r : ArbRef) (i : Fin 32)
  -- Collectives
  /-- CSEND (R269) -/
  | csend (d : ColDesc)
  /-- CRECV (R269) -/
  | crecv (d : ColDesc)
  /-- CCOMB (R279) -/
  | ccomb (d : ColDesc)
  /-- DATA (R280) -/
  | data (site : SiteIx) (pk : Pkt)
  /-- GRANT (R271) -/
  | grant (site : SiteIx) (pk : Pkt)
  /-- ACK (R281) -/
  | ack (site : SiteIx) (pk : Pkt)
  /-- REJ (R281) -/
  | rej (site : SiteIx) (pk : Pkt)
  /-- READY (R272) -/
  | ready (p : PairIx) (slot : BitVec 4)
  /-- SWITCH_OUTCOME (R272) -/
  | switchOutcome (part : PartNo) (slot : BitVec 4)
  /-- READY_TIMEOUT (R272) -/
  | readyTimeout (part : PartNo)
  /-- SEGMENT_RECEIVE (R274) -/
  | segmentReceive (p : PairIx) (wg : Fin 8)
  /-- RESEND_REQUEST (R275) -/
  | resendRequest (p : PairIx) (wg : Fin 8)
  /-- MCAST_RETRY (R281) -/
  | mcastRetry (p : PairIx) (i : Fin 16) (half : Bool)
  /-- STREAM_TIMEOUT (R282) -/
  | streamTimeout (p : PairIx) (i : Fin 16)
  /-- COMB_TIMEOUT (R279) -/
  | combTimeout (site : SiteIx) (i : Fin 64)
  /-- STREAM_COMPLETE (R270) -/
  | streamComplete (p : PairIx) (i : Fin 16)
  /-- LOOM_INPUT_WRITE (R277) -/
  | loomInputWrite (p : PairIx) (i : Fin 16) (chunk : Nat)
  -- Bulk
  /-- BULK_LINE_READ (R291) -/
  | bulkLineRead (k : StackIx) (n : BitVec 27) (e : DramRead)
  /-- BULK_WRITE (R296) -/
  | bulkWrite (k : StackIx) (n : BitVec 27) (mask : BitVec 8) (gran : List (BitVec 512)) (e : DramRead)
  /-- WRITE_BUFFER_DRAIN (R296) -/
  | writeBufferDrain (k : StackIx) (n : BitVec 27)
  /-- RD (R297) -/
  | rd (k : StackIx) (p : PairIx) (u : StandUnit) (e : DramRead)
  /-- WR (R297) -/
  | wr (k : StackIx) (p : PairIx) (u : StandUnit) (gran : List (BitVec 512)) (e : DramRead)
  /-- RDATA (R318) -/
  | rdata (p : PairIx) (k : StackIx) (u : StandUnit) (gran : List (BitVec 512))
  /-- WACK (R297) -/
  | wack (p : PairIx) (k : StackIx) (u : StandUnit)
  /-- ACKONLY (R298) -/
  | ackonly (p : PairIx) (k : StackIx) (toPair : Bool) (u : StandUnit)
  /-- STANDING_RESEND_TIMEOUT (R298) -/
  | standingResendTimeout (p : PairIx) (k : StackIx) (byPair : Bool)
  /-- STANDING_REPORT_REPEAT (R298) -/
  | standingReportRepeat (p : PairIx) (k : StackIx) (byPair : Bool)
  /-- BULK_SCRUB (R300) -/
  | bulkScrub (k : StackIx) (e : DramRead)
  /-- REMAP (R301) -/
  | remap (k : StackIx) (q : BitVec 6) (row : BitVec 20)
  /-- BULK_SELFTEST (R303) -/
  | bulkSelftest (k : StackIx) (ev : SelfEv)
  /-- BULK_SELFTEST_RESUME (R303) -/
  | bulkSelftestResume (k : StackIx)
  /-- PACKAGE_FILL_DONE (R302) -/
  | packageFillDone
  /-- REGION_FILL_DONE (R302) -/
  | regionFillDone (part : PartNo)
  /-- WRITE_LINE (R305) -/
  | writeLine (k : StackIx) (t : BitVec 6)
  /-- WRITE_DATA (R305) -/
  | writeData (k : StackIx) (t : BitVec 6)
  /-- WRITE_CHECK (R305) -/
  | writeCheck (k : StackIx) (t : BitVec 6)
  /-- WRITE_RAW (R305) -/
  | writeRaw (k : StackIx) (t : BitVec 6)
  /-- READ_RAW (R305) -/
  | readRaw (k : StackIx) (t : BitVec 6)
  /-- READ_DECODE (R305) -/
  | readDecode (k : StackIx) (t : BitVec 6) (e : DramRead)
  -- Shuttle
  /-- SH_RING_WRITE (R307) -/
  | shRingWrite (c : CoreIx) (ch : ChIx) (val : BitVec 64)
  /-- KICK (R310) -/
  | kick (c : CoreIx) (ch : ChIx) (fn : FnIx) (count : BitVec 13)
  /-- HOST_FREE (R324) -/
  | hostFree (c : CoreIx) (ch : ChIx) (fn : FnIx) (gen : BitVec 12)
  /-- CHANNEL_ENABLE (R323) -/
  | channelEnable (c : CoreIx) (ch : ChIx) (on : Bool)
  /-- DESCRIPTOR_START (R314) -/
  | descriptorStart (c : CoreIx) (ch : ChIx)
  /-- FENCE (R224) -/
  | fence (c : CoreIx) (ch : ChIx) (acq : Bool)
  /-- INV (R226) -/
  | inv (c : CoreIx) (ch : ChIx) (addr : BitVec 64) (len : Nat)
  /-- MOVE (R318) -/
  | move (c : CoreIx) (ch : ChIx) (m : MoveDesc)
  /-- TAKE (R325) -/
  | take (c : CoreIx) (ch : ChIx) (buf : Fin 16)
  /-- FREE (R324) -/
  | free (c : CoreIx) (ch : ChIx) (tgt : BitVec 64)
  /-- NOP (R312) -/
  | nop (c : CoreIx) (ch : ChIx)
  /-- DESCRIPTOR_COMPLETE (R319) -/
  | descriptorComplete (c : CoreIx) (ch : ChIx) (slot : BitVec 12)
  /-- RESUME (R321) -/
  | resume (c : CoreIx)
  /-- CHANNEL_STOPPED (R323) -/
  | channelStopped (c : CoreIx) (ch : ChIx)
  /-- KN_COUNT_WRITE (R328) -/
  | knCountWrite (cl : ClusterIx) (k : Fin 64) (val : BitVec 32)
  /-- KN_ADD_WRITE (R326) -/
  | knAddWrite (cl : ClusterIx) (k : Fin 64) (n : BitVec 16)
  /-- SHUTTLE_TURN (R315) -/
  | shuttleTurn (c : CoreIx) (ch : ChIx) (room : Bool)
  -- Mailbox
  /-- INFO (R344) -/
  | info (m : Mail)
  /-- LOG_READ (R380) -/
  | logRead (m : Mail)
  /-- PARTITION_CREATE (R343) -/
  | partitionCreate (m : Mail)
  /-- PARTITION_DELETE (R342) -/
  | partitionDelete (m : Mail)
  /-- PARTITION_RESET (R383) -/
  | partitionReset (m : Mail) (failed : BitVec 8)
  /-- PARTITION_QUERY (R343) -/
  | partitionQuery (m : Mail)
  /-- DRAFT_LOAD (R96) -/
  | draftLoad (m : Mail) (img : List (BitVec 8)) (fault : Bool)
  /-- DRAFT_START (R99) -/
  | draftStart (m : Mail)
  /-- DRAFT_STOP (R100) -/
  | draftStop (m : Mail)
  /-- WEFT_SLOT_WRITE (R139) -/
  | weftSlotWrite (m : Mail)
  /-- WEFT_STANDING_SET (R137) -/
  | weftStandingSet (m : Mail)
  /-- ROUTE_TABLE_SET (R251) -/
  | routeTableSet (m : Mail)
  /-- FABRIC_TIMEOUT_SET (R232) -/
  | fabricTimeoutSet (m : Mail)
  /-- NODE_DEAD_SET (R238) -/
  | nodeDeadSet (m : Mail)
  /-- GEAR_SET (R344) -/
  | gearSet (m : Mail)
  /-- PACKAGE_RESET (R386) -/
  | packageReset (m : Mail)
  /-- FW_WRITE (R400) -/
  | fwWrite (m : Mail) (img : List (BitVec 8))
  /-- FW_ACTIVATE (R400) -/
  | fwActivate (m : Mail)
  /-- DRAFT_KEY_GET (R344) -/
  | draftKeyGet (m : Mail)
  /-- TIME_GET (R418) -/
  | timeGet (m : Mail)
  /-- TIME_STEP_ARM (R418) -/
  | timeStepArm (m : Mail)
  /-- TIME_STEP_DELTA (R418) -/
  | timeStepDelta (m : Mail)
  /-- TIME_STEP_CANCEL (R418) -/
  | timeStepCancel (m : Mail)
  /-- METER_READ (R437) -/
  | meterRead (m : Mail)
  /-- BRINGUP_START (R367) -/
  | bringupStart (m : Mail)
  /-- BRINGUP_REPORT (R374) -/
  | bringupReport (m : Mail)
  /-- TETHER_ADD (R350) -/
  | tetherAdd (m : Mail) (answer : Option Bool)
  /-- TETHER_REMOVE (R350) -/
  | tetherRemove (m : Mail)
  /-- TETHER_POLICY_SET (R351) -/
  | tetherPolicySet (m : Mail)
  /-- TETHER_LIST (R350) -/
  | tetherList (m : Mail)
  -- Host
  /-- TETHER_DOORBELL (R349) -/
  | tetherDoorbell (src : BitVec 14)
  /-- RETURN_DOORBELL (R349) -/
  | returnDoorbell (src : BitVec 14)
  /-- TETHER_EVENT (R353) -/
  | tetherEvent (src : BitVec 14) (rec : FaultRec)
  /-- OPEN (R351) -/
  | openMsg (src : BitVec 14)
  /-- CLOSE (R350) -/
  | closeMsg (src : BitVec 14)
  /-- HEARTBEAT (R352) -/
  | heartbeat (src : BitVec 14)
  /-- TETHER_HEARTBEAT_SEND (R352) -/
  | tetherHeartbeatSend
  /-- TETHER_LOST (R352) -/
  | tetherLost (node : BitVec 14)
  /-- TETHER_REOPEN (R352) -/
  | tetherReopen (node : BitVec 14)
  /-- FUNCTION_LEVEL_RESET (R333) -/
  | functionLevelReset (fn : FnIx)
  /-- PERST_N (R385) -/
  | perstN
  /-- HD_KWATCH_WRITE (R356) -/
  | hdKwatchWrite (fn : FnIx) (v : Fin 246) (val : BitVec 64)
  /-- KNOT_WATCH_FIRE (R356) -/
  | knotWatchFire (fn : FnIx) (v : Fin 246)
  /-- EVENT_IRQ (R354) -/
  | eventIrq (fn : FnIx)
  /-- REGISTER_WRITE (R9) -/
  | registerWrite (x : HostAcc) (val : BitVec 64)
  /-- DOORBELL (R340) -/
  | doorbell (fn : FnIx)
  /-- REGISTER_READ (R335) -/
  | registerRead (x : HostAcc)
  -- Bringup
  /-- S0_NEWT (R358) -/
  | s0Newt (r : BootRes)
  /-- S1_HOST (R358) -/
  | s1Host (rate : Nat) (width : Nat) (ok : Bool)
  /-- S2_CLOCKS (R358) -/
  | s2Clocks (pll : Bool) (failed : List ClusterIx)
  /-- S3_DIES (R358) -/
  | s3Dies (failed : BitVec 16)
  /-- S4_BULK (R358) -/
  | s4Bulk (ids : List StackIdent)
  /-- S5_LIGHT (R358) -/
  | s5Light (acks : List Bool)
  /-- S6_WEAVE (R358) -/
  | s6Weave (lanes : List RingRef) (meas : List (Bool × OutMeas))
  /-- S7_CORES (R358) -/
  | s7Cores (bcast : BitVec 8) (cores : List CoreIx)
  /-- S8_CONFIG (R368) -/
  | s8Config
  /-- S9_PORTS (R370) -/
  | s9Ports (waited : Bool)
  /-- S10_READY (R371) -/
  | s10Ready
  /-- TIME_LIMIT (R358) -/
  | timeLimit
  -- Resets
  /-- WARM_RESET (R382) -/
  | warmReset
  /-- COLD_RESET (R382) -/
  | coldReset
  /-- POWER_ON (R381) -/
  | powerOn
  /-- POWER_GOOD_FALL (R423) -/
  | powerGoodFall (input : Fin 13)
  /-- WATCHDOG (R386) -/
  | watchdog
  /-- HARD_RESET_N_FALL (R387) -/
  | hardResetNFall (ns : Nat) (starts : Bool)
  /-- HARD_RESET_N_HELD (R387) -/
  | hardResetNHeld
  /-- HARD_RESET_N_RELEASE (R387) -/
  | hardResetNRelease
  /-- HANG (R388) -/
  | hang (part : PartNo)
  /-- DUMP_WRITE (R390) -/
  | dumpWrite (part : PartNo)
  /-- HD_DUMP_SEL_WRITE (R392) -/
  | hdDumpSelWrite (val : BitVec 64)
  /-- SUMMARY_WINDOW_END (R379) -/
  | summaryWindowEnd
  /-- LOG_FLASH_WRITE (R380) -/
  | logFlashWrite
  -- Security
  /-- IDE_INTEGRITY_FAILURE (R403) -/
  | ideIntegrityFailure
  /-- GET_VERSION (R402) -/
  | getVersion (x : SpdmReq)
  /-- GET_CAPABILITIES (R402) -/
  | getCapabilities (x : SpdmReq)
  /-- NEGOTIATE_ALGORITHMS (R402) -/
  | negotiateAlgorithms (x : SpdmReq)
  /-- GET_DIGESTS (R402) -/
  | getDigests (x : SpdmReq)
  /-- GET_CERTIFICATE (R402) -/
  | getCertificate (x : SpdmReq)
  /-- CHALLENGE (R402) -/
  | challenge (x : SpdmReq)
  /-- GET_MEASUREMENTS (R401) -/
  | getMeasurements (x : SpdmReq)
  /-- KEY_EXCHANGE (R402) -/
  | keyExchange (x : SpdmReq)
  /-- FINISH (R402) -/
  | finish (x : SpdmReq)
  /-- SPDM_HEARTBEAT (R402) -/
  | spdmHeartbeat (x : SpdmReq)
  /-- KEY_UPDATE (R402) -/
  | keyUpdate (x : SpdmReq)
  /-- END_SESSION (R402) -/
  | endSession (x : SpdmReq)
  /-- CHUNK_SEND (R402) -/
  | chunkSend (x : SpdmReq)
  /-- CHUNK_GET (R402) -/
  | chunkGet (x : SpdmReq)
  /-- VENDOR_DEFINED_REQUEST (R403) -/
  | vendorDefinedRequest (x : SpdmReq) (ide : Option Bool)
  /-- SET_ENDPOINT_ID (R404) -/
  | setEndpointId (eid : BitVec 8)
  /-- REG_READ (R404) -/
  | regRead (x : SmbMsg) (offset : BitVec 32) (count : BitVec 8)
  /-- REG_WRITE (R404) -/
  | regWrite (x : SmbMsg) (offset : BitVec 32) (val : BitVec 64)
  /-- MAILBOX (R404) -/
  | mailbox (x : SmbMsg) (hdr : MbHdr) (payload : List (BitVec 8))
  /-- QUERY (R410) -/
  | query (m : Mail)
  /-- CLAIM (R410) -/
  | claim (m : Mail)
  /-- DEPLOY (R410) -/
  | deploy (m : Mail)
  /-- RECALL (R410) -/
  | recall (m : Mail)
  /-- RESTORE (R410) -/
  | restore (m : Mail)
  /-- RELEASE (R411) -/
  | release (m : Mail)
  /-- RETIRE (R411) -/
  | retire (m : Mail)
  /-- KEY_ADD (R410) -/
  | keyAdd (m : Mail)
  /-- KEY_REVOKE (R410) -/
  | keyRevoke (m : Mail)
  /-- FLOOR_SET (R410) -/
  | floorSet (m : Mail)
  /-- IDE_POLICY (R410) -/
  | idePolicy (m : Mail)
  -- Newt
  /-- PPS_IN_EDGE (R415) -/
  | ppsInEdge
  /-- PPS_IN_MISSING (R414) -/
  | ppsInMissing
  /-- SLEW_END (R416) -/
  | slewEnd
  /-- PPS_OUT_RISE (R417) -/
  | ppsOutRise
  /-- PPS_OUT_FALL (R417) -/
  | ppsOutFall
  /-- REFCLK_LOST (R419) -/
  | refclkLost
  /-- REFCLK_RETURN (R419) -/
  | refclkReturn
  /-- CAP_SAMPLE (R425) -/
  | capSample (w : BitVec 12) (pairs : List Nat)
  /-- PWR_BRAKE_ASSERT (R426) -/
  | pwrBrakeAssert
  /-- PWR_BRAKE_RELEASE (R426) -/
  | pwrBrakeRelease
  /-- TEMP_SAMPLE (R427) -/
  | tempSample (i : Fin 1192) (t : Option (BitVec 16))
  /-- STACK_TEMP_READ (R427) -/
  | stackTempRead (k : StackIx) (degC : Int)
  /-- THERM_REQ_FALL (R428) -/
  | thermReqFall (p : PairIx)
  /-- CLEAR (R430) -/
  | clear
  /-- EVC_CLEAR (R432) -/
  | evcClear
  /-- EPOCH_CLOSE (R435) -/
  | epochClose (part : PartNo)
  /-- METER_CHECKPOINT (R438) -/
  | meterCheckpoint
deriving DecidableEq, Repr

end Sys2Proof
end

