-- ==== Sys2Proof/Decode.lean ====
section
/-! DEFINITION. The commands that the opcode table gives as bits. Its rows give none: every command is an event, an access
or a slot operation with named operands, so no word spells a command. (The 256-bit bundle words of a draft are decoded by
`decodeBundle`, in Machine/Slots.lean.) -/
namespace Sys2Proof

/-- The command a word of the table spells: none, for the table's rows have no bits. -/
def decodeTableWord (_nbits _w : Nat) : Option Instr := none

end Sys2Proof
end

