-- ==== Sys2Proof/Config.lean ====
section
/-! DEFINITION. The open values of the manual: constants and functions without a body, about which nothing can be
proved but what the manual says. -/
namespace Sys2Proof

/-- A free value: what the manual leaves open, read at the state's counter `free` (log entry 1). -/
opaque Config.freeValue : Nat → BitVec 64

/-- A private key or per-signature number that the key engine derives or generates (R398), by purpose and input bytes: 0
DevID, 1 device draft key, 2 Alias, 3 port ephemeral, 4 a signature's number (log entry 7). -/
opaque Config.privateKey : Nat → List Byte → Nat
/-- The unique device secret (R398). -/
opaque Config.uds : List Byte
/-- The DevID certificate chain in flash (R398, R406). -/
opaque Config.devChain : List Byte
/-- The public key that a certificate chain names, where it verifies to the Holnilet root in ROM (R406); the form of a
certificate is not in the manual (log entry 7). -/
opaque Config.chainKey : List Byte → Option (List Byte)
/-- V0 of a pair, in mV above 825: a fuse (R424). -/
opaque Config.fuseV0 : Nat → Fin 51
/-- The 64-byte XTS key of a number (R299, R398): random. -/
opaque Config.bulkKey : Nat → List Byte
/-- Bytes whose content the manual leaves to SPDM, the ROM or the board (R401, R402), by purpose number and input (log
entry 7). -/
opaque Config.crypto : Nat → List Byte → List Byte

/-- What a firmware image holds whose field offsets the manual does not state (R399): VERSION, SVN, IMAGE_SIZE and whether
its signature is valid; `none` where the header is not well formed. Uninterpreted (log entry 7). -/
opaque Config.fwImage : List Byte → Option (Nat × Nat × Nat × Bool)

end Sys2Proof
end

