-- ==== Sys2Proof/Machine/Elements.lean ====
section
/-! DEFINITION. The switch elements of the weft plane (R134, R136, R139, R140): which elements a network has, the looping
algorithm that sets them for a permutation, and where light goes through them. -/
namespace Sys2Proof.Machine

/-! ## A Beneš network (R136)

Lines 0 to 2^d − 1; level k pairs lines that differ in bit k, in stages k and 2(d − 1) − k. Bit 2^(d−1) × stage + e of the
element states is 1 where element e of the stage, the pair of lines that give e without bit k, is in CROSS. -/

/-- The line without its bit `k`. -/
def dropBit (k l : Nat) : Nat := l / 2 ^ (k + 1) * 2 ^ k + l % 2 ^ k
/-- Level of a stage of a network whose highest level is `t`. -/
def levelOf (t stage : Nat) : Nat := min stage (2 * t - stage)

/-- One loop of the looping algorithm. Output `o` is reached through the half-network of even lines, so the other input of
its source's pair uses the odd one, and so the other output of that input's pair the even one again. `via` holds the odd
outputs and those done. -/
def loopFrom (src dst : List Nat) (o : Nat) (odd done : List Nat) : Nat → List Nat × List Nat
  | 0 => (odd, done)
  | n + 1 =>
    if done.contains o then (odd, done)
    else
      let o' := dst.getD (src.getD o 0 ^^^ 1) 0
      loopFrom src dst (o' ^^^ 1) (o' :: odd) (o :: o' :: done) n
/-- The outputs of a permutation that are reached through odd lines, loops taken from the lowest output upward. -/
def oddOuts (src : List Nat) : List Nat :=
  let n := src.length
  let dst := (List.range n).map fun i => (src.idxOf? i).getD 0
  ((List.range n).foldl (fun a o => loopFrom src dst o a.1 a.2 n) ([], [])).1
/-- CROSS elements of the network of levels `k` to `k + n` that carries the permutation `src` (output to input) over its
lines, as (stage, element): `low` are the lines' bits below k, `t` the highest level of the whole network. Where the level
`k` is the last one its first stage does the work. -/
def routeLevels (t k low : Nat) (src : List Nat) : Nat → List (Nat × Nat)
  | 0 => if src.getD 0 0 = 0 then [] else [(k, low)]
  | n + 1 =>
    let odd := oddOuts src
    let side (o : Nat) : Nat := if odd.contains o then 1 else 0
    let half := (List.range src.length).map fun o => (o, src.getD o 0, side o)
    let sub (x : Nat) : List Nat := (half.filter fun e => e.2.2 = x).map fun e => e.2.1 / 2
    let ins := half.filter fun e => e.2.1 % 2 = 0 ∧ e.2.2 = 1
    let outs := half.filter fun e => e.1 % 2 = 0 ∧ e.2.2 = 1
    ins.map (fun e => (k, e.2.1 / 2 * 2 ^ k + low)) ++ outs.map (fun e => (2 * t - k, e.1 / 2 * 2 ^ k + low)) ++
      routeLevels t (k + 1) low (sub 0) n ++ routeLevels t (k + 1) (low + 2 ^ k) (sub 1) n
/-- A partial permutation made whole: outputs without a source take the inputs that are left, both in rising order. -/
def wholePerm (src : List (Option Nat)) : List Nat :=
  let free := (List.range src.length).filter fun i => !src.contains (some i)
  (src.foldl (fun a x => match x with
    | some i => (a.1 ++ [i], a.2)
    | none => (a.1 ++ [a.2.headD 0], a.2.drop 1)) ([], free)).1
/-- The element states, with `e0` the first element of the lines within each stage and `w` elements to a stage. -/
def elemBits (w e0 : Nat) (l : List (Nat × Nat)) : Nat := l.foldl (fun b x => b ||| 2 ^ (w * x.1 + e0 + x.2)) 0
/-- The line on which light leaves a network of `w` elements to a stage that enters on line `l`. -/
def lightOut (t w els l : Nat) : Nat :=
  (List.range (2 * t + 1)).foldl (fun l st =>
    let k := levelOf t st
    if els.testBit (w * st + dropBit k l) then l ^^^ 2 ^ k else l) l

/-! ## The networks (R134) -/

/-- Elements of STU or STD for a map from inputs to outputs. -/
def standEls (out : List Nat) : Nat :=
  elemBits 32 0 (routeLevels 5 0 0 ((List.range 64).map fun o => (out.idxOf? o).getD 0) 5)
/-- The default standing map (R137): input 8x + y to output 8y + x. -/
def defaultStand : List Nat := (List.range 64).map fun i => 8 * (i % 8) + i / 8

/-- The outputs that name each multicast source of a slot, by rising index; a source is the first waveguide of the pair or
of the port group of a p (R140). -/
def copiesOf (src : List (Option Nat)) (i : Nat) : List Nat := (List.range src.length).filter fun o => src.getD o none == some i
/-- k of a multicast source that `c` outputs name (R140). -/
def splitOf (c : Nat) : Nat := if c < 2 then 1 else if c = 2 then 2 else if c ≤ 4 then 4 else 8
/-- The PHASE inputs that carry a partition's light to its outputs, by output: the copies of a multicast source take the
inputs its fan-out block covers, the lowest first (R140). Indices count from the partition's first port. -/
def phaseInputs (src : List (Option Nat)) : List (Option Nat) :=
  (List.range src.length).map fun o => (src.getD o none).map fun i =>
    let outs := copiesOf src i
    if outs.length < 2 then i else i / 16 * 16 + (if i % 16 = 0 then 8 else 0) + (outs.idxOf? o).getD 0
/-- Elements of PHASE in CROSS for a partition of 2^m pairs at port `base`. -/
def phaseElsOf (m base : Nat) (src : List (Option Nat)) : Nat :=
  elemBits 64 (base / 2) (routeLevels 6 0 0 (wholePerm (phaseInputs src)) (3 + m))
/-- SPLIT elements of a fan-out block for k: element 0 feeds 1 and 2, those 3, 4 and 5, 6; unless all eight outputs are
wanted a PASS element leads to its first output. -/
def fanSplit (k : Nat) : Nat := if k = 8 then 0x7F else if k = 4 then 0x1A else if k = 2 then 0x08 else 0
/-- SPLIT elements of the fan-out blocks of a partition at group `g`: FBPp at bit 14p, FBXp at bit 14p + 7. -/
def fanElsOf (g : Nat) (src : List (Option Nat)) : Nat :=
  (List.range (src.length / 8)).foldl (fun b x => b ||| fanSplit (splitOf (copiesOf src (8 * x)).length) * 2 ^ (14 * g + 7 * x)) 0
/-- The PHASE elements a partition of 2^m pairs at port `base` owns, and those of its fan-out blocks (R136). -/
def ownedPhase (m base : Nat) : Nat :=
  elemBits 64 (base / 2) ((List.range 13).flatMap fun st =>
    if levelOf 6 st ≤ 3 + m then (List.range (2 ^ (3 + m))).map fun e => (st, e) else [])
def ownedFan (m g : Nat) : Nat := (2 ^ (14 * 2 ^ m) - 1) * 2 ^ (14 * g)
/-- Light rate of a source that `c` outputs name, in Gb/s per wavelength (R140). -/
def rateOf (c : Nat) : Nat := if c = 0 then 0 else if c = 1 then 64 else 32

end Sys2Proof.Machine
end

