-- ==== Sys2Proof/Machine/RegMap.lean ====
section
/-! DEFINITION. The register space: the address of every register (R334, R338), its fields, their access types and
their reset values, as the register tables of the manual give them. BAR0 of PFn stands at 0x100_0000 × (n + 1). -/
namespace Sys2Proof.Machine

/-- A field of a register: its lowest bit and its width. -/
structure Fld where
  lo : Nat
  w : Nat
deriving DecidableEq, Repr

/-- Access types (R9). -/
inductive Acc | ro | rw | w1c | wo | rwl
deriving DecidableEq, Repr

/-- R65. -/
def CD_CORE_FLAGS (c : Nat) : Nat := 0x1000 * c + 0x40
/-- R65. -/
def CD_CORE_FAULT (c : Nat) : Nat := 0x1000 * c + 0x48
/-- R65. -/
def CD_SP_ECC (c : Nat) : Nat := 0x1000 * c + 0x50
/-- R89. -/
def CD_SEQ_STATUS (c : Nat) : Nat := 0x1000 * c
/-- R89. -/
def CD_BEAT_COUNT (c : Nat) : Nat := 0x1000 * c + 0x8
/-- R89. -/
def CD_HOLD (c : Nat) : Nat := 0x1000 * c + 0x10
/-- R89. -/
def CD_HOLD_LIMIT (c : Nat) : Nat := 0x1000 * c + 0x18
/-- R89. -/
def CD_BOUND (c : Nat) : Nat := 0x1000 * c + 0x58
/-- R89. -/
def CD_ZONE (c i : Nat) : Nat := 0x1000 * c + 0x60 + 0x8 * i
/-- R108. -/
def CD_POOL_ECC (cl : Nat) : Nat := 0x800000 + 0x1000 * cl
/-- R118. -/
def CD_XING_STAT (cl : Nat) : Nat := 0x800000 + 0x1000 * cl + 0x8
/-- R123. -/
def CD_GEAR_CTL (p : Nat) : Nat := 0x900000 + 0x1000 * p
/-- R123. -/
def CD_GEAR_STAT (p : Nat) : Nat := 0x900000 + 0x1000 * p + 0x8
/-- R123. -/
def CD_PAIR_BEAT (p : Nat) : Nat := 0x900000 + 0x1000 * p + 0x10
/-- R147. -/
def LM_WARP_STAT (s : Nat) : Nat := 0x910000 + 0x1000 * s
/-- R147. -/
def LM_WARP_DOWN (s : Nat) : Nat := 0x910000 + 0x1000 * s + 0x8
/-- R147. -/
def LM_WARP_LASTBAD (s : Nat) : Nat := 0x910000 + 0x1000 * s + 0x10
/-- R147. -/
def LM_WARP_MASK (s i : Nat) : Nat := 0x910000 + 0x1000 * s + 0x40 + 0x8 * i
/-- R148. -/
def LM_WEFT_GSTAT (i : Nat) : Nat := 0x930000 + 0x10 * i
/-- R148. -/
def LM_WEFT_SLOTVALID (i : Nat) : Nat := 0x930000 + 0x8 + 0x10 * i
/-- R148. -/
def LM_WEFT_STANDING : Nat := 0x930000 + 0x100
/-- R173. -/
def LM_OPT_STAT (s : Nat) : Nat := 0x910000 + 0x1000 * s + 0x100
/-- R173. -/
def LM_RING_SEL (s : Nat) : Nat := 0x910000 + 0x1000 * s + 0x108
/-- R173. -/
def LM_RING_DATA (s : Nat) : Nat := 0x910000 + 0x1000 * s + 0x110
/-- R173. -/
def LM_DAC_CTL (s : Nat) : Nat := 0x910000 + 0x1000 * s + 0x118
/-- R174. -/
def LM_LASER_IN (i : Nat) : Nat := 0x931000 + 0x8 * i
/-- R174. -/
def LM_BOBBIN : Nat := 0x931000 + 0x100
/-- R174. -/
def LM_CAL_CTL : Nat := 0x931000 + 0x108
/-- R174. -/
def LM_CENSUS : Nat := 0x931000 + 0x110
/-- R204. -/
def XP_PORT_CTL (x : Nat) : Nat := 0x940000 + 0x1000 * x
/-- R204. -/
def XP_PORT_STAT (x : Nat) : Nat := 0x940000 + 0x1000 * x + 0x8
/-- R204. -/
def XP_LINK_CNT0 (x : Nat) : Nat := 0x940000 + 0x1000 * x + 0x10
/-- R204. -/
def XP_LINK_CNT1 (x : Nat) : Nat := 0x940000 + 0x1000 * x + 0x18
/-- R204. -/
def XP_LINK_CNT2 (x : Nat) : Nat := 0x940000 + 0x1000 * x + 0x20
/-- R204. -/
def XP_LASTBAD (x : Nat) : Nat := 0x940000 + 0x1000 * x + 0x28
/-- R205. -/
def XP_SEL_CTL (i : Nat) : Nat := 0x935000 + 0x20 * i
/-- R205. -/
def XP_SEL_STAT (i : Nat) : Nat := 0x935000 + 0x8 + 0x20 * i
/-- R205. -/
def XP_SEL_HEALTH (i : Nat) : Nat := 0x935000 + 0x10 + 0x20 * i
/-- R240. -/
def LM_MS_NODE : Nat := 0x932000
/-- R240. -/
def LM_MS_TIME : Nat := 0x932000 + 0x8
/-- R240. -/
def LM_MS_STAT0 : Nat := 0x932000 + 0x10
/-- R240. -/
def LM_MS_STAT1 : Nat := 0x932000 + 0x18
/-- R240. -/
def LM_MS_STAT2 : Nat := 0x932000 + 0x20
/-- R240. -/
def LM_MS_DEAD (i : Nat) : Nat := 0x932000 + 0x100 + 0x8 * i
/-- R241. -/
def LM_RRC_STAT (s : Nat) : Nat := 0x910000 + 0x1000 * s + 0x200
/-- R262. -/
def LM_RT_CTL : Nat := 0x933000
/-- R262. -/
def LM_RT_STAT : Nat := 0x933000 + 0x8
/-- R262. -/
def LM_RT_LINK (i : Nat) : Nat := 0x933000 + 0x100 + 0x8 * i
/-- R262. -/
def LM_RT_LOCAL (i : Nat) : Nat := 0x933000 + 0x400 + 0x8 * i
/-- R262. -/
def LM_RT_GLOBAL (i : Nat) : Nat := 0x933000 + 0x800 + 0x8 * i
/-- R263. -/
def CD_EDGE_ARB (p i : Nat) : Nat := 0x900000 + 0x1000 * p + 0x100 + 0x8 * i
/-- R263. -/
def CD_EDGE_CUT (p i : Nat) : Nat := 0x900000 + 0x1000 * p + 0x180 + 0x8 * i
/-- R263. -/
def CD_XLANE_ARB (cl : Nat) : Nat := 0x800000 + 0x1000 * cl + 0x10
/-- R285. -/
def LM_COL_ENG (i : Nat) : Nat := 0x934000 + 0x10 * i
/-- R285. -/
def LM_COL_DONE (i : Nat) : Nat := 0x934000 + 0x8 + 0x10 * i
/-- R285. -/
def LM_COMB (i : Nat) : Nat := 0x934000 + 0x100 + 0x8 * i
/-- R286. -/
def CD_SLOT_REC (p i : Nat) : Nat := 0x900000 + 0x1000 * p + 0x200 + 0x8 * i
/-- R306. -/
def BM_STAT (k : Nat) : Nat := 0x960000 + 0x1000 * k
/-- R306. -/
def BM_ECC_CNT (k : Nat) : Nat := 0x960000 + 0x1000 * k + 0x8
/-- R306. -/
def BM_ECC_LAST (k : Nat) : Nat := 0x960000 + 0x1000 * k + 0x10
/-- R306. -/
def BM_SCRUB (k : Nat) : Nat := 0x960000 + 0x1000 * k + 0x18
/-- R306. -/
def BM_SELFTEST (k : Nat) : Nat := 0x960000 + 0x1000 * k + 0x20
/-- R306. -/
def BM_CIRC_STAT (k : Nat) : Nat := 0x960000 + 0x1000 * k + 0x28
/-- R306. -/
def BM_CHK_CTL (k : Nat) : Nat := 0x960000 + 0x1000 * k + 0x30
/-- R306. -/
def BM_CHK_RES (k : Nat) : Nat := 0x960000 + 0x1000 * k + 0x38
/-- R306. -/
def BM_REMAP (k i : Nat) : Nat := 0x960000 + 0x1000 * k + 0x100 + 0x8 * i
/-- R306. -/
def BM_CHK_BUF (k i : Nat) : Nat := 0x960000 + 0x1000 * k + 0x200 + 0x8 * i
/-- R330. -/
def SH_RING (c i : Nat) : Nat := 0x1000 * c + 0x100 + 0x20 * i
/-- R330. -/
def SH_CH_CTL (c i : Nat) : Nat := 0x1000 * c + 0x108 + 0x20 * i
/-- R330. -/
def SH_CH_STAT (c i : Nat) : Nat := 0x1000 * c + 0x110 + 0x20 * i
/-- R330. -/
def SH_CMD (c i : Nat) : Nat := 0x1000 * c + 0x118 + 0x20 * i
/-- R330. -/
def SH_BUS (c : Nat) : Nat := 0x1000 * c + 0x180
/-- R330. -/
def SH_LB (c i : Nat) : Nat := 0x1000 * c + 0x200 + 0x8 * i
/-- R331. -/
def KN_COUNT (cl i : Nat) : Nat := 0x800000 + 0x1000 * cl + 0x400 + 0x8 * i
/-- R331. -/
def KN_ADD (cl i : Nat) : Nat := 0x800000 + 0x1000 * cl + 0x600 + 0x8 * i
/-- R357. -/
def HD_MB_CTL (fn : Nat) : Nat := 0x1000000 * (fn + 1)
/-- R357. -/
def HD_MB_STAT (fn : Nat) : Nat := 0x1000000 * (fn + 1) + 0x8
/-- R357. -/
def HD_EVQ_HEAD (fn : Nat) : Nat := 0x1000000 * (fn + 1) + 0x10
/-- R357. -/
def HD_EVQ_TAIL (fn : Nat) : Nat := 0x1000000 * (fn + 1) + 0x18
/-- R357. -/
def HD_KWATCH (fn i : Nat) : Nat := 0x1000000 * (fn + 1) + 0x8000 + 0x10 * i
/-- R357. -/
def HD_FN_STAT : Nat := 0x970000
/-- R375. -/
def HD_BRINGUP : Nat := 0x970000 + 0x8
/-- R397. -/
def HD_RESET_STAT : Nat := 0x970000 + 0x10
/-- R397. -/
def HD_PEER_CTL : Nat := 0x970000 + 0x18
/-- R397. -/
def HD_HANG (i : Nat) : Nat := 0x970000 + 0x40 + 0x8 * (i - 1)
/-- R397. -/
def HD_DUMP_SEL : Nat := 0x970000 + 0x100
/-- R397. -/
def HD_DUMP_DATA (i : Nat) : Nat := 0x970000 + 0x200 + 0x8 * i
/-- R420. -/
def HD_TIME_STAT : Nat := 0x970000 + 0x400
/-- R420. -/
def HD_TIME_NOW : Nat := 0x970000 + 0x408
/-- R426. -/
def HD_PWR_CTL : Nat := 0x970000 + 0x420
/-- R426. -/
def HD_PWR_STAT : Nat := 0x970000 + 0x428
/-- R426. -/
def HD_ENERGY : Nat := 0x970000 + 0x430
/-- R426. -/
def HD_PWR_DOM0 : Nat := 0x970438
/-- R426. -/
def HD_PWR_DOM1 : Nat := 0x970440
/-- R430. -/
def HD_THERM : Nat := 0x970000 + 0x448
/-- R430. -/
def HD_TSENS : Nat := 0x970000 + 0x450
/-- R430. -/
def CD_THERM (p : Nat) : Nat := 0x900000 + 0x1000 * p + 0x18
/-- R432. -/
def CD_EVC (cl i : Nat) : Nat := 0x800000 + 0x1000 * cl + 0x800 + 8 * i
/-- R432. -/
def LM_EVC (s i : Nat) : Nat := 0x910000 + 0x1000 * s + 0x300 + 8 * i
/-- R432. -/
def HD_EVC (i : Nat) : Nat := 0x970000 + 0x800 + 8 * i
/-- R432. -/
def HD_EVC_CTL : Nat := 0x970000 + 0x460
/-- R438. -/
def HD_METER_CTL : Nat := 0x970000 + 0x468
/-- R438. -/
def HD_METER_STAT : Nat := 0x970000 + 0x470

/-! Fields -/
def CD_CORE_FLAGS_TSAT : Fld := ⟨0, 1⟩
def CD_CORE_FLAGS_TINV : Fld := ⟨1, 1⟩
def CD_CORE_FLAGS_COVF : Fld := ⟨2, 1⟩
def CD_CORE_FLAGS_CINV : Fld := ⟨3, 1⟩
def CD_CORE_FLAGS_VINV : Fld := ⟨4, 1⟩
def CD_CORE_FLAGS_VOVF : Fld := ⟨5, 1⟩
def CD_CORE_FLAGS_VDZ : Fld := ⟨6, 1⟩
def CD_CORE_FAULT_CAUSE : Fld := ⟨0, 8⟩
def CD_CORE_FAULT_SLOT : Fld := ⟨8, 3⟩
def CD_CORE_FAULT_BOTH : Fld := ⟨11, 1⟩
def CD_CORE_FAULT_LINE : Fld := ⟨12, 15⟩
def CD_CORE_FAULT_BEAT : Fld := ⟨27, 24⟩
def CD_SP_ECC_CORR_CNT : Fld := ⟨0, 16⟩
def CD_SP_ECC_UE_CNT : Fld := ⟨16, 8⟩
def CD_SP_ECC_LAST_LINE : Fld := ⟨24, 15⟩
def CD_SP_ECC_LAST_UE : Fld := ⟨39, 1⟩
def CD_SEQ_STATUS_STATE : Fld := ⟨0, 2⟩
def CD_SEQ_STATUS_HELD : Fld := ⟨2, 1⟩
def CD_SEQ_STATUS_WAITING : Fld := ⟨3, 1⟩
def CD_SEQ_STATUS_PC : Fld := ⟨4, 11⟩
def CD_SEQ_STATUS_LDEPTH : Fld := ⟨15, 3⟩
def CD_SEQ_STATUS_WKNOT : Fld := ⟨18, 6⟩
def CD_SEQ_STATUS_ZOPEN : Fld := ⟨24, 8⟩
def CD_SEQ_STATUS_SCNT : Fld := ⟨32, 9⟩
def CD_SEQ_STATUS_GROUP : Fld := ⟨41, 5⟩
def CD_BEAT_COUNT_BC : Fld := ⟨0, 48⟩
def CD_HOLD_HELD_BEATS : Fld := ⟨0, 32⟩
def CD_HOLD_MAX_HOLD : Fld := ⟨32, 32⟩
def CD_HOLD_LIMIT_LIMIT : Fld := ⟨0, 32⟩
def CD_BOUND_BC : Fld := ⟨0, 48⟩
def CD_BOUND_INDEX : Fld := ⟨48, 11⟩
def CD_ZONE_BANKS : Fld := ⟨0, 8⟩
def CD_ZONE_FIRST_ROW : Fld := ⟨8, 12⟩
def CD_ZONE_ROWS : Fld := ⟨20, 12⟩
def CD_POOL_ECC_CORR_CNT : Fld := ⟨0, 16⟩
def CD_POOL_ECC_UE_CNT : Fld := ⟨16, 8⟩
def CD_POOL_ECC_LAST_LINE : Fld := ⟨24, 16⟩
def CD_POOL_ECC_LAST_UE : Fld := ⟨40, 1⟩
def CD_POOL_ECC_PASS_US : Fld := ⟨41, 23⟩
def CD_XING_STAT_MARGIN_LOW : Fld := ⟨0, 6⟩
def CD_XING_STAT_SLIPPED : Fld := ⟨6, 6⟩
def CD_GEAR_CTL_CUR : Fld := ⟨0, 5⟩
def CD_GEAR_CTL_NEXT : Fld := ⟨5, 5⟩
def CD_GEAR_CTL_VPEND : Fld := ⟨10, 1⟩
def CD_GEAR_CTL_HOST_REQ : Fld := ⟨16, 5⟩
def CD_GEAR_CTL_CAP_REQ : Fld := ⟨21, 5⟩
def CD_GEAR_CTL_THERM_REQ : Fld := ⟨26, 5⟩
def CD_GEAR_CTL_MON_REQ : Fld := ⟨31, 5⟩
def CD_GEAR_CTL_VOLT_OK : Fld := ⟨36, 5⟩
def CD_GEAR_STAT_CHANGES : Fld := ⟨0, 32⟩
def CD_GEAR_STAT_ABORTS : Fld := ⟨32, 16⟩
def CD_PAIR_BEAT_PB : Fld := ⟨0, 48⟩
def LM_WARP_STAT_CRC_ERR : Fld := ⟨0, 16⟩
def LM_WARP_STAT_REPLAYS : Fld := ⟨16, 16⟩
def LM_WARP_STAT_MALFORMED : Fld := ⟨32, 8⟩
def LM_WARP_STAT_MASKED : Fld := ⟨40, 9⟩
def LM_WARP_DOWN_DOWN : Fld := ⟨0, 32⟩
def LM_WARP_LASTBAD_HDR : Fld := ⟨0, 64⟩
def LM_WARP_MASK_MASK0 : Fld := ⟨0, 16⟩
def LM_WARP_MASK_MASK1 : Fld := ⟨16, 16⟩
def LM_WARP_MASK_MASK2 : Fld := ⟨32, 16⟩
def LM_WARP_MASK_MASK3 : Fld := ⟨48, 16⟩
def LM_WEFT_GSTAT_CUR : Fld := ⟨0, 4⟩
def LM_WEFT_GSTAT_PEND : Fld := ⟨4, 4⟩
def LM_WEFT_GSTAT_PVALID : Fld := ⟨8, 1⟩
def LM_WEFT_GSTAT_STATE : Fld := ⟨9, 3⟩
def LM_WEFT_GSTAT_SWITCHES : Fld := ⟨16, 16⟩
def LM_WEFT_GSTAT_FAILS : Fld := ⟨32, 8⟩
def LM_WEFT_GSTAT_REFUSED : Fld := ⟨40, 8⟩
def LM_WEFT_GSTAT_FAIL_OUT : Fld := ⟨48, 7⟩
def LM_WEFT_SLOTVALID_VALID : Fld := ⟨0, 16⟩
def LM_WEFT_STANDING_DEFAULT : Fld := ⟨0, 1⟩
def LM_WEFT_STANDING_CHANGING : Fld := ⟨1, 1⟩
def LM_OPT_STAT_SAT_MARKS : Fld := ⟨0, 16⟩
def LM_OPT_STAT_FLOODS : Fld := ⟨16, 8⟩
def LM_OPT_STAT_UNLOCKS : Fld := ⟨24, 8⟩
def LM_OPT_STAT_FAILED_RINGS : Fld := ⟨32, 12⟩
def LM_OPT_STAT_OUT_LANES : Fld := ⟨44, 12⟩
def LM_OPT_STAT_DEFERRED : Fld := ⟨56, 8⟩
def LM_RING_SEL_PLANE : Fld := ⟨0, 2⟩
def LM_RING_SEL_DIR : Fld := ⟨2, 1⟩
def LM_RING_SEL_WG : Fld := ⟨3, 4⟩
def LM_RING_SEL_WL : Fld := ⟨7, 5⟩
def LM_RING_DATA_HEATER : Fld := ⟨0, 20⟩
def LM_RING_DATA_LOCK : Fld := ⟨20, 2⟩
def LM_RING_DATA_STALE : Fld := ⟨22, 1⟩
def LM_RING_DATA_NONE : Fld := ⟨23, 1⟩
def LM_RING_DATA_INSERVICE : Fld := ⟨24, 1⟩
def LM_RING_DATA_DACMODE : Fld := ⟨25, 1⟩
def LM_RING_DATA_MON : Fld := ⟨32, 16⟩
def LM_DAC_CTL_BITS : Fld := ⟨0, 4⟩
def LM_DAC_CTL_ENABLE : Fld := ⟨4, 1⟩
def LM_DAC_CTL_PATTERN : Fld := ⟨5, 2⟩
def LM_DAC_CTL_LEVEL : Fld := ⟨7, 8⟩
def LM_DAC_CTL_REFUSED : Fld := ⟨15, 1⟩
def LM_LASER_IN_POWER : Fld := ⟨0, 16⟩
def LM_LASER_IN_LOW : Fld := ⟨16, 1⟩
def LM_LASER_IN_DARK : Fld := ⟨17, 1⟩
def LM_LASER_IN_OVER : Fld := ⟨18, 1⟩
def LM_BOBBIN_LASER_EN : Fld := ⟨0, 1⟩
def LM_BOBBIN_BOBBIN_OK : Fld := ⟨1, 1⟩
def LM_BOBBIN_LIGHT_HOLD : Fld := ⟨2, 1⟩
def LM_BOBBIN_TIMEOUT : Fld := ⟨3, 1⟩
def LM_BOBBIN_I2C_ERR : Fld := ⟨4, 1⟩
def LM_BOBBIN_HOLDS : Fld := ⟨8, 8⟩
def LM_CAL_CTL_MODE : Fld := ⟨0, 1⟩
def LM_CAL_CTL_LOCK : Fld := ⟨1, 1⟩
def LM_CAL_CTL_PERIOD : Fld := ⟨8, 6⟩
def LM_CENSUS_STATE : Fld := ⟨0, 2⟩
def LM_CENSUS_RINGS_FAILED : Fld := ⟨16, 16⟩
def LM_CENSUS_DURATION_MS : Fld := ⟨32, 16⟩
def LM_CENSUS_ABORTS : Fld := ⟨48, 8⟩
def XP_PORT_CTL_ENABLE : Fld := ⟨0, 1⟩
def XP_PORT_CTL_RESTART : Fld := ⟨1, 1⟩
def XP_PORT_CTL_REKEY : Fld := ⟨2, 1⟩
def XP_PORT_STAT_STATE : Fld := ⟨0, 3⟩
def XP_PORT_STAT_WAITING : Fld := ⟨3, 1⟩
def XP_PORT_STAT_LAST_FAIL : Fld := ⟨4, 5⟩
def XP_PORT_STAT_BEXP : Fld := ⟨9, 4⟩
def XP_PORT_STAT_TXLANES : Fld := ⟨13, 6⟩
def XP_PORT_STAT_RXLANES : Fld := ⟨19, 6⟩
def XP_PORT_STAT_PNODE : Fld := ⟨25, 14⟩
def XP_PORT_STAT_PPORT : Fld := ⟨39, 5⟩
def XP_PORT_STAT_ATTEMPTS : Fld := ⟨44, 16⟩
def XP_LINK_CNT0_CORR_SYM : Fld := ⟨0, 32⟩
def XP_LINK_CNT0_UNCORR : Fld := ⟨32, 16⟩
def XP_LINK_CNT0_REPLAYS : Fld := ⟨48, 16⟩
def XP_LINK_CNT1_AUTH_FAIL : Fld := ⟨0, 16⟩
def XP_LINK_CNT1_MALFORMED : Fld := ⟨16, 16⟩
def XP_LINK_CNT1_STALE_DROP : Fld := ⟨32, 16⟩
def XP_LINK_CNT1_DUP_DROP : Fld := ⟨48, 16⟩
def XP_LINK_CNT2_DISCARDS : Fld := ⟨0, 32⟩
def XP_LASTBAD_HDR : Fld := ⟨0, 64⟩
def XP_SEL_CTL_PRIMARY : Fld := ⟨0, 5⟩
def XP_SEL_CTL_ALTERNATE : Fld := ⟨5, 5⟩
def XP_SEL_CTL_MODE : Fld := ⟨10, 1⟩
def XP_SEL_CTL_ENABLE : Fld := ⟨11, 1⟩
def XP_SEL_CTL_SWITCH : Fld := ⟨12, 1⟩
def XP_SEL_CTL_CFG_ERR : Fld := ⟨13, 1⟩
def XP_SEL_STAT_STATE : Fld := ⟨0, 3⟩
def XP_SEL_STAT_ACTIVE_PATH : Fld := ⟨3, 1⟩
def XP_SEL_STAT_HELD : Fld := ⟨4, 1⟩
def XP_SEL_STAT_TXCLAIM : Fld := ⟨5, 16⟩
def XP_SEL_STAT_RXCLAIM : Fld := ⟨21, 16⟩
def XP_SEL_STAT_SWITCHES : Fld := ⟨37, 16⟩
def XP_SEL_HEALTH_RESULT : Fld := ⟨0, 2⟩
def XP_SEL_HEALTH_WAS_INT : Fld := ⟨2, 1⟩
def XP_SEL_HEALTH_FAIL_STEP : Fld := ⟨3, 2⟩
def XP_SEL_HEALTH_RUNS : Fld := ⟨5, 16⟩
def XP_SEL_HEALTH_INTERRUPTS : Fld := ⟨21, 16⟩
def XP_SEL_HEALTH_AGE_MS : Fld := ⟨37, 25⟩
def LM_MS_NODE_NODE : Fld := ⟨0, 14⟩
def LM_MS_NODE_NVALID : Fld := ⟨14, 1⟩
def LM_MS_NODE_SEPOCH : Fld := ⟨16, 16⟩
def LM_MS_TIME_TIMEOUT_US : Fld := ⟨0, 16⟩
def LM_MS_TIME_HMAX : Fld := ⟨16, 3⟩
def LM_MS_STAT0_TIMEOUTS : Fld := ⟨0, 16⟩
def LM_MS_STAT0_REISSUES : Fld := ⟨16, 16⟩
def LM_MS_STAT0_LATE_RSP : Fld := ⟨32, 16⟩
def LM_MS_STAT0_STALE_DROP : Fld := ⟨48, 16⟩
def LM_MS_STAT1_DUP_REQ : Fld := ⟨0, 16⟩
def LM_MS_STAT1_DUP_EXPIRED : Fld := ⟨16, 16⟩
def LM_MS_STAT1_ATOM_SAT : Fld := ⟨32, 16⟩
def LM_MS_STAT1_FILTER_FILLS : Fld := ⟨48, 16⟩
def LM_MS_STAT2_MALFORMED_TXN : Fld := ⟨0, 16⟩
def LM_MS_STAT2_DENIED : Fld := ⟨16, 16⟩
def LM_MS_DEAD_DEAD : Fld := ⟨0, 64⟩
def LM_RRC_STAT_HITS : Fld := ⟨0, 32⟩
def LM_RRC_STAT_MISSES : Fld := ⟨32, 32⟩
def LM_RT_CTL_ABITS : Fld := ⟨0, 3⟩
def LM_RT_CTL_TVALID : Fld := ⟨3, 1⟩
def LM_RT_CTL_LOADS : Fld := ⟨16, 16⟩
def LM_RT_STAT_NOROUTE_DROP : Fld := ⟨0, 16⟩
def LM_RT_STAT_ROUTE_ERR : Fld := ⟨16, 16⟩
def LM_RT_STAT_ORDER_HOLDS : Fld := ⟨32, 16⟩
def LM_RT_LINK_EXP_NODE : Fld := ⟨0, 14⟩
def LM_RT_LINK_DIM : Fld := ⟨14, 2⟩
def LM_RT_LINK_LIVE : Fld := ⟨16, 1⟩
def LM_RT_LOCAL_LINK : Fld := ⟨0, 6⟩
def LM_RT_LOCAL_VALID : Fld := ⟨6, 1⟩
def LM_RT_GLOBAL_LINK0 : Fld := ⟨0, 6⟩
def LM_RT_GLOBAL_V0 : Fld := ⟨6, 1⟩
def LM_RT_GLOBAL_LINK1 : Fld := ⟨8, 6⟩
def LM_RT_GLOBAL_V1 : Fld := ⟨14, 1⟩
def LM_RT_GLOBAL_LINK2 : Fld := ⟨16, 6⟩
def LM_RT_GLOBAL_V2 : Fld := ⟨22, 1⟩
def LM_RT_GLOBAL_LINK3 : Fld := ⟨24, 6⟩
def LM_RT_GLOBAL_V3 : Fld := ⟨30, 1⟩
def LM_RT_GLOBAL_GATEWAY : Fld := ⟨32, 7⟩
def LM_RT_GLOBAL_GVALID : Fld := ⟨39, 1⟩
def CD_EDGE_ARB_CUTOFFS : Fld := ⟨0, 16⟩
def CD_EDGE_ARB_EMPTY_GRANTS : Fld := ⟨16, 16⟩
def CD_EDGE_ARB_GUARANTEED : Fld := ⟨32, 16⟩
def CD_EDGE_ARB_MAX_WAIT : Fld := ⟨48, 16⟩
def CD_EDGE_CUT_CUT : Fld := ⟨0, 32⟩
def CD_XLANE_ARB_GUARANTEED : Fld := ⟨0, 16⟩
def CD_XLANE_ARB_EMPTY_GRANTS : Fld := ⟨16, 16⟩
def CD_XLANE_ARB_MAX_WAIT : Fld := ⟨32, 16⟩
def CD_XLANE_ARB_CUT : Fld := ⟨48, 4⟩
def LM_COL_ENG_ACTIVE : Fld := ⟨0, 5⟩
def LM_COL_ENG_RVALID : Fld := ⟨5, 1⟩
def LM_COL_ENG_RSLOT : Fld := ⟨6, 4⟩
def LM_COL_ENG_LEADER : Fld := ⟨10, 1⟩
def LM_COL_ENG_RESENDS : Fld := ⟨16, 16⟩
def LM_COL_ENG_DROPS : Fld := ⟨32, 16⟩
def LM_COL_ENG_FAILS : Fld := ⟨48, 16⟩
def LM_COL_DONE_STREAMS : Fld := ⟨0, 32⟩
def LM_COL_DONE_REJ : Fld := ⟨32, 16⟩
def LM_COMB_ENTRIES : Fld := ⟨0, 7⟩
def LM_COMB_BUFS : Fld := ⟨7, 12⟩
def LM_COMB_SAT : Fld := ⟨19, 16⟩
def LM_COMB_DUP_DROP : Fld := ⟨35, 16⟩
def LM_COMB_REPL : Fld := ⟨51, 7⟩
def LM_COMB_TIMEOUTS : Fld := ⟨58, 6⟩
def CD_SLOT_REC_SAT : Fld := ⟨0, 1⟩
def CD_SLOT_REC_WIDTH : Fld := ⟨1, 1⟩
def CD_SLOT_REC_OVERLAP : Fld := ⟨2, 1⟩
def CD_SLOT_REC_HELD : Fld := ⟨16, 16⟩
def BM_STAT_STATE : Fld := ⟨0, 3⟩
def BM_STAT_ERASED : Fld := ⟨3, 1⟩
def BM_STAT_EDIE : Fld := ⟨4, 4⟩
def BM_STAT_REMAPS : Fld := ⟨8, 5⟩
def BM_STAT_REMAP_FULL : Fld := ⟨13, 1⟩
def BM_ECC_CNT_CORRECTED : Fld := ⟨0, 32⟩
def BM_ECC_CNT_DIETRIALS : Fld := ⟨32, 8⟩
def BM_ECC_CNT_UE : Fld := ⟨40, 16⟩
def BM_ECC_CNT_REREADS : Fld := ⟨56, 8⟩
def BM_ECC_LAST_LINE : Fld := ⟨0, 27⟩
def BM_ECC_LAST_KIND : Fld := ⟨27, 3⟩
def BM_ECC_LAST_SLOTS : Fld := ⟨30, 9⟩
def BM_ECC_LAST_SCRUB : Fld := ⟨39, 1⟩
def BM_SCRUB_INTERVAL_US : Fld := ⟨0, 8⟩
def BM_SCRUB_PASSES : Fld := ⟨16, 16⟩
def BM_SCRUB_PASS_S : Fld := ⟨32, 16⟩
def BM_SELFTEST_RESULT : Fld := ⟨0, 2⟩
def BM_SELFTEST_WAS_INT : Fld := ⟨2, 1⟩
def BM_SELFTEST_FAIL_STEP : Fld := ⟨3, 2⟩
def BM_SELFTEST_RUNS : Fld := ⟨5, 16⟩
def BM_SELFTEST_INTERRUPTS : Fld := ⟨21, 16⟩
def BM_SELFTEST_AGE_S : Fld := ⟨37, 16⟩
def BM_SELFTEST_BAD_SPARES : Fld := ⟨53, 9⟩
def BM_CIRC_STAT_RESENDS : Fld := ⟨0, 16⟩
def BM_CIRC_STAT_DISCARDS : Fld := ⟨16, 16⟩
def BM_CIRC_STAT_FAILS : Fld := ⟨32, 8⟩
def BM_CIRC_STAT_DOWN : Fld := ⟨40, 8⟩
def BM_CHK_CTL_OP : Fld := ⟨0, 3⟩
def BM_CHK_CTL_TLINE : Fld := ⟨3, 6⟩
def BM_CHK_RES_OUTCOME : Fld := ⟨0, 3⟩
def BM_CHK_RES_SYMS : Fld := ⟨3, 5⟩
def BM_CHK_RES_SUSPECT : Fld := ⟨8, 9⟩
def BM_CHK_RES_BUSY : Fld := ⟨17, 1⟩
def BM_CHK_RES_IGNORED : Fld := ⟨18, 1⟩
def BM_REMAP_Q : Fld := ⟨0, 6⟩
def BM_REMAP_ROW : Fld := ⟨6, 20⟩
def BM_REMAP_SPARE : Fld := ⟨26, 2⟩
def BM_REMAP_VALID : Fld := ⟨28, 1⟩
def BM_CHK_BUF_DATA : Fld := ⟨0, 64⟩
def SH_RING_BASE : Fld := ⟨0, 16⟩
def SH_RING_SIZE : Fld := ⟨16, 4⟩
def SH_RING_OWNER : Fld := ⟨20, 16⟩
def SH_RING_PGEN : Fld := ⟨36, 12⟩
def SH_RING_CFGERR : Fld := ⟨48, 1⟩
def SH_RING_CREDITS : Fld := ⟨49, 12⟩
def SH_RING_CRSAT : Fld := ⟨61, 1⟩
def SH_CH_CTL_ENABLE : Fld := ⟨0, 1⟩
def SH_CH_CTL_PACE : Fld := ⟨1, 2⟩
def SH_CH_CTL_SRC : Fld := ⟨3, 2⟩
def SH_CH_CTL_PERIOD : Fld := ⟨8, 24⟩
def SH_CH_STAT_STATE : Fld := ⟨0, 3⟩
def SH_CH_STAT_READY : Fld := ⟨3, 13⟩
def SH_CH_STAT_HEAD : Fld := ⟨16, 12⟩
def SH_CH_STAT_FREEIX : Fld := ⟨28, 12⟩
def SH_CH_STAT_INUSE : Fld := ⟨40, 13⟩
def SH_CH_STAT_INFLIGHT : Fld := ⟨53, 6⟩
def SH_CH_STAT_OVERRUN : Fld := ⟨59, 1⟩
def SH_CH_STAT_FREE_ERR : Fld := ⟨60, 1⟩
def SH_CMD_KICK : Fld := ⟨0, 13⟩
def SH_CMD_FREE : Fld := ⟨13, 1⟩
def SH_CMD_GEN : Fld := ⟨14, 12⟩
def SH_BUS_BUSERR : Fld := ⟨0, 1⟩
def SH_BUS_CH : Fld := ⟨1, 2⟩
def SH_BUS_STATUS : Fld := ⟨3, 8⟩
def SH_BUS_RESUME : Fld := ⟨11, 1⟩
def SH_BUS_COUNT : Fld := ⟨12, 16⟩
def SH_LB_FIRST : Fld := ⟨0, 15⟩
def SH_LB_LINES : Fld := ⟨15, 7⟩
def SH_LB_HELD : Fld := ⟨22, 1⟩
def SH_LB_OWNER : Fld := ⟨23, 16⟩
def SH_LB_GEN : Fld := ⟨39, 12⟩
def KN_COUNT_COUNT : Fld := ⟨0, 32⟩
def KN_COUNT_OVF : Fld := ⟨32, 1⟩
def KN_ADD_N : Fld := ⟨0, 16⟩
def HD_MB_CTL_DOORBELL : Fld := ⟨0, 1⟩
def HD_MB_CTL_MB_IRQ : Fld := ⟨1, 1⟩
def HD_MB_CTL_EVQ_IRQ : Fld := ⟨2, 1⟩
def HD_MB_STAT_BUSY : Fld := ⟨0, 1⟩
def HD_MB_STAT_DONE : Fld := ⟨1, 1⟩
def HD_MB_STAT_DB_IGNORED : Fld := ⟨2, 1⟩
def HD_MB_STAT_WR_DISCARD : Fld := ⟨3, 1⟩
def HD_MB_STAT_STATUS : Fld := ⟨8, 8⟩
def HD_MB_STAT_SEQ : Fld := ⟨16, 16⟩
def HD_EVQ_HEAD_HEAD : Fld := ⟨0, 8⟩
def HD_EVQ_TAIL_TAIL : Fld := ⟨0, 8⟩
def HD_EVQ_TAIL_LOST : Fld := ⟨16, 16⟩
def HD_KWATCH_CLUSTER : Fld := ⟨0, 8⟩
def HD_KWATCH_KNOT : Fld := ⟨8, 6⟩
def HD_KWATCH_ARM : Fld := ⟨14, 1⟩
def HD_KWATCH_FIRED : Fld := ⟨15, 1⟩
def HD_KWATCH_CFGERR : Fld := ⟨16, 1⟩
def HD_KWATCH_THRESH : Fld := ⟨32, 32⟩
def HD_FN_STAT_VIOL : Fld := ⟨0, 16⟩
def HD_FN_STAT_MISALIGN : Fld := ⟨16, 16⟩
def HD_FN_STAT_LAST_FN : Fld := ⟨32, 4⟩
def HD_BRINGUP_STAGE : Fld := ⟨0, 4⟩
def HD_BRINGUP_WAITING : Fld := ⟨4, 1⟩
def HD_BRINGUP_OUTCOME : Fld := ⟨5, 3⟩
def HD_BRINGUP_STORED : Fld := ⟨8, 1⟩
def HD_BRINGUP_AUTO : Fld := ⟨9, 1⟩
def HD_BRINGUP_KIND : Fld := ⟨10, 2⟩
def HD_BRINGUP_EXCLUDED : Fld := ⟨12, 8⟩
def HD_BRINGUP_LIVE : Fld := ⟨20, 6⟩
def HD_BRINGUP_ELAPSED_MS : Fld := ⟨32, 32⟩
def HD_RESET_STAT_LAST : Fld := ⟨0, 3⟩
def HD_RESET_STAT_CAUSE : Fld := ⟨3, 3⟩
def HD_RESET_STAT_HELD : Fld := ⟨6, 1⟩
def HD_RESET_STAT_HOLDING : Fld := ⟨7, 1⟩
def HD_RESET_STAT_GLITCHES : Fld := ⟨16, 16⟩
def HD_RESET_STAT_WATCHDOGS : Fld := ⟨32, 16⟩
def HD_PEER_CTL_LIMIT : Fld := ⟨0, 8⟩
def HD_PEER_CTL_MARKED : Fld := ⟨24, 16⟩
def HD_HANG_LIMIT_US : Fld := ⟨0, 32⟩
def HD_HANG_HANGS : Fld := ⟨32, 16⟩
def HD_DUMP_SEL_PART : Fld := ⟨0, 4⟩
def HD_DUMP_SEL_WIN : Fld := ⟨4, 20⟩
def HD_DUMP_SEL_BUSY : Fld := ⟨24, 1⟩
def HD_DUMP_DATA_DATA : Fld := ⟨0, 64⟩
def HD_TIME_STAT_STATE : Fld := ⟨0, 2⟩
def HD_TIME_STAT_PENDING : Fld := ⟨2, 1⟩
def HD_TIME_STAT_AMBIG : Fld := ⟨3, 1⟩
def HD_TIME_STAT_REFCLK_LOST : Fld := ⟨4, 1⟩
def HD_TIME_STAT_PPS_REJ : Fld := ⟨16, 16⟩
def HD_TIME_STAT_BOUND_NS : Fld := ⟨32, 32⟩
def HD_TIME_NOW_TIME : Fld := ⟨0, 64⟩
def HD_PWR_CTL_CAP_W : Fld := ⟨0, 12⟩
def HD_PWR_STAT_P100_W : Fld := ⟨0, 12⟩
def HD_PWR_STAT_CAPPED : Fld := ⟨12, 8⟩
def HD_PWR_STAT_BRAKE : Fld := ⟨20, 1⟩
def HD_PWR_STAT_CAP_LIMIT : Fld := ⟨21, 1⟩
def HD_ENERGY_ENERGY_MJ : Fld := ⟨0, 64⟩
def HD_PWR_DOM0_ON : Fld := ⟨0, 64⟩
def HD_PWR_DOM1_ON : Fld := ⟨0, 32⟩
def HD_THERM_SHUTDOWN : Fld := ⟨0, 1⟩
def HD_THERM_CLEAR : Fld := ⟨1, 1⟩
def HD_THERM_CLR_REFUSED : Fld := ⟨2, 1⟩
def HD_THERM_WAS_SHUTDOWN : Fld := ⟨3, 1⟩
def HD_THERM_TMAX : Fld := ⟨16, 16⟩
def HD_THERM_HOT_SENSOR : Fld := ⟨32, 11⟩
def HD_THERM_SHUTDOWNS_1H : Fld := ⟨48, 8⟩
def HD_TSENS_SEL : Fld := ⟨0, 11⟩
def HD_TSENS_FAILED : Fld := ⟨11, 1⟩
def HD_TSENS_TEMP : Fld := ⟨16, 16⟩
def CD_THERM_TMAX : Fld := ⟨0, 16⟩
def CD_THERM_THERM_REQ : Fld := ⟨16, 5⟩
def CD_THERM_THROTTLE_MS : Fld := ⟨32, 16⟩
def HD_EVC_COUNT : Fld := ⟨0, 48⟩
def HD_EVC_EVENT : Fld := ⟨48, 8⟩
def HD_EVC_SCOPE : Fld := ⟨56, 4⟩
def HD_EVC_EN : Fld := ⟨60, 1⟩
def HD_EVC_OVF : Fld := ⟨61, 1⟩
def HD_EVC_CTL_RUN : Fld := ⟨0, 1⟩
def HD_EVC_CTL_CLEAR : Fld := ⟨1, 1⟩
def HD_METER_CTL_EPOCH_S : Fld := ⟨0, 12⟩
def HD_METER_STAT_NEXT_SEQ : Fld := ⟨0, 32⟩
def HD_METER_STAT_UNREAD : Fld := ⟨32, 16⟩
def HD_METER_STAT_FULL : Fld := ⟨48, 1⟩
def HD_METER_STAT_DEFERRED : Fld := ⟨49, 1⟩

/-- A row of the register map: offset in its block, stride and count of an array, the fields with their access types,
the reset value. -/
structure RegRow where
  off : Nat
  stride : Nat
  count : Nat
  reset : Nat
  fields : List (Fld × Acc)
deriving DecidableEq, Repr

/-- Kinds of register block (R334, R338). -/
inductive Blk | core | cluster | pair | site | weft | optical | ms | routing | collective | selvedge | port | bulk
  | heddle | bar0 | none
deriving DecidableEq, Repr

/-- Registers of the core block. -/
def rowsCore : List RegRow := [
  ⟨0x40, 0, 1, 0x0, [(CD_CORE_FLAGS_TSAT, .w1c), (CD_CORE_FLAGS_TINV, .w1c), (CD_CORE_FLAGS_COVF, .w1c),
    (CD_CORE_FLAGS_CINV, .w1c), (CD_CORE_FLAGS_VINV, .w1c), (CD_CORE_FLAGS_VOVF, .w1c), (CD_CORE_FLAGS_VDZ, .w1c)]⟩,
  ⟨0x48, 0, 1, 0x0, [(CD_CORE_FAULT_CAUSE, .ro), (CD_CORE_FAULT_SLOT, .ro), (CD_CORE_FAULT_BOTH, .ro),
    (CD_CORE_FAULT_LINE, .ro), (CD_CORE_FAULT_BEAT, .ro)]⟩,
  ⟨0x50, 0, 1, 0x0, [(CD_SP_ECC_CORR_CNT, .ro), (CD_SP_ECC_UE_CNT, .ro), (CD_SP_ECC_LAST_LINE, .ro),
    (CD_SP_ECC_LAST_UE, .ro)]⟩,
  ⟨0x0, 0, 1, 0x0, [(CD_SEQ_STATUS_STATE, .ro), (CD_SEQ_STATUS_HELD, .ro), (CD_SEQ_STATUS_WAITING, .ro),
    (CD_SEQ_STATUS_PC, .ro), (CD_SEQ_STATUS_LDEPTH, .ro), (CD_SEQ_STATUS_WKNOT, .ro), (CD_SEQ_STATUS_ZOPEN, .ro),
    (CD_SEQ_STATUS_SCNT, .ro), (CD_SEQ_STATUS_GROUP, .ro)]⟩,
  ⟨0x8, 0, 1, 0x0, [(CD_BEAT_COUNT_BC, .ro)]⟩,
  ⟨0x10, 0, 1, 0x0, [(CD_HOLD_HELD_BEATS, .ro), (CD_HOLD_MAX_HOLD, .ro)]⟩,
  ⟨0x18, 0, 1, 0x0, [(CD_HOLD_LIMIT_LIMIT, .rw)]⟩,
  ⟨0x58, 0, 1, 0x0, [(CD_BOUND_BC, .ro), (CD_BOUND_INDEX, .ro)]⟩,
  ⟨0x60, 8, 8, 0x0, [(CD_ZONE_BANKS, .ro), (CD_ZONE_FIRST_ROW, .ro), (CD_ZONE_ROWS, .ro)]⟩,
  ⟨0x100, 32, 4, 0x0, [(SH_RING_BASE, .rw), (SH_RING_SIZE, .rw), (SH_RING_OWNER, .rw), (SH_RING_PGEN, .ro),
    (SH_RING_CFGERR, .ro), (SH_RING_CREDITS, .ro), (SH_RING_CRSAT, .w1c)]⟩,
  ⟨0x108, 32, 4, 0x0, [(SH_CH_CTL_ENABLE, .rw), (SH_CH_CTL_PACE, .rw), (SH_CH_CTL_SRC, .rw), (SH_CH_CTL_PERIOD,
    .rw)]⟩,
  ⟨0x110, 32, 4, 0x0, [(SH_CH_STAT_STATE, .ro), (SH_CH_STAT_READY, .ro), (SH_CH_STAT_HEAD, .ro),
    (SH_CH_STAT_FREEIX, .ro), (SH_CH_STAT_INUSE, .ro), (SH_CH_STAT_INFLIGHT, .ro), (SH_CH_STAT_OVERRUN, .w1c),
    (SH_CH_STAT_FREE_ERR, .w1c)]⟩,
  ⟨0x118, 32, 4, 0x0, [(SH_CMD_KICK, .wo), (SH_CMD_FREE, .wo), (SH_CMD_GEN, .wo)]⟩,
  ⟨0x180, 0, 1, 0x0, [(SH_BUS_BUSERR, .ro), (SH_BUS_CH, .ro), (SH_BUS_STATUS, .ro), (SH_BUS_RESUME, .wo),
    (SH_BUS_COUNT, .ro)]⟩,
  ⟨0x200, 8, 16, 0x0, [(SH_LB_FIRST, .rw), (SH_LB_LINES, .rw), (SH_LB_HELD, .ro), (SH_LB_OWNER, .ro), (SH_LB_GEN,
    .ro)]⟩]

/-- Registers of the cluster block. -/
def rowsCluster : List RegRow := [
  ⟨0x0, 0, 1, 0x0, [(CD_POOL_ECC_CORR_CNT, .ro), (CD_POOL_ECC_UE_CNT, .ro), (CD_POOL_ECC_LAST_LINE, .ro),
    (CD_POOL_ECC_LAST_UE, .ro), (CD_POOL_ECC_PASS_US, .ro)]⟩,
  ⟨0x8, 0, 1, 0x0, [(CD_XING_STAT_MARGIN_LOW, .w1c), (CD_XING_STAT_SLIPPED, .ro)]⟩,
  ⟨0x10, 0, 1, 0x0, [(CD_XLANE_ARB_GUARANTEED, .ro), (CD_XLANE_ARB_EMPTY_GRANTS, .ro), (CD_XLANE_ARB_MAX_WAIT,
    .ro), (CD_XLANE_ARB_CUT, .w1c)]⟩,
  ⟨0x400, 8, 64, 0x0, [(KN_COUNT_COUNT, .rw), (KN_COUNT_OVF, .w1c)]⟩,
  ⟨0x600, 8, 64, 0x0, [(KN_ADD_N, .wo)]⟩,
  ⟨0x800, 8, 8, 0x0, [(HD_EVC_COUNT, .rw), (HD_EVC_EVENT, .rw), (HD_EVC_SCOPE, .rw), (HD_EVC_EN, .rw),
    (HD_EVC_OVF, .w1c)]⟩]

/-- Registers of the pair block. -/
def rowsPair : List RegRow := [
  ⟨0x0, 0, 1, 0x18000000318, [(CD_GEAR_CTL_CUR, .ro), (CD_GEAR_CTL_NEXT, .ro), (CD_GEAR_CTL_VPEND, .ro),
    (CD_GEAR_CTL_HOST_REQ, .rw), (CD_GEAR_CTL_CAP_REQ, .ro), (CD_GEAR_CTL_THERM_REQ, .ro), (CD_GEAR_CTL_MON_REQ,
    .ro), (CD_GEAR_CTL_VOLT_OK, .ro)]⟩,
  ⟨0x8, 0, 1, 0x0, [(CD_GEAR_STAT_CHANGES, .ro), (CD_GEAR_STAT_ABORTS, .ro)]⟩,
  ⟨0x10, 0, 1, 0x0, [(CD_PAIR_BEAT_PB, .ro)]⟩,
  ⟨0x100, 8, 16, 0x0, [(CD_EDGE_ARB_CUTOFFS, .ro), (CD_EDGE_ARB_EMPTY_GRANTS, .ro), (CD_EDGE_ARB_GUARANTEED,
    .ro), (CD_EDGE_ARB_MAX_WAIT, .ro)]⟩,
  ⟨0x180, 8, 16, 0x0, [(CD_EDGE_CUT_CUT, .w1c)]⟩,
  ⟨0x200, 8, 32, 0x0, [(CD_SLOT_REC_SAT, .w1c), (CD_SLOT_REC_WIDTH, .w1c), (CD_SLOT_REC_OVERLAP, .w1c),
    (CD_SLOT_REC_HELD, .ro)]⟩,
  ⟨0x18, 0, 1, 0x0, [(CD_THERM_TMAX, .ro), (CD_THERM_THERM_REQ, .ro), (CD_THERM_THROTTLE_MS, .ro)]⟩]

/-- Registers of the site block. -/
def rowsSite : List RegRow := [
  ⟨0x0, 0, 1, 0x0, [(LM_WARP_STAT_CRC_ERR, .ro), (LM_WARP_STAT_REPLAYS, .ro), (LM_WARP_STAT_MALFORMED, .ro),
    (LM_WARP_STAT_MASKED, .ro)]⟩,
  ⟨0x8, 0, 1, 0x0, [(LM_WARP_DOWN_DOWN, .ro)]⟩,
  ⟨0x10, 0, 1, 0x0, [(LM_WARP_LASTBAD_HDR, .ro)]⟩,
  ⟨0x40, 8, 8, 0x0, [(LM_WARP_MASK_MASK0, .ro), (LM_WARP_MASK_MASK1, .ro), (LM_WARP_MASK_MASK2, .ro),
    (LM_WARP_MASK_MASK3, .ro)]⟩,
  ⟨0x100, 0, 1, 0x0, [(LM_OPT_STAT_SAT_MARKS, .ro), (LM_OPT_STAT_FLOODS, .ro), (LM_OPT_STAT_UNLOCKS, .ro),
    (LM_OPT_STAT_FAILED_RINGS, .ro), (LM_OPT_STAT_OUT_LANES, .ro), (LM_OPT_STAT_DEFERRED, .ro)]⟩,
  ⟨0x108, 0, 1, 0x0, [(LM_RING_SEL_PLANE, .rw), (LM_RING_SEL_DIR, .rw), (LM_RING_SEL_WG, .rw), (LM_RING_SEL_WL,
    .rw)]⟩,
  ⟨0x110, 0, 1, 0x0, [(LM_RING_DATA_HEATER, .ro), (LM_RING_DATA_LOCK, .ro), (LM_RING_DATA_STALE, .ro),
    (LM_RING_DATA_NONE, .ro), (LM_RING_DATA_INSERVICE, .ro), (LM_RING_DATA_DACMODE, .ro), (LM_RING_DATA_MON, .ro)]⟩,
  ⟨0x118, 0, 1, 0x4, [(LM_DAC_CTL_BITS, .rw), (LM_DAC_CTL_ENABLE, .rw), (LM_DAC_CTL_PATTERN, .rw),
    (LM_DAC_CTL_LEVEL, .rw), (LM_DAC_CTL_REFUSED, .ro)]⟩,
  ⟨0x200, 0, 1, 0x0, [(LM_RRC_STAT_HITS, .ro), (LM_RRC_STAT_MISSES, .ro)]⟩,
  ⟨0x300, 8, 8, 0x0, [(HD_EVC_COUNT, .rw), (HD_EVC_EVENT, .rw), (HD_EVC_SCOPE, .rw), (HD_EVC_EN, .rw),
    (HD_EVC_OVF, .w1c)]⟩]

/-- Registers of the weft block. -/
def rowsWeft : List RegRow := [
  ⟨0x0, 16, 8, 0x0, [(LM_WEFT_GSTAT_CUR, .ro), (LM_WEFT_GSTAT_PEND, .ro), (LM_WEFT_GSTAT_PVALID, .ro),
    (LM_WEFT_GSTAT_STATE, .ro), (LM_WEFT_GSTAT_SWITCHES, .ro), (LM_WEFT_GSTAT_FAILS, .ro), (LM_WEFT_GSTAT_REFUSED,
    .ro), (LM_WEFT_GSTAT_FAIL_OUT, .ro)]⟩,
  ⟨0x8, 16, 8, 0x1, [(LM_WEFT_SLOTVALID_VALID, .ro)]⟩,
  ⟨0x100, 0, 1, 0x1, [(LM_WEFT_STANDING_DEFAULT, .ro), (LM_WEFT_STANDING_CHANGING, .ro)]⟩]

/-- Registers of the optical control block. -/
def rowsOptical : List RegRow := [
  ⟨0x0, 8, 24, 0x0, [(LM_LASER_IN_POWER, .ro), (LM_LASER_IN_LOW, .ro), (LM_LASER_IN_DARK, .ro),
    (LM_LASER_IN_OVER, .ro)]⟩,
  ⟨0x100, 0, 1, 0x0, [(LM_BOBBIN_LASER_EN, .ro), (LM_BOBBIN_BOBBIN_OK, .ro), (LM_BOBBIN_LIGHT_HOLD, .ro),
    (LM_BOBBIN_TIMEOUT, .w1c), (LM_BOBBIN_I2C_ERR, .w1c), (LM_BOBBIN_HOLDS, .ro)]⟩,
  ⟨0x108, 0, 1, 0xa00, [(LM_CAL_CTL_MODE, .rwl), (LM_CAL_CTL_LOCK, .rwl), (LM_CAL_CTL_PERIOD, .rwl)]⟩,
  ⟨0x110, 0, 1, 0x0, [(LM_CENSUS_STATE, .ro), (LM_CENSUS_RINGS_FAILED, .ro), (LM_CENSUS_DURATION_MS, .ro),
    (LM_CENSUS_ABORTS, .ro)]⟩]

/-- Registers of the ms block. -/
def rowsMs : List RegRow := [
  ⟨0x0, 0, 1, 0x0, [(LM_MS_NODE_NODE, .ro), (LM_MS_NODE_NVALID, .ro), (LM_MS_NODE_SEPOCH, .ro)]⟩,
  ⟨0x8, 0, 1, 0x50040, [(LM_MS_TIME_TIMEOUT_US, .ro), (LM_MS_TIME_HMAX, .ro)]⟩,
  ⟨0x10, 0, 1, 0x0, [(LM_MS_STAT0_TIMEOUTS, .ro), (LM_MS_STAT0_REISSUES, .ro), (LM_MS_STAT0_LATE_RSP, .ro),
    (LM_MS_STAT0_STALE_DROP, .ro)]⟩,
  ⟨0x18, 0, 1, 0x0, [(LM_MS_STAT1_DUP_REQ, .ro), (LM_MS_STAT1_DUP_EXPIRED, .ro), (LM_MS_STAT1_ATOM_SAT, .ro),
    (LM_MS_STAT1_FILTER_FILLS, .ro)]⟩,
  ⟨0x20, 0, 1, 0x0, [(LM_MS_STAT2_MALFORMED_TXN, .ro), (LM_MS_STAT2_DENIED, .ro)]⟩,
  ⟨0x100, 8, 256, 0x0, [(LM_MS_DEAD_DEAD, .ro)]⟩]

/-- Registers of the routing block. -/
def rowsRouting : List RegRow := [
  ⟨0x0, 0, 1, 0x0, [(LM_RT_CTL_ABITS, .ro), (LM_RT_CTL_TVALID, .ro), (LM_RT_CTL_LOADS, .ro)]⟩,
  ⟨0x8, 0, 1, 0x0, [(LM_RT_STAT_NOROUTE_DROP, .ro), (LM_RT_STAT_ROUTE_ERR, .ro), (LM_RT_STAT_ORDER_HOLDS, .ro)]⟩,
  ⟨0x100, 8, 48, 0x0, [(LM_RT_LINK_EXP_NODE, .ro), (LM_RT_LINK_DIM, .ro), (LM_RT_LINK_LIVE, .ro)]⟩,
  ⟨0x400, 8, 128, 0x3f, [(LM_RT_LOCAL_LINK, .ro), (LM_RT_LOCAL_VALID, .ro)]⟩,
  ⟨0x800, 8, 128, 0x3f3f3f3f, [(LM_RT_GLOBAL_LINK0, .ro), (LM_RT_GLOBAL_V0, .ro), (LM_RT_GLOBAL_LINK1, .ro),
    (LM_RT_GLOBAL_V1, .ro), (LM_RT_GLOBAL_LINK2, .ro), (LM_RT_GLOBAL_V2, .ro), (LM_RT_GLOBAL_LINK3, .ro),
    (LM_RT_GLOBAL_V3, .ro), (LM_RT_GLOBAL_GATEWAY, .ro), (LM_RT_GLOBAL_GVALID, .ro)]⟩]

/-- Registers of the collective block. -/
def rowsCollective : List RegRow := [
  ⟨0x0, 16, 8, 0x0, [(LM_COL_ENG_ACTIVE, .ro), (LM_COL_ENG_RVALID, .ro), (LM_COL_ENG_RSLOT, .ro),
    (LM_COL_ENG_LEADER, .ro), (LM_COL_ENG_RESENDS, .ro), (LM_COL_ENG_DROPS, .ro), (LM_COL_ENG_FAILS, .ro)]⟩,
  ⟨0x8, 16, 8, 0x0, [(LM_COL_DONE_STREAMS, .ro), (LM_COL_DONE_REJ, .ro)]⟩,
  ⟨0x100, 8, 16, 0x0, [(LM_COMB_ENTRIES, .ro), (LM_COMB_BUFS, .ro), (LM_COMB_SAT, .ro), (LM_COMB_DUP_DROP, .ro),
    (LM_COMB_REPL, .ro), (LM_COMB_TIMEOUTS, .ro)]⟩]

/-- Registers of the selvedge block. -/
def rowsSelvedge : List RegRow := [
  ⟨0x0, 32, 16, 0x0, [(XP_SEL_CTL_PRIMARY, .rw), (XP_SEL_CTL_ALTERNATE, .rw), (XP_SEL_CTL_MODE, .rw),
    (XP_SEL_CTL_ENABLE, .rw), (XP_SEL_CTL_SWITCH, .wo), (XP_SEL_CTL_CFG_ERR, .ro)]⟩,
  ⟨0x8, 32, 16, 0x0, [(XP_SEL_STAT_STATE, .ro), (XP_SEL_STAT_ACTIVE_PATH, .ro), (XP_SEL_STAT_HELD, .ro),
    (XP_SEL_STAT_TXCLAIM, .ro), (XP_SEL_STAT_RXCLAIM, .ro), (XP_SEL_STAT_SWITCHES, .ro)]⟩,
  ⟨0x10, 32, 16, 0x0, [(XP_SEL_HEALTH_RESULT, .ro), (XP_SEL_HEALTH_WAS_INT, .w1c), (XP_SEL_HEALTH_FAIL_STEP,
    .ro), (XP_SEL_HEALTH_RUNS, .ro), (XP_SEL_HEALTH_INTERRUPTS, .ro), (XP_SEL_HEALTH_AGE_MS, .ro)]⟩]

/-- Registers of the port block. -/
def rowsPort : List RegRow := [
  ⟨0x0, 0, 1, 0x1, [(XP_PORT_CTL_ENABLE, .rw), (XP_PORT_CTL_RESTART, .wo), (XP_PORT_CTL_REKEY, .wo)]⟩,
  ⟨0x8, 0, 1, 0x0, [(XP_PORT_STAT_STATE, .ro), (XP_PORT_STAT_WAITING, .ro), (XP_PORT_STAT_LAST_FAIL, .ro),
    (XP_PORT_STAT_BEXP, .ro), (XP_PORT_STAT_TXLANES, .ro), (XP_PORT_STAT_RXLANES, .ro), (XP_PORT_STAT_PNODE, .ro),
    (XP_PORT_STAT_PPORT, .ro), (XP_PORT_STAT_ATTEMPTS, .ro)]⟩,
  ⟨0x10, 0, 1, 0x0, [(XP_LINK_CNT0_CORR_SYM, .ro), (XP_LINK_CNT0_UNCORR, .ro), (XP_LINK_CNT0_REPLAYS, .ro)]⟩,
  ⟨0x18, 0, 1, 0x0, [(XP_LINK_CNT1_AUTH_FAIL, .ro), (XP_LINK_CNT1_MALFORMED, .ro), (XP_LINK_CNT1_STALE_DROP,
    .ro), (XP_LINK_CNT1_DUP_DROP, .ro)]⟩,
  ⟨0x20, 0, 1, 0x0, [(XP_LINK_CNT2_DISCARDS, .ro)]⟩,
  ⟨0x28, 0, 1, 0x0, [(XP_LASTBAD_HDR, .ro)]⟩]

/-- Registers of the bulk block. -/
def rowsBulk : List RegRow := [
  ⟨0x0, 0, 1, 0x0, [(BM_STAT_STATE, .ro), (BM_STAT_ERASED, .ro), (BM_STAT_EDIE, .ro), (BM_STAT_REMAPS, .ro),
    (BM_STAT_REMAP_FULL, .w1c)]⟩,
  ⟨0x8, 0, 1, 0x0, [(BM_ECC_CNT_CORRECTED, .ro), (BM_ECC_CNT_DIETRIALS, .ro), (BM_ECC_CNT_UE, .ro),
    (BM_ECC_CNT_REREADS, .ro)]⟩,
  ⟨0x10, 0, 1, 0x0, [(BM_ECC_LAST_LINE, .ro), (BM_ECC_LAST_KIND, .ro), (BM_ECC_LAST_SLOTS, .ro),
    (BM_ECC_LAST_SCRUB, .ro)]⟩,
  ⟨0x18, 0, 1, 0x2, [(BM_SCRUB_INTERVAL_US, .rw), (BM_SCRUB_PASSES, .ro), (BM_SCRUB_PASS_S, .ro)]⟩,
  ⟨0x20, 0, 1, 0x0, [(BM_SELFTEST_RESULT, .ro), (BM_SELFTEST_WAS_INT, .w1c), (BM_SELFTEST_FAIL_STEP, .ro),
    (BM_SELFTEST_RUNS, .ro), (BM_SELFTEST_INTERRUPTS, .ro), (BM_SELFTEST_AGE_S, .ro), (BM_SELFTEST_BAD_SPARES,
    .ro)]⟩,
  ⟨0x28, 0, 1, 0x0, [(BM_CIRC_STAT_RESENDS, .ro), (BM_CIRC_STAT_DISCARDS, .ro), (BM_CIRC_STAT_FAILS, .ro),
    (BM_CIRC_STAT_DOWN, .ro)]⟩,
  ⟨0x30, 0, 1, 0x0, [(BM_CHK_CTL_OP, .wo), (BM_CHK_CTL_TLINE, .rw)]⟩,
  ⟨0x38, 0, 1, 0x0, [(BM_CHK_RES_OUTCOME, .ro), (BM_CHK_RES_SYMS, .ro), (BM_CHK_RES_SUSPECT, .ro),
    (BM_CHK_RES_BUSY, .ro), (BM_CHK_RES_IGNORED, .w1c)]⟩,
  ⟨0x100, 8, 16, 0x0, [(BM_REMAP_Q, .ro), (BM_REMAP_ROW, .ro), (BM_REMAP_SPARE, .ro), (BM_REMAP_VALID, .ro)]⟩,
  ⟨0x200, 8, 72, 0x0, [(BM_CHK_BUF_DATA, .rw)]⟩]

/-- Registers of the Heddle block. -/
def rowsHeddle : List RegRow := [
  ⟨0x0, 0, 1, 0x0, [(HD_FN_STAT_VIOL, .ro), (HD_FN_STAT_MISALIGN, .ro), (HD_FN_STAT_LAST_FN, .ro)]⟩,
  ⟨0x8, 0, 1, 0x0, [(HD_BRINGUP_STAGE, .ro), (HD_BRINGUP_WAITING, .ro), (HD_BRINGUP_OUTCOME, .ro),
    (HD_BRINGUP_STORED, .ro), (HD_BRINGUP_AUTO, .ro), (HD_BRINGUP_KIND, .ro), (HD_BRINGUP_EXCLUDED, .ro),
    (HD_BRINGUP_LIVE, .ro), (HD_BRINGUP_ELAPSED_MS, .ro)]⟩,
  ⟨0x10, 0, 1, 0x0, [(HD_RESET_STAT_LAST, .ro), (HD_RESET_STAT_CAUSE, .ro), (HD_RESET_STAT_HELD, .ro),
    (HD_RESET_STAT_HOLDING, .ro), (HD_RESET_STAT_GLITCHES, .ro), (HD_RESET_STAT_WATCHDOGS, .ro)]⟩,
  ⟨0x18, 0, 1, 0x8, [(HD_PEER_CTL_LIMIT, .rw), (HD_PEER_CTL_MARKED, .ro)]⟩,
  ⟨0x40, 8, 8, 0x0, [(HD_HANG_LIMIT_US, .rw), (HD_HANG_HANGS, .ro)]⟩,
  ⟨0x100, 0, 1, 0x0, [(HD_DUMP_SEL_PART, .rw), (HD_DUMP_SEL_WIN, .rw), (HD_DUMP_SEL_BUSY, .ro)]⟩,
  ⟨0x200, 8, 64, 0x0, [(HD_DUMP_DATA_DATA, .ro)]⟩,
  ⟨0x400, 0, 1, 0xffffffff00000000, [(HD_TIME_STAT_STATE, .ro), (HD_TIME_STAT_PENDING, .ro), (HD_TIME_STAT_AMBIG,
    .w1c), (HD_TIME_STAT_REFCLK_LOST, .ro), (HD_TIME_STAT_PPS_REJ, .ro), (HD_TIME_STAT_BOUND_NS, .ro)]⟩,
  ⟨0x408, 0, 1, 0x0, [(HD_TIME_NOW_TIME, .ro)]⟩,
  ⟨0x420, 0, 1, 0x9c4, [(HD_PWR_CTL_CAP_W, .rw)]⟩,
  ⟨0x428, 0, 1, 0x0, [(HD_PWR_STAT_P100_W, .ro), (HD_PWR_STAT_CAPPED, .ro), (HD_PWR_STAT_BRAKE, .ro),
    (HD_PWR_STAT_CAP_LIMIT, .w1c)]⟩,
  ⟨0x430, 0, 1, 0x0, [(HD_ENERGY_ENERGY_MJ, .ro)]⟩,
  ⟨0x438, 0, 1, 0x0, [(HD_PWR_DOM0_ON, .ro)]⟩,
  ⟨0x440, 0, 1, 0x10000000, [(HD_PWR_DOM1_ON, .ro)]⟩,
  ⟨0x448, 0, 1, 0x0, [(HD_THERM_SHUTDOWN, .ro), (HD_THERM_CLEAR, .wo), (HD_THERM_CLR_REFUSED, .w1c),
    (HD_THERM_WAS_SHUTDOWN, .w1c), (HD_THERM_TMAX, .ro), (HD_THERM_HOT_SENSOR, .ro), (HD_THERM_SHUTDOWNS_1H, .ro)]⟩,
  ⟨0x450, 0, 1, 0x0, [(HD_TSENS_SEL, .rw), (HD_TSENS_FAILED, .ro), (HD_TSENS_TEMP, .ro)]⟩,
  ⟨0x800, 8, 32, 0x0, [(HD_EVC_COUNT, .rw), (HD_EVC_EVENT, .rw), (HD_EVC_SCOPE, .rw), (HD_EVC_EN, .rw),
    (HD_EVC_OVF, .w1c)]⟩,
  ⟨0x460, 0, 1, 0x1, [(HD_EVC_CTL_RUN, .rw), (HD_EVC_CTL_CLEAR, .wo)]⟩,
  ⟨0x468, 0, 1, 0x3c, [(HD_METER_CTL_EPOCH_S, .rw)]⟩,
  ⟨0x470, 0, 1, 0x0, [(HD_METER_STAT_NEXT_SEQ, .ro), (HD_METER_STAT_UNREAD, .ro), (HD_METER_STAT_FULL, .ro),
    (HD_METER_STAT_DEFERRED, .w1c)]⟩]

/-- Registers of the bar0 block. -/
def rowsBar0 : List RegRow := [
  ⟨0x0, 0, 1, 0x0, [(HD_MB_CTL_DOORBELL, .wo), (HD_MB_CTL_MB_IRQ, .rw), (HD_MB_CTL_EVQ_IRQ, .rw)]⟩,
  ⟨0x8, 0, 1, 0x0, [(HD_MB_STAT_BUSY, .ro), (HD_MB_STAT_DONE, .w1c), (HD_MB_STAT_DB_IGNORED, .w1c),
    (HD_MB_STAT_WR_DISCARD, .w1c), (HD_MB_STAT_STATUS, .ro), (HD_MB_STAT_SEQ, .ro)]⟩,
  ⟨0x10, 0, 1, 0x0, [(HD_EVQ_HEAD_HEAD, .rw)]⟩,
  ⟨0x18, 0, 1, 0x0, [(HD_EVQ_TAIL_TAIL, .ro), (HD_EVQ_TAIL_LOST, .ro)]⟩,
  ⟨0x8000, 16, 246, 0x0, [(HD_KWATCH_CLUSTER, .rw), (HD_KWATCH_KNOT, .rw), (HD_KWATCH_ARM, .rw),
    (HD_KWATCH_FIRED, .w1c), (HD_KWATCH_CFGERR, .ro), (HD_KWATCH_THRESH, .rw)]⟩]

def Blk.rows : Blk → List RegRow
  | .core => rowsCore
  | .cluster => rowsCluster
  | .pair => rowsPair
  | .site => rowsSite
  | .weft => rowsWeft
  | .optical => rowsOptical
  | .ms => rowsMs
  | .routing => rowsRouting
  | .collective => rowsCollective
  | .selvedge => rowsSelvedge
  | .port => rowsPort
  | .bulk => rowsBulk
  | .heddle => rowsHeddle
  | .bar0 => rowsBar0
  | .none => []

/-- The block of a register address and the offset in it (R334). Addresses that no block occupies have kind `none`. -/
def blkOf (a : Nat) : Blk × Nat :=
  let o := a % 0x1000
  if a ≥ 0x1000000 then (.bar0, a % 0x1000000)
  else if a < 0x800000 then (.core, o)
  else if a < 0x900000 then (.cluster, o)
  else if a < 0x908000 then (.pair, o)
  else if a < 0x910000 then (.none, o)
  else if a < 0x930000 then (.site, o)
  else if a < 0x931000 then (.weft, o)
  else if a < 0x932000 then (.optical, o)
  else if a < 0x933000 then (.ms, o)
  else if a < 0x934000 then (.routing, o)
  else if a < 0x935000 then (.collective, o)
  else if a < 0x936000 then (.selvedge, o)
  else if a < 0x940000 then (.none, o)
  else if a < 0x960000 then (.port, o)
  else if a < 0x968000 then (.bulk, o)
  else if a < 0x970000 then (.none, o)
  else if a < 0x971000 then (.heddle, o)
  else (.none, o)

/-- The offset belongs to the row. -/
def RegRow.has (r : RegRow) (o : Nat) : Bool :=
  if r.stride = 0 then o == r.off else decide (o ≥ r.off) && decide (o < r.off + r.stride * r.count) && (o - r.off) % r.stride == 0

/-- The row of a register address, `none` where no register is (R334). -/
def regRow? (a : Nat) : Option RegRow :=
  let b := blkOf a
  b.1.rows.find? (fun r => r.has b.2)

/-- The reset value of a register (R10). -/
def regReset (a : Nat) : Reg64 :=
  match regRow? a with
  | some r => BitVec.ofNat 64 r.reset
  | none => 0

/-- The bits of a field, in place. -/
def Fld.mask (f : Fld) : Reg64 := BitVec.ofNat 64 ((2 ^ f.w - 1) * 2 ^ f.lo)
/-- The field's value in a register word. -/
def Fld.get (f : Fld) (r : Reg64) : Nat := r.toNat / 2 ^ f.lo % 2 ^ f.w
/-- The register word with the field set, the value taken modulo the field's size. -/
def Fld.put (f : Fld) (r : Reg64) (v : Nat) : Reg64 :=
  (r &&& ~~~ f.mask) ||| BitVec.ofNat 64 (v % 2 ^ f.w * 2 ^ f.lo)
/-- The largest value of the field. -/
def Fld.max (f : Fld) : Nat := 2 ^ f.w - 1

/-- The bits of a register's fields of one access type. -/
def RegRow.bits (r : RegRow) (a : Acc) : Reg64 :=
  r.fields.foldl (fun m p => if p.2 = a then m ||| p.1.mask else m) 0

end Sys2Proof.Machine
end

