-- ==== Sys2Proof/Machine/Num.lean ====
section
/-! DEFINITION. Number formats and tally arithmetic (R26 to R44): exact values, the grid, conversions, and the
floating-point and special functions of the vector unit (R55, R58). -/
namespace Sys2Proof.Machine

/-- What one operand or result is worth: NaN or NaT, an infinity with its sign, or (−1)^neg × m × 2^e exactly (R28). -/
inductive XV | nan | inf (neg : Bool) | fin (neg : Bool) (m : Nat) (e : Int)
deriving DecidableEq, Repr

/-- Number flags as a mask in the order of CD_CORE_FLAGS [6:0] (R65). -/
abbrev FlagMask := Nat

/-- A result with the flag events it causes (R41, R55). -/
structure Res (α : Type) where
  val : α
  flags : BitVec 7
deriving DecidableEq, Repr

/-- TSAT, TINV, COVF, CINV, VINV, VOVF, VDZ (R65). -/
def flTSAT : BitVec 7 := 1
def flTINV : BitVec 7 := 2
def flCOVF : BitVec 7 := 4
def flCINV : BitVec 7 := 8
def flVINV : BitVec 7 := 16
def flVOVF : BitVec 7 := 32
def flVDZ : BitVec 7 := 64

/-- The flag `f` where `b` holds, and none otherwise. -/
def flIf (b : Bool) (f : BitVec 7) : BitVec 7 := if b then f else 0

/-- A float format of R28: exponent bits, bias, mantissa bits, code of the largest finite magnitude, whether the code
above it is an infinity, canonical NaN (R29). -/
structure FloatFmt where
  eb : Nat
  bias : Nat
  mb : Nat
  maxCode : Nat
  hasInf : Bool
  qnan : Nat
deriving DecidableEq, Repr

def fmtF8E4 : FloatFmt := ⟨4, 7, 3, 0x7E, false, 0x7F⟩
def fmtF8E5 : FloatFmt := ⟨5, 15, 2, 0x7B, true, 0x7E⟩
def fmtFP16 : FloatFmt := ⟨5, 15, 10, 0x7BFF, true, 0x7E00⟩
def fmtBF16 : FloatFmt := ⟨8, 127, 7, 0x7F7F, true, 0x7FC0⟩
def fmtFP32 : FloatFmt := ⟨8, 127, 23, 0x7F7FFFFF, true, 0x7FC00000⟩

/-- Width of a code of the format in bits. -/
def FloatFmt.width (f : FloatFmt) : Nat := f.eb + f.mb + 1
/-- Exponent of the least significant bit of a subnormal (R28). -/
def FloatFmt.eLsb (f : FloatFmt) : Int := 1 - (f.bias : Int) - (f.mb : Int)

/-- The exact value of a float code (R28): codes above the largest finite one are the infinity, if the format has one,
or NaN. -/
def FloatFmt.decode (f : FloatFmt) (c : Nat) : XV :=
  let neg := c.testBit (f.eb + f.mb)
  let mag := c % 2 ^ (f.eb + f.mb)
  if mag > f.maxCode then (if f.hasInf && mag == f.maxCode + 1 then .inf neg else .nan)
  else
    let e := mag >>> f.mb
    let m := mag % 2 ^ f.mb
    if e = 0 then .fin neg m f.eLsb else .fin neg (2 ^ f.mb + m) (f.eLsb + (e : Int) - 1)

/-- Position of the leading bit: log2 of a non-zero number, 0 of 0. -/
def topBit (n : Nat) : Nat := Nat.log2 n

/-- `m × 2^e` rounded to an integer multiple of 2^l, ties to even (R43 step 1): the multiple. -/
def roundAt (m : Nat) (e l : Int) : Nat :=
  if e ≥ l then m <<< (e - l).toNat
  else
    let k := (l - e).toNat
    let q := m >>> k
    let r := m % 2 ^ k
    let half := 2 ^ (k - 1)
    if r > half || (r == half && q % 2 == 1) then q + 1 else q

/-- The magnitude code of a positive `m × 2^e` in the format, rounded to nearest even with an unbounded exponent range;
a code above `maxCode` tells an overflow (R43 steps 1 and 2). -/
def FloatFmt.magCode (f : FloatFmt) (m : Nat) (e : Int) : Nat :=
  if m = 0 then 0
  else
    let l := max ((topBit m : Int) + e - f.mb) f.eLsb
    ((l - f.eLsb).toNat <<< f.mb) + roundAt m e l

/-- A magnitude code with its sign. -/
def FloatFmt.withSign (f : FloatFmt) (neg : Bool) (mag : Nat) : Nat :=
  if neg then 2 ^ (f.eb + f.mb) + mag else mag

/-- A conversion into a float storage format (R43). -/
def FloatFmt.convert (f : FloatFmt) : XV → Res Nat
  | .nan => ⟨f.qnan, flCINV⟩
  | .inf neg => if f.hasInf then ⟨f.withSign neg (f.maxCode + 1), 0⟩ else ⟨f.qnan, flCINV⟩
  | .fin neg m e =>
    if m = 0 then ⟨0, 0⟩
    else
      let c := f.magCode m e
      if c > f.maxCode then ⟨f.withSign neg f.maxCode, flCOVF⟩ else ⟨f.withSign neg c, 0⟩

/-- A conversion into INT8 (R43). -/
def convertInt8 : XV → Res Nat
  | .nan => ⟨0x80, flCINV⟩
  | .inf neg => ⟨if neg then 0x80 else 0x7F, flCINV⟩
  | .fin neg m e =>
    let n := roundAt m e 0
    if neg then (if n > 128 then ⟨0x80, flCOVF⟩ else ⟨(256 - n) % 256, 0⟩)
    else (if n > 127 then ⟨0x7F, flCOVF⟩ else ⟨n, 0⟩)

/-- Storage formats of scalar kind (R26): INT8 or a float. -/
def floatFmt? (code : BitVec 4) : Option FloatFmt :=
  match code.toNat with
  | 1 => some fmtF8E4 | 2 => some fmtF8E5 | 5 => some fmtFP16 | 6 => some fmtBF16 | 7 => some fmtFP32 | _ => none

/-- Bits of a scalar storage format of the CVT set (R57), 0 for any other code. -/
def scalarBits (code : BitVec 4) : Nat :=
  match code.toNat with
  | 0 => 8 | 1 => 8 | 2 => 8 | 5 => 16 | 6 => 16 | 7 => 32 | _ => 0

/-- The exact value of a scalar code of a storage format (R28). -/
def decodeScalar (code : BitVec 4) (bits : Nat) : XV :=
  match floatFmt? code with
  | some f => f.decode bits
  | none => if bits.testBit 7 then .fin true (256 - bits % 256) 0 else .fin false (bits % 256) 0

/-- A conversion into a scalar storage format by its code (R43). -/
def convertScalar (code : BitVec 4) (x : XV) : Res Nat :=
  match floatFmt? code with
  | some f => f.convert x
  | none => convertInt8 x

/-- Mantissa bits and element bits of a block format: BS4 (code 4) or BS6 (R31). -/
def blockMb (code : BitVec 4) : Nat := if code = 4 then 1 else 3
def blockBits (code : BitVec 4) : Nat := if code = 4 then 4 else 6

/-- A block element code under its scale byte (R31). -/
def decodeBlockElem (code : BitVec 4) (scale elem : Nat) : XV :=
  if scale = 0xFF then .nan
  else
    let mb := blockMb code
    let neg := elem.testBit (mb + 2)
    let mag := elem % 2 ^ (mb + 2)
    let ex := mag >>> mb
    let m := mag % 2 ^ mb
    let l : Int := (scale : Int) - 127 - mb
    if ex = 0 then .fin neg m l else .fin neg (2 ^ mb + m) (l + (ex : Int) - 1)

/-! ## Tallies -/

/-- A tally value: the integer, or `none` for NaT (R35). -/
abbrev Tally := Option Int

/-- Bits of a tally: TL64 or TL128 (R35). -/
def tallyBits (wide : Bool) : Nat := if wide then 128 else 64
/-- The largest magnitude of a valid tally (R35). -/
def tallyMax (wide : Bool) : Int := ((2 ^ (tallyBits wide - 1) : Nat) : Int) - 1

/-- The tally a code stands for (R35). -/
def decodeTally (wide : Bool) (c : Nat) : Tally :=
  let n := tallyBits wide
  let c := c % 2 ^ n
  if c = 2 ^ (n - 1) then none
  else if c < 2 ^ (n - 1) then some c else some ((c : Int) - ((2 ^ n : Nat) : Int))

/-- The code of a tally (R35). -/
def encodeTally (wide : Bool) : Tally → Nat
  | none => 2 ^ (tallyBits wide - 1)
  | some t => (t % ((2 ^ tallyBits wide : Nat) : Int)).toNat

/-- The clamp that ends a step (R37, R39, R40). -/
def clampTally (wide : Bool) (t : Int) : Res Tally :=
  if t > tallyMax wide then ⟨some (tallyMax wide), flTSAT⟩
  else if t < - tallyMax wide then ⟨some (- tallyMax wide), flTSAT⟩
  else ⟨some t, 0⟩

/-- One accumulate step (R39). -/
def accumulate (wide : Bool) (a : Tally) (ts : List Tally) : Res Tally :=
  match (a :: ts).mapM id with
  | none => ⟨none, 0⟩
  | some l => clampTally wide l.sum

/-- `x × 2^-q` rounded toward −∞ (R37). -/
def floorScaled (neg : Bool) (m : Nat) (e q : Int) : Int :=
  let t : Int := if neg then - (m : Int) else m
  if e ≥ q then t * ((2 ^ (e - q).toNat : Nat) : Int) else t / ((2 ^ (q - e).toNat : Nat) : Int)

/-- Placing an exact value on the grid (R37). -/
def place (wide : Bool) (q : Int) : XV → Res Tally
  | .fin neg m e => clampTally wide (floorScaled neg m e q)
  | _ => ⟨none, flTINV⟩

/-- Realignment of a tally by a shift q′ − q and a change of width (R40). A left shift of 128 bits or more has its
final result as R57 states. Where one TREQ both shifts and changes the width, the exact shifted integer is clamped once, to
the destination's range (DESIGN CHOICE, log entry 76: R40 and R57 do not say whether the shift clamps to the source's range
first). -/
def realign (wideTo : Bool) (sh : Int) : Tally → Res Tally
  | none => ⟨none, 0⟩
  | some t => if sh ≥ 0 then clampTally wideTo (t / ((2 ^ sh.toNat : Nat) : Int))
    else clampTally wideTo (t * ((2 ^ (-sh).toNat : Nat) : Int))

/-- The exact value of a tally of weight q. -/
def tallyValue (q : Int) : Tally → XV
  | none => .nan
  | some t => .fin (t < 0) t.natAbs q

/-- Fields of a tally specification (R36). -/
def specQ (sp : BitVec 16) : Int := (sp.extractLsb' 0 10).toInt
def specWide (sp : BitVec 16) : Bool := sp.getLsbD 10
/-- The specification is legal (R36). -/
def specOk (sp : BitVec 16) : Bool :=
  sp.extractLsb' 11 5 == 0 && decide (-300 ≤ specQ sp) && decide (specQ sp ≤ 255)

/-! ## Exact arithmetic -/

/-- The exact product (R38, R55). 0 × ∞ is NaN. -/
def xmul : XV → XV → XV
  | .nan, _ => .nan
  | _, .nan => .nan
  | .inf a, .inf b => .inf (a != b)
  | .inf a, .fin b m _ => if m = 0 then .nan else .inf (a != b)
  | .fin a m _, .inf b => if m = 0 then .nan else .inf (a != b)
  | .fin a m e, .fin b n f => .fin (a != b) (m * n) (e + f)

/-- A signed integer at exponent `l ≤ e`. -/
def atExp (neg : Bool) (m : Nat) (e l : Int) : Int :=
  let t : Int := (m <<< (e - l).toNat : Nat)
  if neg then -t else t

/-- The exact sum; an exact zero is −0 only where both operands are −0 (R55, IEEE 754 round-to-nearest). -/
def xadd : XV → XV → XV
  | .nan, _ => .nan
  | _, .nan => .nan
  | .inf a, .inf b => if a = b then .inf a else .nan
  | .inf a, .fin _ _ _ => .inf a
  | .fin _ _ _, .inf b => .inf b
  | .fin a m e, .fin b n f =>
    let l := min e f
    let t := atExp a m e l + atExp b n f l
    if t = 0 then .fin (a && b && decide (m = 0) && decide (n = 0)) 0 0 else .fin (decide (t < 0)) t.natAbs l

def xneg : XV → XV
  | .nan => .nan
  | .inf a => .inf (!a)
  | .fin a m e => .fin (!a) m e

def XV.isNaN : XV → Bool
  | .nan => true
  | _ => false

/-- `a < b`; −0 counts as less than +0 where `zeros` is set, as FMAX and FMIN treat it (R55). NaN is never less. -/
def xlt (zeros : Bool) : XV → XV → Bool
  | .nan, _ => false
  | _, .nan => false
  | .inf a, .inf b => a && !b
  | .inf a, .fin _ _ _ => a
  | .fin _ _ _, .inf b => !b
  | .fin a m e, .fin b n f =>
    let l := min e f
    let x := atExp a m e l
    let y := atExp b n f l
    if m = 0 && n = 0 then zeros && a && !b else decide (x < y)

def xeq : XV → XV → Bool
  | .nan, _ => false
  | _, .nan => false
  | .inf a, .inf b => a == b
  | .fin a m e, .fin b n f => let l := min e f; decide (atExp a m e l = atExp b n f l)
  | _, _ => false

/-- Rounding an exact result to a float lane (R55): overflow gives the infinity and VOVF, an exact zero keeps its sign. -/
def FloatFmt.round (f : FloatFmt) : XV → Res Nat
  | .nan => ⟨f.qnan, 0⟩
  | .inf neg => ⟨f.withSign neg (f.maxCode + 1), 0⟩
  | .fin neg m e =>
    let c := f.magCode m e
    if c > f.maxCode then ⟨f.withSign neg (f.maxCode + 1), flVOVF⟩ else ⟨f.withSign neg c, 0⟩

/-- A result that is NaN though no operand was is an invalid operation (R55). -/
def finish (f : FloatFmt) (anyNaN : Bool) (x : XV) : Res Nat :=
  if anyNaN then ⟨f.qnan, 0⟩
  else if x.isNaN then ⟨f.qnan, flVINV⟩
  else f.round x

def fpAdd (f : FloatFmt) (a b : Nat) : Res Nat :=
  let x := f.decode a; let y := f.decode b
  finish f (x.isNaN || y.isNaN) (xadd x y)
def fpSub (f : FloatFmt) (a b : Nat) : Res Nat :=
  let x := f.decode a; let y := f.decode b
  finish f (x.isNaN || y.isNaN) (xadd x (xneg y))
def fpMul (f : FloatFmt) (a b : Nat) : Res Nat :=
  let x := f.decode a; let y := f.decode b
  finish f (x.isNaN || y.isNaN) (xmul x y)
def fpFma (f : FloatFmt) (a b c : Nat) : Res Nat :=
  let x := f.decode a; let y := f.decode b; let z := f.decode c
  finish f (x.isNaN || y.isNaN || z.isNaN) (xadd (xmul x y) z)

/-- max and min: a NaN operand gives the canonical NaN (R55), the zeros are ordered. -/
def fpMax (f : FloatFmt) (a b : Nat) : Res Nat :=
  let x := f.decode a; let y := f.decode b
  if x.isNaN || y.isNaN then ⟨f.qnan, 0⟩ else ⟨if xlt true x y then b else a, 0⟩
def fpMin (f : FloatFmt) (a b : Nat) : Res Nat :=
  let x := f.decode a; let y := f.decode b
  if x.isNaN || y.isNaN then ⟨f.qnan, 0⟩ else ⟨if xlt true y x then b else a, 0⟩
def fpLt (f : FloatFmt) (a b : Nat) : Bool := xlt false (f.decode a) (f.decode b)
def fpEq (f : FloatFmt) (a b : Nat) : Bool := xeq (f.decode a) (f.decode b)

/-! ## Special functions (R58), FP32 -/

/-- A value known to lie strictly between `n` and `n + 1` units of 2^e, or exactly on `n`: a form that rounds as the
true value does. -/
def stickyVal (neg : Bool) (n : Nat) (exact : Bool) (e : Int) : XV :=
  .fin neg (2 * n + (if exact then 0 else 1)) (e - 1)

/-- 1/x. The quotient carries 64 bits more than any rounding needs. -/
def sfRcp (a : Nat) : Res Nat :=
  match fmtFP32.decode a with
  | .nan => ⟨fmtFP32.qnan, 0⟩
  | .inf neg => ⟨fmtFP32.withSign neg 0, 0⟩
  | .fin neg m e =>
    if m = 0 then ⟨fmtFP32.withSign neg (fmtFP32.maxCode + 1), flVDZ⟩
    else fmtFP32.round (stickyVal neg (2 ^ 128 / m) (2 ^ 128 % m == 0) (-128 - e))

/-- Integer square root by bits from `i` down, `acc` holding the bits found. -/
def isqrtFrom (n : Nat) : Nat → Nat → Nat
  | 0, acc => acc
  | i + 1, acc => let t := acc + 2 ^ i; isqrtFrom n i (if t * t ≤ n then t else acc)
/-- Integer square root of a number below 2^256. -/
def isqrt (n : Nat) : Nat := isqrtFrom n 128 0

/-- 1/√x: with m × 2^e, e even, it is √(2^(2k)/m) × 2^(-k - e/2). -/
def sfRsqrt (a : Nat) : Res Nat :=
  match fmtFP32.decode a with
  | .nan => ⟨fmtFP32.qnan, 0⟩
  | .inf neg => if neg then ⟨fmtFP32.qnan, flVINV⟩ else ⟨0, 0⟩
  | .fin neg m e =>
    if m = 0 then ⟨fmtFP32.withSign neg (fmtFP32.maxCode + 1), flVDZ⟩
    else if neg then ⟨fmtFP32.qnan, flVINV⟩
    else
      let m2 := if e % 2 = 0 then m else 2 * m
      let e2 := if e % 2 = 0 then e else e - 1
      let q := 2 ^ 160 / m2
      let r := isqrt q
      fmtFP32.round (stickyVal false r (r * r * m2 == 2 ^ 160) (-80 - e2 / 2))

/-- Fraction bits of the fixed-point exponential (log entry 8). -/
def expFrac : Nat := 320
/-- Taylor terms of e^y in fixed point, from the term `t` of index `k` on. -/
def expTaylor (y : Nat) : Nat → Nat → Nat → Nat
  | 0, _, _ => 0
  | fuel + 1, k, t => t + expTaylor y fuel (k + 1) (((t * y) >>> expFrac) / (k + 1))
/-- Repeated squaring in fixed point. -/
def expSquare : Nat → Nat → Nat
  | 0, v => v
  | n + 1, v => expSquare n ((v * v) >>> expFrac)
/-- e^(x/2^expFrac) for a magnitude below 128, in fixed point: e^(x/256) by its series, squared eight times. -/
def expFixed (x : Nat) : Nat := expSquare 8 (expTaylor (x >>> 8) 60 0 (2 ^ expFrac))

/-- e^x. No non-zero rational x has a rational e^x, so a result that is not exactly 1 is never on a rounding boundary
(log entry 8 says how many bits are computed). Magnitudes of 128 and more overflow or vanish. -/
def sfExp (a : Nat) : Res Nat :=
  match fmtFP32.decode a with
  | .nan => ⟨fmtFP32.qnan, 0⟩
  | .inf neg => if neg then ⟨0, 0⟩ else ⟨fmtFP32.maxCode + 1, 0⟩
  | .fin neg m e =>
    if m = 0 then fmtFP32.round (.fin false 1 0)
    else if (topBit m : Int) + e ≥ 7 then (if neg then ⟨0, 0⟩ else ⟨fmtFP32.maxCode + 1, flVOVF⟩)
    else
      let v := expFixed (m <<< (e + expFrac).toNat)
      if neg then fmtFP32.round (stickyVal false (2 ^ (2 * expFrac) / v) false (-(expFrac : Int)))
      else fmtFP32.round (stickyVal false v false (-(expFrac : Int)))

/-! ## Blocks (R44) -/

/-- The exponent of the leading bit of a positive value. -/
def leadExp (m : Nat) (e : Int) : Int := (topBit m : Int) + e

/-- Compare |v| with another positive value: `m × 2^e > n × 2^f`. -/
def magGt (m : Nat) (e : Int) (n : Nat) (f : Int) : Bool :=
  let l := min e f
  decide (m <<< (e - l).toNat > n <<< (f - l).toNat)

/-- The larger magnitude of a list of values, finite ones only. -/
def maxMag : List XV → Nat × Int
  | [] => (0, 0)
  | .fin _ m e :: r => let (n, f) := maxMag r; if magGt m e n f then (m, e) else (n, f)
  | _ :: r => maxMag r

/-- Magnitude of an element rounded at exponent `l` of the last mantissa bit, as an element code (R44). Codes above the
largest mean an overflow. -/
def blockMag (mb : Nat) (m : Nat) (e : Int) : Nat :=
  if m = 0 then 0
  else
    let l := max (leadExp m e - mb) (-(mb : Int))
    ((l + mb).toNat <<< mb) + roundAt m e l

/-- Converting 32 values into one block: the element codes and the scale byte (R44). -/
def convertBlock (code : BitVec 4) (v : List XV) : Res (List Nat × Nat) :=
  let mb := blockMb code
  let maxc := 2 ^ (mb + 2) - 1
  let signBit := 2 ^ (mb + 2)
  if v.any XV.isNaN then ⟨(v.map fun _ => 0, 0xFF), flCINV⟩
  else
    let anyInf := v.any fun x => match x with | .inf _ => true | _ => false
    let mm := maxMag v
    if mm.1 = 0 && !anyInf then ⟨(v.map fun _ => 0, 0), 0⟩
    else
      let e0 := leadExp mm.1 mm.2 - 2
      let e1 := if magGt mm.1 mm.2 (if mb = 1 then 6 else 15) (e0 + (if mb = 1 then 0 else -1)) then e0 + 1 else e0
      let s : Int := if anyInf then 127 else min (max e1 (-127)) 127
      let one (x : XV) : Res Nat :=
        match x with
        | .fin neg m e =>
          if m = 0 then ⟨0, 0⟩
          else
            let c := blockMag mb m (e - s)
            let sg := if neg then signBit else 0
            if c > maxc then ⟨sg + maxc, flCOVF⟩ else ⟨sg + c, 0⟩
        | .inf neg => ⟨(if neg then signBit else 0) + maxc, 0⟩
        | .nan => ⟨0, 0⟩
      let rs := v.map one
      ⟨(rs.map Res.val, (s + 127).toNat), rs.foldl (fun f r => f ||| r.flags) (flIf anyInf flCINV)⟩

end Sys2Proof.Machine
end

