-- ==== Sys2Proof/Machine/Slots.lean ====
section
/-! DEFINITION. The encodings of a bundle and its slots (R66, R67, R71, R110), and the checks each operation's fields
must pass at load. -/
namespace Sys2Proof.Machine

/-- Reasons of a load refusal, with their codes (R98). -/
inductive LoadReason
  | header | shape | signature | keyblock | gcm | rollback | section_ | coreMap | group | format | opcode | hazard
  | control | scrub | zone | size
deriving DecidableEq, Repr

def LoadReason.code : LoadReason → Nat
  | .header => 1 | .shape => 2 | .signature => 3 | .keyblock => 4 | .gcm => 5 | .rollback => 6 | .section_ => 7
  | .coreMap => 8 | .group => 9 | .format => 10 | .opcode => 11 | .hazard => 12 | .control => 13 | .scrub => 14
  | .zone => 15 | .size => 16

/-- Bits [lo + len − 1 : lo] as a number. -/
def bitsOf {n : Nat} (w : BitVec n) (lo len : Nat) : Nat := (w.extractLsb' lo len).toNat

/-! ## Engine pairings (R49) -/

/-- Weight and activation format pair up: K columns per slice and the slice count (R49). -/
def pairing (wf af : BitVec 4) : Option (Nat × Nat) :=
  let f8 := af = 1 || af = 2
  match wf.toNat with
  | 0 => if af = 0 then some (32, 1) else none
  | 1 => if f8 then some (32, 1) else none
  | 2 => if f8 then some (32, 1) else none
  | 3 => if f8 then some (32, 4) else none
  | 4 => if f8 then some (64, 2) else none
  | 5 => if af = 5 then some (16, 1) else none
  | 6 => if af = 6 then some (16, 1) else none
  | _ => none

/-- Activation bytes a slice takes: 32, or 64 for BS4 (R51). -/
def actBytes (wf : BitVec 4) : Nat := if wf = 4 then 64 else 32

/-- Format codes above 0x9 are reserved (R26). -/
def fmtReserved (f : BitVec 4) : Bool := decide (f.toNat > 9)

/-- MMV's fields: a reserved format code is FORMAT, an unpaired format, a slice or an offset out of range is OPCODE
(R26, R49, R51). -/
def checkMmv (f : MmvF) : Option LoadReason :=
  if fmtReserved f.wfmt || fmtReserved f.afmt then some .format
  else
    match pairing f.wfmt f.afmt with
    | none => some .opcode
    | some (_, slices) =>
      if f.slice.toNat ≥ slices then some .opcode
      else if 32 * f.aofs.toNat + actBytes f.wfmt > 16384 then some .opcode
      else none

def checkE : EOp → Option LoadReason
  | .nop => none
  | .mmv f => checkMmv f
  | .spec _ _ t => if specOk t then none else some .format
  | .zero _ _ => none

/-! ## M slots -/

/-- Coordinates of a cluster on its die (R101). -/
def meshX (c : Nat) : Nat := c % 4
def meshY (c : Nat) : Nat := (c % 16) / 4
/-- Mesh hops between clusters of one die (R102). -/
def meshHops (c d : Nat) : Nat :=
  (if meshX c ≥ meshX d then meshX c - meshX d else meshX d - meshX c) +
  (if meshY c ≥ meshY d then meshY c - meshY d else meshY d - meshY c)

/-- What an M slot's fields must satisfy besides the encoding: lines inside the buffers (HAZARD, R64), ESA lines inside
the slot (OPCODE, R110). The rule for PST needs the issuing cluster (`checkPst`). -/
def checkM : MOp → Option LoadReason
  | .tld a bline _ _ => if bline.toNat + a.len.toNat > 24 then some .hazard else none
  | .ald a aline _ => if aline.toNat + a.len.toNat > 127 then some .hazard else none
  | .esa a _ _ _ sofs => if a.len.toNat > 1 || sofs.toNat + a.len.toNat > 15 then some .opcode else none
  | _ => none

/-- A PST from cluster `c` (0-15 of its die) whose route has a mesh hop moves at most two lines (R110). -/
def checkPst (c : Nat) : MOp → Option LoadReason
  | .pst a _ _ dcl _ _ => if meshHops c dcl.toNat ≥ 1 && a.len.toNat > 1 then some .opcode else none
  | _ => none

/-- An M slot (R66, R110); `none` where the loader refuses it with reason OPCODE. -/
def decodeM (w : BitVec 40) : Option MOp :=
  let a : MAddr := ⟨w.extractLsb' 4 4, w.extractLsb' 8 12, w.extractLsb' 20 3, w.getLsbD 23⟩
  let z lo := bitsOf w lo (40 - lo) = 0
  match bitsOf w 0 4 with
  | 0 => if w = 0 then some .nop else none
  | 1 => if z 29 then some (.vld a (w.extractLsb' 24 5)) else none
  | 2 => if z 29 then some (.vst a (w.extractLsb' 24 5)) else none
  | 3 => if z 34 then some (.tld a (w.extractLsb' 24 5) (w.extractLsb' 29 4) (w.getLsbD 33)) else none
  | 4 => if z 35 then some (.ald a (w.extractLsb' 24 7) (w.extractLsb' 31 4)) else none
  | 5 => if z 29 then some (.tst a (w.extractLsb' 24 3) (w.extractLsb' 27 2)) else none
  | 6 => if z 29 then some (.tla a (w.extractLsb' 24 3) (w.extractLsb' 27 2)) else none
  | 7 => if z 23 then some (.arset (w.extractLsb' 4 4) (w.extractLsb' 8 15)) else none
  | 8 => if z 39 then some (.pld a (w.extractLsb' 24 2) (w.getLsbD 26) (w.extractLsb' 27 12)) else none
  | 9 =>
    if z 39 then
      some (.pst a (w.extractLsb' 24 2) (w.getLsbD 26) (w.extractLsb' 27 4) (w.getLsbD 31) (w.extractLsb' 32 7))
    else none
  | 10 =>
    if z 35 then
      some (.esa a (w.extractLsb' 24 5) (w.getLsbD 29) (w.getLsbD 30) (w.extractLsb' 31 4))
    else none
  | 11 => if z 24 && bitsOf w 6 2 = 0 then some (.prset (w.extractLsb' 4 2) (w.extractLsb' 8 16)) else none
  | _ => none

/-- An E slot (R66). -/
def decodeE (w : BitVec 40) : Option EOp :=
  let z lo := bitsOf w lo (40 - lo) = 0
  match bitsOf w 0 4 with
  | 0 => if w = 0 then some .nop else none
  | 1 =>
    if z 32 then
      some (.mmv ⟨w.extractLsb' 4 4, w.getLsbD 8, w.extractLsb' 9 2, w.extractLsb' 11 3, w.getLsbD 14,
        w.extractLsb' 15 9, w.extractLsb' 24 4, w.extractLsb' 28 4⟩)
    else none
  | 2 => if z 27 then some (.spec (w.extractLsb' 4 4) (w.extractLsb' 8 3) (w.extractLsb' 11 16)) else none
  | 3 => if z 16 then some (.zero (w.extractLsb' 4 4) (w.extractLsb' 8 8)) else none
  | _ => none

/-! ## V and S slots -/

/-- The operation of a V code (R56). -/
def vCode? : Nat → Option VCode
  | 0x01 => some .fadd | 0x02 => some .fsub | 0x03 => some .fmul | 0x04 => some .fma | 0x05 => some .fmax
  | 0x06 => some .fmin | 0x07 => some .fcmplt | 0x08 => some .fcmpeq | 0x09 => some .sel | 0x0A => some .fabs
  | 0x0B => some .fneg | 0x0C => some .fred | 0x0D => some .fredmax
  | 0x10 => some .cvt | 0x11 => some .tcvt | 0x12 => some .tpack | 0x13 => some .tadd | 0x14 => some .treq
  | 0x15 => some .tfrom | 0x16 => some .iadd | 0x17 => some .isub | 0x18 => some .iand | 0x19 => some .ior
  | 0x1A => some .ixor | 0x1B => some .ishl | 0x1C => some .isra | 0x1D => some .movi | 0x1E => some .movf
  | 0x1F => some .perm
  | _ => none

/-- Latency L in beats (R56). -/
def vLatency : VCode → Nat
  | .fadd | .fsub | .fmul | .fma => 4
  | .fmax | .fmin | .fcmplt | .fcmpeq => 2
  | .sel | .fabs | .fneg => 1
  | .fred => 8 | .fredmax => 6
  | .cvt | .tcvt => 3 | .tpack => 4 | .tadd => 2 | .treq | .tfrom => 3
  | .iadd | .isub | .iand | .ior | .ixor | .ishl | .isra | .movi | .movf => 1
  | .perm => 2
/-- Latency of an S operation (R58). -/
def sLatency : Nat := 12

/-- Bytes of a chunk end inside the register: n elements of `w` bits at chunk `part` (R57). -/
def chunkFits (part : BitVec 2) (n w : Nat) : Bool := decide ((part.toNat + 1) * n * w ≤ 2048)
/-- Elements a tally specification gives per register (R57). -/
def tallyCount (wide : Bool) : Nat := if wide then 16 else 32

/-- Which fields of a V slot the operation uses: vb, vc, slotk, imm, fmt, part, bf (R56, R57, R66). va is used by all
but MOVI and MOVF. -/
def vUses : VCode → (Bool × Bool × Bool × Bool × Bool × Bool × Bool)
  | .fadd | .fsub | .fmul | .fmax | .fmin | .fcmplt | .fcmpeq => (true, false, false, false, false, false, true)
  | .fma | .sel => (true, true, false, false, false, false, true)
  | .fabs | .fneg => (false, false, false, false, false, false, true)
  | .fred | .fredmax => (false, false, false, false, false, false, false)
  | .cvt => (false, false, false, true, true, true, false)
  | .tcvt => (false, false, false, true, true, true, false)
  | .tpack => (true, true, true, true, true, true, false)
  | .tadd => (true, false, false, true, false, false, false)
  | .treq => (false, false, false, true, false, true, false)
  | .tfrom => (false, false, false, true, true, true, false)
  | .iadd | .isub | .iand | .ior | .ixor => (true, false, false, false, false, false, false)
  | .ishl | .isra => (false, false, false, true, false, false, false)
  | .movi | .movf => (false, false, false, true, false, false, false)
  | .perm => (true, false, false, false, false, false, false)

/-- Unused fields are 0 (R66). -/
def vUnusedZero (c : VCode) (f : VFields) : Bool :=
  let (b, vc, k, i, fm, p, bf) := vUses c
  (b || f.vb == 0) && (vc || f.vc == 0) && (k || f.slotk == 0) && (i || f.imm == 0) && (fm || f.fmt == 0) &&
    (p || f.part == 0) && (bf || !f.bf) && ((c != .movi && c != .movf) || f.va == 0)

/-- The format rules of the conversions and the ranges of their operands (R57): FORMAT for a reserved format code or
an illegal specification, OPCODE otherwise. -/
def checkV (c : VCode) (f : VFields) : Option LoadReason :=
  if !vUnusedZero c f then some .opcode
  else
    match c with
    | .cvt =>
      let src := f.imm.extractLsb' 0 4
      if fmtReserved f.fmt || fmtReserved src then some .format
      else if f.imm.extractLsb' 4 12 != 0 then some .opcode
      else
        let ws := scalarBits src; let wd := scalarBits f.fmt
        if ws = 0 || wd = 0 then some .opcode
        else if !chunkFits f.part 64 (min ws wd) then some .opcode
        else none
    | .tcvt | .tfrom =>
      if fmtReserved f.fmt || !specOk f.imm then some .format
      else
        let w := scalarBits f.fmt
        if w = 0 then some .opcode
        else if !chunkFits f.part (tallyCount (specWide f.imm)) w then some .opcode
        else none
    | .tpack =>
      if fmtReserved f.fmt || !specOk f.imm then some .format
      else if f.fmt = 4 then none
      else if f.fmt = 3 then (if f.slotk.toNat > 9 then some .opcode else none)
      else some .opcode
    | .tadd => if specOk f.imm then none else some .format
    | .treq =>
      if f.imm.extractLsb' 12 4 != 0 then some .opcode
      else
        let ws := f.imm.getLsbD 10; let wd := f.imm.getLsbD 11
        if ws = wd then (if f.part = 0 then none else some .opcode)
        else if chunkFits f.part 16 64 then none else some .opcode
    | .ishl | .isra => if f.imm.extractLsb' 5 11 != 0 then some .opcode else none
    | _ => none

/-- A V slot (R66). -/
def decodeV (w : BitVec 56) : Option VOp :=
  if w = 0 then some .nop
  else if bitsOf w 53 3 ≠ 0 then none
  else
    match vCode? (bitsOf w 0 6) with
    | none => none
    | some c =>
      some (.op c ⟨w.extractLsb' 6 5, w.extractLsb' 11 5, w.extractLsb' 16 5, w.extractLsb' 21 5, w.extractLsb' 26 4,
        w.extractLsb' 30 16, w.extractLsb' 46 4, w.extractLsb' 50 2, w.getLsbD 52⟩)

/-- An S slot (R66). -/
def decodeS (w : BitVec 24) : Option SOp :=
  if w = 0 then some .nop
  else if bitsOf w 16 8 ≠ 0 then none
  else
    match bitsOf w 0 4 with
    | 1 => some (.op .exp (w.extractLsb' 4 5) (w.extractLsb' 9 5) (w.extractLsb' 14 2))
    | 2 => some (.op .rcp (w.extractLsb' 4 5) (w.extractLsb' 9 5) (w.extractLsb' 14 2))
    | 3 => some (.op .rsqrt (w.extractLsb' 4 5) (w.extractLsb' 9 5) (w.extractLsb' 14 2))
    | _ => none

/-! ## Control slot (R71) -/

/-- The control slot: the SCRUB bit and the operation. -/
def decodeC (w : BitVec 56) : Option (Bool × COp) :=
  let z lo := bitsOf w lo (56 - lo) = 0
  let sc := w.getLsbD 6
  if w.getLsbD 7 then none
  else
    match bitsOf w 0 6 with
    | 0 => if z 8 then some (sc, .nop) else none
    | 1 => if z 19 then some (sc, .jmp (w.extractLsb' 8 11)) else none
    | 2 => if z 35 then some (sc, .loop (w.extractLsb' 8 11) (w.extractLsb' 19 16)) else none
    | 3 => if z 8 then some (sc, .halt) else none
    | 4 => if z 47 then some (sc, .kwait (w.extractLsb' 8 6) (w.getLsbD 14) (w.extractLsb' 15 32)) else none
    | 5 => if z 30 && bitsOf w 14 16 ≠ 0 then some (sc, .ksig (w.extractLsb' 8 6) (w.extractLsb' 14 16)) else none
    | 6 => if z 46 then some (sc, .kset (w.extractLsb' 8 6) (w.extractLsb' 14 32)) else none
    | 7 => if z 16 then some (sc, .lzopen (w.extractLsb' 8 8)) else none
    | 8 => if z 16 then some (sc, .lzclose (w.extractLsb' 8 8)) else none
    | 9 => if z 13 then some (sc, .flagmv (w.extractLsb' 8 5)) else none
    | 10 => if z 15 then some (sc, .flagclr (w.extractLsb' 8 7)) else none
    | 11 => if z 22 && bitsOf w 10 12 ≠ 0 then some (sc, .shkick (w.extractLsb' 8 2) (w.extractLsb' 10 12)) else none
    | 12 => if z 8 then some (sc, .bound) else none
    | _ => none

/-- The six slots of a bundle (R67); a slot that no loaded draft can hold reads as NOP. -/
def decodeBundle (w : BitVec 256) : Bundle :=
  let c := (decodeC (w.extractLsb' 0 56)).getD (false, .nop)
  { scrub := c.1, c := c.2
    m0 := (decodeM (w.extractLsb' 56 40)).getD .nop
    m1 := (decodeM (w.extractLsb' 96 40)).getD .nop
    e := (decodeE (w.extractLsb' 136 40)).getD .nop
    v := (decodeV (w.extractLsb' 176 56)).getD .nop
    s := (decodeS (w.extractLsb' 232 24)).getD .nop }

/-! ## Encoders: the words that the tables of R56, R58, R66, R71 and R110 give the operations -/

/-- The number whose fields, the lowest first, have these widths and values. -/
def fieldsNat : List (Nat × Nat) → Nat
  | [] => 0
  | (w, v) :: r => v % 2 ^ w + 2 ^ w * fieldsNat r
/-- Bits [23:4] of an M slot with an address: AR, OFFSET, LEN, INC (R66). -/
def encodeAddr (a : MAddr) : List (Nat × Nat) := [(4, a.ar.toNat), (12, a.offset.toNat), (3, a.len.toNat), (1, a.inc.toNat)]
/-- The fields of an M slot (R66, R110). -/
def fieldsM : MOp → List (Nat × Nat)
  | .nop => []
  | .vld a v => (4, 1) :: (encodeAddr a ++ [(5, v.toNat)])
  | .vst a v => (4, 2) :: (encodeAddr a ++ [(5, v.toNat)])
  | .tld a l m b => (4, 3) :: (encodeAddr a ++ [(5, l.toNat), (4, m.toNat), (1, b.toNat)])
  | .ald a l m => (4, 4) :: (encodeAddr a ++ [(7, l.toNat), (4, m.toNat)])
  | .tst a set eng => (4, 5) :: (encodeAddr a ++ [(3, set.toNat), (2, eng.toNat)])
  | .tla a set eng => (4, 6) :: (encodeAddr a ++ [(3, set.toNat), (2, eng.toNat)])
  | .arset ar v => [(4, 7), (4, ar.toNat), (15, v.toNat)]
  | .pld a pr pinc pofs => (4, 8) :: (encodeAddr a ++ [(2, pr.toNat), (1, pinc.toNat), (12, pofs.toNat)])
  | .pst a pr pinc dcl ddie pofs =>
    (4, 9) :: (encodeAddr a ++ [(2, pr.toNat), (1, pinc.toNat), (4, dcl.toNat), (1, ddie.toNat), (7, pofs.toNat)])
  | .esa a sl first wide sofs =>
    (4, 10) :: (encodeAddr a ++ [(5, sl.toNat), (1, first.toNat), (1, wide.toNat), (4, sofs.toNat)])
  | .prset pr v => [(4, 11), (2, pr.toNat), (2, 0), (16, v.toNat)]
def encodeM (op : MOp) : BitVec 40 := BitVec.ofNat 40 (fieldsNat (fieldsM op))
/-- The fields of an E slot (R66). -/
def fieldsE : EOp → List (Nat × Nat)
  | .nop => []
  | .mmv f =>
    [(4, 1), (4, f.mask.toNat), (1, f.buf.toNat), (2, f.slice.toNat), (3, f.set.toNat), (1, f.clr.toNat), (9, f.aofs.toNat),
      (4, f.wfmt.toNat), (4, f.afmt.toNat)]
  | .spec mask set t => [(4, 2), (4, mask.toNat), (3, set.toNat), (16, t.toNat)]
  | .zero mask sets => [(4, 3), (4, mask.toNat), (8, sets.toNat)]
def encodeE (op : EOp) : BitVec 40 := BitVec.ofNat 40 (fieldsNat (fieldsE op))
/-- The code of a V operation (R56). -/
def vCodeNat : VCode → Nat
  | .fadd => 0x01 | .fsub => 0x02 | .fmul => 0x03 | .fma => 0x04 | .fmax => 0x05 | .fmin => 0x06 | .fcmplt => 0x07
  | .fcmpeq => 0x08 | .sel => 0x09 | .fabs => 0x0A | .fneg => 0x0B | .fred => 0x0C | .fredmax => 0x0D | .cvt => 0x10
  | .tcvt => 0x11 | .tpack => 0x12 | .tadd => 0x13 | .treq => 0x14 | .tfrom => 0x15 | .iadd => 0x16 | .isub => 0x17
  | .iand => 0x18 | .ior => 0x19 | .ixor => 0x1A | .ishl => 0x1B | .isra => 0x1C | .movi => 0x1D | .movf => 0x1E
  | .perm => 0x1F
/-- The fields of a V slot (R66). -/
def fieldsV : VOp → List (Nat × Nat)
  | .nop => []
  | .op c f =>
    [(6, vCodeNat c), (5, f.vd.toNat), (5, f.va.toNat), (5, f.vb.toNat), (5, f.vc.toNat), (4, f.slotk.toNat),
      (16, f.imm.toNat), (4, f.fmt.toNat), (2, f.part.toNat), (1, f.bf.toNat)]
def encodeV (op : VOp) : BitVec 56 := BitVec.ofNat 56 (fieldsNat (fieldsV op))
/-- The code of an S operation (R58). -/
def sCodeNat : SCode → Nat
  | .exp => 1 | .rcp => 2 | .rsqrt => 3
/-- The fields of an S slot (R66). -/
def fieldsS : SOp → List (Nat × Nat)
  | .nop => []
  | .op c vd va q => [(4, sCodeNat c), (5, vd.toNat), (5, va.toNat), (2, q.toNat)]
def encodeS (op : SOp) : BitVec 24 := BitVec.ofNat 24 (fieldsNat (fieldsS op))
/-- COP and the fields of a control operation (R71). -/
def fieldsC : COp → Nat × List (Nat × Nat)
  | .nop => (0, [])
  | .jmp t => (1, [(11, t.toNat)])
  | .loop e n => (2, [(11, e.toNat), (16, n.toNat)])
  | .halt => (3, [])
  | .kwait k c n => (4, [(6, k.toNat), (1, c.toNat), (32, n.toNat)])
  | .ksig k n => (5, [(6, k.toNat), (16, n.toNat)])
  | .kset k v => (6, [(6, k.toNat), (32, v.toNat)])
  | .lzopen z => (7, [(8, z.toNat)])
  | .lzclose z => (8, [(8, z.toNat)])
  | .flagmv v => (9, [(5, v.toNat)])
  | .flagclr m => (10, [(7, m.toNat)])
  | .shkick ch n => (11, [(2, ch.toNat), (12, n.toNat)])
  | .bound => (12, [])
/-- The control slot with its SCRUB bit (R71). -/
def encodeC (scrub : Bool) (op : COp) : BitVec 56 :=
  BitVec.ofNat 56 (fieldsNat ((6, (fieldsC op).1) :: (1, scrub.toNat) :: (1, 0) :: (fieldsC op).2))
/-- A control operation that R71 encodes: KSIG and SHKICK have a count above 0. -/
def cLegal : COp → Bool
  | .ksig _ n => n != 0
  | .shkick _ n => n != 0
  | _ => true
/-- A bundle (R67): the control slot in bits [55:0], then M0, M1, E, V and S. -/
def encodeBundle (b : Bundle) : BitVec 256 :=
  BitVec.ofNat 256 (fieldsNat [(56, (encodeC b.scrub b.c).toNat), (40, (encodeM b.m0).toNat), (40, (encodeM b.m1).toNat),
    (40, (encodeE b.e).toNat), (56, (encodeV b.v).toNat), (24, (encodeS b.s).toNat)])

end Sys2Proof.Machine
end

