-- ==== Sys2Proof/Machine/State.lean ====
section
/-! DEFINITION. The state of the block as plain data, its faults and refusals, and the state after reset. -/
namespace Sys2Proof.Machine

/-- The block never stops a run: every event of the manual is a next state. -/
inductive Fault
  /-- Raised by no meaning; it stands here because the interface asks for a fault type. Safe. -/
  | none
deriving DecidableEq, Repr

/-- Reasons to refuse a command. -/
inductive Refusal
  /-- An arm of `exec` without a meaning; raised by `exec` alone. Safe. -/
  | notModelled (mnemonic : String)
  /-- A slot operation whose fields the manual calls an illegal encoding, which no loaded draft holds (R66, R98): raised
  by the meanings of the slot operations. Safe. -/
  | illegalEncoding
deriving DecidableEq, Repr

/-! ## Cores (R48, R56, R61, R70, R74) -/

/-- A loop record: the LOOP bundle's index, END, and iterations still to come (R70). -/
structure LoopRec where
  start : Nat
  endIx : Nat
  left : Nat
deriving DecidableEq, Repr

/-- A result that lands later: what it writes (R56, R63). Vector writes carry the mask of the bits they write. -/
inductive FlightAct
  | vreg (reg : Nat) (mask val : VReg)
  | tile (key : Nat) (line : Line)
  | act (key : Nat) (line : Line)
  | acc (key : Nat) (n : Nat) (lines : List Line)
  | flags (f : BitVec 7)
  | zopen (z : BitVec 8)
deriving DecidableEq, Repr

/-- A result in flight: the beat count from which it is visible. -/
structure Flight where
  due : Nat
  act : FlightAct
deriving DecidableEq, Repr

/-- What a static scratchpad access does with its lines (R63, R111). -/
inductive AccKind
  | vld (v : Nat)
  | tld (bline mask : Nat) (buf : Bool)
  | ald (aline mask : Nat)
  | tla (set eng : Nat)
  | pst (dst : Nat) (pline : Nat)
  | esa (slot : Nat) (first wide : Bool) (sofs : Nat)
  | write (data : List Line)
  | scrub
deriving DecidableEq, Repr

/-- A static access waiting for its bank beat: the count of the beat, the count and M slot of its issue, its first
line and its number of lines (R61). -/
structure BankAcc where
  beat : Nat
  issued : Nat
  slot : Nat
  line : Nat
  n : Nat
  pld : Bool
  kind : AccKind
deriving DecidableEq, Repr

/-- What waits at an endpoint (R82, R107, R296): an arrival without a fabric request, a fabric request that has passed its
checks, a duplicate to be answered from memory (R230), or a reply with the shuttle channel and ring slot it belongs to and
the unit of a MOVE. -/
inductive LandEnt
  | acc (a : LandAcc)
  | req (a : Arrival)
  | dup (a : Arrival)
  | reply (addr : Nat) (data : List Byte) (core ch slot : Nat) (unit : Option Nat)
deriving DecidableEq, Repr

/-- The context state of a core (R48, R70). Keys: registers by number; tile lines by (engine × 2 + buffer) × 25 + line;
activation lines by engine × 128 + line; accumulator sets by engine × 8 + set. -/
structure Core where
  ar : Tab (BitVec 15)
  pr : Tab (BitVec 16)
  vr : Tab VReg
  wb : Tab Line
  ab : Tab Line
  acc : Tab (BitVec 4096)
  spec : Tab (BitVec 16)
  loops : List LoopRec
  flight : List Flight
  banks : List BankAcc
  /-- flags that arrived with count `freshAt` (R42, R85) -/
  fresh : BitVec 7
  freshAt : Nat
  /-- length of the current run of held beats (R89) -/
  holdRun : Nat
  /-- landing buffer and reply store, oldest first (R82) -/
  lbuf : List LandEnt
  /-- number of bundles in the core's draft store; 0 without a core record -/
  bundles : Nat
deriving DecidableEq, Repr

def Core.reset : Core :=
  { ar := [], pr := [], vr := [], wb := [], ab := [], acc := [], spec := [], loops := [], flight := [], banks := [],
    fresh := 0, freshAt := 0, holdRun := 0, lbuf := [], bundles := 0 }

/-- A wait on a knot (R74): issuer, count n, knot, threshold, consume, the wall beat of issue, and
the wall beat of its success, once it has succeeded and awaits its release (R76). -/
structure Wait where
  core : Nat
  count : Nat
  knot : Nat
  thr : Nat
  consume : Bool
  since : Nat
  succ : Option Nat
deriving DecidableEq, Repr

/-- A weave group (R75, R76, R87, R88, R100): its clusters and edge slots, its partition, the issue beats it has made, its
waits, the count at which a fault or a DRAFT_STOP stops it, whether it is a DRAFT_STOP, and whether it has halted. -/
structure Grp where
  clusters : BitVec 32
  slots : BitVec 32
  part : Nat
  count : Nat
  waits : List Wait
  stop : Option Nat
  draining : Bool
  halted : Bool
deriving DecidableEq, Repr

def Grp.none : Grp :=
  { clusters := 0, slots := 0, part := 0, count := 0, waits := [], stop := Option.none, draining := false, halted := false }

/-! ## Clusters and pairs (R73, R103, R106, R113) -/

/-- What happened to a knot in the current wall beat (R73): KSETs and KSIGs with their cores, 1 + the greatest beat count of
its KSIGs (R270), the sum consumed, the sum of outside increments. -/
structure KnotPend where
  sets : List (Nat × Nat)
  sigs : List (Nat × Nat)
  sigBeat : Nat
  consumed : Nat
  outside : Nat
deriving DecidableEq, Repr

def KnotPend.none : KnotPend := { sets := [], sigs := [], sigBeat := 0, consumed := 0, outside := 0 }

/-- A static claimant of pool banks (R106): bank beat, issuer, M slot, the issuer's scratchpad line and count, pool line
and number of lines; a PLD read, or the lines a PST writes. -/
structure PoolOp where
  beat : Nat
  core : Nat
  slot : Nat
  spline : Nat
  issued : Nat
  pline : Nat
  n : Nat
  write : Option (List Line)
  cluster : Nat
deriving DecidableEq, Repr

/-- A pool's port and scrub pass (R107, R108): the tick at which the running pass began, the banks whose rows it has all
checked, as a mask; 1 + the pair beat in which the port last used each bank; the accesses that wait at the port for a free
bank, in the order of their arrival; replies that wait for one; atomics that have read their element and wait for a bank
to write it, with the old value (R215). -/
structure PoolSide where
  pass : Nat
  swept : Nat
  used : Tab Nat
  wait : List PoolAcc
  reps : List LandEnt
  atoms : List (Arrival × Nat)
deriving DecidableEq, Repr

def PoolSide.reset : PoolSide := { pass := 0, swept := 0, used := [], wait := [], reps := [], atoms := [] }

/-- Where a static transfer ends (R103): a pool, or an edge slot's input. -/
inductive XferEnd
  | pool (cluster pline : Nat)
  | slot (slot : Nat) (first wide : Bool) (sofs : Nat)
deriving DecidableEq, Repr

/-- A static transfer (R102, R103): issuer, M slot, its scratchpad line and count, the lines carried, and the claims
still to be made, each a count and a resource. -/
structure Xfer where
  core : Nat
  slot : Nat
  spline : Nat
  issued : Nat
  data : List Line
  claims : List (Nat × Nat)
  dest : XferEnd
deriving DecidableEq, Repr

/-- A contribution that has reached an edge slot (R114). -/
structure SlotIn where
  beat : Nat
  slot : Nat
  first : Bool
  wide : Bool
  sofs : Nat
  data : List Line
deriving DecidableEq, Repr

/-- What a pair holds besides its registers: transfers in flight, slot inputs, slot lines (slot × 16 + line), their
recorded widths (1 = TL64, 2 = TL128), gear-change state (R122) and per-cluster margin monitors (R121). -/
structure Pair where
  xfers : List Xfer
  slotIn : List SlotIn
  slotLine : Tab Line
  slotWidth : Tab Nat
  changing : Bool
  /-- a downshift has taken effect and its lower voltage is still to be asked for (R121, R122) -/
  lower : Bool
  monReq : Tab Nat
  monCalm : Tab Nat
  /-- held slot lines that a static contribution has met (R278) -/
  overlaps : List Nat
  /-- static contributions performed: line, slot beat, the line before it, oldest first (R270) -/
  slotHist : List (Nat × Nat × Line)
  /-- 1 + the pair beat in which the Loom inputs last took lines, and the lines they took in it (R277) -/
  loomBeat : Nat
  loomLines : List Nat
deriving DecidableEq, Repr

def Pair.reset : Pair :=
  { xfers := [], slotIn := [], slotLine := [], slotWidth := [], changing := false, lower := false,
    monReq := [], monCalm := [], overlaps := [], slotHist := [], loomBeat := 0, loomLines := [] }

/-! ## Partitions (R95, R343) and records (R376 to R380) -/

/-- Draft state of a partition (R95). -/
inductive DState | empty | loaded | running | halted | faulted
deriving DecidableEq, Repr

/-- A core record the Heddle keeps with the loaded draft (R92, R99). -/
structure CoreRec where
  core : Nat
  bundles : Nat
  entry : Nat
  zones : List (BitVec 32)
  zopen : BitVec 8
deriving DecidableEq, Repr

/-- A partition (R343): first pair and number of pairs, domain, bulk region, draft state, the loaded draft's records
(R99), cores whose fault has not yet stopped the partition (R88), the reset level a FAULTED partition asks for (R384:
0 CONTEXT, 1 DIE, 2 WARM), whether a BOUND was issued since DRAFT_START, and whether a stop of its groups is under way
(R100). -/
structure Part where
  first : Nat
  pairs : Nat
  domain : BitVec 16
  bulkBase : Nat
  bulkGib : Nat
  state : DState
  cores : List CoreRec
  groups : List (List (BitVec 32 × BitVec 32))
  knots : List (Nat × Nat × Nat)
  origins : List Nat
  level : Nat
  bounded : Bool
  stopping : Bool
  /-- the loaded image is encrypted (R409); its DRAFT_ID -/
  enc : Bool
  draftId : BitVec 64
  /-- the fault record that took the partition to FAULTED, while its dump is to be written (R390) -/
  dump : Option (FaultRec × Option Nat)
deriving DecidableEq, Repr

/-! ## Warp plane (R128 to R132, R254) -/

/-- A packet a site is to send to another: the waveguide its search starts from (R128). -/
structure WOffer where
  start : Nat
  pk : Pkt
deriving DecidableEq, Repr

/-- A packet sent and not acknowledged: PSEQ, times sent, the last waveguide, and whether a replay is due (R132). -/
structure WSent where
  pseq : Nat
  off : WOffer
  tries : Nat
  last : Nat
  again : Bool
deriving DecidableEq, Repr

/-- The sending side of a site pair (R131, R132, R254): packets not yet accepted for want of credit, the endpoint whose
packet was accepted last, the queue with its PSEQs, unacknowledged packets in the order of their last sending, the next
PSEQ, credits received and spent by virtual channel, and the tick of the last CRC failure reported on each waveguide,
plus one. -/
structure WarpTx where
  offer : List WOffer
  last : Nat
  queue : List (Nat × WOffer)
  sent : List WSent
  seq : Nat
  got : Tab Nat
  spent : Tab Nat
  badAt : Tab Nat
deriving DecidableEq, Repr

def WarpTx.reset : WarpTx := { offer := [], last := 0, queue := [], sent := [], seq := 0, got := [], spent := [], badAt := [] }

/-- The receiving side (R130, R131, R252, R254): the next PSEQ to deliver; packets held behind a missing one, with the
waveguide each came on; an acknowledgement owed; the waveguide of a CRC failure to report; by virtual channel the flits
in the buffer, those of them that came before PSEQ last restarted, and the flits that have left it; credits announced;
and the virtual channel named last. -/
structure WarpRx where
  next : Nat
  held : List (Nat × Nat × Pkt)
  owe : Bool
  seen : Bool
  nak : Option Nat
  buf : Tab Nat
  old : Tab Nat
  freed : Tab Nat
  told : Tab Nat
  turn : Nat
deriving DecidableEq, Repr

def WarpRx.reset : WarpRx :=
  { next := 0, held := [], owe := false, seen := false, nak := none, buf := [], old := [], freed := [], told := [], turn := 0 }

/-! ## Optics (R149 to R174) -/

/-- A ring (R153, R154, R173): heater code, LOCK (0 unlocked, 1 locked, 2 searching, 3 failed), STALE, monitor power,
the locked monitor value, consecutive low iterations, the census's second occurrence, DAC mode; the side of a drop ring's
probe, and the line a ring serves where that is not its own (R155). -/
structure Ring where
  heater : Nat
  lock : Nat
  stale : Bool
  mon : Int
  ref : Int
  low : Nat
  second : Option Nat
  dac : Bool
  probe : Bool
  line : Option Nat
deriving DecidableEq, Repr

def Ring.reset : Ring :=
  { heater := 0, lock := 0, stale := false, mon := 0, ref := 0, low := 0, second := none, dac := false, probe := false, line := none }

/-- A lane (R151 to R172): whether it carries traffic, and the reasons that hold it out of service: bit 0 ring unlocked
or failed, 1 input DARK, 2 flooded, 3 recalibration, 4 a check failed, 5 BER limit, 6 masked (R132), 7 DAC mode (R159). For a weft lane also
whether its circuit's lane mask still shows the state before the last change of these reasons, and the FSEQ named for the
step of the mask (R155). -/
structure Lane where
  insv : Bool
  out : BitVec 8
  late : Bool
  stepAt : Option Nat
deriving DecidableEq, Repr

def Lane.reset : Lane := { insv := false, out := 0, late := false, stepAt := none }
/-- A weft lane stands in its circuit's lane mask. -/
def Lane.active (l : Lane) : Bool := decide (l.out = 0) != l.late

/-- A phase switch of a partition (R141 to R143): under way or not, the slot asked for, the slot being applied, the slot in force before,
whether this is the rollback, who asked (`none`: a verification the Loom began itself), the queued request, and the ticks
in which the switch started and the request was queued. -/
structure Switch where
  on : Bool
  want : Nat
  target : Nat
  old : Nat
  roll : Bool
  asker : Option Bool
  queue : Option (Nat × Bool)
  from_ : Nat
  qFrom : Nat
deriving DecidableEq, Repr

def Switch.none : Switch :=
  { on := false, want := 0, target := 0, old := 0, roll := false, asker := Option.none, queue := Option.none,
    from_ := 0, qFrom := 0 }

/-! ## Bulk memory (R287 to R306) -/

/-- The last corrected error of a line (R301): when, whether the line was written back, and its symbols. -/
structure CorrRec where
  tick : Nat
  back : Bool
  pos : List (Nat × Nat)
deriving DecidableEq, Repr

def CorrRec.none : CorrRec := { tick := 0, back := false, pos := [] }

/-- A standing unit sent and not acknowledged (R298). -/
structure UnitSent where
  useq : Nat
  hdr : StandUnit
  gran : List Flit
  tries : Nat
deriving DecidableEq, Repr

/-- One end of a standing circuit (R298): the next USEQ, unacknowledged units, the next USEQ expected, credits granted
and spent, whether it drops frames until an idle frame, and 1 + the tick from which it owes an acknowledgement (0 none). -/
structure CircEnd where
  seq : Nat
  sent : List UnitSent
  next : Nat
  got : Nat
  spent : Nat
  told : Nat
  seen : Bool
  drop : Bool
  owe : Nat
deriving DecidableEq, Repr

def CircEnd.reset : CircEnd :=
  { seq := 0, sent := [], next := 0, got := 0, spent := 0, told := 0, seen := false, drop := false, owe := 0 }

/-- A command unit of pair `pair` that waits at a controller (R295, R296): it, its granules, and what the line reads as. -/
structure UnitWait where
  pair : Nat
  hdr : StandUnit
  gran : List Flit
  dram : DramRead
deriving DecidableEq, Repr

/-- A weft transmit waveguide (R163): the next FSEQ, and the last 58 bits sent on each lane, by wavelength. -/
structure WeftTx where
  fseq : Nat
  scr : Tab Nat
deriving DecidableEq, Repr

def WeftTx.reset : WeftTx := { fseq := 0, scr := [] }

/-- A bulk controller beside its registers: the input served last (0 warp, 1 + p the circuit of STp), the commands that
wait, oldest first (R295), the physical pseudo-channel of each logical one (R287), and internal accesses to unused lines
refused (R289). -/
structure BulkCtl where
  last : Nat
  wait : List UnitWait
  pcMap : List Nat
  refused : Nat
deriving DecidableEq, Repr

def BulkCtl.reset : BulkCtl := { last := 0, wait := [], pcMap := [], refused := 0 }

/-- A bulk self-test run (R303): under way, its step (1 DATAPATH, 2 DRAM), yielded, and the outcome so far. -/
structure SelfRun where
  on : Bool
  step : Nat
  yielded : Bool
  bad : Nat
deriving DecidableEq, Repr

def SelfRun.none : SelfRun := { on := false, step := 0, yielded := false, bad := 0 }

/-! ## Memory-semantic operations (R206 to R241) and shuttles (R307 to R327) -/

/-- An outstanding request (R210, R233): its channel and ring slot, destination node, SEQ, issue tick, packet, the local
target site, and whether it was reissued, is quarantined, or belongs to a MOVE; lines a cached READ must not fill. -/
structure Tag where
  ch : Nat
  slot : Nat
  node : Nat
  seq : Nat
  t0 : Nat
  pk : Pkt
  site : Option Nat
  reissued : Bool
  quar : Bool
  move : Bool
  nofill : List Nat
deriving DecidableEq, Repr

/-- Order state of a channel (R212, R250): the next SEQ to assign, the SEQ below which every request has passed or
completed, those above it that have, and those above it that have been issued a second time. -/
structure Chan where
  next : Nat
  pass : Nat
  done : List Nat
  again : List Nat
deriving DecidableEq, Repr

def Chan.none : Chan := { next := 0, pass := 0, done := [], again := [] }

/-- A record of the duplicate filter (R228): the STATUS and RFLAGS sent, once performed, and the FWD SEQ of a COPY. -/
structure FRec where
  status : Option Nat
  rflags : Nat
  fwd : Option Nat
deriving DecidableEq, Repr

/-- A filter entry (R228): SEPOCH, the high-water mark, and the records with their seen bit set, by SEQ. -/
structure FEntry where
  epoch : Nat
  hwm : Nat
  recs : List (Nat × FRec)
deriving DecidableEq, Repr

/-- An entry of the result cache (R231). -/
structure AtomRes where
  key : Nat
  seq : Nat
  value : BitVec 64
  status : Nat
  rflags : Nat
deriving DecidableEq, Repr

/-- A line of the remote read cache (R225): partition, generation, 64-byte line of the fabric address, data. -/
structure RLine where
  part : Nat
  gen : Nat
  line : Nat
  data : Flit
deriving DecidableEq, Repr

/-- A descriptor in flight (R310, R319): its ring slot and descriptor, the status once it has completed, VALUE and XGEN,
its tag, the units handed to the express path, the statuses of a MOVE's units, 1 + the beat count of the SHKICK that made
it ready (0 none), and the collective fields at 0x28 still to be written back (R270). -/
structure Desc where
  slot : Nat
  raw : BitVec 512
  coll : Bool
  tag : Option Nat
  packet : Option Pkt
  sent : Nat
  units : Tab Nat
  status : Option Nat
  value : BitVec 64
  xgen : Nat
  wn : Nat
  back : List Byte
deriving DecidableEq, Repr

/-- A channel of a shuttle besides its registers: in-flight descriptors in order of their start, the tick of the last
start (R316) and the pair beats of that start and of the last hand-over (R314, R315), and by run of ready slots, in ring
order, their number and 1 + the beat count of their SHKICK, 0 for a host KICK (R71, R270, R310). -/
structure ShCh where
  inflight : List Desc
  started : Option Nat
  startPb : Option Nat
  turnPb : Option Nat
  ready : List (Nat × Nat)
deriving DecidableEq, Repr

def ShCh.none : ShCh := { inflight := [], started := Option.none, startPb := Option.none, turnPb := Option.none, ready := [] }

/-! ## Arbiters (R257 to R261) -/

/-- What waits at an edge arbiter (R257): a warp packet that leaves or enters the pair, a standing unit that leaves on a
circuit with its granules, and one that arrives from a stack at a pair. -/
inductive EdgeLoad
  | packet (p : Pkt)
  | unitOut (key : Nat) (u : StandUnit) (gran : List Flit)
  | unitIn (pair stack : Nat) (u : StandUnit) (gran : List Flit)
deriving DecidableEq, Repr

/-- An edge arbiter (R258 to R260): consecutive losses by requester, the requests standing at the end of the last tick, 1 +
the tick in which each was raised, 1 + the tick of the decision that made a requester withdraw, the guaranteed ones in
order with the tick at which they became so, the holder. -/
structure Arb where
  losses : Tab Nat
  req : List Nat
  since : Tab Nat
  back : Tab Nat
  guar : List (Nat × Nat)
  holder : Option Nat
deriving DecidableEq, Repr

def Arb.none : Arb := { losses := [], req := [], since := [], back := [], guar := [], holder := Option.none }

/-- A request the Heddle has sent (R347): destination node, SEQ, packet, and whether it was reissued or is quarantined. -/
structure HdReq where
  node : Nat
  seq : Nat
  pk : Pkt
  reissued : Bool
  quar : Bool
deriving DecidableEq, Repr

/-- The 1 ms window of a record kind (R379): the tick of its beginning, events suppressed and the last of them. -/
structure Window where
  begin_ : Nat
  count : Nat
  last : Option FaultRec
deriving DecidableEq, Repr

/-! ## Collectives (R264 to R286) -/

/-- A stream an engine has accepted (R265, R271, R275, R281): its descriptor and the ring slot it came from, its
partition and context, the list at LIST, LOW and UPTO, the next chunk to send, the LOW and UPTO of each circuit
destination, chunks to resend, times each chunk was sent, by chunk the inputs that delivered or the targets that
acknowledged, the targets that rejected, contributions still to be written, SAT, the outcome, its place in the order of
acceptance, 1 + the beat count that bounds what it reads of edge slots and the same by chunk for those a KSIG let go (R270),
and the chunks still to be zeroed, or to take the error value (R277, R284). -/
structure Stream where
  raw : BitVec 512
  core : Nat
  ch : Nat
  slot : Nat
  part : Nat
  ctx : BitVec 16
  inputs : List (Nat × Nat)
  low : Nat
  upto : Nat
  next : Nat
  dst : List (Nat × Nat × Nat)
  resend : List Nat
  tries : Tab Nat
  got : Tab Nat
  rej : Tab Nat
  pend : List (Nat × Nat × List Byte)
  sat : Bool
  status : Option Nat
  failmap : Nat
  ord : Nat
  wn : Nat
  gateW : Tab Nat
  zero : List Nat
  fill : List Nat
deriving DecidableEq, Repr

/-- A circuit descriptor that waits for its slot (R272), at the head of its channel. -/
structure ColWait where
  raw : BitVec 512
  core : Nat
  ch : Nat
deriving DecidableEq, Repr

/-- A combiner entry (R279): the issuing pair and its stream, the inputs, its open chunks with the inputs delivered, the
sum and SAT, those in which a step has clamped, the chunks sent beyond LOW, LOW, and the UPTO of its consumer. -/
structure Comb where
  pair : Nat
  ix : Nat
  raw : BitVec 512
  part : Nat
  inputs : List (Nat × Nat)
  opened : List (Nat × Nat × BitVec 2048 × Bool)
  clamped : List Nat
  sent : List Nat
  low : Nat
  upto : Nat
deriving DecidableEq, Repr

/-- A replication entry (R281): the issuing pair and its stream, the identifiers, and the target list. -/
structure Repl where
  pair : Nat
  ix : Nat
  colid : Nat
  attempt : Nat
  targets : List (Nat × Nat)
deriving DecidableEq, Repr

/-! ## External ports and logical links (R175 to R205) -/

/-- A data block in a transmit store (R185): BSEQ, flits, the LSEQs of the packets that end in it, times sent, whether a
replay is due, and whether ACK covers it. -/
structure TxBlock where
  bseq : Nat
  flits : List Flit
  ends : List Nat
  tries : Nat
  due : Bool
  acked : Bool
deriving DecidableEq, Repr

/-- Credits of a hop (R253), by virtual channel: flits sent, credits received, credits granted. -/
structure Cred where
  spent : Tab Nat
  got : Tab Nat
  granted : Tab Nat
deriving DecidableEq, Repr

def Cred.none : Cred := { spent := [], got := [], granted := [] }

/-- A port besides its registers. Logical link bound at its last training (R205); flits not yet in a data block, the last
of a packet with its LSEQ; transmit store; next BSEQ and SFSEQ; key epochs; lane maps in force and named for a later
SFSEQ; the partner's RXMAP; credits; next BSEQ expected and the ACK; the control block whose tag is awaited and its data
blocks (`none`: unreadable); the NAK to send; released flits and packets; ticks of tag failures; HEARD, consecutive valid
control blocks, whether an attempt has failed since B was last 1 ms, training messages exchanged; DOWN_NOTICE; fragments
received, by part; SFSEQ at which ENC or EPOCH steps in each direction; the tag to send; a heartbeat owed. What its
training fixed of its link (R205) and of the calibration mode (R171): ALTERNATE path, the other port, HB mode, MODE. The
PRK of each epoch, the ephemeral private key, which directions have stepped in the change under way, the fragments of the
last change (R182, R407). Whether the last flit packed left its packet unfinished; scrambler states by transmit lane;
corrected symbols by receive lane and FEC blocks received (R169). -/
structure Port where
  sel : Option Nat
  stream : List (Flit × Option Nat)
  store : List TxBlock
  bseq : Nat
  sfseq : Nat
  epTx : Nat
  epRx : Nat
  txMap : Nat
  rxMap : Nat
  txNext : Option (Nat × Nat)
  rxNext : Option (Nat × Nat)
  partnerRx : Nat
  cred : Cred
  expect : Nat
  ack : Option Nat
  cur : Option (BitVec 4096)
  held : List (Option (List Byte))
  nak : Option Nat
  rxFlits : List Flit
  rxPk : List (Nat × Flit × List Flit)
  authAt : List Nat
  heard : Bool
  run : Nat
  failed : Bool
  exGot : Bool
  exSent : Bool
  ackGot : Bool
  ackSent : Bool
  notice : Bool
  frags : List (Nat × Nat × Nat × List Byte)
  fragTurn : Nat
  rekey : Bool
  atTx : Option Nat
  atRx : Option Nat
  tag : BitVec 128
  hbDue : Bool
  alt : Bool
  peer : Nat
  hb : Bool
  mode : Bool
  prks : Tab (List Byte)
  eph : Nat
  stepTx : Bool
  stepRx : Bool
  oldFrags : List (Nat × Nat × Nat × List Byte)
  inPacket : Bool
  scr : Tab Nat
  corr : Tab Nat
  seen : Nat
deriving DecidableEq, Repr

def Port.reset : Port :=
  { sel := none, stream := [], store := [], bseq := 0, sfseq := 0, epTx := 0, epRx := 0, txMap := 0, rxMap := 0,
    txNext := none, rxNext := none, partnerRx := 0, cred := Cred.none, expect := 0, ack := none, cur := none,
    held := [], nak := none, rxFlits := [], rxPk := [], authAt := [], heard := false, run := 0, failed := false, exGot := false, exSent := false,
    ackGot := false, ackSent := false, notice := false, frags := [], fragTurn := 0, rekey := false, atTx := none,
    atRx := none, tag := 0, hbDue := false, alt := false, peer := 0, hb := false, mode := false, prks := [], eph := 0,
    stepTx := false, stepRx := false, oldFrags := [], inPacket := false, scr := [], corr := [], seen := 0 }

/-- The run of a self-test (R202): states of the PRBS31 of the packets sent and of those awaited back, packets sent and
returned, whether one returned changed, the block corrupted (BSEQ and tick), whether a NAK asked for it and its replay
followed within 400 ns, and the standby port's counts of corrected symbols and blocks at the start. -/
structure SelfTest where
  tx : Nat
  rx : Nat
  sent : Nat
  back : Nat
  bad : Bool
  broken : Option (Nat × Nat)
  named : Bool
  fixed : Bool
  corr : Tab Nat
  seen : Nat
deriving DecidableEq, Repr
def SelfTest.none : SelfTest :=
  { tx := 0, rx := 0, sent := 0, back := 0, bad := false, broken := .none, named := false, fixed := false, corr := [],
    seen := 0 }

/-- A superframe as sent (R178): the control block's content, the content of the 20 data blocks, and what each active lane
carries, scrambled, by lane. -/
structure Superframe where
  port : Nat
  ctrl : BitVec 4096
  data : List (List Byte)
  lanes : List (Nat × Nat)
deriving DecidableEq, Repr

/-- A logical link besides its registers (R195 to R202): its paths, packets sent and not covered by LACK, packets that wait
while the active path is down (R199), next LSEQ, the highest LSEQ delivered in order, the newest CLAIM_SEEN, the receiving path, whether a
self-test runs, SWITCH_REQ, credits, and whether it has come up since it was last down. -/
structure Link where
  prim : Nat
  alt : Nat
  store : List (Nat × Pkt)
  wait : List Pkt
  next : Nat
  rxSeq : Option Nat
  claimSeen : Nat
  rxPath : Bool
  testing : Bool
  test : SelfTest
  swReq : Bool
  cred : Cred
  up : Bool
deriving DecidableEq, Repr

def Link.reset : Link :=
  { prim := 0, alt := 0, store := [], wait := [], next := 0, rxSeq := none, claimSeen := 0, rxPath := false,
    testing := false, test := SelfTest.none, swReq := false, cred := Cred.none, up := false }

/-! ## Metering (R434) -/

/-- An open metering epoch of a partition, or of the package: time and holdover at its start, tick of its opening,
RUNNING ticks × pairs, energy in tenths of a mJ, bytes sent and received, GiB × ticks, the last image loaded, whether its
close was deferred, and the context and domain at its opening. -/
structure Meter where
  start : Reg64
  hold : Bool
  from_ : Nat
  run : Nat
  energy : Nat
  tx : Nat
  rx : Nat
  gib : Nat
  draft : BitVec 64
  deferred : Bool
  ctx : BitVec 16
  domain : BitVec 16
deriving DecidableEq, Repr

def Meter.reset : Meter :=
  { start := 0, hold := true, from_ := 0, run := 0, energy := 0, tx := 0, rx := 0, gib := 0, draft := 0, deferred := false,
    ctx := 0, domain := 0 }

/-! ## Heddle (R339 to R353, R358 to R375, R384 to R397) -/

/-- A mailbox command whose doorbell has been taken (R340, R341): its mailbox (0 to 8 the function's, 9 the SMBus, 10 the
tether), the tick of its doorbell, its request, whether its response is discarded (R333), and the SEQ of its SMBus message
(R404). -/
structure MbEnt where
  src : Nat
  tick : Nat
  hdr : MbHdr
  payload : List Byte
  drop : Bool
  smbSeq : BitVec 8
deriving DecidableEq, Repr

/-- A tethered package (R350, R352): node, index, open (else lost). -/
structure Tether where
  node : Nat
  index : Nat
  live : Bool
deriving DecidableEq, Repr

/-- A stage record (R373). -/
structure StageRec where
  result : Nat
  reason : Nat
  start : Nat
  dur : Nat
  a : Nat
  b : Nat
  detail : Nat
deriving DecidableEq, Repr

def StageRec.none : StageRec := { result := 0, reason := 0, start := 0, dur := 0, a := 0, b := 0, detail := 0 }

/-- A firmware bank (R399). -/
structure FwBank where
  valid : Bool
  svn : Nat
  version : Nat
  digest : List Byte
deriving DecidableEq, Repr

/-- Firmware in flash and FW_FLOOR (R398, R400): the banks, the bank booted, the bank the next boot takes, COMMIT. -/
structure Fw where
  bank0 : FwBank
  bank1 : FwBank
  active : Bool
  next : Bool
  commit : Bool
  floor : Nat
deriving DecidableEq, Repr

def Fw.shipped : Fw :=
  { bank0 := ⟨true, 0, 0, []⟩, bank1 := ⟨false, 0, 0, []⟩, active := false, next := false, commit := false, floor := 0 }

/-- Life-cycle state in flash (R410, R411): LCSTATE, LCEPOCH, MGMT_SEQ, the owner root key, draft signing keys, floors by
partition, IDE_REQUIRED, and a pending transition as its ACTION and the old LCSTATE. -/
structure LifeCycle where
  state : Nat
  epoch : Nat
  seq : Nat
  owner : List Byte
  keys : List (List Byte)
  floors : Tab Nat
  ide : Bool
  change : Option (Nat × Nat)
deriving DecidableEq, Repr

def LifeCycle.blank : LifeCycle :=
  { state := 0, epoch := 0, seq := 0, owner := [], keys := [], floors := [], ide := false, change := none }

/-- A metering record in the spill (R436). -/
structure MeterRec where
  seq : Nat
  part : Nat
  bytes : List Byte
deriving DecidableEq, Repr

/-- The clock besides its registers (R413 to R419): count at the last edge, count at the edge before the one before it and consecutive edges one second apart, the
last accepted edge, its residual and whether it was accepted in SLEWING, the tick of it or of a later step, rate correction in ppb, the time of a pending
step, the PPS_OUT pin, the tick at which REFCLK was lost. -/
structure Clock where
  edge : Option Nat
  first : Nat
  run : Nat
  last : Nat
  r : Int
  slewed : Bool
  since : Nat
  ppb : Int
  step : Option Nat
  out : Bool
  lostAt : Nat
deriving DecidableEq, Repr

def Clock.reset : Clock :=
  { edge := none, first := 0, run := 0, last := 0, r := 0, slewed := false, since := 0, ppb := 0, step := none, out := false, lostAt := 0 }

/-- The capping loop (R425, R426): consecutive samples above and below, CAP_REQ of the loop by pair, and the pairs whose
CAP_REQ PWR_BRAKE_N holds at 24 since their last latch beat. -/
structure Capping where
  overs : Nat
  unders : Nat
  req : Tab Nat
  braked : List Nat
deriving DecidableEq, Repr

def Capping.reset : Capping := { overs := 0, unders := 0, req := [], braked := [] }

/-- Elements of the weft plane (R134, R139, R148). -/
structure WeftElements where
  /-- element states stored for a slot, PHASE and fan-out blocks, at first group × 16 + slot (R139) -/
  slotEls : Tab (Nat × Nat)
  /-- PHASE elements in CROSS, bit 64 × stage + element, and fan-out elements in SPLIT, seven bits a block (R134) -/
  phaseEls : Nat
  fanEls : Nat
  /-- STU and STD elements in CROSS, bit 32 × stage + element (R134) -/
  stuEls : Nat
  stdEls : Nat
  /-- tick in which a standing change began that still settles or is verified (R148) -/
  standSince : Option Nat
deriving DecidableEq, Repr

/-- What weft waveguides carry (R163, R275). -/
structure WeftWires where
  /-- what phase receivers have got, at site × 16 + waveguide, oldest first: the payload of a data frame, empty for a run of
  idle frames, none for a discarded frame (R163, R275) -/
  weftIn : Tab (List (Option (List Byte)))
  /-- weft transmit waveguides, at site × 16 + waveguide (R163) -/
  weftTx : Tab WeftTx
  /-- frames sent, oldest first: site × 16 + waveguide, and the bits of each lane by wavelength (R163) -/
  weftOut : List (Nat × Nat × List (Nat × BitVec 544))
  /-- last 58 bits received on weft lanes (R163) -/
  weftScr : Tab Nat
  /-- discarded frames reported to the receiving endpoint since its last idle frame (R163) -/
  weftBad : Tab Nat
deriving DecidableEq, Repr

/-- The census under way (R157). -/
structure CensusRun where
  /-- rings the running census has finished (R157) -/
  censusDone : Nat
  /-- wavelength index of the ring swept next, at site × 4096 + LM_RING_SEL code without WL (R157) -/
  censusAt : Tab Nat
  /-- tick at which the running census began -/
  censusFrom : Nat
deriving DecidableEq, Repr

/-- Keys and measurements of the security processor (R299, R398, R401). -/
structure KeyStore where
  /-- LCEPOCH and owner root key at the last S0 (R401) -/
  bootLc : Nat × List Byte
  /-- number of the bulk key of each partition, 9 the package reserve key, and of the keys drawn so far (R299, R398) -/
  bulkKeys : Tab Nat
  keySeq : Nat
  /-- measurements 17 to 24: DRAFT_ID and SHA-384 of each partition's loaded image (R401) -/
  draftMeas : Tab (List (BitVec 8))
deriving DecidableEq, Repr

/-- The metering store (R425, R434 to R438). -/
structure Metering where
  /-- flash: next EPOCH_SEQ (R434; log entry 5) -/
  meterSeq : Nat
  /-- flash: metering spill, oldest first (R436) -/
  spill : List MeterRec
  /-- flash: open counts at the last checkpoint, its time and whether that is a holdover time (R438) -/
  meterChk : Option (Tab Meter × Nat × Bool)
  /-- tenths of a mJ not yet in HD_ENERGY (R425) -/
  energyTenths : Nat
  /-- flash: PREV_HASH of the next metering record; none for the first (R434; log entry 5) -/
  meterPrev : List (BitVec 8)
deriving DecidableEq, Repr

set_option maxRecDepth 4096 in
/-- The state of the block. -/
structure State extends WeftElements, WeftWires, CensusRun, KeyStore, Metering where
  /-- commands waiting, first in, first out -/
  pending : List Instr
  /-- counter of the free values (the model's own, log entry 1) -/
  free : Nat
  /-- Loom control ticks since the first POWER-ON (R142) -/
  tick : Nat
  /-- fabric time not yet counted, in units of 1/(3 × 10⁹) ns (R413) -/
  nsPhase : Nat
  /-- fortieths of a beat of a pair not yet counted (R117, R120) -/
  beatPhase : Tab Nat
  /-- the register space: every register whose value is not its reset value, by address (R334, R338) -/
  regs : List (Nat × Reg64)
  /-- W1C bits the hardware has set in this tick, by register (R13) -/
  hwSet : Tab Reg64
  /-- event counters written in this tick (R432) -/
  evcSet : List Nat
  /-- bulk, scratchpad and pool bytes by OFFSET (R207); an unlisted byte reads 0 (R302, R382) -/
  mem : List Host.Cell
  /-- faults in 64-bit words (R62, R68, R108): 1 single-bit, 2 uncorrectable; key OFFSET / 8, draft stores at 2^60 -/
  ecc : Tab Nat
  /-- context state of the cores (R48) -/
  cores : Tab Core
  /-- draft stores: core × 2048 + index (R68) -/
  dstore : Tab (BitVec 256)
  /-- scrub position of bank b of scratchpad c at c × 8 + b (R84), of bank b of pool cl at 16384 + cl × 16 + b (R108) -/
  scrub : Tab Nat
  /-- ports and scrub passes of the pools, by cluster (R107, R108) -/
  pools : Tab PoolSide
  /-- knots touched in this wall beat: cluster × 64 + knot (R73) -/
  kpend : Tab KnotPend
  /-- static pool accesses waiting for their bank beat (R106) -/
  poolOps : List PoolOp
  /-- pairs -/
  pairs : Tab Pair
  /-- weave groups: pair × 32 + group (R75) -/
  groups : Tab Grp
  /-- partitions P1 to P8 that exist (R343) -/
  parts : Tab Part
  /-- generation of each partition number (R343) -/
  gens : Tab Nat
  /-- SEQ of the next record (flash, R376; log entry 5) -/
  recSeq : Nat
  /-- records waiting for the flash, oldest first (R380) -/
  recBuf : List FaultRec
  /-- the flash log, oldest first (R380) -/
  log : List FaultRec
  /-- record windows by kind, latest first (R379) -/
  windows : List (Nat × Window)
  /-- functions owed vector 1 (R354) -/
  evPend : BitVec 9
  /-- MSI-X messages sent, oldest first: function, vector (R355) -/
  msi : List (Nat × Nat)
  /-- node of the lead this package is tethered to (R351) -/
  tetherLead : Option Nat
  /-- control-space WRITEs the Heddle is to send: node, offset and bytes, oldest first (R347) -/
  ctlOut : List (Nat × Nat × List Byte)
  /-- control-space WRITEs the Heddle has sent and that are not completed, oldest first (R347) -/
  hdReqs : List HdReq
  /-- data the last pool-port read delivered (R107) -/
  portOut : List Byte
  /-- voltage requests sent to the pair rails: regulator address, mV, oldest first (R424) -/
  pmbus : List (Nat × Nat)
  /-- sending side of site pair (s, d) at s × 32 + d (R131) -/
  warpTx : Tab WarpTx
  /-- receiving side at site d of packets from s, at d × 32 + s (R130) -/
  warpRx : Tab WarpRx
  /-- what waits at the edge arbiters with its requester, by resource, in order of arrival (R257) -/
  edge : Tab (List (Nat × EdgeLoad))
  /-- packets put on a lane, oldest first: s × 32 + d, waveguide (R128) -/
  warpOut : List (Nat × Nat × Pkt)
  /-- packets delivered to endpoint e of a site, at site × 8 + e, oldest first (R125, R131) -/
  epIn : Tab (List Pkt)
  /-- rings, at site × 4096 + LM_RING_SEL code (R149) -/
  rings : Tab Ring
  /-- lanes, at the key of their transmit ring, or of a weft or port receive ring (R128, R163, R175) -/
  lanes : Tab Lane
  /-- OUT bytes of group slot records, at group × 16 + slot (R138) -/
  slotRecs : Tab (BitVec 128)
  /-- standing maps of STU and STD other than the default: the output of each input (R137) -/
  standMap : Option (List Nat × List Nat)
  /-- phase switches by partition (R142) -/
  switches : Tab Switch
  /-- outcomes given to the requester, oldest first: partition, slot, by the Heddle, 0 refused, 1 completed, 2 failed (R141, R143) -/
  switchOut : List (Nat × Nat × Bool × Nat)
  /-- what the last poll of the Bobbin read; MARKER as last written (R165; log entry 4) -/
  bobbin : BobbinRegs
  /-- LASER_EN in bring-up: 0 not raised yet, 1 raised, 2 low for 1 s after a TIMEOUT, 3 low after an input was OVER (R166) -/
  laserUp : Nat
  /-- port lanes moved to the front of the recalibration order (R169) -/
  calFront : List Nat
  /-- flash: 1 + the erased die of each stack (R293) -/
  erasedDie : Tab Nat
  /-- flash: remap entries, at stack × 16 + entry (R301) -/
  remapFlash : Tab Reg64
  /-- spare rows self-test failed: stack, q, row 0 to 3 (R303) -/
  badSpares : List (Nat × Nat × Nat)
  /-- last corrected error of a line, at stack × 2^27 + line (R301) -/
  lastCorr : Tab CorrRec
  /-- rows that qualify for remap: stack, q, row (R301) -/
  remapQual : List (Nat × Nat × Nat)
  /-- lines in the controllers' write buffers: stack, stack line (R296) -/
  writeBuf : List (Nat × Nat)
  /-- next line of each stack's scrub walk (R300) -/
  scrubLine : Tab Nat
  /-- tick at which each stack's scrub pass began (R300) -/
  scrubFrom : Tab Nat
  /-- stored image of test lines, 576 bytes, at stack × 64 + line; unlisted: all zero (R302, R305) -/
  testLines : Tab (List Byte)
  /-- self-test of each stack (R303) -/
  selfRun : Tab SelfRun
  /-- pair ends of standing circuits, at pair × 8 + stack (R298) -/
  pairEnd : Tab CircEnd
  /-- controller ends, at pair × 8 + stack (R298) -/
  ctlEnd : Tab CircEnd
  /-- units sent on standing circuits, oldest first: pair × 8 + stack, toward the pair (R297) -/
  circOut : List (Nat × Bool × StandUnit × List Flit)
  /-- bulk controllers, by stack (R287, R289, R295) -/
  bulkCtl : Tab BulkCtl
  /-- the package fill has been done since the last COLD or POWER-ON (R302) -/
  filled : Bool
  /-- tags, at core × 32 + slot; none free (R210) -/
  tags : Tab (Option Tag)
  /-- order of remote channels at node × 2 + (1 for FWD), of local ones at 32768 + site × 2 + (1 for FWD) (R212, R250) -/
  chans : Tab Chan
  /-- requests an egress port site holds, with site × 8 + endpoint (R250) -/
  orderHeld : List (Nat × Pkt)
  /-- local requests a destination site holds (R250) -/
  localHeld : List Arrival
  /-- duplicate filter, at node × 2 + (1 for FWD) (R228) -/
  filter : Tab (Option FEntry)
  /-- filter entries held in the Loom, least recently used first (R228) -/
  filterHot : List Nat
  /-- requests that wait for a filter fill (R228) -/
  coldHeld : List Arrival
  /-- requests that have passed their checks and whose endpoint has no room or no free bank for them, oldest first (R82,
  R107, R296) -/
  stalled : List LandEnt
  /-- duplicates whose original has not been performed (R229) -/
  dupHeld : List Arrival
  /-- the result cache, oldest first (R231) -/
  atomRes : List AtomRes
  /-- remote read caches, at pair × 4096 + set, most recently used first (R225) -/
  rrc : Tab (List RLine)
  /-- remote-read-cache generation of each partition (R226) -/
  rrcGen : Tab Nat
  /-- shuttle channels, at core × 4 + channel (R307) -/
  shch : Tab ShCh
  /-- edge arbiters: pair × 32 + port for warp, + 16 for standing egress; 1024 + cluster × 4 + lane (R257) -/
  arbs : Tab Arb
  /-- flash: SEPOCH (R212; log entry 5) -/
  sepochFlash : Nat
  /-- consecutive requests to a node that ended with TIMEOUT (R389) -/
  peerMiss : Tab Nat
  /-- streams of the collective engines, at pair × 16 + stream (R265) -/
  streams : Tab (Option Stream)
  /-- circuit descriptors of a pair that wait for a slot, oldest first (R272) -/
  colWait : Tab (List ColWait)
  /-- combiner entries, at site × 64 + entry (R279) -/
  combs : Tab (Option Comb)
  /-- replication entries, at site × 64 + entry (R281) -/
  repls : Tab (Option Repl)
  /-- next MSEQ of the package (R281) -/
  mseq : Nat
  /-- streams accepted (R274) -/
  streamSeq : Nat
  /-- duplicate filter of multicast copies, at source node × 8 + target pair (R281) -/
  mcFilter : Tab (Option FEntry)
  /-- segments sent on the phase plane, oldest first: input, header, chunks (R274) -/
  segOut : List (Nat × Flit × List (List Byte))
  /-- resend requests sent, oldest first: input, COLID, ATTEMPT, chunks (R275) -/
  resendOut : List (Nat × Nat × Nat × List Nat)
  /-- external ports (R189) -/
  ports : Tab Port
  /-- logical links (R195) -/
  links : Tab Link
  /-- superframes sent, oldest first (R178) -/
  sfOut : List Superframe
  /-- open metering epochs by partition, 0 the package (R434) -/
  meters : Tab Meter
  /-- mailbox commands taken and not yet run, oldest first (R341) -/
  mbQueue : List MbEnt
  /-- answers sent on the SMBus, oldest first (R404) -/
  smbOut : List (List (BitVec 8))
  /-- tether table of a lead (R350) -/
  tethers : List Tether
  /-- PF0 commands on their way to a tethered package: its node, the request, whether the response is discarded (R333, R349) -/
  forwarded : List (Nat × MbHdr × Bool)
  /-- flash: tether policy, MODE and LEAD (R351; log entry 5) -/
  tetherPolicy : Nat × Nat
  /-- stage records of the bring-up (R373) -/
  stages : List StageRec
  /-- the bring-up stage to run next; 11 once S10 has ended (R358) -/
  nextStage : Nat
  /-- tick at which the stage before ended (R373) -/
  stageTick : Nat
  /-- tick at which the reset of this bring-up was released (R373) -/
  upTick : Nat
  /-- configuration accepted for S8 of this bring-up (R365) -/
  upCfg : Option (List (BitVec 8))
  /-- flash: stored configuration (R366; log entry 5) -/
  storedCfg : Option (List (BitVec 8))
  /-- configuration S8 applied (R368) -/
  runCfg : Option (List (BitVec 8))
  /-- flash and fuses: firmware banks and FW_FLOOR (R399, R400; log entry 5) -/
  fw : Fw
  /-- flash: life cycle (R410; log entry 5) -/
  lc : LifeCycle
  /-- the Link IDE stream is Secure (R403) -/
  ide : Bool
  /-- SPDM sessions: on SMBus or DOE, number (R402) -/
  spdm : List (Bool × Nat)
  /-- SPDM answers sent, oldest first (R402) -/
  spdmOut : List (Bool × List (BitVec 8))
  /-- MCTP endpoint ID (R404) -/
  eid : Option (BitVec 8)
  /-- a power-good fall holds the package until POWER-ON (R423) -/
  powerOff : Bool
  /-- a power-good fall or HARD_RESET_N holds the package in reset (R387, R423) -/
  inReset : Bool
  /-- PWR_BRAKE_N is low (R426) -/
  brake : Bool
  /-- fabric time besides its registers (R413) -/
  clock : Clock
  /-- the capping loop (R425) -/
  capping : Capping
  /-- latest sample of each sensor, and whether it has failed (R427) -/
  sensors : Tab (BitVec 16 × Bool)
  /-- consecutive samples of a sensor at 110.0 °C or more (R429) -/
  hotRun : Tab Nat
  /-- 1 + the tick since which a pair's formula has stayed below its THERM_REQ (R428) -/
  thermCalm : Tab Nat
  /-- latest temperature of each stack in °C (R427) -/
  stackTemp : Tab Int
  /-- tick at which thermal shutdown began (R430) -/
  shutTick : Nat
  /-- flash: ticks of the thermal shutdowns (R430; log entry 5) -/
  shutLog : List Nat
  /-- flash: a thermal shutdown has occurred since the last clear (R430; log entry 5) -/
  wasShut : Bool
  /-- a reset that starts 100 µs after a response: level 2 WARM or 3 COLD, CAUSE (R386, R411) -/
  resetDue : Option (Nat × Nat)
  /-- data the last register read delivered (R336) -/
  readOut : BitVec 64
  /-- the command that runs on: a PARTITION_CREATE whose region fill runs, with its partition (R343), or a DRAFT_STOP whose groups drain (R100) -/
  late : List (Nat × MbEnt × Option Part)
deriving DecidableEq, Repr

/-- The block right after POWER-ON reset (R382): registers at their reset values, nothing stored, no command waiting. -/
def State.reset : State :=
  { pending := [],
    free := 0,
    tick := 0,
    nsPhase := 0,
    beatPhase := [],
    regs := [],
    hwSet := [],
    evcSet := [],
    mem := [],
    ecc := [],
    cores := [],
    dstore := [],
    scrub := [],
    pools := [],
    kpend := [],
    poolOps := [],
    pairs := [],
    groups := [],
    parts := [],
    gens := [],
    recSeq := 0,
    recBuf := [],
    log := [],
    windows := [],
    evPend := 0,
    msi := [],
    tetherLead := none,
    ctlOut := [],
    hdReqs := [],
    portOut := [],
    pmbus := [],
    warpTx := [],
    warpRx := [],
    edge := [],
    warpOut := [],
    epIn := [],
    rings := [],
    lanes := [],
    slotRecs := [],
    standMap := none,
    slotEls := [],
    phaseEls := 0,
    fanEls := 0,
    stuEls := standEls defaultStand,
    stdEls := standEls defaultStand,
    standSince := none,
    switches := [],
    switchOut := [],
    weftIn := [],
    weftTx := [],
    weftOut := [],
    weftScr := [],
    weftBad := [],
    censusDone := 0,
    censusAt := [],
    laserUp := 0,
    censusFrom := 0,
    bobbin := ⟨0, 0, 0, 0, 0, 0⟩,
    calFront := [],
    erasedDie := [],
    remapFlash := [],
    badSpares := [],
    lastCorr := [],
    remapQual := [],
    writeBuf := [],
    scrubLine := [],
    scrubFrom := [],
    testLines := [],
    selfRun := [],
    pairEnd := [],
    ctlEnd := [],
    circOut := [],
    bulkCtl := [],
    filled := false,
    tags := [],
    chans := [],
    orderHeld := [],
    localHeld := [],
    filter := [],
    filterHot := [],
    coldHeld := [],
    stalled := [],
    dupHeld := [],
    atomRes := [],
    rrc := [],
    rrcGen := [],
    shch := [],
    arbs := [],
    sepochFlash := 0,
    peerMiss := [],
    streams := [],
    colWait := [],
    combs := [],
    repls := [],
    mseq := 0,
    streamSeq := 0,
    mcFilter := [],
    segOut := [],
    resendOut := [],
    ports := [],
    links := [],
    sfOut := [],
    meters := [],
    mbQueue := [],
    smbOut := [],
    tethers := [],
    forwarded := [],
    tetherPolicy := (0, 0),
    stages := { StageRec.none with result := 1 } :: List.replicate 10 StageRec.none,
    nextStage := 0,
    stageTick := 0,
    upTick := 0,
    upCfg := none,
    storedCfg := none,
    runCfg := none,
    fw := Fw.shipped,
    lc := LifeCycle.blank,
    bootLc := (0, []),
    bulkKeys := [],
    keySeq := 0,
    draftMeas := [],
    ide := false,
    spdm := [],
    spdmOut := [],
    eid := none,
    powerOff := false,
    inReset := false,
    brake := false,
    clock := Clock.reset,
    capping := Capping.reset,
    sensors := [],
    hotRun := [],
    thermCalm := [],
    stackTemp := [],
    shutTick := 0,
    shutLog := [],
    wasShut := false,
    meterSeq := 0,
    spill := [],
    meterChk := none,
    resetDue := none,
    energyTenths := 0,
    meterPrev := [],
    readOut := 0,
    late := [] }

end Sys2Proof.Machine
end

