-- ==== Sys2Proof/Machine/Ops.lean ====
section
/-! DEFINITION. The named operations over tables, registers, memory, records and partitions. -/
namespace Sys2Proof.Machine

/-! ## Sparse tables -/

/-- The entry of a key, `d` where none is listed. -/
def Tab.get {α : Type} (d : α) : List (Nat × α) → Nat → α
  | [], _ => d
  | (k', v) :: r, k => if k' = k then v else Tab.get d r k

/-- The table with an entry for a key, at its place among rising keys. -/
def Tab.put {α : Type} : List (Nat × α) → Nat → α → List (Nat × α)
  | [], k, v => [(k, v)]
  | (k', v') :: r, k, v =>
    if k < k' then (k, v) :: (k', v') :: r
    else if k = k' then (k, v) :: r
    else (k', v') :: Tab.put r k v
/-- The table with one key at a value, in canonical form: rising keys, no entry at its default (log entry 6). -/
def Tab.set {α : Type} [DecidableEq α] (d : α) (t : List (Nat × α)) (k : Nat) (v : α) : List (Nat × α) :=
  if v = d then t.filter fun e => !decide (e.1 = k) else Tab.put t k v

/-- The table without the keys of [lo, hi). -/
def Tab.drop {α : Type} (t : List (Nat × α)) (lo hi : Nat) : List (Nat × α) :=
  t.filter fun e => !(decide (lo ≤ e.1) && decide (e.1 < hi))

/-- The table without the keys that satisfy a test. -/
def Tab.dropIf {α : Type} (t : List (Nat × α)) (f : Nat → Bool) : List (Nat × α) := t.filter fun e => !f e.1

/-- Rising keys. -/
def Tab.sorted {α : Type} : List (Nat × α) → Bool
  | [] => true
  | [_] => true
  | (k, _) :: (k', v') :: r => decide (k < k') && Tab.sorted ((k', v') :: r)

/-- A table in canonical form: rising keys and no entry at the default of its key. -/
def Tab.canon {α : Type} [DecidableEq α] (d : Nat → α) (t : List (Nat × α)) : Bool :=
  Tab.sorted t && t.all fun e => !decide (e.2 = d e.1)

/-! ## Bytes and words -/

/-- The number a little-endian byte string stands for (R2). -/
def leNat : List Byte → Nat
  | [] => 0
  | b :: r => b.toNat + 256 * leNat r

/-- `n` little-endian bytes of a number (R2). -/
def leBytes : Nat → Nat → List Byte
  | 0, _ => []
  | n + 1, v => BitVec.ofNat 8 v :: leBytes n (v / 256)

/-- The number built from fields of `w` bits, the first lowest. -/
def packNat (w : Nat) : List Nat → Nat
  | [] => 0
  | v :: r => v % 2 ^ w + 2 ^ w * packNat w r

/-- Field `i` of `w` bits of a number. -/
def unpackNat (w i v : Nat) : Nat := v / 2 ^ (w * i) % 2 ^ w

/-- Bits [lo + len − 1 : lo] of a number. -/
def nbits (v lo len : Nat) : Nat := v / 2 ^ lo % 2 ^ len

/-- A byte string cut or filled with zero bytes to a length. -/
def fitBytes (n : Nat) (bs : List Byte) : List Byte := (bs ++ List.replicate n 0).take n

/-- Pieces of `n` bytes, at most `k` of them. -/
def chunksOf (n : Nat) : Nat → List Byte → List (List Byte)
  | 0, _ => []
  | _, [] => []
  | k + 1, bs => bs.take n :: chunksOf n k (bs.drop n)

/-- One bit step of CRC-32C (RFC 3720), reflected. -/
def crcBit (c : BitVec 32) : BitVec 32 :=
  if c.getLsbD 0 then (c >>> 1) ^^^ 0x82F63B78 else c >>> 1
/-- One byte of CRC-32C. -/
def crcByte (c : BitVec 32) (b : Byte) : BitVec 32 :=
  let c := c ^^^ b.setWidth 32
  crcBit (crcBit (crcBit (crcBit (crcBit (crcBit (crcBit (crcBit c)))))))
/-- CRC-32C over a byte string (R129, R376). -/
def crc32c (bs : List Byte) : BitVec 32 := ~~~ (bs.foldl crcByte 0xFFFFFFFF)

/-! ## Registers -/

/-- A register's value. -/
def State.rget (s : State) (a : Nat) : Reg64 := Tab.get (regReset a) s.regs a
/-- The state with a register at a value. -/
def State.rset (s : State) (a : Nat) (v : Reg64) : State := { s with regs := Tab.set (regReset a) s.regs a v }
/-- A field's value. -/
def State.rf (s : State) (a : Nat) (f : Fld) : Nat := f.get (s.rget a)
/-- The state with a field at a value (modulo the field's size). -/
def State.wf (s : State) (a : Nat) (f : Fld) (v : Nat) : State := s.rset a (f.put (s.rget a) v)
/-- A counter field advanced by `n`, saturating at its largest value. -/
def State.bump (s : State) (a : Nat) (f : Fld) (n : Nat) : State := s.wf a f (min (s.rf a f + n) f.max)
/-- A flag field as a Bool. -/
def State.rb (s : State) (a : Nat) (f : Fld) : Bool := s.rf a f != 0
/-- A flag field set to a Bool. -/
def State.wb (s : State) (a : Nat) (f : Fld) (b : Bool) : State := s.wf a f b.toNat
/-- The hardware has set W1C bits of a register in this tick (R13). -/
def State.note (s : State) (a : Nat) (m : Reg64) : State :=
  { s with hwSet := Tab.set 0 s.hwSet a (Tab.get 0 s.hwSet a ||| m) }
/-- The hardware sets bits of a W1C field: they read 1 whatever W1C write acts in the same tick (R13). -/
def State.raise (s : State) (a : Nat) (f : Fld) (v : Nat) : State :=
  (s.wf a f (s.rf a f ||| v)).note a (f.put 0 v)
/-- The registers of [lo, hi) back at their reset values. -/
def State.regsReset (s : State) (lo hi : Nat) : State := { s with regs := Tab.drop s.regs lo hi }

/-! ## Memory by OFFSET (R207) -/

/-- First byte of a scratchpad, of a pool (R207). -/
def spBase (c : Nat) : Nat := 2 ^ 48 + 2 ^ 37 * c
def poolBase (cl : Nat) : Nat := 2 * 2 ^ 48 + 2 ^ 37 * cl

/-- A byte of memory; a byte nothing has written reads 0 (R302, R382). -/
def State.byte (s : State) (a : Nat) : Byte := Tab.get 0 s.mem a
/-- `n` bytes from an offset. -/
def State.bytes (s : State) (a : Nat) : Nat → List Byte
  | 0 => []
  | n + 1 => s.byte a :: s.bytes (a + 1) n
/-- Bytes written into a cell list from an address on. -/
def memPut (m : List Host.Cell) (a : Nat) : List Byte → List Host.Cell
  | [] => m
  | b :: r => memPut (Tab.set 0 m a b) (a + 1) r
/-- The fault marks of the words [w, w + n) removed. -/
def eccClear (e : Tab Nat) (w n : Nat) : Tab Nat := Tab.drop e w (w + n)
/-- Bytes written at an offset; whole 64-bit words written get fresh check codes (R62). -/
def State.putBytes (s : State) (a : Nat) (bs : List Byte) : State :=
  { s with mem := memPut s.mem a bs, ecc := eccClear s.ecc (a / 8) (bs.length / 8) }

/-- The form of a memory (log entry 6): rising addresses, no byte listed that reads 0. -/
def Memory.wf (m : List Host.Cell) : Bool := Tab.canon (fun _ => 0) m
/-- The form of the register space: rising addresses, no register listed at its reset value. -/
def Regs.wf (r : List (Nat × Reg64)) : Bool := Tab.canon regReset r

/-- A line of 128 bytes at an offset. -/
def State.line (s : State) (a : Nat) : Line := BitVec.ofNat 1024 (leNat (s.bytes a 128))
/-- A line written at an offset. -/
def State.putLine (s : State) (a : Nat) (l : Line) : State := s.putBytes a (leBytes 128 l.toNat)
/-- `n` lines from an offset. -/
def State.lines (s : State) (a : Nat) : Nat → List Line
  | 0 => []
  | n + 1 => s.line a :: s.lines (a + 128) n
/-- Lines written from an offset on. -/
def State.putLines (s : State) (a : Nat) : List Line → State
  | [] => s
  | l :: r => (s.putLine a l).putLines (a + 128) r

/-- The fault mark of a word: 0 clean, 1 single-bit, 2 uncorrectable. -/
def State.mark (s : State) (w : Nat) : Nat := Tab.get 0 s.ecc w
/-- Words of [w, w + n) with a single-bit error, and those that are uncorrectable. -/
def State.singles (s : State) (w n : Nat) : List Nat := (List.range n).map (w + ·) |>.filter (fun x => s.mark x = 1)
def State.ues (s : State) (w n : Nat) : List Nat := (List.range n).map (w + ·) |>.filter (fun x => s.mark x ≥ 2)
/-- An error strikes a word: a second one makes it uncorrectable (R62). -/
def strike (e : Tab Nat) (base : Nat) (u : Upset) : Tab Nat :=
  let w := base + u.word
  Tab.set 0 e w (if u.ue || Tab.get 0 e w ≥ 1 then 2 else 1)
/-- Errors that struck words of one memory since it was last used; `words` is its size. -/
def State.strikes (s : State) (base words : Nat) (us : List Upset) : State :=
  { s with ecc := (us.filter (fun u => decide (u.word < words))).foldl (fun e u => strike e base u) s.ecc }
/-- Fault marks of draft-store words: 4 per bundle, from 2^60 on (R68). -/
def dsWord (c ix : Nat) : Nat := 2 ^ 60 + (c * 2048 + ix) * 4

/-! ## Units -/

def State.core (s : State) (c : Nat) : Core := Tab.get Core.reset s.cores c
def State.setCore (s : State) (c : Nat) (k : Core) : State := { s with cores := Tab.set Core.reset s.cores c k }
def State.pair (s : State) (p : Nat) : Pair := Tab.get Pair.reset s.pairs p
def State.setPair (s : State) (p : Nat) (k : Pair) : State := { s with pairs := Tab.set Pair.reset s.pairs p k }
def State.grp (s : State) (g : Nat) : Grp := Tab.get Grp.none s.groups g
def State.setGrp (s : State) (g : Nat) (k : Grp) : State := { s with groups := Tab.set Grp.none s.groups g k }

/-- Pair, die (0 = L, 1 = U), cluster of its die, and global cluster number of a core (R3, R207). -/
def pairOf (c : Nat) : Nat := c / 256
def dieOf (c : Nat) : Nat := c / 128 % 2
def clusterOf (c : Nat) : Nat := c / 8 % 16
def gclusterOf (c : Nat) : Nat := c / 8
/-- Cores of a global cluster. -/
def coresOf (cl : Nat) : List Nat := (List.range 8).map (8 * cl + ·)

/-- Key of a core's weave group (R89 GROUP). -/
def State.grpOf (s : State) (c : Nat) : Nat := pairOf c * 32 + s.rf (CD_SEQ_STATUS c) CD_SEQ_STATUS_GROUP
/-- The core sits in a cluster of the group (bit i: Ci of die L, bit 16 + i: Ci of die U, R92). -/
def inGrp (g : Grp) (key c : Nat) : Bool := pairOf c == key / 32 && g.clusters.getLsbD (gclusterOf c % 32)
/-- Cores of the group that run the draft. -/
def State.grpCores (s : State) (key : Nat) : List Nat :=
  (s.cores.filter fun e => decide (e.2.bundles ≠ 0) && inGrp (s.grp key) key e.1).map Prod.fst

/-! ## Partitions (R4, R343) -/

def State.part? (s : State) (n : Nat) : Option Part := (s.parts.find? (fun e => e.1 = n)).map Prod.snd
def State.setPart (s : State) (n : Nat) (p : Part) : State :=
  { s with parts := (s.parts.map fun e => if e.1 = n then (n, p) else e) }
/-- The pair belongs to the partition. -/
def Part.hasPair (p : Part) (i : Nat) : Bool := decide (p.first ≤ i) && decide (i < p.first + p.pairs)
/-- Number of the partition that holds a pair, 0 where none does. -/
def State.partOfPair (s : State) (i : Nat) : Nat :=
  match s.parts.find? (fun e => e.2.hasPair i) with
  | some e => e.1
  | none => 0
def State.partOfCore (s : State) (c : Nat) : Nat := s.partOfPair (pairOf c)
/-- Generation of a partition number (R343). -/
def State.gen (s : State) (n : Nat) : Nat := Tab.get 0 s.gens n
/-- Context ID of a partition number in force now (R4); 0 names no context. -/
def State.ctx (s : State) (n : Nat) : BitVec 16 :=
  if n = 0 ∨ n > 8 then 0 else BitVec.ofNat 16 (n * 4096 + s.gen n % 4096)

/-! ## Event counters (R432, R433) -/

/-- A counter register that counts the event takes n more; it wraps and sets OVF. -/
def evcStep (w : Reg64) (code : Nat) (sc : Nat → Bool) (n : Nat) : Reg64 :=
  if HD_EVC_EN.get w = 1 ∧ HD_EVC_EVENT.get w = code ∧ sc (HD_EVC_SCOPE.get w) then
    let v := HD_EVC_COUNT.get w + n
    let w := HD_EVC_COUNT.put w v
    if v ≥ 2 ^ 48 then HD_EVC_OVF.put w 1 else w
  else w
/-- One counter register meets an event; one written in the same tick keeps the written value (R432). An overflow is a W1C
bit the hardware sets (R13). -/
def State.evcOne (s : State) (a code : Nat) (sc : Nat → Bool) (n : Nat) : State :=
  if s.evcSet.contains a then s
  else
    let w := s.rget a
    let s := s.rset a (evcStep w code sc n)
    if HD_EVC_EN.get w = 1 ∧ HD_EVC_EVENT.get w = code ∧ sc (HD_EVC_SCOPE.get w) ∧ HD_EVC_COUNT.get w + n ≥ 2 ^ 48 then
      s.note a (HD_EVC_OVF.put 0 1)
    else s
/-- An event of code `code` met by the `k` counters from `base` on, while RUN is 1. -/
def State.evc (s : State) (base k code : Nat) (sc : Nat → Bool) (n : Nat) : State :=
  if s.rb HD_EVC_CTL HD_EVC_CTL_RUN then
    (List.range k).foldl (fun s i => s.evcOne (base + 8 * i) code sc n) s
  else s
/-- An event of core `c`, of a site or one of its two ports (0 the site alone), of a pair, of the package. -/
def State.cdEvc (s : State) (c code n : Nat) : State :=
  s.evc (CD_EVC (gclusterOf c) 0) 8 code (fun sc => sc == 8 || sc == c % 8) n
def State.clEvc (s : State) (cl code n : Nat) : State := s.evc (CD_EVC cl 0) 8 code (fun sc => sc == 8) n
def State.lmEvc (s : State) (site port code n : Nat) : State :=
  s.evc (LM_EVC site 0) 8 code (fun sc => sc == 0 || (port ≠ 0 && sc == port)) n
def State.pairEvc (s : State) (p code n : Nat) : State := s.evc (HD_EVC 0) 32 code (fun sc => sc == 8 || sc == p) n
def State.hdEvc (s : State) (code n : Nat) : State := s.evc (HD_EVC 0) 32 code (fun sc => sc ≤ 8) n

/-! ## Fault records (R376 to R380) and events (R354) -/

/-- NODE and NVALID as records carry them (R376). -/
def State.nodeWord (s : State) : BitVec 16 := BitVec.ofNat 16 (s.rget LM_MS_NODE).toNat % 0x8000
/-- UNIT (R377). -/
def unitOf (kind ix : Nat) : BitVec 16 := BitVec.ofNat 16 (kind * 4096 + ix % 4096)

/-- A record's 64 bytes, with its CRC (R376). -/
def recBytes (r : FaultRec) : List Byte :=
  let b := leBytes 4 r.seq.toNat ++ leBytes 1 r.cls.toNat ++ leBytes 1 r.code.toNat ++ leBytes 1 r.status.toNat ++
    leBytes 1 r.flags.toNat ++ leBytes 8 r.time.toNat ++ leBytes 2 r.node.toNat ++ leBytes 2 r.context.toNat ++
    leBytes 2 r.unit.toNat ++ leBytes 2 r.sub.toNat ++ leBytes 8 r.addr.toNat ++ leBytes 24 r.detail.toNat ++
    leBytes 4 r.suppressed.toNat
  b ++ leBytes 4 (crc32c b).toNat

/-- MSI-X message `v` of function `fn` (R355). -/
def State.sendMsi (s : State) (fn v : Nat) : State := { s with msi := s.msi ++ [(fn, v)] }

/-- Words of a record, the first lowest. -/
def recWords (bs : List Byte) : List Nat := (chunksOf 8 8 bs).map leNat
/-- Words written to registers one after another. -/
def State.putWords (s : State) (a : Nat) : List Nat → State
  | [] => s
  | w :: r => (s.rset a (BitVec.ofNat 64 w)).putWords (a + 8) r
/-- BAR0 offset of event-queue entry `i` of a function (R338). -/
def evqEntry (fn i : Nat) : Nat := 0x1000000 * (fn + 1) + 0x4000 + 64 * i

/-- A record put in a function's event queue, or counted in LOST where it is full (R354). -/
def State.queueEvent (s : State) (fn : Nat) (r : FaultRec) : State :=
  let t := s.rf (HD_EVQ_TAIL fn) HD_EVQ_TAIL_TAIL
  if (t + 1) % 256 = s.rf (HD_EVQ_HEAD fn) HD_EVQ_HEAD_HEAD then s.bump (HD_EVQ_TAIL fn) HD_EVQ_TAIL_LOST 1
  else
    let s := (s.putWords (evqEntry fn t) (recWords (recBytes r))).wf (HD_EVQ_TAIL fn) HD_EVQ_TAIL_TAIL ((t + 1) % 256)
    if s.rb (HD_MB_CTL fn) HD_MB_CTL_EVQ_IRQ then { s with evPend := s.evPend ||| BitVec.ofNat 9 (2 ^ fn) } else s

/-- The functions that receive a record: PF0, and PFn for a context of Pn (R354). -/
def State.deliver (s : State) (r : FaultRec) : State :=
  let n := r.context.toNat / 4096
  let s := s.queueEvent 0 r
  if 1 ≤ n ∧ n ≤ 8 then s.queueEvent n r else s

/-- Kind of a record (R379). -/
def recKind (r : FaultRec) : Nat := (r.cls.toNat * 256 + r.code.toNat) * 65536 + r.unit.toNat

/-- A record numbered, buffered for the flash and delivered (R376, R380). -/
def State.emit (s : State) (r : FaultRec) : State :=
  let r := { r with seq := BitVec.ofNat 32 s.recSeq }
  let s := { s with recSeq := s.recSeq + 1, recBuf := s.recBuf ++ [r] }.hdEvc 0x03 1
  let s := match s.tetherLead with
    | some n => if r.flags.getLsbD 1 then s else { s with ctlOut := s.ctlOut ++ [(n, 0x4000, recBytes r)] }
    | none => s
  s.deliver r

/-- Ticks of a record's window: 1 ms (R379). -/
def windowTicks : Nat := 1500000
/-- A kind's window begins with a record that carries what its last window suppressed, or, with the flash buffer full,
with the event itself suppressed (R379, R380). -/
def State.openWindow (s : State) (r : FaultRec) (count : Nat) : State :=
  let ws := s.windows.filter fun e => e.1 ≠ recKind r
  if s.recBuf.length ≥ 4096 then
    { s with windows := (recKind r, { begin_ := s.tick, count := count + 1, last := some r }) :: ws }.hdEvc 0x04 1
  else
    { s with windows := (recKind r, { begin_ := s.tick, count := 0, last := none }) :: ws }.emit
      { r with suppressed := BitVec.ofNat 32 count }
/-- An event: a record is made, or counted in the window of its kind (R379). CORE records are exempt. -/
def State.report (s : State) (r : FaultRec) : State :=
  if r.cls = 1 then s.emit r
  else
    match s.windows.find? (fun e => e.1 = recKind r) with
    | some (_, w) =>
      if s.tick < w.begin_ + windowTicks then
        let ws : List (Nat × Window) := s.windows.map fun e =>
          if e.1 = recKind r then (e.1, { w with count := w.count + 1, last := some r }) else e
        { s with windows := ws }.hdEvc 0x04 1
      else s.openWindow r w.count
    | none => s.openWindow r 0

/-- A record of an event of the package, at the present fabric time (R376). -/
def State.mkRec (s : State) (cls code : Nat) (unit : BitVec 16) (ctx : BitVec 16) (status sub addr detail : Nat) :
    FaultRec :=
  { seq := 0, cls := BitVec.ofNat 8 cls, code := BitVec.ofNat 8 code, status := BitVec.ofNat 8 status,
    flags := if s.rf HD_TIME_STAT HD_TIME_STAT_STATE = 1 then 0 else 1, time := s.rget HD_TIME_NOW, node := s.nodeWord,
    context := ctx, unit := unit, sub := BitVec.ofNat 16 sub, addr := BitVec.ofNat 64 addr,
    detail := BitVec.ofNat 192 detail, suppressed := 0 }

/-- An event reported in one go. -/
def State.event (s : State) (cls code : Nat) (unit : BitVec 16) (ctx : BitVec 16) (status sub addr detail : Nat) : State :=
  s.report (s.mkRec cls code unit ctx status sub addr detail)

/-! ## Free values -/

/-- A free value of the manual and the state that has used it up (log entry 1). -/
def State.open_ (s : State) : BitVec 64 := Config.freeValue s.free
def State.used (s : State) : State := { s with free := s.free + 1 }

/-! ## Knots (R73) -/

def knotKey (cl k : Nat) : Nat := cl * 64 + k
def State.kp (s : State) (key : Nat) : KnotPend := Tab.get KnotPend.none s.kpend key
def State.setKp (s : State) (key : Nat) (k : KnotPend) : State := { s with kpend := Tab.set KnotPend.none s.kpend key k }
/-- An outside increment of a knot in this wall beat (R73, R326). -/
def State.knotAdd (s : State) (cl k n : Nat) : State :=
  let q := s.kp (knotKey cl k)
  s.setKp (knotKey cl k) { q with outside := q.outside + n }
/-- The count of a knot at the start of the beat. -/
def State.knotCount (s : State) (cl k : Nat) : Nat := s.rf (KN_COUNT cl k) KN_COUNT_COUNT

end Sys2Proof.Machine
end

