-- ==== Sys2Proof/Machine/Flags.lean ====
section
/-! DEFINITION. The number flags of a core (R41, R42, R65, R85). -/
namespace Sys2Proof.Machine

/-- The flags that stand in CD_CORE_FLAGS [6:0]. -/
def State.flagsOf (s : State) (c : Nat) : BitVec 7 := (s.rget (CD_CORE_FLAGS c)).setWidth 7

/-- Flag events ORed into a core's flags; a W1C write of the same tick does not clear them (R13, R42). -/
def State.orFlags (s : State) (c : Nat) (f : BitVec 7) : State :=
  (s.rset (CD_CORE_FLAGS c) (s.rget (CD_CORE_FLAGS c) ||| f.setWidth 64)).note (CD_CORE_FLAGS c) (f.setWidth 64)

/-- Flags cleared as a W1C write would, except those whose event arrived with the present beat count (R42, R85). -/
def State.clearFlags (s : State) (c : Nat) (n : Nat) (m : BitVec 7) : State :=
  let k := s.core c
  let m := if k.freshAt = n then m &&& ~~~ k.fresh else m
  s.rset (CD_CORE_FLAGS c) (s.rget (CD_CORE_FLAGS c) &&& ~~~ (m.setWidth 64))

end Sys2Proof.Machine
end

