-- ==== Sys2Proof/Machine/Operands.lean ====
section
/-! DEFINITION. The operand forms: lines of a vector register, tiles, activations, accumulator images, chunks,
effective lines (R50, R53, R54, R57, R60, R66, R109). -/
namespace Sys2Proof.Machine

/-! ## Vector registers (R54) -/

def Core.reg (k : Core) (v : Nat) : VReg := Tab.get 0 k.vr (v % 32)
/-- Bits [lo + w − 1 : lo] of a register. -/
def regBits (r : VReg) (lo w : Nat) : Nat := nbits r.toNat lo w
/-- 32-bit lane `i`. -/
def lane (r : VReg) (i : Nat) : Nat := regBits r (32 * i) 32
/-- A register from fields of `w` bits, the first lowest. -/
def ofFields (w : Nat) (l : List Nat) : VReg := BitVec.ofNat 2048 (packNat w l)
/-- The bits [lo + w − 1 : lo] set, for masked writes. -/
def bitsMask (lo w : Nat) : VReg := BitVec.ofNat 2048 ((2 ^ w - 1) * 2 ^ lo)
/-- Half `h` of a register as a line (R66). -/
def regLine (r : VReg) (h : Nat) : Line := BitVec.ofNat 1024 (regBits r (1024 * h) 1024)
/-- The lines a VST stores: register V, V + 1, …, two lines each (R66). -/
def vstLines (k : Core) (v n : Nat) : List Line :=
  (List.range n).map fun i => regLine (k.reg (v + i / 2)) (i % 2)
/-- The writes of a VLD: line `i` fills half i mod 2 of register V + i / 2 (R66). -/
def vldWrites (v : Nat) (ls : List Line) : List FlightAct :=
  (List.range ls.length).zip ls |>.map fun (i, l) =>
    .vreg ((v + i / 2) % 32) (bitsMask (1024 * (i % 2)) 1024) (BitVec.ofNat 2048 (l.toNat * 2 ^ (1024 * (i % 2))))

/-! ## Tile and activation buffers (R48, R50) -/

def tileKey (eng : Nat) (buf : Bool) (line : Nat) : Nat := (eng * 2 + buf.toNat) * 25 + line
def actKey (eng line : Nat) : Nat := eng * 128 + line
/-- Byte `j` of a run of lines held in a table from key `base` on. -/
def tabByte (t : Tab Line) (base j : Nat) : Nat := nbits (Tab.get 0 t (base + j / 128)).toNat (8 * (j % 128)) 8
/-- `n` bytes from byte `j` on, as a number. -/
def tabNat (t : Tab Line) (base j : Nat) : Nat → Nat
  | 0 => 0
  | n + 1 => tabByte t base j + 256 * tabNat t base (j + 1) n

/-- A block of a tile: 32 values of block `b` (R32, R33). -/
def tileBlock (t : Tab Line) (base : Nat) (wf : BitVec 4) (b : Nat) : List XV :=
  let bits := blockBits wf
  let eb := 4 * bits
  let scales := if wf = 4 then 2048 else 3072
  let w := tabNat t base (eb * b) eb
  let sc := tabByte t base (scales + b)
  (List.range 32).map fun i => decodeBlockElem wf sc (unpackNat bits i w)

/-- Row `r`, slice `c` of a tile buffer (R50). -/
def tileRow (t : Tab Line) (base : Nat) (wf : BitVec 4) (r c : Nat) : List XV :=
  if wf = 4 then tileBlock t base wf (4 * r + 2 * c) ++ tileBlock t base wf (4 * r + 2 * c + 1)
  else if wf = 3 then tileBlock t base wf (4 * r + c)
  else
    let w := scalarBits wf / 8
    (List.range (32 / w)).map fun j => decodeScalar wf (tabNat t base (32 * r + w * j) w)

/-- The `n` activation elements from byte 32u on (R51). -/
def actElems (t : Tab Line) (base u : Nat) (af : BitVec 4) (n : Nat) : List XV :=
  let w := scalarBits af / 8
  (List.range n).map fun j => decodeScalar af (tabNat t base (32 * u + w * j) w)

/-! ## Accumulator sets (R52, R53) -/

def accKey (eng set : Nat) : Nat := eng * 8 + set
def Core.accSpec (k : Core) (key : Nat) : BitVec 16 := Tab.get 0 k.spec key
def Core.accImg (k : Core) (key : Nat) : BitVec 4096 := Tab.get 0 k.acc key
/-- The 32 tallies of a storage image (R53). -/
def accTallies (wide : Bool) (img : BitVec 4096) : List Tally :=
  (List.range 32).map fun i => decodeTally wide (unpackNat (tallyBits wide) i img.toNat)
/-- The storage image of 32 tallies; with TL64, bytes 256 to 511 read 0 (R53). -/
def accImage (wide : Bool) (l : List Tally) : BitVec 4096 :=
  BitVec.ofNat 4096 (packNat (tallyBits wide) (l.map (encodeTally wide)))
/-- The first `n` lines of the image (TST). The image has four lines: of a LEN of five to eight the lines past it are
stored as zeros (DESIGN CHOICE, log entry 76: R53 gives the image 512 bytes and LEN goes to 8). -/
def accLines (img : BitVec 4096) (n : Nat) : List Line :=
  (List.range n).map fun i => BitVec.ofNat 1024 (nbits img.toNat (1024 * i) 1024)
/-- The image with its first `n` lines replaced (TLA); a TL64 set discards bytes 256 to 511. Lines past the image, of a LEN
of five to eight, are read and discarded (DESIGN CHOICE, log entry 76). -/
def accReplace (wide : Bool) (img : BitVec 4096) (n : Nat) (ls : List Line) : BitVec 4096 :=
  let m : BitVec 4096 := BitVec.ofNat 4096 (2 ^ (1024 * n) - 1)
  let v : BitVec 4096 := BitVec.ofNat 4096 (packNat 1024 (ls.map BitVec.toNat))
  let r := (img &&& ~~~ m) ||| (v &&& m)
  if wide then r else BitVec.ofNat 4096 (nbits r.toNat 0 2048)

/-- One MMV step of one engine: the new image of the set and the flag events (R51). -/
def mmvEngine (k : Core) (eng : Nat) (f : MmvF) : Res (BitVec 4096) :=
  let key := accKey eng f.set.toNat
  let sp := k.accSpec key
  let wide := specWide sp
  let q := specQ sp
  let n := match pairing f.wfmt f.afmt with | some (n, _) => n | none => 0
  let act := actElems k.ab (actKey eng 0) f.aofs.toNat f.afmt n
  let old := accTallies wide (k.accImg key)
  let row (r : Nat) : Res Tally :=
    let ps := ((tileRow k.wb (tileKey eng f.buf 0) f.wfmt r f.slice.toNat).zip act).map fun (w, a) => place wide q (xmul w a)
    let a : Tally := if f.clr then some 0 else old.getD r none
    let sum := accumulate wide a (ps.map Res.val)
    ⟨sum.val, ps.foldl (fun x p => x ||| p.flags) sum.flags⟩
  let rs := (List.range 32).map row
  ⟨accImage wide (rs.map Res.val), rs.foldl (fun x r => x ||| r.flags) 0⟩

/-- Engines a mask names (R66). -/
def engines (mask : BitVec 4) : List Nat := (List.range 4).filter mask.getLsbD

/-! ## Effective lines (R60, R109) -/

def Core.arOf (k : Core) (a : BitVec 4) : Nat := (Tab.get 0 k.ar a.toNat).toNat
def Core.prOf (k : Core) (p : BitVec 2) : Nat := (Tab.get 0 k.pr p.toNat).toNat
/-- First scratchpad line, formed without wrap, and number of lines. -/
def effLine (k : Core) (a : MAddr) : Nat := k.arOf a.ar + a.offset.toNat
def lenOf (a : MAddr) : Nat := a.len.toNat + 1

/-- The scratchpad side of an M-slot operation. -/
def addrOf : MOp → Option MAddr
  | .vld a _ | .vst a _ | .tld a _ _ _ | .ald a _ _ | .tst a _ _ | .tla a _ _ | .pld a _ _ _ | .pst a _ _ _ _ _
  | .esa a _ _ _ _ => some a
  | _ => none
/-- The pool side: effective pool line, which registers it advances and by how much. -/
def poolSide (k : Core) : MOp → Option (Nat × BitVec 2 × Bool)
  | .pld _ pr pinc pofs => some (k.prOf pr + pofs.toNat, pr, pinc)
  | .pst _ pr pinc _ _ pofs => some (k.prOf pr + pofs.toNat, pr, pinc)
  | _ => none

/-- The RANGE check of an M-slot operation at issue: the first scratchpad line where it fails (R60, R109). -/
def rangeFault (k : Core) (op : MOp) : Option Nat :=
  match addrOf op with
  | none => none
  | some a =>
    let l := effLine k a
    if l + a.len.toNat > 24575 then some l
    else
      match poolSide k op with
      | some (p, _, _) => if p + a.len.toNat > 65535 then some l else none
      | none => none

end Sys2Proof.Machine
end

