-- ==== Sys2Proof/Machine/CoreBase.lean ====
section
/-! DEFINITION. What the commands of a core share: the count its pipelines stand at, landing of results, core faults
(R65, R88), static accesses (R61) and transfers (R102, R103), and the issue of each slot. -/
namespace Sys2Proof.Machine

/-- Hold latency H (R76). -/
def holdH : Nat := 8

/-- CD_SEQ_STATUS STATE (R89): 0 idle, 1 running, 2 halted, 3 faulted or stopped. -/
def State.seqState (s : State) (c : Nat) : Nat := s.rf (CD_SEQ_STATUS c) CD_SEQ_STATUS_STATE
def State.running (s : State) (c : Nat) : Bool := s.seqState c == 1
/-- Beat count of the next bundle (R69). -/
def State.bc (s : State) (c : Nat) : Nat := s.rf (CD_BEAT_COUNT c) CD_BEAT_COUNT_BC
/-- The issue beat the core's pipelines stand at: its own count while it runs, its group's afterwards (R87). -/
def State.coreNow (s : State) (c : Nat) : Nat := if s.running c then s.bc c else max (s.bc c) (s.grp (s.grpOf c)).count
/-- The group is held before the count its core stands at: a wait issued H or more counts ago has not been released (R76);
a pending wait holds a halted core's group too (R87). -/
def State.held (s : State) (c : Nat) : Bool :=
  (s.grp (s.grpOf c)).waits.any fun w => decide (w.count + holdH ≤ s.coreNow c)
/-- The last count whose wall beat has come: in a held beat the next count's has not, and pipelines, bank accesses and
transfers of that count stay where they are (R77). -/
def State.coreBeat (s : State) (c : Nat) : Nat := if s.held c then s.coreNow c - 1 else s.coreNow c
def State.zopen (s : State) (c : Nat) : BitVec 8 := BitVec.ofNat 8 (s.rf (CD_SEQ_STATUS c) CD_SEQ_STATUS_ZOPEN)
def State.pb (s : State) (p : Nat) : Nat := s.rf (CD_PAIR_BEAT p) CD_PAIR_BEAT_PB

/-! ## Landing of results (R56, R63) -/

/-- One result lands. -/
def landAct (k : Core) : FlightAct → Core
  | .vreg r m v => { k with vr := Tab.set 0 k.vr r ((Tab.get 0 k.vr r &&& ~~~ m) ||| (v &&& m)) }
  | .tile key l => { k with wb := Tab.set 0 k.wb key l }
  | .act key l => { k with ab := Tab.set 0 k.ab key l }
  | .acc key n ls => { k with acc := Tab.set 0 k.acc key (accReplace (specWide (k.accSpec key)) (k.accImg key) n ls) }
  | .flags _ => k
  | .zopen _ => k

/-- The flags an arriving result brings. -/
def actFlags : FlightAct → BitVec 7
  | .flags f => f
  | _ => 0
/-- The zones an arriving LZOPEN opens. -/
def actZones : FlightAct → BitVec 8
  | .zopen z => z
  | _ => 0

/-- The results a test names land, in the order of their issue (R42, R63). Flag events of count `n` are remembered for
FLAGCLR (R85). -/
def State.landIf (s : State) (c n : Nat) (p : Flight → Bool) : State :=
  let k := s.core c
  let due := k.flight.filter p
  let rest := k.flight.filter fun f => !p f
  let fl := due.foldl (fun x f => x ||| actFlags f.act) 0
  let now := due.foldl (fun x f => if f.due = n then x ||| actFlags f.act else x) (if k.freshAt = n then k.fresh else 0)
  let zs := due.foldl (fun x f => x ||| actZones f.act) 0
  let k' := due.foldl (fun k f => landAct k f.act) k
  let s := s.setCore c { k' with flight := rest, fresh := now, freshAt := if now = 0 then 0 else n }
  let s := if fl = 0 then s else s.orFlags c fl
  if zs = 0 then s else s.wf (CD_SEQ_STATUS c) CD_SEQ_STATUS_ZOPEN (s.zopen c ||| zs).toNat
/-- All results due at count `n` or before land (R56, R63). -/
def State.land (s : State) (c n : Nat) : State := s.landIf c n fun f => decide (f.due ≤ n)
/-- An LZOPEN on its way. -/
def FlightAct.isZopen : FlightAct → Bool
  | .zopen _ => true
  | _ => false
/-- What has come due in the present wall beat lands: the pipelines' results by the core's last beat, and an LZOPEN of
count n from the wall beat after W(n + 1) on, which a hold does not delay (R77, R81). -/
def State.landNow (s : State) (c : Nat) : State :=
  s.landIf c (s.coreBeat c) fun f => decide (f.due ≤ if f.act.isZopen then s.coreNow c else s.coreBeat c)

/-- A result sent on its way. -/
def Core.send (k : Core) (due : Nat) (a : FlightAct) : Core := { k with flight := k.flight ++ [{ due := due, act := a }] }
/-- Flag events of a result visible at `due` (R42); none are sent for no event. -/
def Core.sendFlags (k : Core) (due : Nat) (f : BitVec 7) : Core := if f = 0 then k else k.send due (.flags f)

/-! ## Core faults (R65, R88) -/

/-- CD_CORE_FAULT laid out (R65). A RANGE fault may name an effective line of 2^15 or more; LINE then holds its low 15 bits
(DESIGN CHOICE, log entry 76: the rule gives the field 15 bits and does not say what becomes of the others). -/
def coreFaultWord (cause slot : Nat) (both : Bool) (line beat : Nat) : Reg64 :=
  BitVec.ofNat 64 (cause + slot * 2 ^ 8 + both.toNat * 2 ^ 11 + line % 2 ^ 15 * 2 ^ 12 + beat % 2 ^ 24 * 2 ^ 27)

/-- The core records a fault, unless it holds one, loses what it has in flight and stops (R65, R88). -/
def State.coreStops (s : State) (c cause slot : Nat) (both : Bool) (line beat : Nat) : State :=
  let s := if s.rf (CD_CORE_FAULT c) CD_CORE_FAULT_CAUSE = 0 then
      s.rset (CD_CORE_FAULT c) (coreFaultWord cause slot both line beat)
    else s
  let k := s.core c
  let s := s.setCore c { k with flight := [], banks := [], holdRun := 0 }
  let s := { s with poolOps := s.poolOps.filter (fun o => o.core ≠ c) }
  let p := s.pair (pairOf c)
  let s := s.setPair (pairOf c) { p with xfers := p.xfers.filter (fun x => x.core ≠ c) }
  (s.wf (CD_SEQ_STATUS c) CD_SEQ_STATUS_STATE 3).wf (CD_SEQ_STATUS c) CD_SEQ_STATUS_HELD 0

/-- A core faults: it stops at once, its group stops at count n + H, and its partition waits for PART_STOP (R88). The count
n is that of the bundle its group would issue next; a core that has faulted before stays one origin. -/
def State.coreFault (s : State) (c cause slot : Nat) (both : Bool) (line beat : Nat) : State :=
  let n := s.coreNow c
  let s := s.coreStops c cause slot both line beat
  let key := s.grpOf c
  let g := s.grp key
  let s := s.setGrp key
    { g with draining := false, stop := some (match g.draining, g.stop with | false, some m => min m n | _, _ => n) }
  let pn := s.partOfCore c
  match s.part? pn with
  | some p => s.setPart pn { p with origins := if p.origins.contains c then p.origins else p.origins ++ [c] }
  | none => s

/-! ## Routes (R101 to R103, R112) -/

/-- Resource numbers of a pair: link out of a cluster (die × 16 + cluster) in direction 0 N, 1 E, 2 S, 3 W, 4 V; pool
port 5; the mesh and vertical inputs of edge slot `k` at 1000 + 2k and 1001 + 2k. -/
def resLink (dc dir : Nat) : Nat := dc * 8 + dir
def resPool (dc : Nat) : Nat := dc * 8 + 5
def resSlot (slot : Nat) (vertical : Bool) : Nat := 1000 + 2 * slot + vertical.toNat

/-- Links of a walk along x from x1 to x2 in row y (R102). -/
def walkX (d y x2 : Nat) : Nat → Nat → List Nat
  | 0, _ => []
  | fuel + 1, x =>
    if x = x2 then []
    else if x < x2 then resLink (d * 16 + 4 * y + x) 1 :: walkX d y x2 fuel (x + 1)
    else resLink (d * 16 + 4 * y + x) 3 :: walkX d y x2 fuel (x - 1)
/-- Links of a walk along y from y1 to y2 in column x. -/
def walkY (d x y2 : Nat) : Nat → Nat → List Nat
  | 0, _ => []
  | fuel + 1, y =>
    if y = y2 then []
    else if y < y2 then resLink (d * 16 + 4 * y + x) 2 :: walkY d x y2 fuel (y + 1)
    else resLink (d * 16 + 4 * y + x) 0 :: walkY d x y2 fuel (y - 1)
/-- The links of the route from die d1, cluster c1 to die d2, cluster c2 (R102). -/
def route (d1 c1 d2 c2 : Nat) : List Nat :=
  walkX d1 (meshY c1) (meshX c2) 4 (meshX c1) ++ walkY d1 (meshX c2) (meshY c2) 4 (meshY c1) ++
    (if d1 = d2 then [] else [resLink (d1 * 16 + c2) 4])
/-- The claims of a transfer issued at `b`: hop k at b + 3k − 1, the final resource at b + 2 + 3n (R103). -/
def claimsOf (b : Nat) (links : List Nat) (last : Nat) : List (Nat × Nat) :=
  ((List.range links.length).zip links).map (fun (i, l) => (b + 3 * i + 2, l)) ++ [(b + 2 + 3 * links.length, last)]
/-- Cluster of edge port `e` (R112). -/
def edgeCluster (e : Nat) : Nat :=
  ([0, 1, 2, 3, 3, 7, 11, 15, 12, 13, 14, 15, 0, 4, 8, 12] : List Nat).getD e 0

/-! ## Issue of the slots -/

/-- The accesses and results an M-slot operation issued at count `b` starts; the registers are those of `k0`, as they
stand at issue (R63, R109, R111). -/
def issueAcc (k0 : Core) (b slot : Nat) (op : MOp) (c : Nat) : List BankAcc :=
  match addrOf op with
  | none => []
  | some a =>
    let l := effLine k0 a
    let mk (kind : AccKind) : BankAcc :=
      { beat := b + 1, issued := b, slot := slot, line := l, n := lenOf a, pld := false, kind := kind }
    match op with
    | .vld _ v => [mk (.vld v.toNat)]
    | .vst _ v => [mk (.write (vstLines k0 v.toNat (lenOf a)))]
    | .tld _ bl m bf => [mk (.tld bl.toNat m.toNat bf)]
    | .ald _ al m => [mk (.ald al.toNat m.toNat)]
    | .tst _ set eng => [mk (.write (accLines (k0.accImg (accKey eng.toNat set.toNat)) (lenOf a)))]
    | .tla _ set eng => [mk (.tla set.toNat eng.toNat)]
    | .pst _ pr _ dcl ddie pofs =>
      [mk (.pst (pairOf c * 32 + ddie.toNat * 16 + dcl.toNat) (k0.prOf pr + pofs.toNat))]
    | .esa _ sl first wide sofs => [mk (.esa sl.toNat first wide sofs.toNat)]
    | _ => []

/-- The pool read a PLD issued at `b` starts (R111). -/
def issuePool (k0 : Core) (b slot : Nat) (op : MOp) (c : Nat) : List PoolOp :=
  match op with
  | .pld a pr _ pofs =>
    [{ beat := b + 1, core := c, slot := slot, spline := effLine k0 a, issued := b, pline := k0.prOf pr + pofs.toNat,
       n := lenOf a, write := none, cluster := gclusterOf c }]
  | _ => []

/-- Address and pool registers after an M-slot operation: INC, PINC and ARSET (R66, R109). -/
def advanceRegs (k : Core) (op : MOp) : Core :=
  let k := match addrOf op with
    | some a => if a.inc then { k with ar := Tab.set 0 k.ar a.ar.toNat (BitVec.ofNat 15 (k.arOf a.ar + lenOf a)) } else k
    | none => k
  let k := match poolSide k op with
    | some (_, pr, true) =>
      let len := match addrOf op with | some a => lenOf a | none => 0
      { k with pr := Tab.set 0 k.pr pr.toNat (BitVec.ofNat 16 (k.prOf pr + len)) }
    | _ => k
  match op with
  | .arset ar v => { k with ar := Tab.set 0 k.ar ar.toNat v }
  | _ => k
/-- PRSET, which takes precedence over increments of the same bundle (R109). -/
def setPr (k : Core) : MOp → Core
  | .prset pr v => { k with pr := Tab.set 0 k.pr pr.toNat v }
  | _ => k

/-- Both M slots of a bundle at count `b` (R63, R109); a single operation stands beside NOP. Where both ARSET one address
register, which no row of R64 refuses, M1's value stands (DESIGN CHOICE, log entry 76). -/
def State.issueMs (s : State) (c b : Nat) (m0 m1 : MOp) : State :=
  let k0 := s.core c
  let k := setPr (setPr (advanceRegs (advanceRegs k0 m0) m1) m0) m1
  let k := { k with banks := k.banks ++ issueAcc k0 b 0 m0 c ++ issueAcc k0 b 1 m1 c }
  { s with poolOps := s.poolOps ++ issuePool k0 b 0 m0 c ++ issuePool k0 b 1 m1 c }.setCore c k

/-- Events of the operations of a bundle: MMVs, V and S operations (R433). -/
def State.opEvents (s : State) (c : Nat) (mmv v sop : Bool) : State :=
  let s := if mmv then s.cdEvc c 0x04 1 else s
  let s := if v then s.cdEvc c 0x05 1 else s
  if sop then s.cdEvc c 0x06 1 else s
def isMmv : EOp → Bool
  | .mmv _ => true
  | _ => false

/-- A single slot operation at the core's present count: what has come due there lands first (R42, R56, R63); a core that
has halted, faulted or been stopped issues nothing (R65, R87). -/
def State.slotOp (s : State) (c : Nat) (f : State → State) : State :=
  if s.seqState c ≥ 2 then s else f (s.land c (s.bc c))

/-- An E-slot operation at count `b` (R51, R52). Accumulators change at once, which an MMV of the next beat sees; flag
events belong to b + 4 (R42). -/
def issueE (k : Core) (b : Nat) : EOp → Core
  | .nop => k
  | .mmv f =>
    (engines f.mask).foldl (fun k' e =>
      let r := mmvEngine k e f
      { k' with acc := Tab.set 0 k'.acc (accKey e f.set.toNat) r.val }.sendFlags (b + 4) r.flags) k
  | .spec mask set t =>
    (engines mask).foldl (fun k e =>
      { k with spec := Tab.set 0 k.spec (accKey e set.toNat) t, acc := Tab.set 0 k.acc (accKey e set.toNat) 0 }) k
  | .zero mask sets =>
    (engines mask).foldl (fun k e =>
      ((List.range 8).filter sets.getLsbD).foldl (fun k i => { k with acc := Tab.set 0 k.acc (accKey e i) 0 }) k) k

end Sys2Proof.Machine
end

