-- ==== Sys2Proof/Machine/Vector.lean ====
section
/-! DEFINITION. The vector and special-function operations (R54 to R58). -/
namespace Sys2Proof.Machine

/-- The writes of a vector operation, later ones over earlier ones, and its flag events. -/
structure VRes where
  writes : List (Nat × VReg × VReg)
  flags : BitVec 7
deriving DecidableEq, Repr

/-- A whole register written from fields of `w` bits. -/
def wholeReg (vd w : Nat) (rs : List (Res Nat)) : VRes :=
  ⟨[(vd, BitVec.allOnes 2048, ofFields w (rs.map Res.val))], rs.foldl (fun f r => f ||| r.flags) 0⟩
/-- A run of fields of `w` bits written from bit `lo` on. -/
def partReg (vd lo w : Nat) (rs : List (Res Nat)) : VRes :=
  ⟨[(vd, bitsMask lo (w * rs.length), BitVec.ofNat 2048 (packNat w (rs.map Res.val) * 2 ^ lo))],
   rs.foldl (fun f r => f ||| r.flags) 0⟩

/-- Element width and format of a floating-point operation: BF16 pairs or FP32 lanes (R54). -/
def vWidth (bf : Bool) : Nat := if bf then 16 else 32
def vFmt (bf : Bool) : FloatFmt := if bf then fmtBF16 else fmtFP32

/-- An element-wise operation on `w`-bit elements of up to three sources. -/
def mapElems (w : Nat) (a b c : VReg) (f : Nat → Nat → Nat → Res Nat) (vd : Nat) : VRes :=
  wholeReg vd w ((List.range (2048 / w)).map fun i => f (regBits a (w * i) w) (regBits b (w * i) w) (regBits c (w * i) w))

/-- Adjacent pairs of a list added (R56, FRED). -/
def pairSums : List (Res Nat) → List (Res Nat)
  | x :: y :: r => (let s := fpAdd fmtFP32 x.val y.val; ⟨s.val, x.flags ||| y.flags ||| s.flags⟩) :: pairSums r
  | l => l
/-- The fixed adder tree of FRED: six levels over 64 lanes (R56). -/
def fredTree (l : List Nat) : Res Nat :=
  let t0 := l.map fun v => (⟨v, 0⟩ : Res Nat)
  (pairSums (pairSums (pairSums (pairSums (pairSums (pairSums t0)))))).headD ⟨0, 0⟩
/-- FREDMAX: the maximum of the lanes (R56). -/
def fredMaxAll (l : List Nat) : Nat := l.tail.foldl (fun m v => (fpMax fmtFP32 m v).val) (fpMax fmtFP32 (l.headD 0) (l.headD 0)).val

def lanes (r : VReg) : List Nat := (List.range 64).map (lane r)

/-- CVT (R57): 64 elements, the wider side in chunk 0, the narrower in chunk PART. -/
def vCvt (a : VReg) (f : VFields) : VRes :=
  let src := f.imm.extractLsb' 0 4
  let ws := scalarBits src
  let wd := scalarBits f.fmt
  let sp := if ws > wd then 0 else f.part.toNat
  let dp := if wd > ws then 0 else f.part.toNat
  partReg f.vd.toNat (dp * 64 * wd) wd
    ((List.range 64).map fun i => convertScalar f.fmt (decodeScalar src (regBits a (sp * 64 * ws + ws * i) ws)))

/-- TCVT (R57). -/
def vTcvt (a : VReg) (f : VFields) : VRes :=
  let wide := specWide f.imm
  let n := tallyCount wide
  let tb := tallyBits wide
  let wd := scalarBits f.fmt
  partReg f.vd.toNat (f.part.toNat * n * wd) wd
    ((List.range n).map fun i => convertScalar f.fmt (tallyValue (specQ f.imm) (decodeTally wide (regBits a (tb * i) tb))))

/-- TFROM (R57). -/
def vTfrom (a : VReg) (f : VFields) : VRes :=
  let wide := specWide f.imm
  let n := tallyCount wide
  let ws := scalarBits f.fmt
  wholeReg f.vd.toNat (tallyBits wide) ((List.range n).map fun i =>
    let r := place wide (specQ f.imm) (decodeScalar f.fmt (regBits a (f.part.toNat * n * ws + ws * i) ws))
    ⟨encodeTally wide r.val, r.flags⟩)

/-- TREQ (R40, R57). -/
def vTreq (a : VReg) (f : VFields) : VRes :=
  let sh := (f.imm.extractLsb' 0 10).toInt
  let ws := f.imm.getLsbD 10
  let wd := f.imm.getLsbD 11
  let n := if ws || wd then 16 else 32
  let so := if !ws && wd then f.part.toNat * 1024 else 0
  let dof := if ws && !wd then f.part.toNat * 1024 else 0
  partReg f.vd.toNat dof (tallyBits wd) ((List.range n).map fun i =>
    let r := realign wd sh (decodeTally ws (regBits a (so + tallyBits ws * i) (tallyBits ws)))
    ⟨encodeTally wd r.val, r.flags⟩)

/-- TADD (R39, R56). -/
def vTadd (a b : VReg) (f : VFields) : VRes :=
  let wide := specWide f.imm
  let w := tallyBits wide
  wholeReg f.vd.toNat w ((List.range (tallyCount wide)).map fun i =>
    let r := accumulate wide (decodeTally wide (regBits a (w * i) w)) [decodeTally wide (regBits b (w * i) w)]
    ⟨encodeTally wide r.val, r.flags⟩)

/-- TPACK (R44, R57): the element bytes into slot k of vd, then the scale byte into byte j of vb. -/
def vTpack (k : Core) (f : VFields) : VRes :=
  let wide := specWide f.imm
  let a := k.reg f.va.toNat
  let a1 := k.reg (f.va.toNat + 1)
  let val (i : Nat) : Tally :=
    if wide then (if i < 16 then decodeTally true (regBits a (128 * i) 128) else decodeTally true (regBits a1 (128 * (i - 16)) 128))
    else decodeTally false (regBits a (64 * i) 64)
  let r := convertBlock f.fmt ((List.range 32).map fun i => tallyValue (specQ f.imm) (val i))
  let eb := blockBits f.fmt
  let lo := 32 * eb * f.slotk.toNat
  let j := f.part.toNat * 32 + f.vc.toNat
  ⟨[(f.vd.toNat, bitsMask lo (32 * eb), BitVec.ofNat 2048 (packNat eb r.val.1 * 2 ^ lo)),
    (f.vb.toNat, bitsMask (8 * j) 8, BitVec.ofNat 2048 (r.val.2 * 2 ^ (8 * j)))], r.flags⟩

/-- The result of a vector operation on the registers as they stand at issue (R56, R57). MOVF with an immediate that is a
NaN writes it as it stands, IMM × 2^16, with its sign and payload: R56 widens the value exactly, and R29 names MOVF neither
among the operations that move bits nor among those that produce a NaN (DESIGN CHOICE, log entry 76). -/
def vResult (k : Core) (code : VCode) (f : VFields) : VRes :=
  let a := k.reg f.va.toNat
  let b := k.reg f.vb.toNat
  let c := k.reg f.vc.toNat
  let vd := f.vd.toNat
  let w := vWidth f.bf
  let ff := vFmt f.bf
  let pure1 (g : Nat → Nat → Nat → Nat) (w : Nat) : VRes := mapElems w a b c (fun x y z => ⟨g x y z, 0⟩) vd
  match code with
  | .fadd => mapElems w a b c (fun x y _ => fpAdd ff x y) vd
  | .fsub => mapElems w a b c (fun x y _ => fpSub ff x y) vd
  | .fmul => mapElems w a b c (fun x y _ => fpMul ff x y) vd
  | .fma => mapElems w a b c (fun x y z => fpFma ff x y z) vd
  | .fmax => mapElems w a b c (fun x y _ => fpMax ff x y) vd
  | .fmin => mapElems w a b c (fun x y _ => fpMin ff x y) vd
  | .fcmplt => pure1 (fun x y _ => if fpLt ff x y then 2 ^ w - 1 else 0) w
  | .fcmpeq => pure1 (fun x y _ => if fpEq ff x y then 2 ^ w - 1 else 0) w
  | .sel => pure1 (fun x y z => if z ≠ 0 then x else y) w
  | .fabs => pure1 (fun x _ _ => x % 2 ^ (w - 1)) w
  | .fneg => pure1 (fun x _ _ => x ^^^ 2 ^ (w - 1)) w
  | .fred => let r := fredTree (lanes a); ⟨[(vd, BitVec.allOnes 2048, BitVec.ofNat 2048 r.val)], r.flags⟩
  | .fredmax => ⟨[(vd, BitVec.allOnes 2048, BitVec.ofNat 2048 (fredMaxAll (lanes a)))], 0⟩
  | .cvt => vCvt a f
  | .tcvt => vTcvt a f
  | .tpack => vTpack k f
  | .tadd => vTadd a b f
  | .treq => vTreq a f
  | .tfrom => vTfrom a f
  | .iadd => pure1 (fun x y _ => x + y) 32
  | .isub => pure1 (fun x y _ => x + 2 ^ 32 - y) 32
  | .iand => pure1 (fun x y _ => x &&& y) 32
  | .ior => pure1 (fun x y _ => x ||| y) 32
  | .ixor => pure1 (fun x y _ => x ^^^ y) 32
  | .ishl => pure1 (fun x _ _ => x <<< (f.imm.toNat % 32)) 32
  | .isra => pure1 (fun x _ _ => ((BitVec.ofNat 32 x).sshiftRight (f.imm.toNat % 32)).toNat) 32
  | .movi => pure1 (fun _ _ _ => (f.imm.signExtend 32).toNat) 32
  | .movf => pure1 (fun _ _ _ => f.imm.toNat * 2 ^ 16) 32
  | .perm => wholeReg vd 32 ((List.range 64).map fun i => ⟨lane a (lane b i % 64), 0⟩)

/-- A V-slot operation issued at count `b`: its writes land and its flag events arrive at b + L (R42, R56). -/
def issueV (k : Core) (b : Nat) : VOp → Core
  | .nop => k
  | .op code f =>
    let r := vResult k code f
    let d := b + vLatency code
    (r.writes.foldl (fun k (v, m, x) => k.send d (.vreg v m x)) k).sendFlags d r.flags

/-- One lane of a special function (R58). -/
def sfLane : SCode → Nat → Res Nat
  | .exp, x => sfExp x
  | .rcp, x => sfRcp x
  | .rsqrt, x => sfRsqrt x

/-- An S-slot operation issued at count `b`: lanes 16Q to 16Q + 15 of vd, 12 beats later (R58). -/
def issueS (k : Core) (b : Nat) : SOp → Core
  | .nop => k
  | .op code vd va q =>
    let a := k.reg va.toNat
    let r := partReg vd.toNat (512 * q.toNat) 32 ((List.range 16).map fun i => sfLane code (lane a (16 * q.toNat + i)))
    let d := b + sLatency
    (r.writes.foldl (fun k (v, m, x) => k.send d (.vreg v m x)) k).sendFlags d r.flags

/-- A single V-slot operation at the core's present count; an encoding no loaded draft holds is refused (R66, R98). -/
def State.vOp (s : State) (c : CoreIx) (code : VCode) (f : VFields) : Host.Outcome State Fault Refusal :=
  if (checkV code f).isSome then .refused .illegalEncoding
  else .next (s.slotOp c fun s => (s.setCore c (issueV (s.core c) (s.bc c) (.op code f))).opEvents c false true false)
/-- A single S-slot operation at the core's present count. -/
def State.sOp (s : State) (c : CoreIx) (code : SCode) (vd va : BitVec 5) (q : BitVec 2) : Host.Outcome State Fault Refusal :=
  .next (s.slotOp c fun s => (s.setCore c (issueS (s.core c) (s.bc c) (.op code vd va q))).opEvents c false false true)

/-- FADD (R56). -/
def execFadd (c : CoreIx) (f : VFields) (s : State) : Host.Outcome State Fault Refusal := s.vOp c .fadd f
/-- FSUB (R56). -/
def execFsub (c : CoreIx) (f : VFields) (s : State) : Host.Outcome State Fault Refusal := s.vOp c .fsub f
/-- FMUL (R56). -/
def execFmul (c : CoreIx) (f : VFields) (s : State) : Host.Outcome State Fault Refusal := s.vOp c .fmul f
/-- FMA (R56). -/
def execFma (c : CoreIx) (f : VFields) (s : State) : Host.Outcome State Fault Refusal := s.vOp c .fma f
/-- FMAX (R56). -/
def execFmax (c : CoreIx) (f : VFields) (s : State) : Host.Outcome State Fault Refusal := s.vOp c .fmax f
/-- FMIN (R56). -/
def execFmin (c : CoreIx) (f : VFields) (s : State) : Host.Outcome State Fault Refusal := s.vOp c .fmin f
/-- FCMPLT (R56). -/
def execFcmplt (c : CoreIx) (f : VFields) (s : State) : Host.Outcome State Fault Refusal := s.vOp c .fcmplt f
/-- FCMPEQ (R56). -/
def execFcmpeq (c : CoreIx) (f : VFields) (s : State) : Host.Outcome State Fault Refusal := s.vOp c .fcmpeq f
/-- SEL (R56). -/
def execSel (c : CoreIx) (f : VFields) (s : State) : Host.Outcome State Fault Refusal := s.vOp c .sel f
/-- FABS (R56). -/
def execFabs (c : CoreIx) (f : VFields) (s : State) : Host.Outcome State Fault Refusal := s.vOp c .fabs f
/-- FNEG (R56). -/
def execFneg (c : CoreIx) (f : VFields) (s : State) : Host.Outcome State Fault Refusal := s.vOp c .fneg f
/-- FRED (R56). -/
def execFred (c : CoreIx) (f : VFields) (s : State) : Host.Outcome State Fault Refusal := s.vOp c .fred f
/-- FREDMAX (R56). -/
def execFredmax (c : CoreIx) (f : VFields) (s : State) : Host.Outcome State Fault Refusal := s.vOp c .fredmax f
/-- CVT (R56, R57). -/
def execCvt (c : CoreIx) (f : VFields) (s : State) : Host.Outcome State Fault Refusal := s.vOp c .cvt f
/-- TCVT (R56, R57). -/
def execTcvt (c : CoreIx) (f : VFields) (s : State) : Host.Outcome State Fault Refusal := s.vOp c .tcvt f
/-- TPACK (R56, R57). -/
def execTpack (c : CoreIx) (f : VFields) (s : State) : Host.Outcome State Fault Refusal := s.vOp c .tpack f
/-- TADD (R56). -/
def execTadd (c : CoreIx) (f : VFields) (s : State) : Host.Outcome State Fault Refusal := s.vOp c .tadd f
/-- TREQ (R56, R57). -/
def execTreq (c : CoreIx) (f : VFields) (s : State) : Host.Outcome State Fault Refusal := s.vOp c .treq f
/-- TFROM (R56, R57). -/
def execTfrom (c : CoreIx) (f : VFields) (s : State) : Host.Outcome State Fault Refusal := s.vOp c .tfrom f
/-- IADD (R56). -/
def execIadd (c : CoreIx) (f : VFields) (s : State) : Host.Outcome State Fault Refusal := s.vOp c .iadd f
/-- ISUB (R56). -/
def execIsub (c : CoreIx) (f : VFields) (s : State) : Host.Outcome State Fault Refusal := s.vOp c .isub f
/-- IAND (R56). -/
def execIand (c : CoreIx) (f : VFields) (s : State) : Host.Outcome State Fault Refusal := s.vOp c .iand f
/-- IOR (R56). -/
def execIor (c : CoreIx) (f : VFields) (s : State) : Host.Outcome State Fault Refusal := s.vOp c .ior f
/-- IXOR (R56). -/
def execIxor (c : CoreIx) (f : VFields) (s : State) : Host.Outcome State Fault Refusal := s.vOp c .ixor f
/-- ISHL (R56). -/
def execIshl (c : CoreIx) (f : VFields) (s : State) : Host.Outcome State Fault Refusal := s.vOp c .ishl f
/-- ISRA (R56). -/
def execIsra (c : CoreIx) (f : VFields) (s : State) : Host.Outcome State Fault Refusal := s.vOp c .isra f
/-- MOVI (R56). -/
def execMovi (c : CoreIx) (f : VFields) (s : State) : Host.Outcome State Fault Refusal := s.vOp c .movi f
/-- MOVF (R56). -/
def execMovf (c : CoreIx) (f : VFields) (s : State) : Host.Outcome State Fault Refusal := s.vOp c .movf f
/-- PERM (R56). -/
def execPerm (c : CoreIx) (f : VFields) (s : State) : Host.Outcome State Fault Refusal := s.vOp c .perm f
/-- EXP (R58). -/
def execExp (c : CoreIx) (vd va : BitVec 5) (q : BitVec 2) (s : State) : Host.Outcome State Fault Refusal :=
  s.sOp c .exp vd va q
/-- RCP (R58). -/
def execRcp (c : CoreIx) (vd va : BitVec 5) (q : BitVec 2) (s : State) : Host.Outcome State Fault Refusal :=
  s.sOp c .rcp vd va q
/-- RSQRT (R58). -/
def execRsqrt (c : CoreIx) (vd va : BitVec 5) (q : BitVec 2) (s : State) : Host.Outcome State Fault Refusal :=
  s.sOp c .rsqrt vd va q

end Sys2Proof.Machine
end

