-- ==== Sys2Proof/Machine/Control.lean ====
section
/-! DEFINITION. The control slot (R70, R71, R73 to R76, R81, R85 to R87) and BUNDLE_ISSUE (R68, R69, R76, R83). -/
namespace Sys2Proof.Machine

/-! ## Waits (R74, R76) -/

/-- WAITING and WKNOT of a core follow its oldest pending wait (R89). -/
def State.showWaits (s : State) (c : Nat) : State :=
  match (s.grp (s.grpOf c)).waits.find? (fun w => w.core = c && w.succ.isNone) with
  | some w => (s.wf (CD_SEQ_STATUS c) CD_SEQ_STATUS_WAITING 1).wf (CD_SEQ_STATUS c) CD_SEQ_STATUS_WKNOT w.knot
  | none => (s.wf (CD_SEQ_STATUS c) CD_SEQ_STATUS_WAITING 0).wf (CD_SEQ_STATUS c) CD_SEQ_STATUS_WKNOT 0

/-- The count left for a test in this beat: the count at its start less what earlier waits consumed (R74). -/
def State.knotLeft (s : State) (cl k : Nat) : Nat := s.knotCount cl k - (s.kp (knotKey cl k)).consumed
/-- The test of a wait (R74). -/
def State.waitOk (s : State) (w : Wait) : Bool := decide (w.thr ≤ s.knotLeft (gclusterOf w.core) w.knot)
/-- A succeeding wait consumes (R74). -/
def State.consume (s : State) (w : Wait) : State :=
  if w.consume then
    let key := knotKey (gclusterOf w.core) w.knot
    let q := s.kp key
    s.setKp key { q with consumed := q.consumed + w.thr }
  else s

/-- A wait of a lower core on the same knot that would succeed first (R74). -/
def State.lowerReady (s : State) (ws : List Wait) (w : Wait) : Bool :=
  ws.any fun v => v.succ.isNone && decide (v.core < w.core) && v.knot == w.knot &&
    gclusterOf v.core == gclusterOf w.core && s.waitOk v

/-- KWAIT at count n: a wait that succeeds in W(n) never delays the group (R74, R76); any other is pending. A lower core's
wait on the knot that has the count is processed first (R74). -/
def State.kwaitAt (s : State) (c n : Nat) (knot : BitVec 6) (cons : Bool) (thr : BitVec 32) : State :=
  let w : Wait :=
    { core := c, count := n, knot := knot.toNat, thr := thr.toNat, consume := cons, since := s.pb (pairOf c), succ := none }
  let key := s.grpOf c
  let g := s.grp key
  if s.waitOk w && !s.lowerReady g.waits w then s.consume w
  else
    (s.setGrp key { g with waits := g.waits ++ [w] }).showWaits c

/-! ## Shuttle kicks (R309, R310) -/

/-- Slots of a ring (R307). -/
def State.ringSlots (s : State) (c ch : Nat) : Nat := 16 * 2 ^ s.rf (SH_RING c ch) SH_RING_SIZE
/-- Pool line of a ring's slot, and its byte in the pool of the core's cluster. -/
def State.slotLine (s : State) (c ch ix : Nat) : Nat := s.rf (SH_RING c ch) SH_RING_BASE + ix
def State.slotByte (s : State) (c ch ix : Nat) : Nat := poolBase (gclusterOf c) + 128 * s.slotLine c ch ix
/-- The record of a shuttle event at a slot (R378, class 0x03). -/
def State.shEvent (s : State) (c ch code ix : Nat) (ctx : BitVec 16) (status : Nat) : State :=
  s.event 0x03 code (unitOf 1 c) ctx status ch (s.slotLine c ch ix) (leNat (s.bytes (s.slotByte c ch ix) 24))

/-- A kick of COUNT by a context (R310); `w`: 1 + the beat count of its SHKICK, 0 for the host's (R270). -/
def State.kick (s : State) (c ch count : Nat) (ctx : BitVec 16) (w : Nat) : State :=
  let a := SH_CH_STAT c ch
  let room := s.ringSlots c ch - s.rf a SH_CH_STAT_INUSE
  let n := min count room
  let k := Tab.get ShCh.none s.shch (c * 4 + ch)
  let s := { s with shch := Tab.set ShCh.none s.shch (c * 4 + ch) { k with ready := if n = 0 then k.ready else k.ready ++ [(n, w)] } }
  let s := (s.wf a SH_CH_STAT_READY (s.rf a SH_CH_STAT_READY + n)).wf a SH_CH_STAT_INUSE (s.rf a SH_CH_STAT_INUSE + n)
  if count > room then (s.raise a SH_CH_STAT_OVERRUN 1).shEvent c ch 0x04 (s.rf a SH_CH_STAT_HEAD) ctx 0 else s

/-! ## Control operations at bundle index i and count n -/

/-- The loops that END at bundle `e` are decided: the next index and the loop stack (R70). -/
def decideLoops (e next : Nat) : List LoopRec → Nat × List LoopRec
  | [] => (next, [])
  | r :: rest =>
    if r.endIx = e then
      if r.left > 1 then (r.start + 1, { r with left := r.left - 1 } :: rest)
      else decideLoops e (e + 1) rest
    else (next, r :: rest)

/-- The operation's own effect; what becomes of PC is `nextPc`'s. -/
def State.ctlAt (s : State) (c i n : Nat) : COp → State
  | .nop => s
  | .jmp _ => s
  | .loop e cnt =>
    let k := s.core c
    let ls : List LoopRec := { start := i, endIx := e.toNat, left := cnt.toNat + 1 } :: k.loops
    (s.setCore c { k with loops := ls }).wf (CD_SEQ_STATUS c) CD_SEQ_STATUS_LDEPTH ls.length
  | .halt => s.wf (CD_SEQ_STATUS c) CD_SEQ_STATUS_STATE 2
  | .kwait k cons thr => s.kwaitAt c n k cons thr
  | .ksig k v =>
    let key := knotKey (gclusterOf c) k.toNat
    let q := s.kp key
    (s.setKp key { q with sigs := q.sigs ++ [(c, v.toNat)], sigBeat := max q.sigBeat (n + 1) }).cdEvc c 0x12 1
  | .kset k v =>
    let key := knotKey (gclusterOf c) k.toNat
    let q := s.kp key
    s.setKp key { q with sets := q.sets ++ [(c, v.toNat)] }
  | .lzopen z => s.setCore c ((s.core c).send (n + 2) (.zopen z))
  | .lzclose z =>
    let k := s.core c
    let fl := k.flight.map fun f => match f.act with | .zopen y => { f with act := .zopen (y &&& ~~~ z) } | _ => f
    (s.setCore c { k with flight := fl }).wf (CD_SEQ_STATUS c) CD_SEQ_STATUS_ZOPEN (s.zopen c &&& ~~~ z).toNat
  | .flagmv vd =>
    s.setCore c ((s.core c).send (n + 1)
      (.vreg vd.toNat (BitVec.allOnes 2048) (BitVec.ofNat 2048 ((s.rget (CD_CORE_FLAGS c)).toNat % 2 ^ 32))))
  | .flagclr m => s.clearFlags c n m
  | .shkick ch cnt => s.kick c ch.toNat cnt.toNat (s.ctx (s.partOfCore c)) (n + 1)
  | .bound =>
    let s := s.rset (CD_BOUND c) (BitVec.ofNat 64 (n % 2 ^ 48 + i % 2 ^ 11 * 2 ^ 48))
    match s.part? (s.partOfCore c) with
    | some p => s.setPart (s.partOfCore c) { p with bounded := true }
    | none => s

/-- PC after the bundle at index i, and the loop stack (R70). After HALT no bundle is next, and PC keeps the index of the
HALT bundle (DESIGN CHOICE, log entry 76: R89 gives PC as the index of the next bundle). -/
def nextPc (k : Core) (i : Nat) : COp → Nat × List LoopRec
  | .jmp t => (t.toNat, k.loops)
  | .halt => (i, k.loops)
  | _ => decideLoops i (i + 1) k.loops

/-- A single control-slot operation at the core's present index and count. -/
def State.cOp (s : State) (c : CoreIx) (op : COp) : Host.Outcome State Fault Refusal :=
  .next (s.slotOp c fun s => s.ctlAt c (s.rf (CD_SEQ_STATUS c) CD_SEQ_STATUS_PC) (s.bc c) op)

/-- JMP (R70): the next bundle is the one at TARGET. -/
def execJmp (c : CoreIx) (target : BitVec 11) (s : State) : Host.Outcome State Fault Refusal :=
  .next (s.slotOp c fun s => s.wf (CD_SEQ_STATUS c) CD_SEQ_STATUS_PC target.toNat)
/-- LOOP (R70). -/
def execLoop (c : CoreIx) (endIx : BitVec 11) (count : BitVec 16) (s : State) : Host.Outcome State Fault Refusal :=
  s.cOp c (.loop endIx count)
/-- HALT (R87). -/
def execHalt (c : CoreIx) (s : State) : Host.Outcome State Fault Refusal := s.cOp c .halt
/-- KWAIT (R74, R76). -/
def execKwait (c : CoreIx) (knot : BitVec 6) (consume : Bool) (n : BitVec 32) (s : State) :
    Host.Outcome State Fault Refusal :=
  s.cOp c (.kwait knot consume n)
/-- KSIG (R73); an increment of 0 is an illegal encoding (R71). -/
def execKsig (c : CoreIx) (knot : BitVec 6) (n : BitVec 16) (s : State) : Host.Outcome State Fault Refusal :=
  if n = 0 then .refused .illegalEncoding else s.cOp c (.ksig knot n)
/-- KSET (R73). -/
def execKset (c : CoreIx) (knot : BitVec 6) (val : BitVec 32) (s : State) : Host.Outcome State Fault Refusal :=
  s.cOp c (.kset knot val)
/-- LZOPEN (R81). -/
def execLzopen (c : CoreIx) (zmask : BitVec 8) (s : State) : Host.Outcome State Fault Refusal := s.cOp c (.lzopen zmask)
/-- LZCLOSE (R81). -/
def execLzclose (c : CoreIx) (zmask : BitVec 8) (s : State) : Host.Outcome State Fault Refusal := s.cOp c (.lzclose zmask)
/-- FLAGMV (R85): every flag event of the present count or an earlier one has landed first. -/
def execFlagmv (c : CoreIx) (vd : BitVec 5) (s : State) : Host.Outcome State Fault Refusal := s.cOp c (.flagmv vd)
/-- FLAGCLR (R85). -/
def execFlagclr (c : CoreIx) (fmask : BitVec 7) (s : State) : Host.Outcome State Fault Refusal := s.cOp c (.flagclr fmask)
/-- SHKICK (R71, R310); a count of 0 is an illegal encoding. -/
def execShkick (c : CoreIx) (ch : BitVec 2) (count : BitVec 12) (s : State) : Host.Outcome State Fault Refusal :=
  if count = 0 then .refused .illegalEncoding else s.cOp c (.shkick ch count)
/-- BOUND (R86). -/
def execBound (c : CoreIx) (s : State) : Host.Outcome State Fault Refusal := s.cOp c .bound

/-! ## Issue of a bundle -/

/-- A held beat of a core (R76, R89). -/
def State.heldBeat (s : State) (c : Nat) : State :=
  let k := s.core c
  let run := k.holdRun + 1
  let s := (s.setCore c { k with holdRun := run }).wf (CD_SEQ_STATUS c) CD_SEQ_STATUS_HELD 1
  let s := s.bump (CD_HOLD c) CD_HOLD_HELD_BEATS 1
  (s.wf (CD_HOLD c) CD_HOLD_MAX_HOLD (max (s.rf (CD_HOLD c) CD_HOLD_MAX_HOLD) run)).cdEvc c 0x03 1

/-- What stops the bundle at issue: cause, slot and line (R60, R68, R83, R109). Where several causes meet in one bundle, the
one recorded is the first of DS_UE, SCRUB_MISS, RANGE of M0 and RANGE of M1 (DESIGN CHOICE, log entry 76). -/
def State.issueFault (s : State) (c : Nat) (b : Bundle) (ix : Nat) : Option (Nat × Nat × Nat) :=
  if (s.ues (dsWord c ix) 4).length > 0 then some (0x14, 5, 0)
  else if !b.scrub && s.rf (CD_SEQ_STATUS c) CD_SEQ_STATUS_SCNT ≥ 511 then some (0x10, 5, 0)
  else
    match rangeFault (s.core c) b.m0 with
    | some l => some (0x02, 0, l)
    | none =>
      match rangeFault (s.core c) b.m1 with
      | some l => some (0x02, 1, l)
      | none => none

/-- The bundle `b` at index i and count n takes effect: all six slots, on the registers as they stand at issue (R67). A
scrub bundle claims banks in the next bank beat (R83). -/
def State.issue (s : State) (c i n : Nat) (b : Bundle) : State :=
  let k0 := s.core c
  let s := s.issueMs c n b.m0 b.m1
  let s := s.setCore c (issueE (s.core c) n b.e)
  let kv := issueS (issueV { k0 with flight := [] } n b.v) n b.s
  let k := s.core c
  let sb : List BankAcc :=
    if b.scrub then [{ beat := n + 1, issued := n, slot := 5, line := 0, n := 0, pld := false, kind := .scrub }] else []
  let s := s.setCore c { k with flight := k.flight ++ kv.flight, banks := k.banks ++ sb }
  let s := s.ctlAt c i n b.c
  let (pc, ls) := nextPc (s.core c) i b.c
  let s := s.setCore c { s.core c with loops := ls, holdRun := 0 }
  let a := CD_SEQ_STATUS c
  let s := ((s.wf a CD_SEQ_STATUS_PC (pc % 2048)).wf a CD_SEQ_STATUS_LDEPTH ls.length).wf a CD_SEQ_STATUS_HELD 0
  let s := s.wf a CD_SEQ_STATUS_SCNT (if b.scrub then 0 else s.rf a CD_SEQ_STATUS_SCNT + 1)
  let s := s.wf (CD_BEAT_COUNT c) CD_BEAT_COUNT_BC (n + 1)
  let g := s.grp (s.grpOf c)
  let s := s.setGrp (s.grpOf c) { g with count := max g.count (n + 1) }
  (s.cdEvc c 0x02 1).opEvents c (isMmv b.e) (decide (b.v ≠ .nop)) (decide (b.s ≠ .nop))

/-- A wall beat of a halted core: its HELD and CD_HOLD follow its group's held beats (R76, R87, R89). -/
def State.haltedBeat (s : State) (c : Nat) : State :=
  if s.held c then s.heldBeat c
  else (s.setCore c { s.core c with holdRun := 0 }).wf (CD_SEQ_STATUS c) CD_SEQ_STATUS_HELD 0

/-- BUNDLE_ISSUE (R68, R69, R70, R76, R83, R88): an issue beat of a running core. A core whose group a fault stops at n
issues through n + H − 1 only. A halted core issues nothing and counts its group's held beats. -/
def execBundleIssue (c : CoreIx) (up : List Upset) (s : State) : Host.Outcome State Fault Refusal :=
  let n := s.bc c
  let i := s.rf (CD_SEQ_STATUS c) CD_SEQ_STATUS_PC
  let stopped := match (s.grp (s.grpOf c)).stop with | some m => decide (n ≥ m + holdH) | none => false
  if s.seqState c = 2 then .next (s.haltedBeat c)
  else if !s.running c || stopped then .next s
  else if s.held c then .next (s.heldBeat c)
  else
    let s := (s.land c n).strikes (dsWord c i) 4 up
    let b := decodeBundle (Tab.get 0 s.dstore (c * 2048 + i))
    match s.issueFault c b i with
    | some (cause, slot, line) => .next (s.coreFault c cause slot false line n)
    | none => .next (s.issue c i n b)

end Sys2Proof.Machine
end

