-- ==== Sys2Proof/Machine/Beats.lean ====
section
/-! DEFINITION. What happens beat by beat in a core, a cluster and a pair: results landing, bank beats, link claims,
slot beats, knots, holds, scrubbing, the landing port and the pool port, and how groups stop (R56 to R114). -/
namespace Sys2Proof.Machine

/-- PIPELINE_WRITEBACK (R56, R77): every result due by the core's last beat lands. -/
def execPipelineWriteback (c : CoreIx) (s : State) : Host.Outcome State Fault Refusal := .next (s.landNow c)

/-! ## Scratchpad scrubbing and ECC (R62, R83, R84) -/

/-- The ECC report of a scratchpad (R62, R65): corrected words, and the line of the event. -/
def State.spCorr (s : State) (c n line : Nat) : State :=
  if n = 0 then s
  else (((s.bump (CD_SP_ECC c) CD_SP_ECC_CORR_CNT n).wf (CD_SP_ECC c) CD_SP_ECC_LAST_LINE line).wf (CD_SP_ECC c)
    CD_SP_ECC_LAST_UE 0).cdEvc c 0x13 n
def State.spUe (s : State) (c line : Nat) : State :=
  ((s.bump (CD_SP_ECC c) CD_SP_ECC_UE_CNT 1).wf (CD_SP_ECC c) CD_SP_ECC_LAST_LINE line).wf (CD_SP_ECC c) CD_SP_ECC_LAST_UE 1
def spWord (c line : Nat) : Nat := spBase c / 8 + 16 * line
/-- Uncorrectable words of a scratchpad, each counted with its line, the last one recorded last (R62; log entry 23). -/
def State.spUes (s : State) (c : Nat) (ws : List Nat) : State :=
  ws.foldl (fun s w => s.spUe c ((w - spBase c / 8) / 16)) s
/-- The same for a pool (R108). -/
def State.poolCorr (s : State) (cl n line : Nat) : State :=
  if n = 0 then s
  else (((s.bump (CD_POOL_ECC cl) CD_POOL_ECC_CORR_CNT n).wf (CD_POOL_ECC cl) CD_POOL_ECC_LAST_LINE line).wf
    (CD_POOL_ECC cl) CD_POOL_ECC_LAST_UE 0).clEvc cl 0x13 n
def State.poolUe (s : State) (cl line : Nat) : State :=
  ((s.bump (CD_POOL_ECC cl) CD_POOL_ECC_UE_CNT 1).wf (CD_POOL_ECC cl) CD_POOL_ECC_LAST_LINE line).wf
    (CD_POOL_ECC cl) CD_POOL_ECC_LAST_UE 1
def poolWord (cl line : Nat) : Nat := poolBase cl / 8 + 16 * line
def State.poolUes (s : State) (cl : Nat) (ws : List Nat) : State :=
  ws.foldl (fun s w => s.poolUe cl ((w - poolBase cl / 8) / 16)) s

/-- Words with a single-bit error rewritten. -/
def State.rewrite (s : State) (ws : List Nat) : State := { s with ecc := ws.foldl (fun e w => Tab.set 0 e w 0) s.ecc }

/-- One check of bank `b` of a scratchpad at its scrub position, which then advances (R62, R84). -/
def State.scrubBank (s : State) (c b : Nat) : State :=
  let row := Tab.get 0 s.scrub (c * 8 + b)
  let line := 8 * row + b
  let one := s.singles (spWord c line) 16
  let bad := s.ues (spWord c line) 16
  let s := (s.rewrite one).spCorr c one.length line
  let s := s.spUes c bad
  { s with scrub := Tab.set 0 s.scrub (c * 8 + b) ((row + 1) % 3072) }.cdEvc c 0x0B 1

/-- Zone z of a core: its bank mask, first row and rows (R80). -/
def State.zone (s : State) (c z : Nat) : Nat × Nat × Nat :=
  let w := s.rget (CD_ZONE c z)
  (CD_ZONE_BANKS.get w, CD_ZONE_FIRST_ROW.get w, CD_ZONE_ROWS.get w)
/-- The zone that holds a line (R80). -/
def State.zoneOf (s : State) (c line : Nat) : Option Nat :=
  (List.range 8).find? fun z =>
    let (b, f, r) := s.zone c z
    r ≠ 0 && b.testBit (line % 8) && decide (f ≤ line / 8) && decide (line / 8 < f + r)
/-- The zone in which an access of bytes [a, a + n) falls, where every line lies in one zone (R82). -/
def State.accessZone (s : State) (c a n : Nat) : Option Nat :=
  if n = 0 ∨ a + n > 0x300000 then none
  else
    match s.zoneOf c (a / 128) with
    | none => none
    | some z =>
      if (List.range ((a + n - 1) / 128 - a / 128 + 1)).all fun i => s.zoneOf c (a / 128 + i) = some z then some z else none
/-- Banks that count as claimed by the landing port: those of open zones (R82). -/
def State.openBanks (s : State) (c : Nat) : List Nat :=
  (List.range 8).filter fun b =>
    (List.range 8).any fun z => (s.zopen c).getLsbD z && (s.zone c z).1.testBit b && decide ((s.zone c z).2.2 ≠ 0)
/-- The scrubber checks every bank in no open zone; the landing port checks the others (R83, R84). -/
def State.scrubFree (s : State) (c : Nat) : State :=
  ((List.range 8).filter fun b => !(s.openBanks c).contains b).foldl (fun s b => s.scrubBank c b) s
def State.scrubOpen (s : State) (c : Nat) : State := (s.openBanks c).foldl (fun s b => s.scrubBank c b) s

/-- Strikes on a core's scratchpad. -/
def State.spStrikes (s : State) (c : Nat) (up : List Upset) : State := s.strikes (spBase c / 8) 393216 up

/-- HELD_BEAT_SCRUB (R84): only in a held beat. -/
def execHeldBeatScrub (c : CoreIx) (up : List Upset) (s : State) : Host.Outcome State Fault Refusal :=
  if s.rb (CD_SEQ_STATUS c) CD_SEQ_STATUS_HELD then .next ((s.spStrikes c up).scrubFree c) else .next (s.spStrikes c up)
/-- LANDING_PORT_SCRUB (R84). -/
def execLandingPortScrub (c : CoreIx) (up : List Upset) (s : State) : Host.Outcome State Fault Refusal :=
  .next ((s.spStrikes c up).scrubOpen c)

/-! ## Bank beats (R61, R62, R65) -/

/-- Banks of a run of lines. -/
def banksOf (line n : Nat) : List Nat := (List.range n).map fun i => (line + i) % 8
/-- Two accesses share a bank. -/
def shareBank (a b : BankAcc) : Bool := (banksOf a.line a.n).any (banksOf b.line b.n).contains

/-- The accesses that lose their operation, of those of one bank beat: against the landing port, the scrubber or each
other (R61). -/
def bankLosers (open_ : List Nat) (scrub : Bool) (l : List BankAcc) : List BankAcc :=
  l.filter fun a => scrub || (banksOf a.line a.n).any open_.contains || l.any fun b => decide (b ≠ a) && shareBank a b
/-- The one issued earliest, M0 before M1 (R65). -/
def earliest : List BankAcc → Option BankAcc
  | [] => none
  | a :: r =>
    match earliest r with
    | none => some a
    | some b => if b.issued < a.issued ∨ (b.issued = a.issued ∧ b.slot < a.slot) then some b else some a
/-- M0 and M1 of one bundle are in conflict with each other (R65, BOTH). -/
def bothConflict (x : BankAcc) (l : List BankAcc) : Bool :=
  !x.pld && l.any fun b => decide (b ≠ x) && !b.pld && b.issued == x.issued && shareBank x b

/-- A read of static lines: corrected errors are counted at each line that held one (R62). -/
def State.readCorr (s : State) (c line : Nat) : Nat → State
  | 0 => s
  | n + 1 => (s.spCorr c (s.singles (spWord c line) 16).length line).readCorr c (line + 1) n

/-- What an access does when it is performed (R53, R63, R66, R111). -/
def State.doAcc (s : State) (c : Nat) (a : BankAcc) : State :=
  let base := spBase c + 128 * a.line
  match a.kind with
  | .scrub => s.scrubFree c
  | .write data => (s.putLines base data).cdEvc c 0x08 data.length
  | kind =>
    let ls := s.lines base a.n
    let s := (s.readCorr c a.line a.n).cdEvc c 0x07 a.n
    let k := s.core c
    let ix := (List.range ls.length).zip ls
    match kind with
    | .vld v => s.setCore c ((vldWrites v ls).foldl (fun k w => k.send (a.issued + 4) w) k)
    | .tld bl mask buf =>
      s.setCore c ((engines (BitVec.ofNat 4 mask)).foldl (fun k e =>
        ix.foldl (fun k (i, l) => k.send (a.issued + 3) (.tile (tileKey e buf (bl + i)) l)) k) k)
    | .ald al mask =>
      s.setCore c ((engines (BitVec.ofNat 4 mask)).foldl (fun k e =>
        ix.foldl (fun k (i, l) => k.send (a.issued + 3) (.act (actKey e (al + i)) l)) k) k)
    | .tla set eng => s.setCore c (k.send (a.issued + 4) (.acc (accKey eng set) a.n ls))
    | .pst dst pline =>
      let links := route (dieOf c) (clusterOf c) (dst % 32 / 16) (dst % 16)
      let x : Xfer := { core := c, slot := a.slot, spline := a.line, issued := a.issued, data := ls,
                        claims := claimsOf a.issued links (resPool (dst % 32)), dest := .pool dst pline }
      let p := s.pair (pairOf c)
      s.setPair (pairOf c) { p with xfers := p.xfers ++ [x] }
    | .esa slot first wide sofs =>
      let links := route (dieOf c) (clusterOf c) 0 (edgeCluster (slot / 2))
      let x : Xfer := { core := c, slot := a.slot, spline := a.line, issued := a.issued, data := ls,
                        claims := claimsOf a.issued links (resSlot slot (dieOf c == 1)), dest := .slot slot first wide sofs }
      let p := s.pair (pairOf c)
      s.setPair (pairOf c) { p with xfers := p.xfers ++ [x] }
    | _ => s

/-- A static read whose lines hold an uncorrectable word (R62). -/
def State.accUe (s : State) (c : Nat) (a : BankAcc) : Bool :=
  match a.kind with
  | .write _ => false
  | .scrub => false
  | _ => decide ((s.ues (spWord c a.line) (16 * a.n)).length > 0)
/-- The next bank beat of a core that has come: the least beat of the accesses waiting. -/
def minBeat (l : List Nat) : Option Nat :=
  match l with
  | [] => none
  | a :: r => some (r.foldl min a)

/-- One bank beat of a core (R61, R62, R65, R83), none in a held beat beyond those that have come (R77). -/
def State.bankBeat (s : State) (c : Nat) : State :=
  let k := s.core c
  match minBeat ((k.banks.filter fun a => decide (a.beat ≤ s.coreBeat c)).map BankAcc.beat) with
  | none => s
  | some t =>
    let all := k.banks.filter fun a => a.beat = t
    let s := s.setCore c { k with banks := k.banks.filter fun a => !decide (a.beat = t) }
    let scr := all.filter fun a => a.kind = .scrub
    let ops := all.filter fun a => !decide (a.kind = .scrub)
    let lost := bankLosers (s.openBanks c) (scr ≠ []) ops
    match earliest lost with
    | some x =>
      (scr.foldl (fun s a => s.doAcc c a) s).coreFault c 0x01 x.slot (bothConflict x lost) x.line x.issued
    | none =>
      let bad := ops.filter (s.accUe c)
      match earliest bad with
      | some x => (bad.foldl (fun s a => s.spUes c (s.ues (spWord c a.line) (16 * a.n))) s).coreFault c 0x03 x.slot false x.line x.issued
      | none => all.foldl (fun s a => s.doAcc c a) s

/-- BANK_BEAT (R61). -/
def execBankBeat (c : CoreIx) (up : List Upset) (s : State) : Host.Outcome State Fault Refusal :=
  .next ((s.spStrikes c up).bankBeat c)

/-! ## Link claims (R103) -/

/-- The claim a transfer makes next, if its count has come: its group, count and resource. -/
def State.readyClaim (s : State) (x : Xfer) : Option (Nat × Nat × Nat) :=
  match x.claims with
  | (t, r) :: _ => if t ≤ s.coreBeat x.core then some (s.grpOf x.core, t, r) else none
  | [] => none
/-- Another transfer makes the same claim. -/
def State.claimClash (s : State) (l : List Xfer) (x : Xfer) : Bool :=
  match s.readyClaim x with
  | none => false
  | some q => l.any fun y => decide (y ≠ x) && (s.readyClaim y == some q)

/-- A transfer past its claim: it goes on, or arrives (R103, R111). -/
def State.passClaim (s : State) (p : Nat) (x : Xfer) : State :=
  match x.claims with
  | [(t, _)] =>
    match x.dest with
    | .pool cl pline =>
      let o : PoolOp :=
        { beat := t, core := x.core, slot := x.slot, spline := x.spline, issued := x.issued, pline := pline,
          n := x.data.length, write := some x.data, cluster := cl }
      { s with poolOps := s.poolOps ++ [o] }
    | .slot slot first wide sofs =>
      let q := s.pair p
      let i : SlotIn := { beat := t, slot := slot, first := first, wide := wide, sofs := sofs, data := x.data }
      s.setPair p { q with slotIn := q.slotIn ++ [i] }
  | _ :: r => let q := s.pair p; s.setPair p { q with xfers := q.xfers ++ [{ x with claims := r }] }
  | [] => s

/-- Of the transfers whose claim has come, those of their group's earliest claim beat (R103). -/
def State.claimBeat (s : State) (l : List Xfer) : List Xfer :=
  l.filter fun x =>
    match s.readyClaim x with
    | none => false
    | some (g, t, _) => l.all fun y => match s.readyClaim y with | some (g', t', _) => g' ≠ g || decide (t ≤ t') | none => true
/-- The transfer of a clash whose issuer faults: that of the lower core, of its two M slots the earlier issued, M0 before
M1 (R103). -/
def Xfer.before (x y : Xfer) : Bool :=
  decide (x.core < y.core) || (x.core == y.core && (decide (x.issued < y.issued) || (x.issued == y.issued && decide (x.slot < y.slot))))
/-- The transfers whose issuers fault: for each resource claimed twice the one of the lowest core, and one for each core. -/
def State.linkFaults (s : State) (clash : List Xfer) : List Xfer :=
  let first := clash.filter fun x => !clash.any fun y => s.readyClaim y == s.readyClaim x && y.before x
  first.filter fun x => !first.any fun y => y.core == x.core && y.before x

/-- One claim beat of a pair (R103). -/
def State.linkBeat (s : State) (p : Nat) : State :=
  let q := s.pair p
  let ready := s.claimBeat q.xfers
  let clash := ready.filter (s.claimClash ready)
  let pass := ready.filter fun x => !s.claimClash ready x
  let s1 := s.setPair p { q with xfers := q.xfers.filter fun x => !ready.contains x }
  let s1 := pass.foldl (fun s x => s.passClaim p x) s1
  (s.linkFaults clash).foldl (fun s x => s.coreFault x.core 0x13 x.slot false x.spline x.issued) s1

/-- LINK_CLAIM (R103). -/
def execLinkClaim (p : PairIx) (s : State) : Host.Outcome State Fault Refusal := .next (s.linkBeat p)

/-! ## Pool bank beats (R106, R108) -/

def poolBanks (line n : Nat) : List Nat := (List.range n).map fun i => (line + i) % 16
/-- The pool line an operation accesses in a bank. -/
def lineIn (o : PoolOp) (b : Nat) : Option Nat :=
  (List.range o.n).findSome? fun i => if (o.pline + i) % 16 = b then some (o.pline + i) else none
/-- Two claimants are in conflict: they share a bank other than as two reads of one line (R106). -/
def poolClash (a b : PoolOp) : Bool :=
  (List.range 16).any fun k =>
    match lineIn a k, lineIn b k with
    | some x, some y => !(a.write.isNone && b.write.isNone && x == y)
    | _, _ => false
/-- The operation of the lowest core (R106, R108). -/
def lowestOp : List PoolOp → Option PoolOp
  | [] => none
  | a :: r => match lowestOp r with | none => some a | some b => if b.core < a.core then some b else some a

/-- A pool operation is performed: a write is stored, a read goes to its scratchpad bank beat (R111). -/
def State.doPool (s : State) (cl : Nat) (o : PoolOp) : State :=
  let base := poolBase cl + 128 * o.pline
  match o.write with
  | some d => s.putLines base d
  | none =>
    let ls := s.lines base o.n
    let k := s.core o.core
    let a : BankAcc :=
      { beat := o.issued + 3, issued := o.issued, slot := o.slot, line := o.spline, n := o.n, pld := true, kind := .write ls }
    s.setCore o.core { k with banks := k.banks ++ [a] }

/-- Lines of a read that an earlier requester of the beat reads too: they are merged (R106, R433). -/
def mergedLines (reads : List PoolOp) (o : PoolOp) : Nat :=
  ((List.range o.n).filter fun i => reads.any fun r =>
    (decide (r.core < o.core) || (r.core == o.core && decide (r.slot < o.slot))) &&
      decide (r.pline ≤ o.pline + i) && decide (o.pline + i < r.pline + r.n)).length
/-- Merged pool reads beyond the first requester counted (R433). -/
def State.countMerged (s : State) (ops : List PoolOp) : State :=
  let reads := ops.filter fun o => o.write.isNone
  reads.foldl (fun s o => s.cdEvc o.core 0x0C (mergedLines reads o)) s

/-- Lines that a beat's reads take, each once: coinciding reads of a line are one access (R106). -/
def readLines (reads : List PoolOp) : List Nat :=
  (reads.flatMap fun o => (List.range o.n).map (o.pline + ·)).eraseDups
/-- The operation of the lowest core for each bank in conflict, and one for each core (R106). -/
def bankFaults (all : List PoolOp) : List PoolOp :=
  let per := (List.range 16).filterMap fun k =>
    let l := all.filter fun o => (lineIn o k).isSome
    let hit := l.any fun a => l.any fun b => decide (b ≠ a) &&
      !(a.write.isNone && b.write.isNone && lineIn a k == lineIn b k)
    if hit then lowestOp l else none
  per.eraseDups.filter fun o => !per.any fun p => p.core == o.core && decide (p.slot < o.slot)
/-- Corrected words of the lines a beat reads, each line counted once (R108). -/
def State.poolReadCorr (s : State) (cl : Nat) (ls : List Nat) : State :=
  ls.foldl (fun s l => s.poolCorr cl (s.singles (poolWord cl l) 16).length l) s
/-- The lowest requester of each line that holds an uncorrectable word, one for each core (R108). -/
def ueFaults (bad : List PoolOp) (ueLines : List Nat) : List PoolOp :=
  let per := ueLines.filterMap fun l => lowestOp (bad.filter fun o => decide (o.pline ≤ l) && decide (l < o.pline + o.n))
  per.eraseDups.filter fun o => !per.any fun p => p.core == o.core && decide (p.slot < o.slot)

/-- The port and scrub side of a pool. -/
def State.pool (s : State) (cl : Nat) : PoolSide := Tab.get PoolSide.reset s.pools cl
def State.setPool (s : State) (cl : Nat) (k : PoolSide) : State := { s with pools := Tab.set PoolSide.reset s.pools cl k }
/-- Banks of a pool are taken in this wall beat, by its port or by a static claimant (R107). -/
def State.portTake (s : State) (cl : Nat) (bs : List Nat) : State :=
  let k := s.pool cl
  s.setPool cl { k with used := bs.foldl (fun t b => Tab.set 0 t b (s.pb (cl / 32) + 1)) k.used }

/-- One pool bank beat (R106, R108), none in a held beat beyond those that have come (R77). The banks it takes are no longer
free in this wall beat (R107). -/
def State.poolBeat (s : State) (cl : Nat) : State :=
  let mine := s.poolOps.filter fun o => o.cluster = cl && decide (o.beat ≤ s.coreBeat o.core)
  match minBeat (mine.map PoolOp.beat) with
  | none => s
  | some t =>
    let all := mine.filter fun o => o.beat = t
    let s : State := { s with poolOps := s.poolOps.filter fun o => !(o.cluster = cl && decide (o.beat = t)) }
    let s := s.portTake cl (all.flatMap fun o => poolBanks o.pline o.n)
    let kept := all.filter fun a => !(all.any fun b => decide (b ≠ a) && poolClash a b)
    let bad := kept.filter fun o => o.write.isNone && decide ((s.ues (poolWord cl o.pline) (16 * o.n)).length > 0)
    let good := kept.filter fun o => !bad.contains o
    let ueLines := (readLines bad).filter fun l => decide ((s.ues (poolWord cl l) 16).length > 0)
    let s := s.poolReadCorr cl (readLines (good.filter fun o => o.write.isNone))
    let s := (good.foldl (fun s o => s.doPool cl o) s).countMerged kept
    let s := ueLines.foldl (fun s l => s.poolUes cl (s.ues (poolWord cl l) 16)) s
    let s := (bankFaults all).foldl (fun s o => s.coreFault o.core 0x01 o.slot false o.spline o.issued) s
    (ueFaults bad ueLines).foldl (fun s o => s.coreFault o.core 0x03 o.slot false o.spline o.issued) s

def State.poolStrikes (s : State) (cl : Nat) (up : List Upset) : State := s.strikes (poolBase cl / 8) 1048576 up

/-- Banks of a pool with a static claimant in this beat (R107). In a held beat there is none. -/
def State.poolBusy (s : State) (cl : Nat) : List Nat :=
  (s.poolOps.filter fun o => o.cluster = cl && decide (o.beat ≤ s.coreBeat o.core)).flatMap fun o => poolBanks o.pline o.n
/-- The bank has been taken in this wall beat (R107). -/
def State.portUsed (s : State) (cl b : Nat) : Bool := Tab.get 0 (s.pool cl).used b == s.pb (cl / 32) + 1
/-- A bank the pool port may take: without a static claimant, and not taken in this wall beat (R105, R107). -/
def State.portFree (s : State) (cl b : Nat) : Bool := !(s.poolBusy cl).contains b && !s.portUsed cl b
/-- Byte of its pool that a request addresses (R207, R218). -/
def poolOffOf (a : Arrival) : Nat := nbits a.pk.hdr.toNat 128 23
/-- Lines of `n` bytes of a pool. -/
def poolLines (off n : Nat) : List Nat := (List.range ((off + n - 1) / 128 + 1 - off / 128)).map (off / 128 + ·)
/-- An arrival at the port waits for a bank: a write, a reply, or the write of an atomic (R107, R215). -/
def State.arrivalWaits (s : State) (cl b : Nat) : Bool :=
  let k := s.pool cl
  (k.wait.any fun a => a.write && a.addr.toNat / 128 % 16 == b) ||
    (k.reps.any fun e => match e with
      | .reply o d .. => (poolLines o d.length).any fun l => l % 16 == b
      | _ => false) ||
    k.atoms.any fun e => poolOffOf e.1 / 128 % 16 == b
/-- An atomic has read an element of a line and has not yet written it (R215). -/
def State.atomOn (s : State) (cl line : Nat) : Bool := (s.pool cl).atoms.any fun e => poolOffOf e.1 / 128 == line
/-- The port may make the accesses of a range now: every bank is free, no atomic stands between its read and its write on a
line of it, and a departure leaves the banks to arrivals that wait (R107, R215). -/
def State.portCan (s : State) (cl off n : Nat) (arrival : Bool) : Bool :=
  (poolLines off n).all fun l => s.portFree cl (l % 16) && !s.atomOn cl l && (arrival || !s.arrivalWaits cl (l % 16))
/-- The port makes the accesses of a range in this wall beat, each counted (R107, R433). -/
def State.portUse (s : State) (cl off n : Nat) : State :=
  (s.portTake cl ((poolLines off n).map (· % 16))).clEvc cl 0x0D ((n + 63) / 64)
/-- An access waits at the port. -/
def State.portWait (s : State) (cl : Nat) (a : PoolAcc) : State :=
  let k := s.pool cl
  s.setPool cl { k with wait := k.wait ++ [a] }

/-- One access of the pool port in a free bank (R107, R108). -/
def State.portDo (s : State) (cl : Nat) (a : PoolAcc) : State :=
  let line := a.addr.toNat / 128
  let off := poolBase cl + a.addr.toNat
  let s := (s.portTake cl [line % 16]).clEvc cl 0x0D 1
  if a.write then s.putBytes off a.data
  else
    let bad := s.ues (off / 8) 8
    if bad ≠ [] then s.poolUes cl bad
    else { s.poolCorr cl (s.singles (off / 8) 8).length line with portOut := s.bytes off 64 }
/-- One check of bank `b` of a pool at its scrub position, which then advances; the pass ends when every bank has wrapped
(R108). -/
def State.scrubPoolBank (s : State) (cl b : Nat) : State :=
  let key := 16384 + cl * 16 + b
  let row := Tab.get 0 s.scrub key
  let line := 16 * row + b
  let one := s.singles (poolWord cl line) 16
  let s1 := (s.rewrite one).poolCorr cl one.length line
  let s1 := s1.poolUes cl (s.ues (poolWord cl line) 16)
  let k := s.pool cl
  let swept := k.swept ||| (if row = 4095 then 2 ^ b else 0)
  let s1 := { s1 with scrub := Tab.set 0 s1.scrub key ((row + 1) % 4096) }.clEvc cl 0x0B 1
  if swept = 65535 then
    let us := (s.tick - k.pass) / 1500
    (s1.wf (CD_POOL_ECC cl) CD_POOL_ECC_PASS_US (min us CD_POOL_ECC_PASS_US.max)).setPool cl
      { k with pass := s.tick, swept := 0 }
  else s1.setPool cl { k with swept := swept }
/-- POOL_SCRUB (R108): one line in every bank that neither a static claimant nor the pool port uses in this beat. -/
def execPoolScrub (cl : ClusterIx) (up : List Upset) (s : State) : Host.Outcome State Fault Refusal :=
  let s := s.poolStrikes cl up
  .next (((List.range 16).filter (s.portFree cl)).foldl (fun s b => s.scrubPoolBank cl b) s)

end Sys2Proof.Machine
end

