-- ==== Sys2Proof/Machine/Code.lean ====
section
/-! DEFINITION. The Reed-Solomon codes of the bulk lines (R290, GF(2^16)) and of the ports (R176, GF(2^8)), both with
eight check symbols and generator roots α^0 to α^7, the CRC-16 of the weft frames, and the scrambler of weft frames and
ports (R163, R178). -/
namespace Sys2Proof.Machine

/-- A field GF(2^m): the degree and the field polynomial without its leading term. -/
structure Gf where
  m : Nat
  poly : Nat
deriving DecidableEq, Repr

/-- The field of the bulk lines (R290). -/
def gfBulk : Gf := ⟨16, 0x100B⟩
/-- The field of the port blocks (R176). -/
def gfPort : Gf := ⟨8, 0x1D⟩

/-- Multiplication by x. -/
def Gf.xtimes (f : Gf) (a : Nat) : Nat :=
  let b := 2 * a
  if b < 2 ^ f.m then b else (b - 2 ^ f.m) ^^^ f.poly
/-- Product, over the low `n` bits of the second factor. -/
def Gf.mulBits (f : Gf) (a b : Nat) : Nat → Nat
  | 0 => 0
  | n + 1 => (if b % 2 = 1 then a else 0) ^^^ f.mulBits (f.xtimes a) (b / 2) n
def Gf.mul (f : Gf) (a b : Nat) : Nat := if a = 0 ∨ b = 0 then 0 else f.mulBits a b f.m
/-- a^(2 + 4 + … + 2^n), by n squarings: the inverse at n = m − 1. -/
def Gf.invGo (f : Gf) (a : Nat) : Nat → Nat
  | 0 => 1
  | n + 1 => let b := f.mul a a; f.mul b (f.invGo b n)
def Gf.inv (f : Gf) (a : Nat) : Nat := f.invGo a (f.m - 1)
/-- α^n, with α = x. -/
def Gf.alpha (f : Gf) : Nat → Nat
  | 0 => 1
  | n + 1 => f.xtimes (f.alpha n)

/-- Value of a polynomial at a point, coefficient of degree 0 first. -/
def Gf.eval (f : Gf) (x : Nat) : List Nat → Nat
  | [] => 0
  | c :: r => c ^^^ f.mul x (f.eval x r)
/-- Sum and product of polynomials. -/
def polyAdd : List Nat → List Nat → List Nat
  | [], q => q
  | p, [] => p
  | a :: p, b :: q => (a ^^^ b) :: polyAdd p q
def Gf.polyMul (f : Gf) : List Nat → List Nat → List Nat
  | [], _ => []
  | a :: p, q => polyAdd (q.map (f.mul a)) (0 :: f.polyMul p q)

/-- The generator polynomial, coefficient of degree 0 first (R176, R290). -/
def Gf.gen (f : Gf) : List Nat := (List.range 8).foldl (fun g i => f.polyMul g [f.alpha i, 1]) [1]

/-- One step of the division by the generator: the remainder, highest degree first, takes the next data symbol. -/
def Gf.encStep (f : Gf) (gHigh : List Nat) (r : List Nat) (d : Nat) : List Nat :=
  let k := d ^^^ r.headD 0
  List.zipWith (fun a g => a ^^^ f.mul k g) (r.tailD [] ++ [0]) gHigh
/-- The eight check symbols of data symbols, symbol 0 being the coefficient of highest degree (R176, R290). -/
def Gf.check (f : Gf) (data : List Nat) : List Nat :=
  let gHigh := (f.gen.take 8).reverse
  data.foldl (f.encStep gHigh) (List.replicate 8 0)

/-- A received word as (position, symbol) pairs, zero symbols left out; `n` symbols, position 0 of highest degree. -/
abbrev Sparse := List (Nat × Nat)

/-- The locator of a position. -/
def Gf.loc (f : Gf) (n x : Nat) : Nat := f.alpha (n - 1 - x)
/-- Powers a^0 … a^(k−1), each times c. -/
def Gf.powers (f : Gf) (a c : Nat) : Nat → List Nat
  | 0 => []
  | k + 1 => c :: f.powers a (f.mul c a) k
/-- The eight syndromes. -/
def Gf.synd (f : Gf) (n : Nat) (w : Sparse) : List Nat :=
  w.foldl (fun s p => polyAdd s (f.powers (f.loc n p.1) p.2 8)) (List.replicate 8 0)

/-- State of the Berlekamp-Massey iteration: the locator, the previous locator times x, its degree, the last
discrepancy. -/
structure BM where
  lam : List Nat
  prev : List Nat
  deg : Nat
  b : Nat
deriving DecidableEq, Repr

/-- One step at syndrome index `i`. -/
def Gf.bmStep (f : Gf) (s : List Nat) (t : BM) (i : Nat) : BM :=
  let d := (List.range (t.deg + 1)).foldl (fun a j => a ^^^ f.mul (t.lam.getD j 0) (s.getD (i - j) 0)) 0
  if d = 0 then { t with prev := 0 :: t.prev }
  else
    let lam := polyAdd t.lam (t.prev.map (f.mul (f.mul d (f.inv t.b))))
    if 2 * t.deg ≤ i then { lam := lam, prev := 0 :: t.lam, deg := i + 1 - t.deg, b := d }
    else { t with lam := lam, prev := 0 :: t.prev }
/-- The error locator of eight syndromes. -/
def Gf.locator (f : Gf) (s : List Nat) : BM :=
  (List.range 8).foldl (f.bmStep s) { lam := [1], prev := [0, 1], deg := 0, b := 1 }

/-- Error values at positions, from the syndromes and the positions' locator polynomial (Forney). -/
def Gf.forney (f : Gf) (n : Nat) (s lam : List Nat) (pos : List Nat) : Sparse :=
  let om := (f.polyMul s lam).take 8
  let d := (List.range lam.length).filterMap fun i => if i % 2 = 1 then some (lam.getD i 0) else none
  pos.map fun x =>
    let a := f.loc n x
    let ai := f.inv a
    (x, f.mul (f.mul a (f.eval ai om)) (f.inv (f.eval (f.mul ai ai) d)))

/-- Correction of up to four unknown symbol errors: the error pattern, `none` where there is none (R176, R291). -/
def Gf.correct (f : Gf) (n : Nat) (w : Sparse) : Option Sparse :=
  let s := f.synd n w
  if s.all (· == 0) then some []
  else
    let t := f.locator s
    if t.deg > 4 then none
    else
      let pos := (List.range n).filter fun x => f.eval (f.inv (f.loc n x)) t.lam == 0
      if pos.length ≠ t.deg then none
      else
        let e := f.forney n s t.lam pos
        if (f.synd n (w ++ e)).all (· == 0) then some e else none

/-- Decoding of eight erased positions (R291, R292): the pattern that makes the word a codeword. -/
def Gf.erase (f : Gf) (n : Nat) (pos : List Nat) (w : Sparse) : Sparse :=
  let s := f.synd n w
  let lam := pos.foldl (fun l x => f.polyMul l [1, f.loc n x]) [1]
  f.forney n s lam pos

/-- Sum of two sparse words, position by position. -/
def sparseAdd (n : Nat) (a b : Sparse) : Sparse :=
  (List.range n).filterMap fun x =>
    let v := ((a ++ b).filter fun p => p.1 == x).foldl (fun v p => v ^^^ p.2) 0
    if v = 0 then none else some (x, v)

/-- CRC-16, polynomial 0x1021, initial value 0xFFFF (R163): one bit, one byte, a byte string. -/
def crc16Bit (c : BitVec 16) : BitVec 16 := if c.msb then (c <<< 1) ^^^ 0x1021 else c <<< 1
def crc16Byte (c : BitVec 16) (b : Byte) : BitVec 16 :=
  let c := c ^^^ (b.setWidth 16 <<< 8)
  crc16Bit (crc16Bit (crc16Bit (crc16Bit (crc16Bit (crc16Bit (crc16Bit (crc16Bit c)))))))
def crc16 (bs : List Byte) : BitVec 16 := bs.foldl crc16Byte 0xFFFF

/-! ## The scrambler x^58 + x^39 + 1 (R163, R178) -/

/-- The next `n` ≤ 39 bits of a stream whose last 58 scrambled bits are `st`, the latest most significant: they differ
from the input by the bits 39 and 58 places before. -/
def scrMix (n st v : Nat) : Nat := (v ^^^ (st / 2 ^ 19) ^^^ st) % 2 ^ n
/-- The last 58 bits after `n` more. -/
def scrNext (n st out : Nat) : Nat := (st + out * 2 ^ 58) / 2 ^ n
/-- `k` blocks of 34 bits scrambled, with the state that follows. -/
def scramble (st v : Nat) : Nat → Nat × Nat
  | 0 => (0, st)
  | k + 1 =>
    let o := scrMix 34 st (v % 2 ^ 34)
    let (r, t) := scramble (scrNext 34 st o) (v / 2 ^ 34) k
    (o + r * 2 ^ 34, t)
/-- `k` blocks of 34 bits descrambled, with the state that follows. -/
def descramble (st v : Nat) : Nat → Nat × Nat
  | 0 => (0, st)
  | k + 1 =>
    let i := v % 2 ^ 34
    let (r, t) := descramble (scrNext 34 st i) (v / 2 ^ 34) k
    (scrMix 34 st i + r * 2 ^ 34, t)

end Sys2Proof.Machine
end

