-- ==== Sys2Proof/Machine/Crypto.lean ====
section
/-! DEFINITION. The standard algorithms the manual names: SHA-384, HMAC and HKDF over it (R93, R94, R407), AES-256 with its
key wrap, GCM and XTS modes (R93, R181, R299), and ECDH and ECDSA on P-384 (R93, R94, R398, R406). Byte strings are as the
standards have them, most significant byte first (log entry 7). -/
namespace Sys2Proof.Machine

/-- A number of big-endian bytes, and `n` such bytes of a number. -/
def beNat (bs : List Byte) : Nat := leNat bs.reverse
def beBytes (n v : Nat) : List Byte := (leBytes n v).reverse
/-- Sum of two byte strings modulo 2, as long as the shorter one. -/
def xorBytes (a b : List Byte) : List Byte := List.zipWith (· ^^^ ·) a b

/-! ## SHA-384 -/

/-- The 80 round constants, eight to a number, the first lowest: the first 64 bits after the point of the cube roots of the
first 80 primes. -/
def shaConsts : List Nat :=
  [0xab1c5ed5da6d8118923f82a4af194f9b59f111f1b605d0193956c25bf348b538e9b5dba58189dbbcb5c0fbcfec4d3b2f7137449123ef65cd428a2f98d728ae22,
   0xc19bf174cf6926949bdc06a725c7123580deb1fe3b1696b172be5d74f27b896f550c7dc3d5ffb4e2243185be4ee4b28c12835b0145706fbed807aa98a3030242,
   0x76f988da831153b55cb0a9dcbd41fbd44a7484aa6ea6e4832de92c6f592b0275240ca1cc77ac9c650fc19dc68b8cd5b5efbe4786384f25e3e49b69c19ef14ad2,
   0x142929670a0e6e7006ca6351e003826fd5a79147930aa725c6e00bf33da88fc2bf597fc7beef0ee4b00327c898fb213fa831c66d2db43210983e5152ee66dfab,
   0x92722c851482353b81c2c92e47edaee6766a0abb3c77b2a8650a73548baf63de53380d139d95b3df4d2c6dfc5ac42aed2e1b21385c26c92627b70a8546d22ffc,
   0x106aa07032bbd1b8f40e35855771202ad69906245565a910d192e819d6ef5218c76c51a30654be30c24b8b70d0f89791a81a664bbc423001a2bfe8a14cf10364,
   0x682e6ff3d6b2b8a35b9cca4f7763e3734ed8aa4ae3418acb391c0cb3c5c95a6334b0bcb5e19b48a82748774cdf8eeb991e376c085141ab5319a4c116b8d2d0c8,
   0xc67178f2e372532bbef9a3f7b2c67915a4506cebde82bde990befffa23631e288cc702081a6439ec84c87814a1f0ab7278a5636f43172f60748f82ee5defb2fc,
   0x1b710b35131c471b113f9804bef90dae0a637dc5a2c898a606f067aa72176fbaf57d4f7fee6ed178eada7dd6cde0eb1ed186b8c721c0c207ca273eceea26619c,
   0x6c44198c4a4758175fcb6fab3ad6faec597f299cfc657e2a4cc5d4becb3e42b6431d67c49c100d4c3c9ebe0a15c9bebc32caab7b40c7249328db77f523047d84]
/-- The eight initial words of SHA-384, the first lowest: the first 64 bits after the point of the square roots of the
9th to 16th primes. -/
def shaInit : Nat :=
  0x47b5481dbefa4fa4db0c2e0d64f98fa78eb44a876858151167332667ffc00b31152fecd8f70e59399159015a3070dd17629a292a367cd507cbbb9d5dc1059ed8
def shaK (t : Nat) : BitVec 64 := BitVec.ofNat 64 (shaConsts.getD (t / 8) 0 / 2 ^ (64 * (t % 8)))
/-- XOR of three rotations to the right, the last one a plain shift where `sh`. -/
def shaMix (x : BitVec 64) (i j k : Nat) (sh : Bool) : BitVec 64 :=
  x.rotateRight i ^^^ x.rotateRight j ^^^ (if sh then x >>> k else x.rotateRight k)
/-- The working words and the 16 words of the schedule that come next. -/
structure ShaSt where
  v : List (BitVec 64)
  w : List (BitVec 64)
deriving DecidableEq, Repr
/-- Round `t`. -/
def shaRound (x : ShaSt) (t : Nat) : ShaSt :=
  let v (i : Nat) := x.v.getD i 0
  let w (i : Nat) := x.w.getD i 0
  let choose := (v 4 &&& v 5) ^^^ (~~~ v 4 &&& v 6)
  let major := (v 0 &&& v 1) ^^^ (v 0 &&& v 2) ^^^ (v 1 &&& v 2)
  let one := v 7 + shaMix (v 4) 14 18 41 false + choose + shaK t + w 0
  let next := shaMix (w 14) 19 61 6 true + w 9 + shaMix (w 1) 1 8 7 true + w 0
  { v := [one + shaMix (v 0) 28 34 39 false + major, v 0, v 1, v 2, v 3 + one, v 4, v 5, v 6], w := x.w.drop 1 ++ [next] }
/-- The hash value after one more block of 128 bytes. -/
def shaBlock (h : List (BitVec 64)) (b : List Byte) : List (BitVec 64) :=
  let x := (List.range 80).foldl shaRound ⟨h, (chunksOf 8 16 b).map fun c => BitVec.ofNat 64 (beNat c)⟩
  List.zipWith (· + ·) h x.v
/-- SHA-384 of a byte string. -/
def sha384 (m : List Byte) : List Byte :=
  let p := m ++ 0x80 :: List.replicate ((239 - m.length % 128) % 128) 0 ++ beBytes 16 (8 * m.length)
  let h0 := (List.range 8).map fun i => BitVec.ofNat 64 (shaInit / 2 ^ (64 * i))
  (((chunksOf 128 (p.length / 128) p).foldl shaBlock h0).take 6).flatMap fun w => beBytes 8 w.toNat
/-- HMAC-SHA-384. -/
def hmac (key m : List Byte) : List Byte :=
  let k := fitBytes 128 (if key.length > 128 then sha384 key else key)
  sha384 (k.map (· ^^^ 0x5C) ++ sha384 (k.map (· ^^^ 0x36) ++ m))
/-- `n` further pieces of HKDF-Expand, the last one being `last` and the next of number `i`. -/
def hkdfPieces (prk info last : List Byte) (i : Nat) : Nat → List Byte
  | 0 => []
  | n + 1 => let t := hmac prk (last ++ info ++ leBytes 1 i); t ++ hkdfPieces prk info t (i + 1) n
/-- HKDF-Expand to `n` bytes; HKDF-Extract is HMAC with the salt as key. -/
def hkdfExpand (prk info : List Byte) (n : Nat) : List Byte := (hkdfPieces prk info [] 1 ((n + 47) / 48)).take n

/-! ## AES-256 -/

/-- The field of AES. -/
def gfAes : Gf := ⟨8, 0x1B⟩
/-- The byte of AES: its inverse in the field (0 for 0), and the affine map. -/
def sBox (b : Byte) : Byte :=
  let i : Byte := BitVec.ofNat 8 (gfAes.inv b.toNat)
  i ^^^ i.rotateLeft 1 ^^^ i.rotateLeft 2 ^^^ i.rotateLeft 3 ^^^ i.rotateLeft 4 ^^^ 0x63
def sBoxInv (b : Byte) : Byte :=
  BitVec.ofNat 8 (gfAes.inv (b.rotateLeft 1 ^^^ b.rotateLeft 3 ^^^ b.rotateLeft 6 ^^^ 0x05).toNat)
/-- `n` more words of the key schedule after the eight of `last`, the first of them of number `i`. -/
def aesWords (last : List (List Byte)) (i : Nat) : Nat → List (List Byte)
  | 0 => []
  | n + 1 =>
    let t := last.getD 7 []
    let t := if i % 8 = 0 then xorBytes ((t.drop 1 ++ t.take 1).map sBox) (leBytes 4 (gfAes.alpha (i / 8 - 1)))
      else if i % 8 = 4 then t.map sBox else t
    let w := xorBytes (last.getD 0 []) t
    w :: aesWords (last.drop 1 ++ [w]) (i + 1) n
/-- The 15 round keys of a key of 32 bytes. -/
def aesKeys (key : List Byte) : List (List Byte) :=
  let k := chunksOf 4 8 key
  chunksOf 16 15 (k ++ aesWords k 8 52).flatten
/-- Row r of the block moves r columns to the left, or back. -/
def shiftRows (inv : Bool) (b : List Byte) : List Byte :=
  (List.range 16).map fun i => b.getD ((if inv then i + 12 * (i % 4) else i + 4 * (i % 4)) % 16) 0
/-- Each column is multiplied by a circulant matrix with first row `c`. -/
def mixColumns (c : List Nat) (b : List Byte) : List Byte :=
  (List.range 16).map fun i => BitVec.ofNat 8 ((List.range 4).foldl
    (fun a j => a ^^^ gfAes.mul (c.getD j 0) (b.getD (i / 4 * 4 + (i + j) % 4) 0).toNat) 0)
/-- A block of 16 bytes under round keys, enciphered and deciphered. -/
def aesEnc (ks : List (List Byte)) (b : List Byte) : List Byte :=
  let x := ((ks.drop 1).take 13).foldl (fun x k => xorBytes (mixColumns [2, 3, 1, 1] (shiftRows false (x.map sBox))) k)
    (xorBytes b (ks.getD 0 []))
  xorBytes (shiftRows false (x.map sBox)) (ks.getD 14 [])
def aesDec (ks : List (List Byte)) (b : List Byte) : List Byte :=
  let x := ((ks.drop 1).take 13).reverse.foldl
    (fun x k => mixColumns [14, 11, 13, 9] (xorBytes ((shiftRows true x).map sBoxInv) k)) (xorBytes b (ks.getD 14 []))
  xorBytes ((shiftRows true x).map sBoxInv) (ks.getD 0 [])

/-- The key unwrapped from `n` wrapped 8-byte blocks (RFC 3394): step `t` of `6n`, the register A and the blocks. -/
def unwrapSteps (ks : List (List Byte)) (n : Nat) (a : List Byte) (r : List (List Byte)) : Nat → List Byte × List (List Byte)
  | 0 => (a, r)
  | t + 1 =>
    let b := aesDec ks (xorBytes a (beBytes 8 (t + 1)) ++ r.getD (t % n) [])
    unwrapSteps ks n (b.take 8) (r.set (t % n) (b.drop 8)) t
def unwrapKey (kek wrapped : List Byte) : Option (List Byte) :=
  let n := wrapped.length / 8 - 1
  let (a, r) := unwrapSteps (aesKeys kek) n (wrapped.take 8) (chunksOf 8 n (wrapped.drop 8)) (6 * n)
  if a = List.replicate 8 0xA6 then some r.flatten else none

/-- Product in the field of GCM, whose coefficients run from the most significant bit: `x` is the factor's remaining bits. -/
def ghashMul (x v z : Nat) : Nat → Nat
  | 0 => z
  | n + 1 =>
    let z := if x.testBit n then z ^^^ v else z
    ghashMul x (if v % 2 = 1 then (v / 2) ^^^ (0xE1 * 2 ^ 120) else v / 2) z n
/-- GHASH of byte strings, each filled to whole blocks. -/
def ghash (h : Nat) (bs : List Byte) : Nat :=
  (chunksOf 16 (bs.length / 16) bs).foldl (fun y b => ghashMul (y ^^^ beNat b) h 0 128) 0
def fillBlock (bs : List Byte) : List Byte := bs ++ List.replicate ((16 - bs.length % 16) % 16) 0
/-- The key stream from counter `i` on, over `n` blocks. -/
def ctrStream (ks : List (List Byte)) (nonce : List Byte) (i : Nat) : Nat → List Byte
  | 0 => []
  | n + 1 => aesEnc ks (nonce ++ beBytes 4 i) ++ ctrStream ks nonce (i + 1) n
/-- Bytes under the key stream of AES-256-GCM, either way. -/
def gcmCrypt (key nonce bs : List Byte) : List Byte := xorBytes bs (ctrStream (aesKeys key) nonce 2 ((bs.length + 15) / 16))
/-- The tag of ciphertext with additional data. -/
def gcmTag (key nonce aad ct : List Byte) : List Byte :=
  let ks := aesKeys key
  let h := beNat (aesEnc ks (List.replicate 16 0))
  let g := ghash h (fillBlock aad ++ fillBlock ct ++ beBytes 8 (8 * aad.length) ++ beBytes 8 (8 * ct.length))
  xorBytes (beBytes 16 g) (aesEnc ks (nonce ++ beBytes 4 1))
/-- AES-256-GCM opened: `none` where the tag does not verify. -/
def gcmOpen (key nonce aad ct tag : List Byte) : Option (List Byte) :=
  if gcmTag key nonce aad ct = tag then some (gcmCrypt key nonce ct) else none

/-- The tweak of block `b` of an XTS data unit, as a number of little-endian bytes. -/
def xtsTweak (key : List Byte) (unit b : Nat) : Nat :=
  (List.range b).foldl (fun t _ => if t < 2 ^ 127 then 2 * t else (2 * t - 2 ^ 128) ^^^ 0x87)
    (leNat (aesEnc (aesKeys (key.drop 32)) (leBytes 16 unit)))
/-- Block `b` of a data unit under XTS-AES-256 with its 64-byte key (R299). -/
def xtsEnc (key : List Byte) (unit b v : Nat) : Nat :=
  let t := xtsTweak key unit b
  leNat (aesEnc (aesKeys (key.take 32)) (leBytes 16 (v ^^^ t))) ^^^ t
def xtsDec (key : List Byte) (unit b v : Nat) : Nat :=
  let t := xtsTweak key unit b
  leNat (aesDec (aesKeys (key.take 32)) (leBytes 16 (v ^^^ t))) ^^^ t

/-! ## P-384 -/

/-- The field's prime, the coefficient b, the base point and its order. -/
def p384 : Nat := 2 ^ 384 - 2 ^ 128 - 2 ^ 96 + 2 ^ 32 - 1
def p384B : Nat :=
  0xb3312fa7e23ee7e4988e056be3f82d19181d9c6efe8141120314088f5013875ac656398d8a2ed19d2a85c8edd3ec2aef
def p384N : Nat :=
  0xffffffffffffffffffffffffffffffffffffffffffffffffc7634d81f4372ddf581a0db248b0a77aecec196accc52973
/-- A point; `none` is the point at infinity. -/
abbrev EcPoint := Option (Nat × Nat)
def p384G : EcPoint :=
  some (0xaa87ca22be8b05378eb1c71ef320ad746e1d3b628ba79b9859f741e082542a385502f25dbf55296c3a545e3872760ab7,
    0x3617de4a96262c6f5d9e98bf9292dc29f8f41dbd289a147ce9da3113b5f0b8c00a60b1ce1d7e819d7a431d7c90ea0e5f)
/-- b^e modulo m, over the low `n` bits of e. -/
def powMod (m b e : Nat) : Nat → Nat
  | 0 => 1 % m
  | n + 1 =>
    let r := powMod m (b * b % m) (e / 2) n
    if e % 2 = 1 then r * b % m else r
/-- Inverse modulo a prime of at most 384 bits. -/
def invMod (m a : Nat) : Nat := powMod m a (m - 2) 384
/-- Difference modulo the field's prime, of two numbers below it. -/
def subMod (a b : Nat) : Nat := (a + p384 - b) % p384
/-- Sum of two points. -/
def ecAdd : EcPoint → EcPoint → EcPoint
  | none, q => q
  | p, none => p
  | some (x, y), some (u, v) =>
    if x = u ∧ (y + v) % p384 = 0 then none
    else
      let slope := if x = u then (3 * (x * x % p384) + p384 - 3) * invMod p384 (2 * y % p384) % p384
        else subMod v y * invMod p384 (subMod u x) % p384
      let w := subMod (subMod (slope * slope % p384) x) u
      some (w, subMod (slope * subMod x w % p384) y)
/-- The multiple of a point by the low `n` bits of a number. -/
def ecMul (k : Nat) (p : EcPoint) : Nat → EcPoint
  | 0 => none
  | n + 1 =>
    let q := ecMul (k / 2) (ecAdd p p) n
    if k % 2 = 1 then ecAdd q p else q
/-- The 97-byte uncompressed form of a point, and the point of such a form on the curve. -/
def ecBytes : EcPoint → List Byte
  | some (x, y) => 0x04 :: beBytes 48 x ++ beBytes 48 y
  | none => List.replicate 97 0
def ecPoint (bs : List Byte) : EcPoint :=
  let x := beNat ((bs.drop 1).take 48)
  let y := beNat ((bs.drop 49).take 48)
  if bs.length = 97 ∧ bs.headD 0 = 0x04 ∧ x < p384 ∧ y < p384 ∧ y * y % p384 = (x * x * x + (p384 - 3) * x + p384B) % p384 then
    some (x, y)
  else none
/-- Public key of a private key. -/
def ecPublic (d : Nat) : List Byte := ecBytes (ecMul (d % p384N) p384G 384)
/-- The shared secret of a private key and a public key; `none` where the public key is no point. -/
def ecdh (d : Nat) (pub : List Byte) : Option (List Byte) :=
  match ecPoint pub with
  | none => none
  | some q => (ecMul (d % p384N) (some q) 384).map fun z => beBytes 48 z.1
/-- ECDSA verification of r and s, 48 bytes each, over a digest (R94). -/
def ecdsaVerify (pub digest sig : List Byte) : Bool :=
  let r := beNat (sig.take 48)
  let s := beNat (sig.drop 48)
  match ecPoint pub with
  | none => false
  | some q =>
    let w := invMod p384N s
    let u := ecAdd (ecMul (beNat digest * w % p384N) p384G 384) (ecMul (r * w % p384N) (some q) 384)
    sig.length == 96 && r != 0 && decide (r < p384N) && s != 0 && decide (s < p384N) &&
      (match u with | some (x, _) => x % p384N == r | none => false)
/-- The signature over a digest by a private key with a per-signature number. -/
def ecdsaSign (d k : Nat) (digest : List Byte) : List Byte :=
  match ecMul (k % p384N) p384G 384 with
  | none => List.replicate 96 0
  | some (x, _) =>
    let r := x % p384N
    beBytes 48 r ++ beBytes 48 (invMod p384N (k % p384N) * ((beNat digest + r * (d % p384N)) % p384N) % p384N)

end Sys2Proof.Machine
end

