-- ==== Sys2Proof/Machine/Reply.lean ====
section
/-! DEFINITION. How a mailbox command is answered (R339, R340, R347, R349, R404), with the status codes (R346). -/
namespace Sys2Proof.Machine

/-- Status codes (R346). -/
def stOK : Nat := 0
def stOpInvalid : Nat := 1
def stAddrInvalid : Nat := 2
def stAlign : Nat := 3
def stAccessDenied : Nat := 4
def stTargetFaulted : Nat := 5
def stNoZone : Nat := 6
def stMemUe : Nat := 7
def stDupExpired : Nat := 8
def stNoRoute : Nat := 9
def stTargetDead : Nat := 10
def stPathDown : Nat := 11
def stTimeout : Nat := 12
def stBufRefused : Nat := 13
def stBufBusy : Nat := 14
def stColNoSpace : Nat := 0x10
def stColSlotFailed : Nat := 0x11
def stColCircuit : Nat := 0x12
def stColPartial : Nat := 0x13
def stColOverlap : Nat := 0x14
def stColAborted : Nat := 0x15
def stBadCommand : Nat := 0x20
def stBadArgument : Nat := 0x21
def stWrongState : Nat := 0x22
def stDraftAuth : Nat := 0x23
def stDraftRefused : Nat := 0x24
def stHwFault : Nat := 0x25
def stAborted : Nat := 0x26
def stNoResource : Nat := 0x27
def stHostIo : Nat := 0x28
def stTetherLost : Nat := 0x29

/-- A response (R339). -/
def mbResponse (h : MbHdr) (st : Nat) (pl : List Byte) : List Byte :=
  leBytes 2 h.opcode.toNat ++ leBytes 1 st ++ leBytes 1 0 ++ leBytes 2 h.target.toNat ++ leBytes 2 h.seq.toNat ++
    leBytes 4 pl.length ++ List.replicate 20 0 ++ pl
/-- Pieces of a byte string as control-space WRITEs of at most 256 bytes, filled to whole flits (R347). -/
def ctlWrites (node off : Nat) (bs : List Byte) : List (Nat × Nat × List Byte) :=
  let bs := fitBytes ((bs.length + 63) / 64 * 64) bs
  (List.range ((bs.length + 255) / 256)).map fun i => (node, off + 256 * i, (bs.drop (256 * i)).take 256)
def State.sendCtl (s : State) (ws : List (Nat × Nat × List Byte)) : State := { s with ctlOut := s.ctlOut ++ ws }.hdEvc 0x0B ws.length
/-- Response buffer of a function (R338). -/
def respBase (fn : Nat) : Nat := 0x1000000 * (fn + 1) + 0x2000
/-- The response in a function's mailbox (R340): the whole buffer, STATUS, SEQ, BUSY, DONE, vector 0. -/
def State.putResponse (s : State) (fn : Nat) (seq st : Nat) (bs : List Byte) : State :=
  let a := HD_MB_STAT fn
  let s := (s.regsReset (respBase fn) (respBase fn + 0x1000)).putWords (respBase fn) ((chunksOf 8 512 bs).map leNat)
  let s := (((s.wf a HD_MB_STAT_STATUS st).wf a HD_MB_STAT_SEQ seq).wf a HD_MB_STAT_BUSY 0).raise a HD_MB_STAT_DONE 1
  if s.rb (HD_MB_CTL fn) HD_MB_CTL_MB_IRQ then s.sendMsi fn 0 else s
/-- A Holnilet SMBus answer (R404). -/
def smbAnswer (cmd seq st : Nat) (body : List Byte) : List Byte :=
  [0x7E, 0x1F, 0x3B] ++ leBytes 1 (cmd + 0x80) ++ leBytes 1 seq ++ leBytes 1 st ++ [0, 0] ++ body
/-- A command completes (R340, R349, R404): its response goes where the command came from. -/
def State.complete (s : State) (e : MbEnt) (st : Nat) (pl : List Byte) : State :=
  if e.drop then s
  else
    let bs := mbResponse e.hdr st pl
    if e.src ≤ 8 then s.putResponse e.src e.hdr.seq.toNat st bs
    else if e.src = 9 then { s with smbOut := s.smbOut ++ [smbAnswer 3 e.smbSeq.toNat stOK bs] }
    else
      match s.tetherLead with
      | none => s
      | some n => s.sendCtl (ctlWrites n 0x2000 bs ++ [(n, 0x3000, leBytes 8 1)])

/-- The command that runs on for a partition ends (R100, R343). -/
def State.lateDone (s : State) (n st : Nat) (pl : List Byte) : State :=
  match s.late.find? (fun e => e.1 = n) with
  | none => s
  | some e => { s with late := s.late.filter fun x => x.1 ≠ n }.complete e.2.1 st pl

end Sys2Proof.Machine
end

