-- ==== Sys2Proof/Machine/Groups.lean ====
section
/-! DEFINITION. Edge slots (R113, R114), knots (R73, R74, R329), holds (R76, R79), the landing port (R82), the drain of
a group (R87), and the gear controller (R117 to R123, R424). -/
namespace Sys2Proof.Machine

/-! ## Edge-slot lines (R114, R277) -/

/-- A contribution to one slot line. -/
structure Contrib where
  first : Bool
  wide : Bool
  line : Line
deriving DecidableEq, Repr

/-- A line of eight TL128 NaTs (R114). -/
def natLine : Line := BitVec.ofNat 1024 (packNat 128 (List.replicate 8 (2 ^ 127)))

/-- The tallies of a line at a width. -/
def lineTallies (wide : Bool) (l : Line) : List Tally :=
  (List.range (if wide then 8 else 16)).map fun i => decodeTally wide (unpackNat (tallyBits wide) i l.toNat)

/-- One accumulate step of a line (R114): the new line, its width (1 = TL64, 2 = TL128), saturation, mismatch. -/
def slotStep (old : Line) (width : Nat) (cs : List Contrib) : Line × Nat × Bool × Bool :=
  match cs with
  | [] => (old, width, false, false)
  | c :: _ =>
    let w := if c.wide then 2 else 1
    let mism := cs.any fun d => d.wide ≠ c.wide || (!d.first && width ≠ 0 && (if d.wide then 2 else 1) ≠ width)
    if mism then (natLine, 2, false, true)
    else
      let a : List Tally :=
        if cs.any Contrib.first then List.replicate 16 (some 0) else lineTallies c.wide old
      let ts := cs.map fun d => lineTallies c.wide d.line
      let rs := (List.range (if c.wide then 8 else 16)).map fun i =>
        accumulate c.wide (a.getD i none) (ts.map fun t => t.getD i none)
      (BitVec.ofNat 1024 (packNat (tallyBits c.wide) (rs.map fun r => encodeTally c.wide r.val)), w,
        rs.any fun r => r.flags ≠ 0, false)

/-- A stream, or a slot that is ready to start, may still read a line as it stood at an earlier beat (R270). -/
def State.slotLive (s : State) (p : Nat) : Bool :=
  (s.streams.any fun e => e.1 / 16 == p && e.2.isSome) || s.shch.any fun e => e.1 / 1024 == p && e.2.ready != []
/-- One line of a slot takes its contributions, and the slot's record notes what happened (R114, R278, R286); `stat`: the
slot beat of static contributions, none for the Loom input. -/
def State.slotLineStep (s : State) (p slot line : Nat) (stat : Option Nat) (cs : List Contrib) : State :=
  let q := s.pair p
  let key := slot * 16 + line
  let (l, w, sat, mism) := slotStep (Tab.get 0 q.slotLine key) (Tab.get 0 q.slotWidth key) cs
  let held := (s.rf (CD_SLOT_REC p slot) CD_SLOT_REC_HELD).testBit line
  let hit := stat.isSome && held && !cs.isEmpty
  let hist := match stat with
    | some t => if s.slotLive p then q.slotHist ++ [(key, t, Tab.get 0 q.slotLine key)] else []
    | none => q.slotHist
  let s := s.setPair p { q with slotLine := Tab.set 0 q.slotLine key l, slotWidth := Tab.set 0 q.slotWidth key w,
                                overlaps := if hit then key :: q.overlaps else q.overlaps, slotHist := hist }
  let s := if sat then s.raise (CD_SLOT_REC p slot) CD_SLOT_REC_SAT 1 else s
  let s := if mism then s.raise (CD_SLOT_REC p slot) CD_SLOT_REC_WIDTH 1 else s
  if hit then s.raise (CD_SLOT_REC p slot) CD_SLOT_REC_OVERLAP 1 else s

/-- The contributions of a beat to line `l`. -/
def contribsTo (ins : List SlotIn) (l : Nat) : List Contrib :=
  ins.filterMap fun i => if i.sofs ≤ l then (i.data[l - i.sofs]?).map fun d => ⟨i.first, i.wide, d⟩ else none

/-- One slot beat: the earliest contributions that have arrived (R114). -/
def State.slotBeat (s : State) (p slot : Nat) : State :=
  let q := s.pair p
  match minBeat ((q.slotIn.filter fun i => i.slot = slot).map SlotIn.beat) with
  | none => s
  | some t =>
    let ins := q.slotIn.filter fun i => i.slot = slot && decide (i.beat = t)
    let s := s.setPair p { q with slotIn := q.slotIn.filter fun i => !(i.slot = slot && decide (i.beat = t)) }
    (List.range 16).foldl (fun s l => let cs := contribsTo ins l; if cs = [] then s else s.slotLineStep p slot l (some t) cs) s

/-- SLOT_BEAT (R114). -/
def execSlotBeat (p : PairIx) (sl : Fin 32) (s : State) : Host.Outcome State Fault Refusal := .next (s.slotBeat p sl)

/-! ## Knots and waits -/

/-- The new count of a knot and whether it was clamped (R73). -/
def knotNew (count : Nat) (q : KnotPend) : Nat × Bool :=
  let base := match q.sets with
    | [] => count - q.consumed
    | x :: r => (r.foldl (fun a b => if b.1 < a.1 then b else a) x).2
  let new := base + (q.sigs.map Prod.snd).sum + q.outside
  if new > 2 ^ 32 - 1 then (2 ^ 32 - 1, true) else (new, false)

/-- Core of a KSIG that faults in a clamp: the lowest (R73). -/
def clampCore (q : KnotPend) : Option Nat :=
  match q.sigs with
  | [] => none
  | x :: r => some (r.foldl (fun a b => min a b.1) x.1)

/-- KWAIT_SUCCESS (R74): the core's oldest pending wait whose knot has the count succeeds. -/
def execKwaitSuccess (c : CoreIx) (s : State) : Host.Outcome State Fault Refusal :=
  let key := s.grpOf c
  let g := s.grp key
  match g.waits.find? (fun w => w.core = c.val && w.succ.isNone && s.waitOk w && !s.lowerReady g.waits w) with
  | none => .next s
  | some w =>
    .next (((s.consume w).setGrp key { g with waits := g.waits.map fun v => if v = w then { v with succ := some (s.pb (pairOf c)) } else v }).showWaits c)

/-- H wall beats have passed since a wait's success (R76). -/
def Wait.isOver (w : Wait) (b : Nat) : Bool := match w.succ with | some t => decide (t + holdH ≤ b) | none => false

/-- GROUP_RELEASE (R76): H wall beats after its success a wait no longer holds the group. A group that a fault stops is
not released (R88). -/
def execGroupRelease (p : PairIx) (g : Fin 32) (s : State) : Host.Outcome State Fault Refusal :=
  let key := p.val * 32 + g.val
  let r := s.grp key
  if r.stop.isSome then .next s else .next (s.setGrp key { r with waits := r.waits.filter fun w => !w.isOver (s.pb p) })

/-- WAIT_LIMIT (R79): a wait of the core has been pending for LIMIT wall beats and does not succeed in this one. -/
def execWaitLimit (c : CoreIx) (s : State) : Host.Outcome State Fault Refusal :=
  let lim := s.rf (CD_HOLD_LIMIT c) CD_HOLD_LIMIT_LIMIT
  let ended := (s.grp (s.grpOf c)).waits.any fun w =>
    w.core = c.val && w.succ.isNone && decide (s.pb (pairOf c) ≥ w.since + lim) && !s.waitOk w
  if lim ≠ 0 ∧ ended then .next (s.coreFault c 0x11 5 false 0 (s.coreNow c)) else .next s

/-! ## End of a group (R87, R88) -/

/-- The other cores of a faulted core's group, running or halted, record GROUP_STOP with BEAT = n (R88). -/
def State.groupStop (s : State) (key : Nat) : State :=
  match (s.grp key).stop, (s.grp key).draining with
  | some n, false =>
    (s.grpCores key).foldl (fun s c =>
      if s.seqState c = 1 ∨ s.seqState c = 2 then s.coreStops c 0x15 0 false 0 n else s) s
  | _, _ => s
/-- GROUP_STOP (R88). -/
def execGroupStop (p : PairIx) (g : Fin 32) (s : State) : Host.Outcome State Fault Refusal :=
  .next (s.groupStop (p.val * 32 + g.val))

/-- One drain beat: what is due in the group's cores, clusters and pair happens (R87). -/
def State.drainBeat (s : State) (key : Nat) : State :=
  let g := s.grp key
  let s := s.setGrp key { g with count := g.count + 1 }
  let cores := s.grpCores key
  let cls := (List.range 32).filter g.clusters.getLsbD
  let s := s.linkBeat (key / 32)
  let s := cores.foldl (fun s c => (s.land c (s.coreNow c)).bankBeat c) s
  let s := cls.foldl (fun s i => s.poolBeat (key / 32 * 32 + i)) s
  ((List.range 32).filter g.slots.getLsbD).foldl (fun s i => s.slotBeat (key / 32) i) s
/-- A number of drain beats; a group one of whose cores faults in them makes H more beats only (R88). -/
def State.drainBeats (s : State) (key : Nat) : Nat → State
  | 0 => s
  | n + 1 =>
    if (s.grp key).stop.any fun m => decide (m + holdH ≤ (s.grp key).count) then s else (s.drainBeat key).drainBeats key n

/-- The partition is HALTED once every group of it is (R87, R100). -/
def State.haltPart (s : State) (n : Nat) : State :=
  match s.part? n with
  | none => s
  | some p =>
    if p.state = .running ∧ p.origins = [] ∧ (s.groups.all fun e => e.2.part ≠ n || e.2.halted) then
      (s.setPart n { p with state := .halted, stopping := false }).lateDone n stOK []
    else s

/-- The cores of a group that a DRAFT_STOP has brought to its count are halted, and pending waits are discarded (R100). -/
def State.stopGroup (s : State) (key n : Nat) : State :=
  let s := s.setGrp key { s.grp key with waits := [], stop := none, draining := false }
  (s.grpCores key).foldl (fun s c =>
    let s : State := if s.running c ∧ n + holdH ≤ s.bc c then
      (s.wf (CD_SEQ_STATUS c) CD_SEQ_STATUS_STATE 2).wf (CD_SEQ_STATUS c) CD_SEQ_STATUS_HELD 0 else s
    s.showWaits c) s
/-- GROUP_DRAIN_END (R87, R100): the 64 drain beats of a group none of whose cores issues and which no wait holds. A group
one of whose cores faults in them is not halted: it stops, and its partition goes on to PART_STOP (R88). -/
def execGroupDrainEnd (p : PairIx) (g : Fin 32) (s : State) : Host.Outcome State Fault Refusal :=
  let key := p.val * 32 + g.val
  let s := match (s.grp key).draining, (s.grp key).stop with
    | true, some n => if (s.grpCores key).all fun c => !s.running c || decide (n + holdH ≤ s.bc c) then s.stopGroup key n else s
    | _, _ => s
  let r := s.grp key
  if r.part = 0 ∨ r.halted ∨ r.stop.isSome ∨ r.waits ≠ [] ∨ (s.grpCores key).any s.running then .next s
  else
    let s := s.drainBeats key 64
    if (s.grp key).stop.isSome then .next (s.groupStop key)
    else .next ((s.setGrp key { s.grp key with halted := true }).haltPart r.part)

/-! ## Gears (R120 to R122, R424) -/

/-- V(g) of a pair in mV (R424). -/
def railMv (p g : Nat) : Nat := 825 + (Config.fuseV0 p).val - 8 * g
/-- A voltage request to a pair's rail: VOUT_COMMAND to the regulator at 0x40 + pair (R424). -/
def State.askVolt (s : State) (p g : Nat) : State := { s with pmbus := s.pmbus ++ [(0x40 + p, railMv p g)] }

/-- CAPPED follows the pairs' CAP_REQ (R426). -/
def State.showCapped (s : State) : State :=
  s.wf HD_PWR_STAT HD_PWR_STAT_CAPPED
    (((List.range 8).filter fun p => decide (s.rf (CD_GEAR_CTL p) CD_GEAR_CTL_CAP_REQ ≠ 0)).foldl (fun m p => m + 2 ^ p) 0)
/-- CAP_REQ of a pair. -/
def State.setCap (s : State) (p v : Nat) : State := (s.wf (CD_GEAR_CTL p) CD_GEAR_CTL_CAP_REQ v).showCapped
/-- CAP_REQ at a latch beat: 24 while PWR_BRAKE_N is low, the capping loop's value else (R426). -/
def State.latchCap (s : State) (p : Nat) : State :=
  let rest := s.capping.braked.filter (· ≠ p)
  let s : State := { s with capping := { s.capping with braked := if s.brake then p :: rest else rest } }
  s.setCap p (if s.brake then 24 else Tab.get 0 s.capping.req p)

/-- Target of a gear controller (R121). -/
def State.gearTarget (s : State) (p : Nat) : Nat :=
  let a := CD_GEAR_CTL p
  max (max (s.rf a CD_GEAR_CTL_HOST_REQ) (s.rf a CD_GEAR_CTL_CAP_REQ)) (max (s.rf a CD_GEAR_CTL_THERM_REQ) (s.rf a CD_GEAR_CTL_MON_REQ))
/-- GEAR_LATCH (R121, R122, R426): the target, NEXT, and a change under way if NEXT differs from CUR. -/
def execGearLatch (p : PairIx) (s : State) : Host.Outcome State Fault Refusal :=
  let a := CD_GEAR_CTL p
  if s.pb p % 4096 ≠ 3840 then .next s
  else
    let s := s.latchCap p
    let t := s.gearTarget p
    let cur := s.rf a CD_GEAR_CTL_CUR
    let ok := s.rf a CD_GEAR_CTL_VOLT_OK
    let next := if t ≥ cur then t else max t ok
    let ask : Bool := decide (t < cur) && decide (t < ok)
    let s := (s.wf a CD_GEAR_CTL_NEXT next).wb a CD_GEAR_CTL_VPEND ask
    let s := if ask then s.askVolt p t else s
    .next (s.setPair p { s.pair p with changing := decide (next ≠ cur) })

/-- GEAR_ACK_CHECK (R122): at PB mod 4,096 = 4,095 a missing acknowledgement cancels the change. -/
def execGearAckCheck (p : PairIx) (acks : BitVec 32) (s : State) : Host.Outcome State Fault Refusal :=
  if s.pb p % 4096 = 4095 ∧ (s.pair p).changing ∧ acks ≠ BitVec.allOnes 32 then
    let s := s.setPair p { s.pair p with changing := false }
    let s := s.wf (CD_GEAR_CTL p) CD_GEAR_CTL_NEXT (s.rf (CD_GEAR_CTL p) CD_GEAR_CTL_CUR)
    .next (s.bump (CD_GEAR_STAT p) CD_GEAR_STAT_ABORTS 1)
  else .next s

/-- The margin monitor of one cluster at a boundary (R121): its request and its calm boundaries. -/
def monitorStep (low : Bool) (req calm : Nat) : Nat × Nat :=
  if low then (min 24 (req + 1), 0)
  else if calm + 1 ≥ 16 then (req - 1, 0)
  else (req, calm + 1)

/-- All 32 monitors at a boundary; `low` names the clusters whose margin is low. -/
def Pair.monitors (q : Pair) (low : BitVec 32) : Pair :=
  (List.range 32).foldl (fun q i =>
    let (r, c) := monitorStep (low.getLsbD i) (Tab.get 0 q.monReq i) (Tab.get 0 q.monCalm i)
    { q with monReq := Tab.set 0 q.monReq i r, monCalm := Tab.set 0 q.monCalm i (if r = 0 then 0 else c) }) q

/-- GEAR_BOUNDARY (R121, R122, R424): the change takes effect, the margin monitors move, and after a downshift the lower
voltage is due at the boundary + 1, where `tickGear` asks for it. -/
def execGearBoundary (p : PairIx) (low : BitVec 32) (s : State) : Host.Outcome State Fault Refusal :=
  if s.pb p % 4096 ≠ 0 then .next s
  else
    let a := CD_GEAR_CTL p
    let q := (s.pair p).monitors low
    let mon := (q.monReq.map Prod.snd).foldl max 0
    let cur := s.rf a CD_GEAR_CTL_CUR
    let next := s.rf a CD_GEAR_CTL_NEXT
    let s := (s.setPair p { q with changing := false }).wf a CD_GEAR_CTL_MON_REQ mon
    if !q.changing then .next s
    else
      let s := (s.wf a CD_GEAR_CTL_CUR next).bump (CD_GEAR_STAT p) CD_GEAR_STAT_CHANGES 1
      let s := s.pairEvc p 0x07 1
      .next (if next > cur then s.setPair p { s.pair p with lower := true } else s)

/-- The beat after a boundary: after a downshift the controller asks for the lower voltage (R121, R122). -/
def State.tickGear (s : State) (p : Nat) : State :=
  if (s.pair p).lower && s.pb p % 4096 == 1 then
    let cur := s.rf (CD_GEAR_CTL p) CD_GEAR_CTL_CUR
    ((s.setPair p { s.pair p with lower := false }).wf (CD_GEAR_CTL p) CD_GEAR_CTL_VOLT_OK cur).askVolt p cur
  else s

/-- VOLT_CONFIRM (R424). -/
def execVoltConfirm (p : PairIx) (g : Fin 25) (s : State) : Host.Outcome State Fault Refusal :=
  .next (s.wf (CD_GEAR_CTL p) CD_GEAR_CTL_VOLT_OK g)

/-- VOLT_TIMEOUT (R424, R431): a record, and the request is repeated; VOLT_OK and VPEND stay. -/
def execVoltTimeout (p : PairIx) (g : Fin 25) (mv : BitVec 16) (s : State) : Host.Outcome State Fault Refusal :=
  .next ((s.event 0x0B 0x10 (unitOf 3 p) 0 0 g mv.toNat 0).askVolt p g)

/-- CROSSING_MARGIN_LOW (R118). -/
def execCrossingMarginLow (cl : ClusterIx) (port : Fin 6) (s : State) : Host.Outcome State Fault Refusal :=
  let a := CD_XING_STAT cl
  .next (s.raise a CD_XING_STAT_MARGIN_LOW (2 ^ port.val))

end Sys2Proof.Machine
end

