-- ==== Sys2Proof/Machine/Packet.lean ====
section
/-! DEFINITION. Packets (R129, R183, R218 to R220), the places fabric addresses name (R206 to R209), the routing decision
(R244 to R249), and the way a packet enters and leaves the warp plane. -/
namespace Sys2Proof
open Machine

/-! ## Fields -/

/-- A number with bits [lo + len − 1 : lo] set to a value. -/
def setBits (h lo len v : Nat) : Nat := h - nbits h lo len * 2 ^ lo + v % 2 ^ len * 2 ^ lo
def Pkt.f (p : Pkt) (lo len : Nat) : Nat := nbits p.hdr.toNat lo len
def Pkt.setF (p : Pkt) (lo len v : Nat) : Pkt := { p with hdr := BitVec.ofNat 512 (setBits p.hdr.toNat lo len v) }
/-- `n` bytes of TXN from a byte offset (R129). -/
def Pkt.t (p : Pkt) (off n : Nat) : Nat := p.f (128 + 8 * off) (8 * n)
def Pkt.setT (p : Pkt) (off n v : Nat) : Pkt := p.setF (128 + 8 * off) (8 * n) v

/-- Header fields of the warp plane (R129). -/
def Pkt.pseq (p : Pkt) : Nat := p.f 0 12
def Pkt.nflit (p : Pkt) : Nat := p.f 12 3
def Pkt.linkonly (p : Pkt) : Bool := p.f 15 1 != 0
def Pkt.cls (p : Pkt) : Nat := p.f 16 2
def Pkt.phase (p : Pkt) : Nat := p.f 18 1
/-- Virtual channel (R242). -/
def Pkt.vc (p : Pkt) : Nat := 2 * p.cls + p.phase
def Pkt.dsite (p : Pkt) : Nat := p.f 32 5
def Pkt.dep (p : Pkt) : Nat := p.f 37 3
/-- Flits of a packet, header included (R252). -/
def Pkt.flits (p : Pkt) : Nat := p.data.length + 1
/-- Fields of a REQ or FWD (R218). -/
def Pkt.addr (p : Pkt) : Nat := p.t 0 8
def Pkt.op (p : Pkt) : Nat := p.t 8 1
def Pkt.size (p : Pkt) : Nat := p.t 9 1
def Pkt.tag (p : Pkt) : Nat := p.t 0x0A 2
def Pkt.seqNo (p : Pkt) : Nat := p.t 0x0C 4
def Pkt.sepoch (p : Pkt) : Nat := p.t 0x10 2
def Pkt.domain (p : Pkt) : Nat := p.t 0x12 2
def Pkt.notify (p : Pkt) : Nat := p.t 0x14 2
def Pkt.rfl (p : Pkt) : Nat := p.t 0x16 1
def Pkt.operand (p : Pkt) : Nat := p.t 0x18 8
def Pkt.compare (p : Pkt) : Nat := p.t 0x20 8
def Pkt.dest (p : Pkt) : Nat := p.t 0x28 8
/-- Fields of an RSP (R220). -/
def Pkt.rTag (p : Pkt) : Nat := p.t 0 2
def Pkt.rStatus (p : Pkt) : Nat := p.t 2 1
def Pkt.rSeq (p : Pkt) : Nat := p.t 4 4
def Pkt.rValue (p : Pkt) : Nat := p.t 8 8

/-- DETAIL of a fabric record (R378, log entry 11): source node, domain, SEQ, TAG, OP. -/
def Pkt.detail (p : Pkt) : Nat :=
  p.snode.toNat + p.domain * 2 ^ 16 + p.seqNo * 2 ^ 32 + p.tag * 2 ^ 64 + p.op * 2 ^ 80

/-- Bytes of flits. -/
def flitBytes (fs : List Flit) : List Byte := fs.flatMap fun f => leBytes 64 f.toNat
/-- Flits of bytes. -/
def bytesFlits (bs : List Byte) : List Flit := (chunksOf 64 (bs.length / 64) bs).map fun c => BitVec.ofNat 512 (leNat c)
/-- CRC of a packet, its CRC field taken as 0 (R130). -/
def Pkt.crc (p : Pkt) : Nat := (crc32c (flitBytes ((p.setF 96 32 0).hdr :: p.data))).toNat
def Pkt.sealed (p : Pkt) : Pkt := p.setF 96 32 p.crc
def Pkt.crcOk (p : Pkt) : Bool := p.f 96 32 == p.crc

/-- A packet of a class with a TXN and data flits; the network fields are set as it travels. -/
def mkPkt (cls : Nat) (txn : Nat) (data : List Flit) (snode dnode : Nat) : Pkt :=
  { hdr := BitVec.ofNat 512 (data.length % 8 * 2 ^ 12 + cls % 4 * 2 ^ 16 + txn % 2 ^ 384 * 2 ^ 128),
    data := data, snode := BitVec.ofNat 14 snode, dnode := BitVec.ofNat 14 dnode, hops := 0 }

end Sys2Proof

namespace Sys2Proof.Machine

/-! ## Places (R206 to R209) -/

def siteOfStack (k : Nat) : Nat := 8 + k
def siteOfPort (x : Nat) : Nat := 16 + x / 2
def nodeOf (addr : Nat) : Nat := addr / 2 ^ 50 % 2 ^ 14
def offOf (addr : Nat) : Nat := addr % 2 ^ 50
def spaceOf (off : Nat) : Nat := off / 2 ^ 48 % 4
/-- First byte after the addressable bulk memory (R207). -/
def bulkTop : Nat := 0x7000000000
/-- The byte range is a valid offset range outside the control space (R207). -/
def offValid (off n : Nat) : Bool :=
  match spaceOf off with
  | 0 => off % 2 ^ 48 + n ≤ bulkTop
  | 1 => nbits off 22 15 == 0 && off % 2 ^ 22 + n ≤ 0x300000
  | 2 => nbits off 45 3 == 0 && nbits off 23 14 == 0 && off % 2 ^ 23 + n ≤ 2 ^ 23
  | _ => false
def coreAt (off : Nat) : Nat := nbits off 37 11
def clusterAt (off : Nat) : Nat := nbits off 37 8
/-- Partition whose bulk region holds a byte, once it has been filled (R302); 0 for none. -/
def State.regionOf (s : State) (b : Nat) : Nat :=
  match s.parts.find? (fun e => e.2.bulkGib ≠ 0 && decide (e.2.bulkBase ≤ b) &&
      decide (b < e.2.bulkBase + e.2.bulkGib * 2 ^ 30)) with
  | some e => e.1
  | none => 0
/-- Every stack is usable (R287). -/
def State.stacksUp (s : State) : Bool := (List.range 8).all fun k => s.rf (BM_STAT k) BM_STAT_STATE != 0
/-- Owner of a bulk byte: its region's partition, none while a stack is unusable (R208, R287). -/
def State.bulkOwner (s : State) (b : Nat) : Nat := if s.stacksUp then s.regionOf b else 0
/-- Owner partition of a byte range at a valid offset, 0 for none (R208). -/
def State.ownerOf (s : State) (off n : Nat) : Nat :=
  match spaceOf off with
  | 0 => let a := s.bulkOwner (off % 2 ^ 48); if a = s.bulkOwner (off % 2 ^ 48 + n - 1) then a else 0
  | 1 => s.partOfCore (coreAt off)
  | 2 => s.partOfPair (clusterAt off / 32)
  | _ => 0
/-- Domain of a partition number (R208); 0 for none. -/
def State.domain (s : State) (n : Nat) : Nat := match s.part? n with | some p => p.domain.toNat | none => 0
/-- Site, endpoint and cluster that perform an access (R125, R209, R239). -/
def endpointOf (off : Nat) : Nat × Nat × Nat :=
  if spaceOf off = 3 then (8, 1, 0)
  else if !offValid off 1 then (8, 0, 0)
  else
    match spaceOf off with
    | 0 => (siteOfStack (off % 2 ^ 48 / 512 % 8), 0, 0)
    | 1 => let c := coreAt off; (pairOf c, dieOf c, clusterOf c)
    | _ => let k := clusterAt off; (k / 32, k / 16 % 2, k % 16)

def State.ownNode (s : State) : Nat := s.rf LM_MS_NODE LM_MS_NODE_NODE
def State.nodeDead (s : State) (n : Nat) : Bool := (s.rget (LM_MS_DEAD (n / 64))).toNat.testBit (n % 64)

/-! ## Routes (R244 to R249) -/

/-- A logical link besides its registers. -/
def State.link (s : State) (n : Nat) : Link := Tab.get Link.reset s.links n
def State.setLink (s : State) (n : Nat) (l : Link) : State := { s with links := Tab.set Link.reset s.links n l }
/-- Port of a path of a logical link: 0 PRIMARY, 1 ALTERNATE. -/
def State.pathPort (s : State) (n : Nat) (path : Bool) : Nat := if path then (s.link n).alt else (s.link n).prim
/-- A logical link's port that carries traffic (R195). -/
def State.activePort (s : State) (l : Nat) : Nat := s.pathPort l (s.rb (XP_SEL_STAT l) XP_SEL_STAT_ACTIVE_PATH)
/-- The port a link number leads through. -/
def State.linkPort (s : State) (l : Nat) : Nat := if l < 32 then l else s.activePort (l - 32)
/-- A link is live (R246). -/
def State.linkLive (s : State) (l : Nat) : Bool :=
  let x := s.linkPort l
  let up : Bool := if l < 32 then s.rf (XP_PORT_STAT l) XP_PORT_STAT_STATE == 5
    else l < 48 && 1 ≤ s.rf (XP_SEL_STAT (l - 32)) XP_SEL_STAT_STATE && s.rf (XP_SEL_STAT (l - 32)) XP_SEL_STAT_STATE ≤ 3
  up && s.rf (XP_PORT_STAT x) XP_PORT_STAT_PNODE == s.rf (LM_RT_LINK l) LM_RT_LINK_EXP_NODE
/-- The LIVE bits of the 48 links follow their state (R246, R262). -/
def State.showLive (s : State) : State :=
  let s : State := (List.range 48).foldl (fun s l => s.wb (LM_RT_LINK l) LM_RT_LINK_LIVE (s.linkLive l)) s
  if s.rf HD_BRINGUP HD_BRINGUP_STAGE ≥ 8 then
    s.wf HD_BRINGUP HD_BRINGUP_LIVE ((List.range 48).filter fun l => s.rb (LM_RT_LINK l) LM_RT_LINK_LIVE).length
  else s

/-- What a routing decision gives: a link and the PHASE the packet leaves with, or a drop (R247). -/
inductive RouteRes | send (link phase : Nat) | noRoute | routeErr
deriving DecidableEq, Repr

/-- The link of a LOCAL entry, where it is valid and live (R247). -/
def State.localLink (s : State) (m phase : Nat) : RouteRes :=
  let l := s.rf (LM_RT_LOCAL m) LM_RT_LOCAL_LINK
  if s.rb (LM_RT_LOCAL m) LM_RT_LOCAL_VALID && l < 48 && s.linkLive l then .send l phase else .noRoute
/-- LINKi of a GLOBAL entry and its valid bit. -/
def State.globalLink (s : State) (pod i : Nat) : Nat × Bool :=
  let w := (s.rget (LM_RT_GLOBAL pod)).toNat
  (nbits w (8 * i) 6, w.testBit (8 * i + 6))
/-- The routing decision of a packet for another node (R247). -/
def State.route (s : State) (p : Pkt) (source : Bool) : RouteRes :=
  let dn := p.dnode.toNat
  let own := s.ownNode
  let pod := dn / 128
  let r :=
    if pod = own / 128 then s.localLink (dn % 128) p.phase
    else if p.phase = 1 then .routeErr
    else
      let sn := p.snode.toNat
      let h := (sn % 4) ^^^ (sn / 4 % 4) ^^^ (dn % 4) ^^^ (dn / 4 % 4) ^^^ p.cls
      let cand := (List.range 4).map fun i => s.globalLink pod ((h + i) % 4)
      match cand.find? (fun e => e.2 && e.1 < 48 && s.linkLive e.1) with
      | some (l, _) => .send l 1
      | none =>
        if !s.rb (LM_RT_GLOBAL pod) LM_RT_GLOBAL_GVALID then .noRoute
        else
          let g := s.rf (LM_RT_GLOBAL pod) LM_RT_GLOBAL_GATEWAY
          if g = own % 128 then .noRoute else s.localLink g p.phase
  match r with
  | .send l ph => if !source && p.hops = 4 then .routeErr else .send l ph
  | r => r

/-- A drop is counted and reported (R247, R249). -/
def State.dropPkt (s : State) (site : Nat) (p : Pkt) (err : Bool) : State :=
  let d := p.detail
  if err then (s.bump LM_RT_STAT LM_RT_STAT_ROUTE_ERR 1).event 0x04 0x05 (unitOf 4 site) 0 0 (p.tag / 2 ^ 11) p.addr d
  else (s.bump LM_RT_STAT LM_RT_STAT_NOROUTE_DROP 1).event 0x04 0x04 (unitOf 4 site) 0 0 (p.tag / 2 ^ 11) p.addr d

/-! ## Order at the egress port site (R250) -/

def State.chan (s : State) (k : Nat) : Chan := Tab.get Chan.none s.chans k
def State.setChan (s : State) (k : Nat) (c : Chan) : State := { s with chans := Tab.set Chan.none s.chans k c }
/-- Order key of a request to a node, and of a local one to a site. -/
def chanKey (node fwd : Nat) : Nat := node * 2 + fwd
def localKey (site fwd : Nat) : Nat := 32768 + site * 2 + fwd
/-- The SEQ lies ahead of the channel's first SEQ that has not passed. -/
def Chan.ahead (c : Chan) (seq : Nat) : Bool :=
  let d := (seq + 2 ^ 32 - c.pass) % 2 ^ 32
  decide (0 < d) && decide (d < 2 ^ 31)
/-- The SEQs that are done without a gap are passed. -/
def Chan.settle (c : Chan) : Nat → Chan
  | 0 => c
  | n + 1 =>
    if c.done.contains c.pass then
      Chan.settle { c with pass := (c.pass + 1) % 2 ^ 32, done := c.done.filter (· ≠ c.pass) } n
    else c
/-- A request of a SEQ has passed the egress site, or has completed. -/
def State.passed (s : State) (k seq : Nat) : State :=
  let c := s.chan k
  if (seq + 2 ^ 32 - c.pass) % 2 ^ 32 < 2 ^ 31 then
    let c := if c.done.contains seq then c else { c with done := seq :: c.done }
    let c := c.settle c.done.length
    s.setChan k { c with again := c.again.filter c.ahead }
  else s
/-- A SEQ of a channel is issued a second time (R250). -/
def State.seqAgain (s : State) (k seq : Nat) : State :=
  let c := s.chan k
  if c.ahead seq && !c.again.contains seq then s.setChan k { c with again := c.again ++ [seq] } else s
/-- A request of a SEQ must wait for lower ones, but not one whose SEQ has been issued again (R250). -/
def State.mustWait (s : State) (k seq : Nat) : Bool := (s.chan k).ahead seq && !(s.chan k).again.contains seq
/-- The next SEQ of a channel. -/
def State.takeSeq (s : State) (k : Nat) : Nat × State :=
  let c := s.chan k
  (c.next, s.setChan k { c with next := (c.next + 1) % 2 ^ 32 })

/-! ## Entering and leaving the warp plane -/

def State.tx (s : State) (k : Nat) : WarpTx := Tab.get WarpTx.reset s.warpTx k
def State.setTx (s : State) (k : Nat) (t : WarpTx) : State := { s with warpTx := Tab.set WarpTx.reset s.warpTx k t }
def State.rx (s : State) (k : Nat) : WarpRx := Tab.get WarpRx.reset s.warpRx k
def State.setRx (s : State) (k : Nat) (t : WarpRx) : State := { s with warpRx := Tab.set WarpRx.reset s.warpRx k t }
/-- Key of a site pair. -/
def siteKey (a b : Nat) : Nat := a * 32 + b

/-- A packet put with its endpoint. -/
def State.toEp (s : State) (site ep : Nat) (p : Pkt) : State :=
  let k := site * 8 + ep
  { s with epIn := Tab.set [] s.epIn k (Tab.get [] s.epIn k ++ [p]) }
/-- A packet's flits leave the virtual-channel buffer of a site and their credits are owed to the sending site, but not
those of a packet from before PSEQ last restarted (R132, R252). -/
def State.creditBack (s : State) (d : Nat) (p : Pkt) : State :=
  let a := p.f 24 5
  if a = d then s
  else
    let r := s.rx (siteKey d a)
    let n := min p.flits (Tab.get 0 r.buf p.vc)
    let o := min n (Tab.get 0 r.old p.vc)
    s.setRx (siteKey d a)
      { r with buf := Tab.set 0 r.buf p.vc (Tab.get 0 r.buf p.vc - n), old := Tab.set 0 r.old p.vc (Tab.get 0 r.old p.vc - o),
               freed := Tab.set 0 r.freed p.vc (Tab.get 0 r.freed p.vc + (n - o)) }
/-- A packet leaves an endpoint's queue; at a pair site its credits went back when it left for its cluster (R252). -/
def State.takeEp (s : State) (site ep : Nat) (p : Pkt) : State :=
  let k := site * 8 + ep
  if (Tab.get [] s.epIn k).contains p then
    let s := { s with epIn := Tab.set [] s.epIn k ((Tab.get [] s.epIn k).erase p) }
    if site < 8 ∧ ep < 2 then s else s.creditBack site p
  else s
/-- A packet delivered to an endpoint (R131, R250): an egress port site holds an own request out of its turn. -/
def State.deliverEp (s : State) (site ep : Nat) (p : Pkt) : State :=
  if 16 ≤ site ∧ ep < 2 ∧ p.cls ≤ 1 ∧ p.snode.toNat = s.ownNode then
    let k := chanKey p.dnode.toNat p.cls
    if s.mustWait k p.seqNo then
      { s.bump LM_RT_STAT LM_RT_STAT_ORDER_HOLDS 1 with orderHeld := s.orderHeld ++ [(site * 8 + ep, p)] }
    else (s.passed k p.seqNo).toEp site ep p
  else s.toEp site ep p

/-- Site, endpoint and cluster at which a packet for this node ends (R248); a COL packet ends at the agent of its CSITE
(R280, log entry 13). -/
def localEnd (p : Pkt) : Nat × Nat × Nat :=
  if p.cls = 2 then let c := p.rTag % 2048; (pairOf c, dieOf c, clusterOf c)
  else if p.cls = 3 then (p.t 0x13 1 % 32, 7, 0)
  else endpointOf (offOf p.addr)

/-- The Heddle's own request that a packet answers (R347). -/
def State.hdReq? (s : State) (p : Pkt) : Option HdReq :=
  if p.cls = 2 then s.hdReqs.find? fun q => q.node = p.snode.toNat && q.seq = p.rSeq else none
/-- Site, endpoint and cluster at which a packet for this node ends; replies to the Heddle end at MS0 EP1 (R125, R347; log
entry 77). -/
def State.endOf (s : State) (p : Pkt) : Nat × Nat × Nat := if (s.hdReq? p).isSome then (8, 1, 0) else localEnd p

/-! ## What waits at the edge arbiters of a pair (R257) -/

/-- Keys of the arbitrated resources: the egress of edge port `e` of pair `p`, warp or standing; express input lane `j` of
cluster `cl` (R257). -/
def egressKey (p e : Nat) (standing : Bool) : Nat := p * 32 + e + 16 * standing.toNat
def laneKeyOf (cl j : Nat) : Nat := 1024 + cl * 4 + j
def State.edgeAt (s : State) (k : Nat) : List (Nat × EdgeLoad) := Tab.get [] s.edge k
/-- A load joins its requester's queue at a resource. -/
def State.edgePut (s : State) (k ix : Nat) (l : EdgeLoad) : State :=
  { s with edge := Tab.set [] s.edge k (s.edgeAt k ++ [(ix, l)]) }

/-- A packet of endpoint `ep` of a site, there of cluster `from_`, for an endpoint and cluster of site `ds`. A pair's die
sends it to edge port (cluster + DSITE) mod 16 (R257), another endpoint to the site's queue; to its own site it is
delivered at once (log entry 9). -/
def State.toSite (s : State) (site ep from_ ds dep cl : Nat) (p : Pkt) : State :=
  let p := ((((p.setF 24 5 site).setF 29 3 ep).setF 32 5 ds).setF 37 3 dep).setF 40 4 cl
  if ds = site then s.deliverEp ds dep p
  else if site < 8 ∧ ep < 2 then s.edgePut (egressKey site ((from_ + ds) % 16) false) (16 * ep + from_) (.packet p)
  else
    let t := s.tx (siteKey site ds)
    s.setTx (siteKey site ds) { t with offer := t.offer ++ [{ start := 0, pk := p }] }

/-- A packet of endpoint `ep` of a site, there of cluster `from_`, enters the warp plane and is routed (R247, R248).
`source`: this package made it. -/
def State.inject (s : State) (site ep from_ : Nat) (source : Bool) (p : Pkt) : State :=
  if p.dnode.toNat = s.ownNode then
    let (ds, dep, cl) := s.endOf p
    s.toSite site ep from_ ds dep cl p
  else
    match s.route p source with
    | .send l ph =>
      let x := s.linkPort l
      let p := { (p.setF 18 1 ph) with hops := if source then 0 else p.hops + 1 }
      s.toSite site ep from_ (siteOfPort x) (x % 2) 0 p
    | .noRoute => s.dropPkt site p false
    | .routeErr => s.dropPkt site p true

end Sys2Proof.Machine
end

