-- ==== Sys2Proof/Machine/Tags.lean ====
section
/-! DEFINITION. The shuttle's side of a request: local storage (R311), descriptors in flight (R319, R321), tags and how
they end (R210, R233 to R239), and the remote read cache (R225 to R227). -/
namespace Sys2Proof.Machine

/-! ## Reads of a scratchpad or a pool from outside the static schedule (R62, R108, R236) -/

/-- Words that hold `n` bytes from an offset: the first, and their number. -/
def wordsOf (base off n : Nat) : Nat × Nat := ((base + off) / 8, (off % 8 + n + 7) / 8)
/-- `n` bytes of a scratchpad with their ECC: `none` where a word is uncorrectable. Every erroneous word is counted with
its own line (R62; log entry 23). -/
def State.spRead (s : State) (c off n : Nat) : Option (List Byte) × State :=
  let (w, k) := wordsOf (spBase c) off n
  match s.ues w k with
  | [] =>
    let t := (s.singles w k).foldl (fun t x => t.spCorr c 1 ((x - spBase c / 8) / 16)) s
    (some (s.bytes (spBase c + off) n), t)
  | bad => (none, s.spUes c bad)
/-- The same for a pool, through its port in this wall beat (R107, R108). -/
def State.poolRead (s : State) (cl off n : Nat) : Option (List Byte) × State :=
  let (w, k) := wordsOf (poolBase cl) off n
  let s := s.portUse cl off n
  match s.ues w k with
  | [] =>
    let t := (s.singles w k).foldl (fun t x => t.poolCorr cl 1 ((x - poolBase cl / 8) / 16)) s
    (some (s.bytes (poolBase cl + off) n), t)
  | bad => (none, s.poolUes cl bad)
/-- Bytes written into a pool through its port in this wall beat (R107). -/
def State.poolWrite (s : State) (cl off : Nat) (bs : List Byte) : State :=
  (s.portUse cl off bs.length).putBytes (poolBase cl + off) bs

/-! ## Local addresses (R311, R313) -/

/-- Space of a shuttle local address and the byte in it: a scratchpad of the pair, or a pool. -/
inductive LocalAddr | sp (core off : Nat) | pool (cl off : Nat)
deriving DecidableEq, Repr

def localOf (c w : Nat) : Option LocalAddr :=
  match w % 4 with
  | 0 => some (.sp (pairOf c * 256 + nbits w 2 8) (w / 2 ^ 10))
  | 1 => if w / 2 ^ 30 = 0 then some (.pool (pairOf c * 32 + nbits w 2 5) (nbits w 7 23)) else none
  | _ => none
/-- The address `n` bytes on. -/
def LocalAddr.plus : LocalAddr → Nat → LocalAddr
  | .sp c o, n => .sp c (o + n)
  | .pool c o, n => .pool c (o + n)
/-- The region lies in its store, is aligned, lies in one declared zone (R311, R313): the first status that fails. -/
def LocalAddr.inStore : LocalAddr → Nat → Bool
  | .sp _ o, n => o + n ≤ 0x300000
  | .pool _ o, n => o + n ≤ 2 ^ 23
def LocalAddr.aligned : LocalAddr → Bool
  | .sp _ o => o % 64 == 0
  | .pool _ o => o % 64 == 0
def State.localZone (s : State) : LocalAddr → Nat → Bool
  | .sp c o, n => (s.accessZone c o n).isSome
  | .pool _ _, _ => true

def State.localRead (s : State) (a : LocalAddr) (n : Nat) : Option (List Byte) × State :=
  match a with
  | .sp c o => s.spRead c o n
  | .pool cl o => s.poolRead cl o n
/-- A read of the address must wait: its zone is closed (R82, R311), or a bank of its pool is taken (R107). -/
def State.localShut (s : State) (a : LocalAddr) (n : Nat) : Bool :=
  match a with
  | .sp x o => match s.accessZone x o n with | some z => !(s.zopen x).getLsbD z | none => false
  | .pool cl o => !s.portCan cl o n false

/-! ## Descriptors (R312, R319) -/

def State.shch_ (s : State) (c ch : Nat) : ShCh := Tab.get ShCh.none s.shch (c * 4 + ch)
def State.setShch (s : State) (c ch : Nat) (k : ShCh) : State := { s with shch := Tab.set ShCh.none s.shch (c * 4 + ch) k }
/-- Fields of a memory descriptor, by byte offset. -/
def Desc.fld (d : Desc) (off n : Nat) : Nat := nbits d.raw.toNat (8 * off) (8 * n)
def Desc.op (d : Desc) : Nat := d.fld 0 1
def Desc.flag (d : Desc) (i : Nat) : Bool := (d.fld 2 1).testBit i
def Desc.fmt (d : Desc) : Nat := d.fld 3 1 % 16
def Desc.lcl (d : Desc) : Nat := d.fld 4 4
def Desc.addr (d : Desc) : Nat := d.fld 8 8
def Desc.len (d : Desc) : Nat := d.fld 0x30 4
/-- 64N of a READ, WRITE or COPY. -/
def Desc.bytes (d : Desc) : Nat := 64 * (d.fld 1 1 % 4 + 1)

/-- Generation of the remote read cache steps (R226): a partition's lines filled before are not hit. -/
def State.rrcStep (s : State) (part : Nat) : State :=
  { s with rrcGen := Tab.set 0 s.rrcGen part (Tab.get 0 s.rrcGen part + 1) }

/-- The FENCEs whose earlier descriptors have all completed complete (R224): the list, and how many of them carry ACQ. -/
def settleFences (ready : Bool) : List Desc → List Desc × Nat
  | [] => ([], 0)
  | d :: r =>
    let go : Bool := ready && d.status.isNone && !d.coll && d.op == 0x10
    let d' : Desc := if go then { d with status := some stOK } else d
    let (r', n) := settleFences (ready && d'.status.isSome) r
    (d' :: r', n + (if go && d.flag 5 then 1 else 0))

/-- Lines of outstanding cached READs of a partition that an invalidation covers will not be filled (R227). -/
def State.noFill (s : State) (part : Nat) (hit : Nat → Bool) : State :=
  { s with tags := s.tags.map fun e =>
      match e.2 with
      | some t =>
        if s.partOfCore (e.1 / 32) = part ∧ t.pk.rfl % 2 = 1 ∧ t.seq < 2 ^ 32 then
          let ls := (List.range (t.pk.size % 4 + 1)).map (t.pk.addr / 64 + ·)
          (e.1, some { t with nofill := t.nofill ++ ls.filter hit })
        else e
      | none => e }

def State.settle (s : State) (c ch : Nat) : State :=
  let k := s.shch_ c ch
  let (l, acq) := settleFences true k.inflight
  let s := s.setShch c ch { k with inflight := l }
  if acq = 0 then s else (s.rrcStep (s.partOfCore c)).noFill (s.partOfCore c) (fun _ => true)

/-- One descriptor of a channel changed. -/
def State.updDesc (s : State) (c ch slot : Nat) (f : Desc → Desc) : State :=
  let k := s.shch_ c ch
  s.setShch c ch { k with inflight := k.inflight.map fun d => if d.slot = slot && d.status.isNone then f d else d }
/-- A descriptor completes (R319). -/
def State.descDone (s : State) (c ch slot status : Nat) (value : BitVec 64) (xgen : Nat) : State :=
  (s.updDesc c ch slot fun d => { d with status := some status, value := value, xgen := xgen }).settle c ch
def State.desc? (s : State) (c ch slot : Nat) : Option Desc :=
  (s.shch_ c ch).inflight.find? fun d => d.slot = slot && d.status.isNone

/-- A bus error (R321): the first one stops the four channels and is recorded. -/
def State.busError (s : State) (c ch status : Nat) : State :=
  let a := SH_BUS c
  let s1 := s.bump a SH_BUS_COUNT 1
  if s.rb a SH_BUS_BUSERR then s1
  else
    let s1 := ((s1.wf a SH_BUS_BUSERR 1).wf a SH_BUS_CH ch).wf a SH_BUS_STATUS status
    let s1 := (List.range 4).foldl (fun s i => s.wf (SH_CH_STAT c i) SH_CH_STAT_STATE 2) s1
    s1.shEvent c ch 0x01 (s.rf (SH_CH_STAT c ch) SH_CH_STAT_HEAD)
      (BitVec.ofNat 16 (s.rf (SH_RING c ch) SH_RING_OWNER)) status

/-- Data a reply leaves at a local address (R82, R107, R320): written, kept for a closed zone or a free bank, or refused. -/
inductive Landed | written | waiting | refused
deriving DecidableEq, Repr
def State.localWrite (s : State) (c ch slot : Nat) (unit : Option Nat) (a : LocalAddr) (data : List Byte) : Landed × State :=
  match a with
  | .pool cl o =>
    if s.portCan cl o data.length true then (.written, s.poolWrite cl o data)
    else
      let k := s.pool cl
      (.waiting, s.setPool cl { k with reps := k.reps ++ [.reply o data c ch slot unit] })
  | .sp x o =>
    match s.accessZone x o data.length with
    | none => (.refused, s)
    | some z =>
      if (s.zopen x).getLsbD z then (.written, (s.putBytes (spBase x + o) data).cdEvc x 0x09 ((data.length + 127) / 128))
      else
        let k := s.core x
        (.waiting, s.setCore x { k with lbuf := k.lbuf ++ [.reply o data c ch slot unit] })

/-- The status of a MOVE: OK, or that of the failing unit with the lowest number (R318). -/
def moveStatus (d : Desc) : Nat :=
  match d.units.find? (fun e => e.2 ≠ 1) with
  | some e => e.2 - 1
  | none => stOK

/-! ## Error values (R237) -/

/-- The bytes of one element of the error value of a format; the unlisted formats have no error value and leave 0. -/
def errElem : Nat → List Byte
  | 0 => [0x80] | 1 => [0x7F] | 2 => [0x7E] | 3 => [0xFF] | 4 => [0xFF]
  | 5 => leBytes 2 0x7E00 | 6 => leBytes 2 0x7FC0 | 7 => leBytes 4 0x7FC00000
  | 8 => leBytes 8 (2 ^ 63) | 9 => leBytes 16 (2 ^ 127) | _ => [0]
def errBytes (fmt n : Nat) : List Byte :=
  let e := errElem fmt
  (List.replicate (n / e.length) e).flatten
/-- The error value of an atomic's TYPE, in the low bytes of VALUE (R215, R237). -/
def errAtomic : Nat → Nat
  | 0 => 0x80000000 | 1 => 2 ^ 63 | 2 => 2 ^ 63 | 3 => 0x7E00 | 4 => 0x7FC0 | 5 => 0x7FC00000 | _ => 0

/-! ## Remote read cache (R225 to R227) -/

def rrcSet (line : Nat) : Nat := line % 4096
def State.rrcGet (s : State) (p line : Nat) : List RLine := Tab.get [] s.rrc (p * 4096 + rrcSet line)
/-- The line as the cache of pair site `p` holds it for a partition. -/
def State.rrcFind (s : State) (p part line : Nat) : Option RLine :=
  (s.rrcGet p line).find? fun r => r.part = part && r.line = line && r.gen = Tab.get 0 s.rrcGen part
/-- A line becomes the most recently used of its set; the least recently used of nine leaves (R225). -/
def State.rrcPut (s : State) (p : Nat) (r : RLine) : State :=
  let l := (s.rrcGet p r.line).filter fun x => !(x.part = r.part && x.line = r.line)
  { s with rrc := Tab.set [] s.rrc (p * 4096 + rrcSet r.line) ((r :: l).take 8) }
/-- Lines of a partition invalidated at every pair site (R226, R227). -/
def State.rrcDrop (s : State) (part : Nat) (hit : Nat → Bool) : State :=
  let kept := s.rrc.map fun e => (e.1, e.2.filter fun r => !(r.part = part && hit r.line))
  { s with rrc := kept.filter fun e => !e.2.isEmpty }.noFill part hit

/-! ## Tags (R210, R211, R233 to R239) -/

def State.tag? (s : State) (k : Nat) : Option Tag := Tab.get none s.tags k
def State.setTag (s : State) (k : Nat) (t : Option Tag) : State := { s with tags := Tab.set none s.tags k t }
/-- The lowest free tag of a core. -/
def State.freeTag (s : State) (c : Nat) : Option Nat := (List.range 32).find? fun i => (s.tag? (c * 32 + i)).isNone
/-- Requests outstanding on a channel of class REQ, quarantined ones included (R211). -/
def State.chanLoad (s : State) (node : Nat) : Nat :=
  (s.tags.filter fun e => match e.2 with | some t => !t.move && t.node == node | none => false).length +
    (s.hdReqs.filter fun q => q.node == node).length
/-- The request has not taken its SEQ: its packet still waits for a turn (R212, R315). -/
def Tag.unsent (t : Tag) : Bool := decide (t.seq ≥ 2 ^ 32)
/-- Order key of a tag's request (R250). -/
def Tag.key (t : Tag) : Nat := match t.site with | some d => localKey d 0 | none => chanKey t.node 0

/-- What a completed request leaves in its descriptor (R319, R320). -/
def State.finish (s : State) (c ch slot : Nat) (status : Nat) (value : Nat) (data : List Byte) : State :=
  match s.desc? c ch slot with
  | none => s
  | some d =>
    if d.op = 1 then
      let bs := if status = 0 then data else errBytes d.fmt d.bytes
      match localOf c d.lcl with
      | none => s.descDone c ch slot stAddrInvalid 0 0
      | some a =>
        match s.localWrite c ch slot none a bs with
        | (.written, s) => s.descDone c ch slot status 0 0
        | (.waiting, s) => s.updDesc c ch slot fun d => { d with units := [(0, status + 1)] }
        | (.refused, s) => (s.descDone c ch slot stNoZone 0 0).busError c ch stNoZone
    else if 4 ≤ d.op ∧ d.op ≤ 8 then
      s.descDone c ch slot status (BitVec.ofNat 64 (if status = 0 then value else errAtomic (d.fld 1 1 % 16))) 0
    else s.descDone c ch slot status 0 0

/-- A tag's request ends with a status (R222, R233, R238, R239): the tag is freed or quarantined. -/
def State.tagDone (s : State) (k status value : Nat) (data : List Byte) (quar : Bool) : State :=
  match s.tag? k with
  | none => s
  | some t =>
    let s := s.setTag k (if quar then some { t with quar := true } else none)
    let s := if t.move || t.unsent then s else s.passed t.key t.seq
    s.finish (k / 32) t.ch t.slot status value data

/-- The outstanding requests that have been sent and satisfy a test end with a status, their tags quarantined. -/
def State.endTags (s : State) (status : Nat) (f : Nat → Tag → Bool) : State :=
  (s.tags.filter fun e => match e.2 with | some t => !t.quar && !t.unsent && f e.1 t | none => false).foldl
    (fun s e => s.tagDone e.1 status 0 [] true) s
/-- PATH_DOWN of local requests when the direction from site `a` to site `b` is lost (R239). -/
def State.pathDown (s : State) (a b : Nat) : State :=
  s.endTags stPathDown fun k t =>
    let p := pairOf (k / 32)
    !t.move && match t.site with | some d => (p == a && d == b) || (d == a && p == b) | none => false
/-- TARGET_DEAD of the requests outstanding to a node that is marked (R238). -/
def State.nodeMarked (s : State) (n : Nat) : State :=
  let s := s.endTags stTargetDead fun _ t => !t.move && t.node == n
  let s := (s.hdReqs.filter fun q => decide (q.node = n) && !q.quar).foldl (fun s q => s.passed (chanKey n 0) q.seq) s
  { s with hdReqs := s.hdReqs.map fun q => if q.node = n then { q with quar := true } else q }

end Sys2Proof.Machine
end

