-- ==== Sys2Proof/Machine/Lanes.lean ====
section
/-! DEFINITION. Rings and lanes (R149, R154, R155), masks and the loss of a site pair (R132), the circuits of the weft
plane and their verification (R135 to R145, R163, R164). -/
namespace Sys2Proof

def RingRef.key (r : RingRef) : Nat := r.site.val * 4096 + r.sel.toNat
def RingRef.plane (r : RingRef) : Nat := r.sel.toNat % 4
def RingRef.rx (r : RingRef) : Bool := r.sel.getLsbD 2
def RingRef.wg (r : RingRef) : Nat := nbits' r.sel.toNat 3 4
  where nbits' (v lo len : Nat) : Nat := v / 2 ^ lo % 2 ^ len
def RingRef.wl (r : RingRef) : Nat := r.sel.toNat / 128 % 32
/-- LM_RING_SEL names a ring of the site (R149, R173). -/
def RingRef.isRing (r : RingRef) : Bool :=
  match r.plane with
  | 0 => true
  | 1 => decide (r.wg < if r.site.val < 8 then 16 else if r.site.val < 16 then 8 else 4)
  | 2 => decide (16 ≤ r.site.val) && decide (r.wg < 8) && decide (r.wl < 8)
  | _ => false

end Sys2Proof

namespace Sys2Proof.Machine

/-- The LM_RING_SEL code of a ring. -/
def selOf (plane rx wg wl : Nat) : Nat := plane + 4 * rx + 8 * wg + 128 * wl
def ringKey (site sel : Nat) : Nat := site * 4096 + sel
/-- The key of the lane a ring serves: a warp lane stands under its transmit ring (R126, R128). -/
def laneKey (k : Nat) : Nat :=
  let sel := k % 4096
  if sel % 4 = 0 ∧ sel / 4 % 2 = 1 then
    let wl := sel / 128
    ringKey ((k / 4096 + 32 - wl) % 32) (sel - 4)
  else k
/-- Rings of a lane: both ends of a warp lane, the ring itself elsewhere. -/
def ringsOf (lane : Nat) : List Nat :=
  let sel := lane % 4096
  if sel % 4 = 0 then [lane, ringKey ((lane / 4096 + sel / 128) % 32) (sel + 4)] else [lane]
/-- Key of the warp lane from site `a` to site `d` on waveguide `k` (R126). -/
def warpLane (a d k : Nat) : Nat := ringKey a (selOf 0 0 k ((d + 32 - a) % 32))

def State.ring (s : State) (k : Nat) : Ring := Tab.get Ring.reset s.rings k
/-- A ring changes; FAILED_RINGS of its site follows (R173). -/
def State.setRing (s : State) (k : Nat) (r : Ring) : State :=
  let old := (s.ring k).lock == 3
  let s := { s with rings := Tab.set Ring.reset s.rings k r }
  let a := LM_OPT_STAT (k / 4096)
  let n := s.rf a LM_OPT_STAT_FAILED_RINGS
  if old = (r.lock == 3) then s
  else if old then s.wf a LM_OPT_STAT_FAILED_RINGS (n - 1) else s.wf a LM_OPT_STAT_FAILED_RINGS (n + 1)
def State.lane (s : State) (k : Nat) : Lane := Tab.get Lane.reset s.lanes k
/-- A lane changes; OUT_LANES of its site follows (R173). -/
def State.setLane (s : State) (k : Nat) (l : Lane) : State :=
  let old := decide ((s.lane k).out = 0)
  let s := { s with lanes := Tab.set Lane.reset s.lanes k l }
  let a := LM_OPT_STAT (k / 4096)
  let n := s.rf a LM_OPT_STAT_OUT_LANES
  if old = decide (l.out = 0) then s
  else if old then s.wf a LM_OPT_STAT_OUT_LANES (n + 1) else s.wf a LM_OPT_STAT_OUT_LANES (n - 1)

/-- Reasons a lane is out of service (bits of `Lane.out`). -/
def whyUnlocked : BitVec 8 := 1
def whyDark : BitVec 8 := 2
def whyFlood : BitVec 8 := 4
def whyRecal : BitVec 8 := 8
def whyCheck : BitVec 8 := 16
def whyBer : BitVec 8 := 32
def whyMask : BitVec 8 := 64
def whyDac : BitVec 8 := 128

/-- A lane can carry traffic: its rings are locked, and it is no WL00 lane of the warp plane, which
carries only census and lane tests (R126, R149). -/
def State.laneFit (s : State) (k : Nat) : Bool :=
  (ringsOf k).all (fun r => (s.ring r).lock == 1) && (k % 4 != 0 || k % 4096 / 128 != 0)
/-- The reasons that hold a lane out change. A warp lane enters or leaves traffic at once, between two packets; a weft lane
with the step of its circuit's lane mask, and a port lane with its direction's lane map (R155, R188). -/
def State.laneSet (s : State) (k : Nat) (out : BitVec 8) : State :=
  let l := s.lane k
  if k % 4 = 0 then s.setLane k { l with insv := decide (out = 0) && s.laneFit k, out := out }
  else if k % 4 = 1 then s.setLane k { l with out := out, late := l.active != decide (out = 0) }
  else s.setLane k { l with out := out }
/-- A weft lane's place in the mask follows the reasons: at the named frame, or when a slot comes into force (R155, R163). -/
def State.laneStep (s : State) (k : Nat) : State :=
  let l := s.lane k
  s.setLane k { l with insv := decide (l.out = 0) && s.laneFit k, late := false, stepAt := none }
/-- A lane leaves service for a reason. -/
def State.laneOut (s : State) (k : Nat) (why : BitVec 8) : State := s.laneSet k ((s.lane k).out ||| why)
/-- Reasons end, that of an unlocked ring only once every ring of the lane is locked; the lane returns when none is left
(R154, R170). -/
def State.laneBack (s : State) (k : Nat) (why : BitVec 8) : State :=
  let why := if (ringsOf k).all fun r => (s.ring r).lock == 1 then why else why &&& ~~~ whyUnlocked
  s.laneSet k ((s.lane k).out &&& ~~~ why)

/-- Images of Loom registers that a LOOM record carries (R378, log entry 11): LM_OPT_STAT, LM_WARP_STAT, LM_WARP_DOWN. -/
def State.loomDetail (s : State) (site : Nat) : Nat :=
  packNat 64 [(s.rget (LM_OPT_STAT site)).toNat, (s.rget (LM_WARP_STAT site)).toNat, (s.rget (LM_WARP_DOWN site)).toNat]

def State.lightHold (s : State) : Bool := s.rb LM_BOBBIN LM_BOBBIN_LIGHT_HOLD

/-! ## Masks and DOWN site pairs (R132) -/

/-- Waveguides masked from a site toward another. -/
def State.maskOf (s : State) (a d : Nat) : Nat := nbits (s.rget (LM_WARP_MASK a (d / 4))).toNat (16 * (d % 4)) 16
def State.isDown (s : State) (a d : Nat) : Bool := (s.rget (LM_WARP_DOWN a)).toNat.testBit d
def State.setDown (s : State) (a d : Nat) (b : Bool) : State :=
  s.rset (LM_WARP_DOWN a) (BitVec.ofNat 64 (setBits (s.rget (LM_WARP_DOWN a)).toNat d 1 b.toNat))
/-- The direction from a site to another is lost: its queue and copies are discarded, the loss is reported, and local
requests that used it end (R132, R239). -/
def State.warpDown (s : State) (a d : Nat) : State :=
  if s.isDown a d then s
  else
    let t := s.tx (siteKey a d)
    let s := s.setTx (siteKey a d) { t with offer := [], queue := [], sent := [] }
    let s := s.setDown a d true
    let s := s.event 0x06 0x02 (unitOf 4 a) 0 0 (selOf 0 0 0 ((d + 32 - a) % 32)) d (s.loomDetail a)
    s.pathDown a d
/-- A lane is masked (R132, R158, R162); with all sixteen masked the direction is lost. -/
def State.maskLane (s : State) (a d k : Nat) : State :=
  let m := s.maskOf a d
  if m.testBit k then s
  else
    let m := m ||| 2 ^ k
    let s := s.rset (LM_WARP_MASK a (d / 4))
      (BitVec.ofNat 64 (setBits (s.rget (LM_WARP_MASK a (d / 4))).toNat (16 * (d % 4)) 16 m))
    let s := (s.bump (LM_WARP_STAT a) LM_WARP_STAT_MASKED 1).laneOut (warpLane a d k) whyMask
    if m = 0xFFFF then s.warpDown a d else s
/-- The receiving side after PSEQ restarts: the packets still in its buffers earn no credits of the new count. -/
def WarpRx.restart (r : WarpRx) : WarpRx := { WarpRx.reset with buf := r.buf, old := r.buf }
/-- Both directions of a DOWN pair have a lane again: PSEQ and the credits restart (R132, R254). -/
def State.pairRestart (s : State) (a d : Nat) : State :=
  if (s.isDown a d || s.isDown d a) && s.maskOf a d != 0xFFFF && s.maskOf d a != 0xFFFF then
    let fresh (t : WarpTx) : WarpTx := { WarpTx.reset with offer := t.offer, last := t.last }
    let s := (s.setTx (siteKey a d) (fresh (s.tx (siteKey a d)))).setTx (siteKey d a) (fresh (s.tx (siteKey d a)))
    let s := (s.setRx (siteKey a d) (s.rx (siteKey a d)).restart).setRx (siteKey d a) (s.rx (siteKey d a)).restart
    (s.setDown a d false).setDown d a false
  else s
/-- A masked lane's bit clears. -/
def State.unmaskLane (s : State) (a d k : Nat) : State :=
  let m := s.maskOf a d
  if m.testBit k then
    let s := s.rset (LM_WARP_MASK a (d / 4))
      (BitVec.ofNat 64 (setBits (s.rget (LM_WARP_MASK a (d / 4))).toNat (16 * (d % 4)) 16 (m - 2 ^ k)))
    (s.wf (LM_WARP_STAT a) LM_WARP_STAT_MASKED (s.rf (LM_WARP_STAT a) LM_WARP_STAT_MASKED - 1)).laneBack (warpLane a d k) whyMask
  else s

/-! ## Weft circuits (R135, R137, R138, R140, R163) -/

/-- Groups of a partition. -/
def Part.groupIx (p : Part) : List Nat := (List.range p.pairs).map (p.first + ·)
/-- OUT byte of an output in a slot (R138). -/
def State.outByte (s : State) (slot out : Nat) : Nat :=
  nbits (Tab.get 0 s.slotRecs (out / 16 * 16 + slot)).toNat (8 * (out % 16)) 8
/-- Source of an output in a slot. -/
def State.outSrc (s : State) (slot out : Nat) : Option Nat :=
  let b := s.outByte slot out
  if slot = 0 ∨ b < 128 then none else some (b % 128)
/-- Outputs of a partition. -/
def Part.outs (p : Part) : List Nat := (List.range (16 * p.pairs)).map (16 * p.first + ·)
/-- Outputs that name an input in a slot. -/
def State.namedBy (s : State) (p : Part) (slot src : Nat) : List Nat := p.outs.filter fun o => s.outSrc slot o == some src
/-- Site and waveguide of a PHASE port (R135, log entry 10): phase waveguide j of a pair site is weft waveguide 8 + j. -/
def phaseAt (o : Nat) : Nat × Nat :=
  let p := o / 16; let j := o % 16
  if j < 8 then (p, 8 + j) else if j < 12 then (16 + 2 * p, j - 8) else (17 + 2 * p, j - 12)
/-- PHASE output that a receive waveguide is, if it is one. -/
def phaseOut (site wg : Nat) : Option Nat :=
  if site < 8 then (if 8 ≤ wg then some (16 * site + wg - 8) else none)
  else if site < 16 then none
  else if wg < 4 then some (16 * ((site - 16) / 2) + 8 + 4 * ((site - 16) % 2) + wg) else none
/-- Output of a standing network's input (R137). -/
def State.standOut (s : State) (up : Bool) (i : Nat) : Nat :=
  let dflt := 8 * (i % 8) + i / 8
  match s.standMap with
  | none => dflt
  | some (u, d) => (if up then u else d).getD i dflt

/-- Wavelengths that the lane mask leaves out for one end of a weft waveguide. -/
def State.endOut (s : State) (site wg rx : Nat) : List Nat :=
  (List.range 32).filter fun wl => !(s.lane (ringKey site (selOf 1 rx wg wl))).active
/-- Active lanes of a circuit from an input to the outputs that name it (R163). -/
def State.activeLanes (s : State) (src : Nat) (outs : List Nat) : List Nat :=
  let (ss, sw) := phaseAt src
  let bad := s.endOut ss sw 0 ++ outs.flatMap fun o => let (x, w) := phaseAt o; s.endOut x w 1
  (List.range 32).filter fun wl => !bad.contains wl
/-- A lane passes verification (R164). -/
def measOk (multi : Bool) (src : Nat) (m : OutMeas) : Bool :=
  let lo : Int := if multi then -3000 else -2650
  let hi : Int := if multi then -1300 else -1000
  decide (lo ≤ m.cdbm) && decide (m.cdbm ≤ hi) && m.src.toNat == src && decide (8 ≤ m.pilots)
/-- Named outputs of a slot that fail verification, in ascending order (R143, R164). -/
def State.badOuts (s : State) (p : Part) (slot : Nat) (ms : List OutMeas) : List Nat :=
  p.outs.filter fun o =>
    match s.outSrc slot o with
    | none => false
    | some src =>
      let outs := s.namedBy p slot src
      !(s.activeLanes src outs).all fun wl =>
        ms.any fun m => m.out.toNat == o && m.wl.toNat == wl && measOk (decide (outs.length ≥ 2)) src m

/-! ## Phase switches (R141 to R145) -/

def State.sw (s : State) (n : Nat) : Switch := Tab.get Switch.none s.switches n
def State.setSw (s : State) (n : Nat) (w : Switch) : State := { s with switches := Tab.set Switch.none s.switches n w }
/-- A field of LM_WEFT_GSTAT set in every group of a partition. -/
def State.gset (s : State) (p : Part) (f : Fld) (v : Nat) : State :=
  p.groupIx.foldl (fun s g => s.wf (LM_WEFT_GSTAT g) f v) s
def State.gbump (s : State) (p : Part) (f : Fld) : State :=
  p.groupIx.foldl (fun s g => s.bump (LM_WEFT_GSTAT g) f 1) s
def State.gget (s : State) (p : Part) (f : Fld) : Nat := s.rf (LM_WEFT_GSTAT p.first) f
/-- m of a partition of 2^m pairs. -/
def Part.log2 (p : Part) : Nat := if p.pairs ≥ 8 then 3 else if p.pairs ≥ 4 then 2 else if p.pairs ≥ 2 then 1 else 0
/-- Elements of `owned` take the states `els`, the others keep theirs. -/
def driveEls (cur owned els : Nat) : Nat := ((cur ||| owned) ^^^ owned) ||| els
/-- The states of a slot are driven into the elements that the partition owns, and into no other (R136, R142). -/
def State.drive (s : State) (p : Part) (slot : Nat) : State :=
  let e := if slot = 0 then (0, 0) else Tab.get (0, 0) s.slotEls (16 * p.first + slot)
  { s with phaseEls := driveEls s.phaseEls (ownedPhase p.log2 (16 * p.first)) e.1,
           fanEls := driveEls s.fanEls (ownedFan p.log2 p.first) e.2 }
/-- A standing map is driven into the elements of STU and STD; the change settles and is verified (R137, R148). -/
def State.driveStand (s : State) (m : Option (List Nat × List Nat)) : State :=
  let (u, d) := m.getD (defaultStand, defaultStand)
  let s : State := { s with standMap := m, stuEls := standEls u, stdEls := standEls d, standSince := some s.tick }
  (s.wb LM_WEFT_STANDING LM_WEFT_STANDING_DEFAULT m.isNone).wf LM_WEFT_STANDING LM_WEFT_STANDING_CHANGING 1
/-- The default standing map (R137). -/
def State.standDefault (s : State) : State := s.driveStand none
/-- An outcome for the requester: 0 refused, 1 completed, 2 failed. -/
def State.outcome (s : State) (n slot : Nat) (heddle : Bool) (r : Nat) : State :=
  { s with switchOut := s.switchOut ++ [(n, slot, heddle, r)] }

/-- A switch starts: tick 0 (R142); a recalibration of a phase lane of the partition stops, and the masks of the slot's
circuits are computed (R163, R172). -/
def State.swStart (s : State) (n : Nat) (p : Part) (slot : Nat) (asker : Option Bool) : State :=
  let s := s.setSw n
    { on := true, want := slot, target := slot, old := s.gget p LM_WEFT_GSTAT_CUR, roll := false, asker := asker, queue := none,
      from_ := s.tick, qFrom := 0 }
  let s := s.drive p slot
  let s := ((s.gset p LM_WEFT_GSTAT_STATE 1).gset p LM_WEFT_GSTAT_PVALID 0).gset p LM_WEFT_GSTAT_PEND 0
  let mine (k : Nat) : Bool :=
    k % 4096 % 4 == 1 && match phaseOut (k / 4096) (k % 4096 / 8 % 16) with | some o => p.outs.contains o | none => false
  (s.lanes.filter fun e => mine e.1).foldl (fun s e => (s.laneBack e.1 whyRecal).laneStep e.1) s
/-- The Loom verifies the slot in force again (R143, R162). -/
def State.swReverify (s : State) (n : Nat) (p : Part) : State :=
  let w := s.sw n
  if w.on then s
  else
    let s := s.setSw n { w with on := true, target := s.gget p LM_WEFT_GSTAT_CUR, roll := false, asker := none }
    s.gset p LM_WEFT_GSTAT_STATE 2
/-- A request waits for the end of the switch under way, one deep (R141). -/
def State.swQueue (s : State) (n : Nat) (p : Part) (slot : Nat) (heddle : Bool) : State :=
  ((s.setSw n { s.sw n with queue := some (slot, heddle), qFrom := s.tick }).gset p LM_WEFT_GSTAT_PEND slot).gset p LM_WEFT_GSTAT_PVALID 1
/-- A refused request is counted and reported (R141). -/
def State.swRefuse (s : State) (n : Nat) (p : Part) (slot : Nat) (heddle : Bool) : State :=
  (s.gbump p LM_WEFT_GSTAT_REFUSED).outcome n slot heddle 0
/-- A request is handled (R141). One of the Heddle that comes in the tick of an engine's is taken before it. -/
def State.swRequest (s : State) (n : Nat) (p : Part) (slot : Nat) (heddle : Bool) : State :=
  let valid := p.groupIx.all fun g => (s.rf (LM_WEFT_SLOTVALID g) LM_WEFT_SLOTVALID_VALID).testBit slot
  let w := s.sw n
  if !valid then s.swRefuse n p slot heddle
  else if w.on then
    match w.queue with
    | some (x, byH) => if heddle && !byH && w.qFrom == s.tick then (s.swQueue n p slot true).swRefuse n p x false else s.swRefuse n p slot heddle
    | none =>
      if heddle && w.asker == some false && w.from_ == s.tick && !w.roll then
        (if slot = w.old then s.outcome n slot true 1 else (s.swStart n p slot (some true)).swQueue n p w.want false)
      else s.swQueue n p slot heddle
  else if slot = s.gget p LM_WEFT_GSTAT_CUR ∧ s.gget p LM_WEFT_GSTAT_STATE = 0 then s.outcome n slot heddle 1
  else s.swStart n p slot (some heddle)
/-- A switch ends with a slot in force, a STATE and an outcome; a queued request starts (R141, R143). -/
def State.swEnd (s : State) (n : Nat) (p : Part) (cur st r : Nat) (named : Nat) : State :=
  let w := s.sw n
  let s := ((s.drive p cur).gset p LM_WEFT_GSTAT_CUR cur).gset p LM_WEFT_GSTAT_STATE st
  let s := s.setSw n { w with on := false, queue := none }
  let s := match w.asker with | some h => s.outcome n named h r | none => s
  match w.queue with
  | some (slot, h) => (((s.gset p LM_WEFT_GSTAT_PVALID 0).gset p LM_WEFT_GSTAT_PEND 0).swRequest n p slot h)
  | none => s
/-- Slot 0 without verification, in the groups of a reset or changed partition (R145); pending requests are discarded. -/
def State.swZero (s : State) (n : Nat) (p : Part) : State :=
  let s := (s.setSw n Switch.none).drive p 0
  (((s.gset p LM_WEFT_GSTAT_CUR 0).gset p LM_WEFT_GSTAT_STATE 0).gset p LM_WEFT_GSTAT_PVALID 0).gset p LM_WEFT_GSTAT_PEND 0

end Sys2Proof.Machine
end

