-- ==== Sys2Proof/Machine/PortBase.lean ====
section
/-! DEFINITION. The external ports (R175 to R205): lane maps and their changes, loss of a port, logical links and their
switch-over, credits, and the layout of a port's packets, control blocks and training messages. -/
namespace Sys2Proof.Machine

/-! ## Fibre receptacles (R444, R445) -/

/-- Data ferrule and position of fibre `f` of a port, transmit or receive (R444). -/
def dataFibre (p f : Nat) (tx : Bool) : Nat × Nat :=
  (p / 2, if tx then (if p % 2 = 0 then 1 + f else 5 + f) else if p % 2 = 0 then 16 - f else 12 - f)
/-- Laser ferrule and position of a laser input (R445). -/
def laserFibre (n : Nat) : Nat × Nat := (n / 12, n % 12 + 1)
/-- A type-B trunk joins position k to position 17 − k (R444). -/
def trunkB (k : Nat) : Nat := 17 - k

/-! ## State of a port -/

def State.port (s : State) (p : Nat) : Port := Tab.get Port.reset s.ports p
def State.setPort (s : State) (p : Nat) (t : Port) : State := { s with ports := Tab.set Port.reset s.ports p t }
/-- STATE of a port (R189). -/
def State.portState (s : State) (p : Nat) : Nat := s.rf (XP_PORT_STAT p) XP_PORT_STAT_STATE
def State.setPortState (s : State) (p v : Nat) : State := s.wf (XP_PORT_STAT p) XP_PORT_STAT_STATE v
/-- Key of a port's queue at its site. -/
def portQueue (p : Nat) : Nat := siteOfPort p * 8 + p % 2
/-- The enabled logical link that binds a port, and whether the port is its ALTERNATE (R195, R205). -/
def State.boundTo (s : State) (p : Nat) : Option (Nat × Bool) :=
  ((List.range 16).filter fun n => s.rb (XP_SEL_CTL n) XP_SEL_CTL_ENABLE).findSome? fun n =>
    if s.rf (XP_SEL_CTL n) XP_SEL_CTL_PRIMARY = p then some (n, false)
    else if s.rf (XP_SEL_CTL n) XP_SEL_CTL_ALTERNATE = p then some (n, true) else none
/-- SHA-384 of the owner root key, nothing where none is installed (R410). -/
def ownerHashOf (owner : List Byte) : List Byte := if owner = [] then [] else sha384 owner
def State.ownerHash (s : State) : List Byte := ownerHashOf s.lc.owner
/-- An event counted at a port (R433). -/
def State.portEvc (s : State) (p code n : Nat) : State := s.lmEvc (siteOfPort p) (1 + p % 2) code n

/-- A record about a port, and about a logical link (R378). -/
def State.portRecord (s : State) (p code : Nat) : State :=
  s.event 0x07 code (unitOf 5 p) 0 0 (s.rf (XP_PORT_STAT p) XP_PORT_STAT_LAST_FAIL)
    (s.rf (XP_PORT_STAT p) XP_PORT_STAT_PNODE) (s.rget (XP_PORT_STAT p)).toNat
def State.linkRecord (s : State) (n p code sub detail : Nat) : State :=
  s.event 0x07 code (unitOf 6 n) 0 0 sub (s.rf (XP_PORT_STAT p) XP_PORT_STAT_PNODE) detail

/-! ## Credits (R252, R253) -/

/-- Credits a receiver grants for a virtual channel when the hop starts: the 32 reserved and its share of the shared
region (log entry 12). -/
def portGrant : Nat := 256
def Cred.start : Cred := { spent := [], got := [], granted := (List.range 8).map fun v => (v, portGrant) }
/-- The credits a port works with: its own, or its logical link's (R195). -/
def State.portCred (s : State) (p : Nat) : Cred :=
  match (s.port p).sel with | some n => (s.link n).cred | none => (s.port p).cred
def State.setPortCred (s : State) (p : Nat) (c : Cred) : State :=
  match (s.port p).sel with
  | some n => s.setLink n { s.link n with cred := c }
  | none => s.setPort p { s.port p with cred := c }
def Cred.avail (c : Cred) (v : Nat) : Nat := (Tab.get 0 c.got v + 2 ^ 16 - Tab.get 0 c.spent v) % 2 ^ 16
def Cred.spend (c : Cred) (v n : Nat) : Cred := { c with spent := Tab.set 0 c.spent v ((Tab.get 0 c.spent v + n) % 2 ^ 16) }
def Cred.grant (c : Cred) (v n : Nat) : Cred := { c with granted := Tab.set 0 c.granted v ((Tab.get 0 c.granted v + n) % 2 ^ 16) }
def Cred.take (c : Cred) (v n : Nat) : Cred := { c with got := Tab.set 0 c.got v n }

/-! ## Lane maps (R171, R175, R188) -/

/-- Key of a port lane: its ring, receive or transmit. -/
def portLane (p rx i : Nat) : Nat := ringKey (siteOfPort p) (selOf 2 rx (4 * (p % 2) + i / 8) (i % 8))
/-- Port, direction and lane of a port ring. -/
def portOfLane (k : Nat) : Nat × Bool × Nat :=
  let sel := k % 4096
  let wg := sel / 8 % 16
  (2 * (k / 4096 - 16) + wg / 4 % 2, sel / 4 % 2 == 1, wg % 4 * 8 + sel / 128 % 8)
/-- Lanes of a direction that are in service (bit 8f + m). -/
def State.usable (s : State) (p : Nat) (rx : Bool) : Nat :=
  ((List.range 32).filter fun i => decide ((s.lane (portLane p rx.toNat i)).out = 0)).foldl (fun m i => m + 2 ^ i) 0
/-- Lanes of fibre `f` in a map, lowest first. -/
def fibreLanes (m f : Nat) : List Nat := (List.range 8).filter fun i => m.testBit (8 * f + i)
/-- Active lanes per fibre from the usable ones (R171, R175); 0 where the port leaves service. -/
def laneD (redundant : Bool) (m : Nat) : Nat :=
  let d := (List.range 4).foldl (fun d f => min d (fibreLanes m f).length) 8
  let d := if redundant then min 7 d else d
  if d < 6 then 0 else d
/-- The active lanes: the D usable lanes of lowest position of each fibre. -/
def activeMap (redundant : Bool) (m : Nat) : Nat :=
  let d := laneD redundant m
  (List.range 4).foldl (fun a f => ((fibreLanes m f).take d).foldl (fun a i => a + 2 ^ (8 * f + i)) a) 0
/-- MODE as written; each port works with the MODE of its last training (R171). -/
def State.calMode (s : State) : Bool := s.rb LM_CAL_CTL LM_CAL_CTL_MODE
/-- The map a direction should use: own lanes, and for the transmit direction those the partner receives (R188, R191). -/
def State.wantMap (s : State) (p : Nat) (rx : Bool) : Nat :=
  activeMap (s.port p).mode (if rx then s.usable p true else s.usable p false &&& (s.port p).partnerRx)
/-- A lane map in force: TXLANES or RXLANES, and which lanes carry traffic (R173, R204). -/
def State.setMap (s : State) (p : Nat) (rx : Bool) (m : Nat) : State :=
  let t := s.port p
  let s := if rx then s.setPort p { t with rxMap := m } else s.setPort p { t with txMap := m }
  let n := ((List.range 32).filter m.testBit).length
  let s := s.wf (XP_PORT_STAT p) (if rx then XP_PORT_STAT_RXLANES else XP_PORT_STAT_TXLANES) n
  (List.range 32).foldl (fun s i =>
    let k := portLane p rx.toNat i
    s.setLane k { s.lane k with insv := m.testBit i }) s

/-! ## Logical links (R195 to R202) -/

/-- a is newer than b (R196). -/
def newer16 (a b : Nat) : Bool := let d := (a + 2 ^ 16 - b) % 2 ^ 16; decide (1 ≤ d) && decide (d ≤ 32767)
/-- The path of its link a port is, as its last training fixed it (R205). -/
def State.isAlt (s : State) (_n p : Nat) : Bool := (s.port p).alt
/-- The detection mode of a path, that of its port's last training (R198, R205). -/
def State.pathHb (s : State) (n : Nat) (path : Bool) : Bool := (s.port (s.pathPort n path)).hb
def State.activePath (s : State) (n : Nat) : Bool := s.rb (XP_SEL_STAT n) XP_SEL_STAT_ACTIVE_PATH
/-- A path's port is ACTIVE and bound to the link. -/
def State.pathUp (s : State) (n : Nat) (path : Bool) : Bool :=
  let p := s.pathPort n path
  s.portState p == 5 && (s.port p).sel == some n
/-- STATE of a logical link follows its paths; after both were lost it is Down until a path reaches ACTIVE again (R195,
R201). -/
def State.showLink (s : State) (n : Nat) : State :=
  let bound := (List.range 32).any fun p => (s.port p).sel == some n
  let v := if s.rb (XP_SEL_STAT n) XP_SEL_STAT_HELD then 3
    else if !(s.link n).up then (if bound then 4 else 0)
    else if s.pathUp n false && s.pathUp n true then 1
    else if s.pathUp n false || s.pathUp n true then 2
    else if bound then 4 else 0
  s.wf (XP_SEL_STAT n) XP_SEL_STAT_STATE v
/-- A self-test under way ends as interrupted (R202, R203). -/
def State.testStop (s : State) (n : Nat) : State :=
  if (s.link n).testing then
    let s := s.setLink n { s.link n with testing := false, test := SelfTest.none }
    let s := (s.wf (XP_SEL_HEALTH n) XP_SEL_HEALTH_RESULT 3).raise (XP_SEL_HEALTH n) XP_SEL_HEALTH_WAS_INT 1
    s.bump (XP_SEL_HEALTH n) XP_SEL_HEALTH_INTERRUPTS 1
  else s
/-- The packets queued at a port's site for it are discarded, and their credits go back (R192, R252). -/
def State.dropQueue (s : State) (p : Nat) : State :=
  let q := Tab.get [] s.epIn (portQueue p)
  let s := { s with epIn := Tab.set [] s.epIn (portQueue p) [] }
  q.foldl (fun s k => s.creditBack (siteOfPort p) k) s
/-- The flits of a stream that finish the packet a data block left unfinished. -/
def unfinished : List (Flit × Option Nat) → List (Flit × Option Nat)
  | [] => []
  | (f, some e) :: _ => [(f, some e)]
  | x :: r => x :: unfinished r
/-- A port sends no more of its stream than the rest of a packet it has begun. -/
def State.dropStream (s : State) (p : Nat) : State :=
  let t := s.port p
  s.setPort p { t with stream := if t.inPacket then unfinished t.stream else [] }
/-- Both paths are lost: stored and queued packets are discarded and counted, claims and sequences restart (R201). -/
def State.linkDown (s : State) (n : Nat) : State :=
  let l := s.link n
  let p := s.pathPort n (s.activePath n)
  let q := fun x => (Tab.get [] s.epIn (portQueue x)).length
  let s := s.testStop n
  let s := s.bump (XP_LINK_CNT2 p) XP_LINK_CNT2_DISCARDS (l.store.length + l.wait.length + q l.prim + q l.alt)
  let s := (s.dropQueue l.prim).dropQueue l.alt
  let s := [l.prim, l.alt].foldl (fun s x => if (s.port x).sel = some n then s.dropStream x else s) s
  let s := s.setLink n { Link.reset with prim := l.prim, alt := l.alt }
  let s := ((s.wf (XP_SEL_STAT n) XP_SEL_STAT_TXCLAIM 0).wf (XP_SEL_STAT n) XP_SEL_STAT_RXCLAIM 0).wf (XP_SEL_STAT n) XP_SEL_STAT_HELD 0
  ((s.showLink n).showLive).linkRecord n p 0x02 (s.rf (XP_PORT_STAT p) XP_PORT_STAT_LAST_FAIL) (s.rget (XP_PORT_STAT p)).toNat

/-- Flits of a port packet: the header in the port's form (R183), and its data. -/
def portFlits (k : Pkt) (lseq : Nat) (test : Bool) : List Flit :=
  let h := k.snode.toNat + k.dnode.toNat * 2 ^ 14 + k.cls * 2 ^ 28 + k.phase * 2 ^ 30 + k.data.length % 8 * 2 ^ 32 +
    k.hops.toNat * 2 ^ 35 + test.toNat * 2 ^ 38 + lseq * 2 ^ 48 + k.f 128 384 * 2 ^ 128
  let crc := (crc32c (flitBytes (BitVec.ofNat 512 h :: k.data))).toNat
  BitVec.ofNat 512 (h + crc * 2 ^ 96) :: k.data
/-- Flits queued for the data blocks, the last of a packet with its LSEQ. -/
def markEnd (lseq : Nat) : List Flit → List (Flit × Option Nat)
  | [] => []
  | [f] => [(f, some lseq)]
  | f :: r => (f, none) :: markEnd lseq r

/-- The switch-over of one end (R200): traffic pauses, the standby path takes a new claim, and every packet from
LACK + 1 is queued again on it; the old path sends only the rest of a packet it has begun, which the partner drops as
stale. Without an ACTIVE standby path the link goes down (R201). -/
def State.switchOver (s : State) (n : Nat) : State :=
  let old := s.activePath n
  if !s.pathUp n (!old) then s.linkDown n
  else
    let s := s.testStop n
    let l := s.link n
    let po := s.pathPort n old
    let pn := s.pathPort n (!old)
    let again := l.store.flatMap fun e => markEnd e.1 (portFlits e.2 e.1 false)
    let c := s.rf (XP_SEL_STAT n) XP_SEL_STAT_TXCLAIM
    let c := ((if newer16 l.claimSeen c then l.claimSeen else c) + 1) % 2 ^ 16
    let s := ((s.wf (XP_SEL_STAT n) XP_SEL_STAT_TXCLAIM c).wb (XP_SEL_STAT n) XP_SEL_STAT_ACTIVE_PATH (!old)).wf (XP_SEL_STAT n) XP_SEL_STAT_HELD 1
    let s := s.setLink n { l with swReq := true }
    let s := (s.dropStream po).dropStream pn
    let s := s.setPort po { s.port po with store := (s.port po).store.filter fun b => !b.acked }
    let s := s.setPort pn { s.port pn with stream := (s.port pn).stream ++ again }
    (s.showLink n).showLive

/-! ## Loss of a port (R192, R193) -/

/-- Failure and loss reasons (R192). -/
def rsNoPartner : Nat := 0x01
def rsAlign : Nat := 0x02
def rsLanes : Nat := 0x03
def rsMode : Nat := 0x04
def rsSelvedge : Nat := 0x05
def rsTimeout : Nat := 0x06
def rsKeyx : Nat := 0x07
def rsRetry : Nat := 0x10
def rsLanesLost : Nat := 0x11
def rsAuth : Nat := 0x12
def rsLight : Nat := 0x13
def rsPartner : Nat := 0x14
def rsCommand : Nat := 0x15

/-- A port that is not OFF goes down with a reason (R192): it enters SEARCH and sends DOWN_NOTICE; without a logical
link its store and queue are discarded and counted; in SD mode the loss of the active path switches the link over. -/
def State.portDown (s : State) (p reason : Nat) : State :=
  let was := s.portState p
  if was = 0 then s
  else
    let t := s.port p
    let s := ((s.setPortState p 1).wf (XP_PORT_STAT p) XP_PORT_STAT_WAITING 0).wf (XP_PORT_STAT p) XP_PORT_STAT_LAST_FAIL reason
    let d : Port :=
      { t with store := [], stream := [], cur := none, held := [], nak := none, rxFlits := [], heard := false, run := 0,
               txNext := none, rxNext := none, rekey := false, atTx := none, atRx := none, frags := [], hbDue := false,
               inPacket := false, prks := [], oldFrags := [], notice := was == 5 }
    let s := s.setPort p d
    let s := (s.setMap p false 0).setMap p true 0
    match t.sel with
    | none =>
      let n := (t.store.flatMap (·.ends)).length + (t.stream.filter (fun f => f.2.isSome)).length + (Tab.get [] s.epIn (portQueue p)).length
      ((s.bump (XP_LINK_CNT2 p) XP_LINK_CNT2_DISCARDS n).dropQueue p).showLive
    | some n =>
      let l := s.link n
      let active := s.pathPort n (s.activePath n) == p
      let s := if active then s else s.testStop n
      if was = 5 ∧ active ∧ !t.hb ∧ l.up then s.switchOver n
      else (s.showLink n).showLive

/-- A change of lanes is asked for a direction of an ACTIVE port (R188): the transmitter names the next map 8 superframes
ahead, or goes down with LANES_LOST; a step already pending takes the request into the next one. -/
def State.laneRequest (s : State) (p : Nat) (rx : Bool) : State :=
  if s.portState p ≠ 5 then s
  else
    let m := s.wantMap p rx
    if m = 0 then s.portDown p rsLanesLost
    else
      let t := s.port p
      if rx ∨ t.txNext.isSome ∨ m = t.txMap then s
      else s.setPort p { t with txNext := some (m, t.sfseq + 8) }

/-- A port lane leaves service for a reason, and its map follows (R172, R188). -/
def State.portLaneOut (s : State) (k : Nat) (why : BitVec 8) : State :=
  let (p, rx, _) := portOfLane k
  (s.laneOut k why).laneRequest p rx
/-- Reasons end, and the map follows. -/
def State.portLaneBack (s : State) (k : Nat) (why : BitVec 8) : State :=
  let (p, rx, _) := portOfLane k
  (s.laneBack k why).laneRequest p rx

/-- Lanes in the same fibre of a port lane. -/
def fibreOf (k : Nat) : List Nat := (List.range 8).map fun i => k - k % 4096 / 128 * 128 + i * 128
/-- A flooded or unlocked port lane leaves service; a recalibration in its fibre stops first, and that lane returns in
the same step of the map (R172). -/
def State.portLaneLost (s : State) (k : Nat) (why : BitVec 8) : State :=
  let s := (fibreOf k).foldl (fun s x => if x ≠ k then s.laneBack x whyRecal else s) s
  s.portLaneOut k why

end Sys2Proof.Machine
end

