-- ==== Sys2Proof/Machine/PortWire.lean ====
section
/-! DEFINITION. What the wavelengths of a port carry: FEC blocks and superframes, their scrambling and sealing (R176 to
R181), the keys of its directions (R407), and the packets of the self-test (R202). -/
namespace Sys2Proof.Machine

/-! ## FEC blocks (R176, R177) -/

/-- Symbols of codeword `j` of a block of four interleaved ones: bytes j, j + 4, … -/
def everyFourth (bs : List Byte) (j : Nat) : List Nat :=
  ((List.range bs.length).zip bs).filterMap fun x => if x.1 % 4 = j then some x.2.toNat else none
/-- The 544 bytes of a block: its content, then the check symbols of the four codewords in turn. -/
def fecEncode (content : List Byte) : List Byte :=
  let chk := (List.range 4).map fun j => gfPort.check (everyFourth content j)
  content ++ (List.range 32).map fun i => BitVec.ofNat 8 ((chk.getD (i % 4) []).getD (i / 4) 0)
/-- Content of a received block and the block bytes that were corrected; `none` where a codeword is uncorrectable. -/
def fecDecode (raw : List Byte) : Option (List Byte × List Nat) :=
  let word (j : Nat) : Sparse := ((List.range 136).zip (everyFourth raw j)).filter fun x => x.2 ≠ 0
  let es := (List.range 4).map fun j => gfPort.correct 136 (word j)
  if es.all Option.isSome then
    let fix := (List.range 4).flatMap fun j => ((es.getD j none).getD []).map fun e => (4 * e.1 + j, e.2)
    let bytes := ((List.range 512).zip raw).map fun x =>
      x.2 ^^^ BitVec.ofNat 8 ((fix.filter fun e => e.1 = x.1).foldl (fun v e => v ^^^ e.2) 0)
    some (bytes, fix.map Prod.fst)
  else none

/-! ## Lanes of a superframe (R178) -/

/-- The lanes of a map, by rank. -/
def ranked (m : Nat) : List Nat := (List.range 32).filter m.testBit
/-- The lane that carries byte `k` of a superframe's stream. -/
def laneOfByte (m k : Nat) : Option Nat :=
  let l := ranked m
  if l = [] then none else l[(k + k / l.length) % l.length]?
/-- What the lane of rank `r` of `a` carries of a stream, cut into rows of `a` bytes. -/
def laneBytes (a r : Nat) (rows : List (List Byte)) : List Byte :=
  ((List.range rows.length).zip rows).map fun x => x.2.getD ((r + a - x.1 % a) % a) 0
/-- A superframe of 21 block contents on the lanes of a map, scrambled lane by lane; `broken` names a data block that is
sent with one symbol more wrong than the code corrects (R202). -/
def Port.wire (t : Port) (m : Nat) (blocks : List (List Byte)) (broken : Option Nat) : List (Nat × Nat) × Tab Nat :=
  let l := ranked m
  let a := l.length
  let spoil (bs : List Byte) : List Byte := ((List.range bs.length).zip bs).map fun x =>
    if x.1 < 20 ∧ x.1 % 4 = 0 then ~~~ x.2 else x.2
  let stream := ((List.range blocks.length).zip blocks).flatMap fun x =>
    if broken = some x.1 then spoil (fecEncode x.2) else fecEncode x.2
  let rows := chunksOf a (stream.length / a) stream
  let out := ((List.range a).zip l).map fun x =>
    let bs := laneBytes a x.1 rows
    (x.2, scramble (Tab.get 0 t.scr x.2) (leNat bs) (8 * bs.length / 34))
  (out.map fun x => (x.1, x.2.1), out.foldl (fun c x => Tab.set 0 c x.1 x.2.2) t.scr)

/-! ## Keys and sealing (R181, R407) -/

/-- The key of a direction for an epoch. -/
def State.dirKey (s : State) (p : Nat) (tx : Bool) (epoch : Nat) : List Byte :=
  let own := (s.ownNode, p)
  let far := (s.rf (XP_PORT_STAT p) XP_PORT_STAT_PNODE, s.rf (XP_PORT_STAT p) XP_PORT_STAT_PPORT)
  let (a, b) := if tx then (own, far) else (far, own)
  hkdfExpand (Tab.get [] (s.port p).prks epoch)
    ((leBytes 8 0x54524F502D384B4E) ++ leBytes 2 a.1 ++ leBytes 1 a.2 ++ leBytes 2 b.1 ++ leBytes 1 b.2 ++ leBytes 1 epoch) 32
/-- The nonce and the additional data of the superframe of a control block. -/
def cbNonce (cb : BitVec 4096) : List Byte := leBytes 7 (nbits cb.toNat 64 56) ++ List.replicate 5 0
def cbAad (cb : BitVec 4096) : List Byte := leBytes 512 (setBits cb.toNat 512 128 0)
/-- The data blocks of a superframe enciphered, and its tag. -/
def State.sealFrame (s : State) (p : Nat) (cb : BitVec 4096) (data : List (List Byte)) : List (List Byte) × Nat :=
  let key := s.dirKey p true (nbits cb.toNat 112 8)
  let ct := gcmCrypt key (cbNonce cb) data.flatten
  (chunksOf 512 data.length ct, leNat (gcmTag key (cbNonce cb) (cbAad cb) ct))
/-- The data blocks of a received superframe deciphered; `none` where the tag does not verify. -/
def State.openFrame (s : State) (p : Nat) (cb : BitVec 4096) (data : List (List Byte)) (tag : Nat) : Option (List (List Byte)) :=
  (gcmOpen (s.dirKey p false (nbits cb.toNat 112 8)) (cbNonce cb) (cbAad cb) data.flatten (leBytes 16 tag)).map
    (chunksOf 512 data.length)

/-! ## Self-test packets (R202) -/

/-- The next `16 n` bits of a PRBS31, x^31 + x^28 + 1, whose last 31 bits are `st`, the latest most significant. -/
def prbs31 (st : Nat) : Nat → Nat × Nat
  | 0 => (0, st)
  | n + 1 =>
    let o := (st ^^^ (st / 2 ^ 3)) % 2 ^ 16
    let (r, t) := prbs31 ((st + o * 2 ^ 31) / 2 ^ 16) n
    (o + r * 2 ^ 16, t)
/-- A TEST packet of five flits and the generator's next state. -/
def State.testPacket (s : State) (p st : Nat) : List Flit × Nat :=
  let (v, t) := prbs31 st 128
  (portFlits (mkPkt 0 0 (bytesFlits (leBytes 256 v)) s.ownNode (s.rf (XP_PORT_STAT p) XP_PORT_STAT_PNODE)) 0 true, t)
/-- The logical link whose self-test runs on a port, its standby path. -/
def State.testOn (s : State) (p : Nat) : Option Nat :=
  match (s.port p).sel with
  | some n => if (s.link n).testing && s.pathPort n (!s.activePath n) == p then some n else none
  | none => none
/-- The mark of the last flit of a packet without an LSEQ. -/
def noLseq : Nat := 2 ^ 16
/-- ECHO: TEST packets fill the standby path's stream, 4,096 in all. -/
def State.testFill (s : State) (p n : Nat) : Nat → State
  | 0 => s
  | fuel + 1 =>
    let e := (s.link n).test
    if e.sent ≥ 4096 ∨ (s.port p).stream.length ≥ 160 then s
    else
      let (fl, st) := s.testPacket p e.tx
      let s := s.setPort p { s.port p with stream := (s.port p).stream ++ markEnd noLseq fl }
      (s.setLink n { s.link n with test := { e with tx := st, sent := e.sent + 1 } }).testFill p n fuel

end Sys2Proof.Machine
end

