-- ==== Sys2Proof/Machine/Ports.lean ====
section
/-! DEFINITION. Meanings of the rows of the external ports and logical links (R175 to R205, R406, R407). -/
namespace Sys2Proof.Machine

/-! ## Training attempts (R190, R191) -/

/-- B rises after a failure; each rise is reported (R190). -/
def State.backoff (s : State) (p : Nat) : State :=
  let t := s.port p
  let b := s.rf (XP_PORT_STAT p) XP_PORT_STAT_BEXP
  let s := s.setPort p { t with failed := true }
  if !t.failed ∨ b ≥ 10 then s
  else (s.wf (XP_PORT_STAT p) XP_PORT_STAT_BEXP (b + 1)).portRecord p 0x01
/-- An attempt fails with a reason; the port waits B in SEARCH. -/
def State.attemptFail (s : State) (p reason : Nat) : State :=
  let s := ((s.setPortState p 1).wf (XP_PORT_STAT p) XP_PORT_STAT_WAITING 1).wf (XP_PORT_STAT p) XP_PORT_STAT_LAST_FAIL reason
  let s := s.setPort p { s.port p with heard := false, run := 0, frags := [], atTx := none, atRx := none }
  s.backoff p
/-- The binding of a port at its training: its link, the path it is, the other port and the mode, as XP_SEL_CTL has them
then (R205). -/
def State.bind (s : State) (p : Nat) : State :=
  let old := (s.port p).sel
  let new := s.boundTo p
  let s := s.setPort p { s.port p with sel := new.map (·.1), alt := (new.map (·.2)).getD false }
  let s := match old with | some n => if new.map (·.1) = some n then s else s.showLink n | none => s
  match new with
  | some (n, alt) =>
    let c := XP_SEL_CTL n
    let peer := s.rf c (if alt then XP_SEL_CTL_PRIMARY else XP_SEL_CTL_ALTERNATE)
    let s := s.setPort p { s.port p with peer := peer, hb := s.rb c XP_SEL_CTL_MODE }
    let l := s.link n
    (s.setLink n (if alt then { l with alt := p } else { l with prim := p })).showLink n
  | none => s
/-- A port in SEARCH starts an attempt, but not in light hold (R190, R193). -/
def State.attempt (s : State) (p : Nat) : State :=
  if s.portState p ≠ 1 ∨ s.lightHold then s
  else
    let s := (s.setPortState p 2).wf (XP_PORT_STAT p) XP_PORT_STAT_WAITING 0
    let s := s.bump (XP_PORT_STAT p) XP_PORT_STAT_ATTEMPTS 1
    let t : Port :=
      { s.port p with sfseq := 0, heard := false, run := 0, exGot := false, exSent := false, ackGot := false,
                      ackSent := false, notice := false, frags := [], fragTurn := 0, atTx := none, atRx := none,
                      partnerRx := 0, cur := none, held := [], nak := none, epTx := 0, epRx := 0, mode := s.calMode,
                      prks := [], oldFrags := [] }
    (s.setPort p t).bind p

def execAttemptStart (p : PortIx) (s : State) : Host.Outcome State Fault Refusal := .next (s.attempt p)

def execAlignDone (p : PortIx) (s : State) : Host.Outcome State Fault Refusal :=
  if s.portState p = 2 then .next ((s.setPort p { s.port p with heard := true }).setPortState p 3) else .next s

/-- The limit of the step in progress expires; `light`: light or training superframes were seen (R191). -/
def execAttemptStepLimit (p : PortIx) (light : Bool) (s : State) : Host.Outcome State Fault Refusal :=
  match s.portState p with
  | 2 => .next (s.attemptFail p (if light then rsAlign else rsNoPartner))
  | 3 => .next (s.attemptFail p rsTimeout)
  | 4 => .next (s.attemptFail p rsKeyx)
  | _ => .next s

/-- DOWN_NOTICE ends and an attempt starts (R192). -/
def execDownNoticeEnd (p : PortIx) (s : State) : Host.Outcome State Fault Refusal :=
  let t := s.port p
  if t.notice then .next ((s.setPort p { t with notice := false }).attempt p) else .next s

/-- Ports are held OFF whatever their ENABLE reads: until S8 releases them, and in RECALLED (R193, R368, R411). -/
def State.portsHeld (s : State) : Bool := decide (s.nextStage ≤ 8) || s.lc.state == 3
/-- ENABLE written (R204): 0 puts the port in OFF, through COMMAND where it is ACTIVE; 1 starts SEARCH and an attempt. -/
def State.portEnable (s : State) (p : Nat) (on : Bool) : State :=
  let s := s.wb (XP_PORT_CTL p) XP_PORT_CTL_ENABLE on
  if on then (if s.portState p = 0 && !s.portsHeld then (s.setPortState p 1).attempt p else s)
  else
    let s := if s.portState p = 5 then s.portDown p rsCommand else s
    let s := (s.setPortState p 0).wf (XP_PORT_STAT p) XP_PORT_STAT_WAITING 0
    (s.setPort p { s.port p with notice := false }).showLive
def execPortEnable (p : PortIx) (on : Bool) (s : State) : Host.Outcome State Fault Refusal := .next (s.portEnable p on)

/-- RESTART (R204): in SEARCH, B = 1 ms and an attempt at once, which DOWN_NOTICE still precedes (R192). -/
def State.portRestart (s : State) (p : Nat) : State :=
  if s.portState p = 1 then
    let s := (s.wf (XP_PORT_STAT p) XP_PORT_STAT_BEXP 0).setPort p { s.port p with failed := false }
    if (s.port p).notice then s else s.attempt p
  else s
def execRestart (p : PortIx) (s : State) : Host.Outcome State Fault Refusal := .next (s.portRestart p)

/-! ## Training messages (R191) -/

def msgNat (m : BitVec 512) (off n : Nat) : Nat := nbits m.toNat (8 * off) (8 * n)
/-- A training message of a type with its reserved bits 0; a message without key content has an empty body. -/
def msgOk (m : BitVec 512) (ty : Nat) (body : Bool) : Bool :=
  msgNat m 0 1 == ty && msgNat m 1 1 == 1 && nbits m.toNat 30 2 == 0 && nbits m.toNat 37 3 == 0 &&
  nbits m.toNat 41 7 == 0 && nbits m.toNat 51 5 == 0 && (body || nbits m.toNat 96 416 == 0)
/-- The training message a port sends, without its body. -/
def State.msgHead (s : State) (p ty : Nat) : Nat :=
  let sel := match (s.port p).sel with
    | some _ => 1 + 2 * (s.port p).hb.toNat + 4 * (s.port p).alt.toNat + 256 * (s.port p).peer
    | none => 0
  ty + 2 ^ 8 + s.ownNode * 2 ^ 16 + p % 32 * 2 ^ 32 + (s.port p).mode.toNat * 2 ^ 40 + sel * 2 ^ 48 + s.usable p true * 2 ^ 64
/-- The partner's NODE, PORT and RXMAP are recorded. -/
def State.msgNote (s : State) (p : Nat) (m : BitVec 512) : State :=
  let s := (s.wf (XP_PORT_STAT p) XP_PORT_STAT_PNODE (msgNat m 2 2)).wf (XP_PORT_STAT p) XP_PORT_STAT_PPORT (msgNat m 4 1)
  s.setPort p { s.port p with partnerRx := msgNat m 8 4 }

def execTrain (p : PortIx) (msg : BitVec 512) (s : State) : Host.Outcome State Fault Refusal :=
  if (s.portState p = 1 ∨ s.portState p = 2) ∧ msgOk msg 1 false then .next (s.msgNote p msg) else .next s

/-- The selvedge fields of the two ends disagree (R195). -/
def State.selDisagree (s : State) (p : Nat) (m : BitVec 512) : Bool :=
  let b := msgNat m 6 1
  match (s.port p).sel with
  | none => b % 2 == 1
  | some n =>
    let x := s.pathPort n (!s.isAlt n p)
    b % 2 == 0 || decide (b / 2 % 2 ≠ (s.port p).hb.toNat) ||
      (s.pathUp n (!s.isAlt n p) &&
        (s.rf (XP_PORT_STAT x) XP_PORT_STAT_PNODE != msgNat m 2 2 || s.rf (XP_PORT_STAT x) XP_PORT_STAT_PPORT != msgNat m 7 1))

/-- A new ephemeral key pair for an exchange or a key change (R406, R407). -/
def State.newEph (s : State) (p : Nat) : State :=
  s.used.setPort p { s.port p with eph := Config.privateKey 3 (leBytes 8 s.free) }
/-- Both ends hold EXCHANGE_ACK: the key exchange begins. -/
def State.exchanged (s : State) (p : Nat) : State :=
  let t := s.port p
  if s.portState p = 3 ∧ t.ackGot ∧ t.ackSent then (s.newEph p).setPortState p 4 else s

def execExchange (p : PortIx) (msg : BitVec 512) (s : State) : Host.Outcome State Fault Refusal :=
  if s.portState p ≠ 3 ∨ !msgOk msg 2 false then .next s
  else
    let s := s.msgNote p msg
    let tx := s.wantMap p false
    let rx := s.wantMap p true
    if tx = 0 ∨ rx = 0 then .next (s.attemptFail p rsLanes)
    else if msgNat msg 5 1 ≠ (s.port p).mode.toNat then .next (s.attemptFail p rsMode)
    else if s.selDisagree p msg then .next (s.attemptFail p rsSelvedge)
    else .next (((s.setMap p false tx).setMap p true rx).setPort p { ((s.setMap p false tx).setMap p true rx).port p with exGot := true })

def execExchangeAck (p : PortIx) (msg : BitVec 512) (s : State) : Host.Outcome State Fault Refusal :=
  if s.portState p ≠ 3 ∨ !msgOk msg 3 false then .next s
  else .next ((s.setPort p { s.port p with ackGot := true }).exchanged p)

/-! ## Key exchange and rekey (R406, R407; log entry 7) -/

/-- Fragments of a part, in order, once all are there. -/
def fragsWhole (fs : List (Nat × Nat × Nat × List Byte)) (part : Nat) : Option (List Byte) :=
  match fs.find? (fun f => f.1 = part) with
  | none => none
  | some (_, _, n, _) =>
    let ps := (List.range n).map fun i => (fs.find? (fun f => f.1 = part ∧ f.2.1 = i)).map (·.2.2.2)
    if ps.all Option.isSome ∧ n ≠ 0 then some (ps.flatMap (·.getD [])) else none
/-- A fragment kept, once. -/
def fragKeep (fs : List (Nat × Nat × Nat × List Byte)) (m : BitVec 512) : List (Nat × Nat × Nat × List Byte) :=
  let part := msgNat m 0x0C 1; let ix := msgNat m 0x0D 1; let n := msgNat m 0x0E 1
  if msgNat m 0x0F 1 ≠ 0 ∨ part > 1 ∨ ix ≥ n ∨ fs.any (fun f => f.1 == part && f.2.1 == ix) then fs
  else fs ++ [(part, ix, n, leBytes 48 (msgNat m 0x10 48))]
/-- PART 0 of this end: EPUB, OWNER_HASH, CHAIN_LEN, chain. -/
def State.keyPart0 (s : State) (p : Nat) : List Byte :=
  let chain := Config.devChain.take 1536
  ecPublic (s.port p).eph ++ fitBytes 16 s.ownerHash ++ leBytes 2 chain.length ++ chain
/-- The content of a received PART 0, without the filling of its last fragment. -/
def part0Of (bs : List Byte) : List Byte := bs.take (115 + leNat ((bs.drop 113).take 2))
/-- H of two PART 0 messages, the lower node's first. -/
def State.keyHash (s : State) (p : Nat) (theirs : List Byte) : List Byte :=
  let own := s.keyPart0 p
  sha384 (if s.ownNode < s.rf (XP_PORT_STAT p) XP_PORT_STAT_PNODE then own ++ theirs else theirs ++ own)
/-- A signature by a key of the key engine (R398). -/
def engineSign (purpose : Nat) (input digest : List Byte) : List Byte :=
  ecdsaSign (Config.privateKey purpose input) (Config.privateKey 4 digest) digest
/-- The key exchange fails: the reason and a SECURITY record (R406, R412). -/
def State.keyFail (s : State) (p : Nat) : State :=
  (s.attemptFail p rsKeyx).event 0x0C 0x04 (unitOf 5 p) 0 0 0 (s.rf (XP_PORT_STAT p) XP_PORT_STAT_PNODE) 0

/-- KEYX (R406): the partner's chain, owner and signature are checked once their parts are whole, and the exchange gives
the PRK of EPOCH 0 (R407). -/
def execKeyx (p : PortIx) (msg : BitVec 512) (s : State) : Host.Outcome State Fault Refusal :=
  if s.portState p ≠ 4 ∨ !msgOk msg 4 true then .next s
  else
    let t := s.port p
    let fs := fragKeep t.frags msg
    let s := s.setPort p { t with frags := fs }
    match (fragsWhole fs 0).map part0Of with
    | none => .next s
    | some p0 =>
      match (if (p0.drop 97).take 16 = fitBytes 16 s.ownerHash then Config.chainKey (p0.drop 115) else none) with
      | none => .next (s.keyFail p)
      | some signer =>
        match fragsWhole fs 1 with
        | none => .next s
        | some p1 =>
          let h := s.keyHash p p0
          match ecdh t.eph (p0.take 97) with
          | none => .next (s.keyFail p)
          | some z =>
            if !ecdsaVerify signer h (p1.take 96) then .next (s.keyFail p)
            else .next (s.setPort p { s.port p with atRx := some (leNat ((p1.drop 96).take 6)), prks := Tab.set [] [] 0 (hmac h z) })

/-- A key change begins (R182). -/
def State.rekeyStart (s : State) (p : Nat) : State :=
  let t := s.port p
  if s.portState p = 5 ∧ !t.rekey then
    (s.setPort p { t with rekey := true, frags := [], fragTurn := 0, atTx := none, atRx := none, stepTx := false, stepRx := false }).newEph p
  else s
def execRekey (p : PortIx) (s : State) : Host.Outcome State Fault Refusal := .next (s.rekeyStart p)

/-- REKEY (R182, R407): the partner's first message of a change starts it here; fragments of the change that ended last are
late ones of it. The new EPUB gives the PRK of the next epoch, PART 1 the SFSEQ of the step. -/
def execRekeyMessage (p : PortIx) (msg : BitVec 512) (s : State) : Host.Outcome State Fault Refusal :=
  if s.portState p ≠ 5 ∨ !msgOk msg 5 true ∨ (!(s.port p).rekey ∧ (fragKeep [] msg).all (s.port p).oldFrags.contains) then .next s
  else
    let s := s.rekeyStart p
    let t := s.port p
    let fs := fragKeep t.frags msg
    let at_ := match fragsWhole fs 1 with | some b => some (leNat ((b.drop 96).take 6)) | none => t.atRx
    let e := if t.stepTx then t.epTx else (t.epTx + 1) % 256
    let prks := match (fragsWhole fs 0).bind fun b => ecdh t.eph (b.take 97) with
      | some z => if Tab.get [] t.prks e = [] then Tab.set [] t.prks e (hmac (Tab.get [] t.prks ((e + 255) % 256)) z) else t.prks
      | none => t.prks
    .next (s.setPort p { t with frags := fs, atRx := at_, prks := prks })

/-- A change of key is complete once both directions have stepped; the keys before are destroyed (R182, R398). -/
def Port.rekeyDone (t : Port) : Port :=
  if t.stepTx && t.stepRx then
    { t with rekey := false, oldFrags := t.frags, frags := [], prks := t.prks.filter fun e => e.1 == t.epTx || e.1 == t.epRx }
  else t
/-- EPOCH steps in one direction at the named SFSEQ (R182). -/
def execKeyEpochStep (p : PortIx) (tx : Bool) (s : State) : Host.Outcome State Fault Refusal :=
  let t := s.port p
  if s.portState p ≠ 5 ∨ !t.rekey then .next s
  else if tx then
    (if t.atTx.isNone ∨ t.stepTx then .next s
     else .next (s.setPort p { t with epTx := (t.epTx + 1) % 256, stepTx := true }.rekeyDone))
  else
    (if t.atRx.isNone ∨ t.stepRx then .next s
     else .next (s.setPort p { t with epRx := (t.epRx + 1) % 256, stepRx := true }.rekeyDone))

/-- The port becomes ACTIVE (R191): counts of credits and blocks start, its link comes up, and the partner is compared
with the expected one (R246, R369). -/
def execPortActive (p : PortIx) (s : State) : Host.Outcome State Fault Refusal :=
  let t := s.port p
  if s.portState p ≠ 4 ∨ t.atTx.isNone ∨ t.atRx.isNone then .next s
  else
    let s := (s.setPortState p 5).wf (XP_PORT_STAT p) XP_PORT_STAT_BEXP 0
    let t : Port :=
      { t with failed := false, stream := [], store := [], bseq := 0, cred := Cred.start, expect := 0, ack := none,
               cur := none, held := [], nak := none, rxFlits := [], authAt := [], frags := [], fragTurn := 0,
               rekey := false, atTx := none, atRx := none, tag := 0, txNext := none, rxNext := none, hbDue := false,
               inPacket := false, stepTx := false, stepRx := false, oldFrags := [] }
    let s := s.setPort p t
    let s := match t.sel with
      | none => s
      | some n =>
        let l := s.link n
        let s :=
          if l.up then s
          else
            let s := s.setLink n { l with up := true, cred := Cred.start, rxPath := s.isAlt n p }
            (s.wf (XP_SEL_STAT n) XP_SEL_STAT_TXCLAIM 1).wb (XP_SEL_STAT n) XP_SEL_STAT_ACTIVE_PATH (s.isAlt n p)
        s.showLink n
    let s := s.showLive
    let pn := s.rf (XP_PORT_STAT p) XP_PORT_STAT_PNODE
    if s.rf (LM_RT_LINK p) LM_RT_LINK_EXP_NODE = pn then .next s
    else .next (s.event 0x07 0x04 (unitOf 5 p) 0 0 (s.rf (XP_PORT_STAT p) XP_PORT_STAT_LAST_FAIL) pn
      ((s.rget (XP_PORT_STAT p)).toNat + s.rf (LM_RT_LINK p) LM_RT_LINK_EXP_NODE * 2 ^ 64))

/-! ## Sending (R178 to R182, R185, R186) -/

/-- Bytes of a partition's packets counted at a port (R434). -/
def State.meterPort (s : State) (part bytes : Nat) (out : Bool) : State :=
  let add (s : State) (n : Nat) : State :=
    let m := Tab.get Meter.reset s.meters n
    let m' : Meter := if out then { m with tx := m.tx + bytes } else { m with rx := m.rx + bytes }
    { s with meters := Tab.set Meter.reset s.meters n m' }
  let s := add s 0
  if part = 0 then s else add s part
/-- Partition of a packet that leaves or arrives here: its domain's, and for an RSP its pair site's or its tag's core's. -/
def State.packetPart (s : State) (k : Pkt) (out : Bool) : Nat :=
  let dom (d : Nat) : Nat := match s.parts.find? (fun e => e.2.domain.toNat = d) with | some e => e.1 | none => 0
  if (if out then k.snode else k.dnode).toNat ≠ s.ownNode then 0
  else if k.cls = 2 then (if out then (if k.f 24 5 < 8 then s.partOfPair (k.f 24 5) else 0) else s.partOfCore (k.rTag % 2048))
  else if k.cls = 3 then dom (k.t 6 2)
  else dom k.domain

/-- The port may take packets: ACTIVE, room in the store, and on a logical link that is up the active path, with no newer
CLAIM_SEEN (R185, R196, R199, R201). -/
def State.mayTake (s : State) (p : Nat) : Bool :=
  let t := s.port p
  s.portState p == 5 && decide (t.store.length < 1024) && decide (t.stream.length < 160) &&
    match t.sel with
    | none => true
    | some n =>
      (s.link n).up && s.pathPort n (s.activePath n) == p &&
        !newer16 (s.link n).claimSeen (s.rf (XP_SEL_STAT n) XP_SEL_STAT_TXCLAIM)
/-- Packets outstanding on a logical link: sent and not covered by LACK, and waiting (R197, R199). -/
def Link.outstanding (l : Link) : Nat := l.store.length + l.wait.length
/-- The first packet that has its credits and stands behind none of its virtual channel that has not (R242, R252). -/
def Cred.pick (c : Cred) : List Nat → List Pkt → Option Pkt
  | _, [] => Option.none
  | shut, k :: r =>
    if shut.contains k.vc then c.pick shut r
    else if k.flits ≤ c.avail k.vc then some k
    else c.pick (k.vc :: shut) r
/-- Packets queued at its site for a port, or for either port of its logical link (R199). -/
def State.queueOf (s : State) (p : Nat) : List Pkt :=
  match (s.port p).sel with
  | some n => Tab.get [] s.epIn (portQueue (s.link n).prim) ++ Tab.get [] s.epIn (portQueue (s.link n).alt)
  | none => Tab.get [] s.epIn (portQueue p)
/-- A packet leaves the queue it stands in, and the site's virtual-channel buffer. -/
def State.unqueue (s : State) (p : Nat) (k : Pkt) : State :=
  let ps := match (s.port p).sel with | some n => [(s.link n).prim, (s.link n).alt] | none => [p]
  match ps.find? fun x => (Tab.get [] s.epIn (portQueue x)).contains k with
  | none => s
  | some x =>
    { s with epIn := Tab.set [] s.epIn (portQueue x) ((Tab.get [] s.epIn (portQueue x)).erase k) }.creditBack (siteOfPort x) k
/-- A packet enters the stream: it spends its credits and, on a logical link, takes the next LSEQ (R197, R252). -/
def State.toStream (s : State) (p : Nat) (k : Pkt) : State :=
  let s := s.setPortCred p ((s.portCred p).spend k.vc k.flits)
  let s := s.meterPort (s.packetPart k true) (64 * k.data.length) true
  let lseq := match (s.port p).sel with | some n => (s.link n).next | none => 0
  let s := match (s.port p).sel with
    | some n => s.setLink n { s.link n with next := (lseq + 1) % 2 ^ 16, store := (s.link n).store ++ [(lseq, k)] }
    | none => s
  let t := s.port p
  s.setPort p { t with stream := t.stream ++ markEnd lseq (portFlits k lseq false) }
/-- Packets are taken into the stream while their credits allow (R252): those that waited first, then those of the site,
which a logical link takes only within 8,192 outstanding (R197, R199); at most `fuel`. -/
def State.takeIn (s : State) (p : Nat) : Nat → State
  | 0 => s
  | fuel + 1 =>
    if !s.mayTake p then s
    else
      let c := s.portCred p
      match (s.port p).sel with
      | some n =>
        let l := s.link n
        match c.pick [] (l.wait ++ if l.outstanding < 8192 then s.queueOf p else []) with
        | none => s
        | some k =>
          let s := if l.wait.contains k then s.setLink n { l with wait := l.wait.erase k } else s.unqueue p k
          (s.toStream p k).takeIn p fuel
      | none =>
        match c.pick [] (s.queueOf p) with
        | none => s
        | some k => ((s.unqueue p k).toStream p k).takeIn p fuel
/-- While the active path of a logical link in HB mode is down and has not failed yet, packets wait in the link's queue, up
to the bound (R199); at most `fuel`. -/
def State.linkQueue (s : State) (n : Nat) : Nat → State
  | 0 => s
  | fuel + 1 =>
    let l := s.link n
    let p := s.pathPort n (s.activePath n)
    if !l.up || s.pathUp n (s.activePath n) || !s.pathHb n (s.activePath n) || decide (8192 ≤ l.outstanding) then s
    else
      match s.queueOf p with
      | [] => s
      | k :: _ => ((s.unqueue p k).setLink n { (s.unqueue p k).link n with wait := l.wait ++ [k] }).linkQueue n fuel
/-- An idle flit (R183). -/
def idleFlit : Flit := 0x80000000
/-- A data block of idle flits that takes no place in the sequence of blocks. -/
def TxBlock.filler : TxBlock :=
  { bseq := 0, flits := List.replicate 8 idleFlit, ends := [], tries := 0, due := false, acked := true }
/-- New data blocks from the stream, padded with idle flits, appended to the store; a path that must send no traffic takes
nothing from its stream (R185, R196). -/
def Port.pack (t : Port) (traffic : Bool) : Nat → Port
  | 0 => t
  | n + 1 =>
    let x := if traffic then t.stream.take 8 else []
    let fl := x.map (·.1) ++ List.replicate (8 - x.length) idleFlit
    let b : TxBlock := { bseq := t.bseq, flits := fl, ends := x.filterMap (·.2), tries := 0, due := false, acked := false }
    let open_ := match x.getLast? with | some f => f.2.isNone | none => t.inPacket
    Port.pack { t with stream := t.stream.drop x.length, store := t.store ++ [b], bseq := (t.bseq + 1) % 4096, inPacket := open_ }
      traffic n

/-- MSG of the next control block (R191, R406, R407), and the state after it. -/
def State.nextMsg (s : State) (p : Nat) : Nat × State :=
  let t := s.port p
  /- a fragment of KEYX or REKEY: PART 0 until the partner's PART 0 is held, then PART 1, which names an SFSEQ and in KEYX
  carries the signature (R406, R407; log entry 85) -/
  let keyMsg (ty : Nat) (s : State) : Nat × State :=
    let second := (fragsWhole t.frags 0).isSome
    let at_ := if second ∧ t.atTx.isNone then some (t.sfseq + 64) else t.atTx
    let sig := if ty = 4 then engineSign 0 [] (s.keyHash p (part0Of ((fragsWhole t.frags 0).getD []))) else List.replicate 96 0
    let content := if second then sig ++ leBytes 6 (at_.getD 0) else if ty = 4 then s.keyPart0 p else ecPublic t.eph
    let n := (content.length + 47) / 48
    let i := if n = 0 then 0 else t.fragTurn % n
    let body := second.toNat + i * 2 ^ 8 + n * 2 ^ 16 + leNat ((content.drop (48 * i)).take 48) * 2 ^ 32
    (s.msgHead p ty + body * 2 ^ 96, s.setPort p { t with fragTurn := t.fragTurn + 1, atTx := at_ })
  match s.portState p with
  | 3 =>
    if t.exGot ∧ (t.exSent ∨ t.ackGot) then
      (s.msgHead p 3, (s.setPort p { t with ackSent := true, exSent := false }).exchanged p)
    else (s.msgHead p 2, s.setPort p { t with exSent := true })
  | 4 => keyMsg 4 s
  | 5 => if t.rekey then keyMsg 5 s else (s.msgHead p 0, s)
  | _ => (s.msgHead p 1, s)

/-- The content of the next control block (R179), with the tag of the superframe before. -/
def State.ctrlBlock (s : State) (p bseq0 msg : Nat) : BitVec 4096 :=
  let t := s.port p
  let st := s.portState p
  let flags := (if st < 5 then 1 else 0) + (if st = 2 then 2 else 0) + (if t.heard then 4 else 0) +
    (if st = 5 then 8 else 0) + (if t.notice then 16 else 0)
  let seqWord : Option Nat → Nat | some v => v % 4096 + 0x8000 | none => 0
  let c := s.portCred p
  let cum := packNat 16 ((List.range 8).map fun v => Tab.get 0 c.granted v)
  let (lmn, lma) := t.txNext.getD (0, 0)
  let link := match t.sel with
    | some n =>
      let l := s.link n
      let mine := s.rf (XP_SEL_STAT n) XP_SEL_STAT_TXCLAIM
      let act : Bool := s.pathPort n (s.activePath n) == p && !newer16 l.claimSeen mine
      let sel := l.rxSeq.isSome.toNat + 2 * t.hbDue.toNat + 4 * (act && l.swReq).toNat + 8 * (!act).toNat
      (if act then mine else 0) + s.rf (XP_SEL_STAT n) XP_SEL_STAT_RXCLAIM * 2 ^ 16 + l.rxSeq.getD 0 * 2 ^ 32 + sel * 2 ^ 48
    | none => 0
  BitVec.ofNat 4096 (0xA55AC33C0FF09669 + t.sfseq * 2 ^ 64 + t.epTx * 2 ^ 112 + flags * 2 ^ 120 + bseq0 * 2 ^ 128 +
    seqWord (if st = 5 then t.ack else none) * 2 ^ 144 + seqWord (if st = 5 then t.nak else none) * 2 ^ 160 +
    (if st = 5 then cum else 0) * 2 ^ 192 + lmn * 2 ^ 320 + lma * 2 ^ 352 + (if st = 5 then link else 0) * 2 ^ 400 +
    t.tag.toNat * 2 ^ 512 + msg % 2 ^ 512 * 2 ^ 640)

/-- A replay goes on with the blocks sent after those of this superframe (R185). -/
def replayRest (replays : Nat) : List TxBlock → List TxBlock
  | [] => []
  | b :: r => if replays ≠ 0 ∧ b.tries ≠ 0 ∧ !b.acked then { b with due := decide (b.tries < 9) } :: r else b :: r
/-- The blocks up to one that has been sent nine times and is not acknowledged (R186). -/
def sendable : List TxBlock → List TxBlock
  | [] => []
  | b :: r => if !b.acked && decide (b.tries ≥ 9) then [] else b :: sendable r
/-- What the next superframe takes from the store (R185, R186; log entry 85): its place there, how many blocks, and the
port with new blocks packed. From the first block due on, as far as blocks may be sent; without one due, 20 new ones where
the store has room for them. -/
def Port.pick (t : Port) (traffic : Bool) : Nat × Nat × Port :=
  match t.store.findIdx? (·.due) with
  | some i =>
    let rest := t.store.drop i
    let n := ((sendable rest).take 20).length
    let add := if n = rest.length then min (20 - n) (1024 - t.store.length) else 0
    (i, n + add, t.pack traffic add)
  | none => if t.store.length + 20 ≤ 1024 then (t.store.length, 20, t.pack traffic 20) else (t.store.length, 0, t)
/-- Traffic may go into new blocks: not on a path that has seen a newer CLAIM_SEEN (R196). -/
def State.traffic (s : State) (p : Nat) : Bool :=
  match (s.port p).sel with
  | none => true
  | some n => s.pathPort n (s.activePath n) != p || !newer16 (s.link n).claimSeen (s.rf (XP_SEL_STAT n) XP_SEL_STAT_TXCLAIM)
/-- RETRY of the self-test: with every TEST packet back, one new block of the next superframe goes out corrupted, and its
replay after a NAK is timed (R202). -/
def State.testRetry (s : State) (n i : Nat) (sent : List TxBlock) : State × Option Nat :=
  let e := (s.link n).test
  match e.broken with
  | none =>
    match sent.findIdx? (fun b => b.tries = 0) with
    | some j =>
      if e.back < 4096 then (s, none)
      else (s.setLink n { s.link n with test := { e with broken := some ((sent.getD j TxBlock.filler).bseq, s.tick) } }, some (i + j))
    | none => (s, none)
  | some (q, at_) =>
    if e.named && !e.fixed && sent.any (fun b => b.bseq == q && b.tries != 0) && decide (s.tick ≤ at_ + 600) then
      (s.setLink n { s.link n with test := { e with fixed := true } }, none)
    else (s, none)

/-- SUPERFRAME_SEND (R178 to R181, R185): a control block and 20 data blocks, sealed once the port is ACTIVE, on the
active lanes; before that on the lanes it could use. -/
def execSuperframeSend (p : PortIx) (s : State) : Host.Outcome State Fault Refusal :=
  let st := s.portState p
  if st = 0 ∨ s.lightHold then .next s
  else
    let (msg, s) := s.nextMsg p
    if st ≠ 5 then
      let t := s.port p
      let cb := s.ctrlBlock p 0 msg
      let data := List.replicate 20 (flitBytes TxBlock.filler.flits)
      let (lanes, scr) := t.wire (activeMap t.mode (s.usable p false)) (leBytes 512 cb.toNat :: data) none
      let f : Superframe := ⟨p.val, cb, data, lanes⟩
      .next (State.setPort { s with sfOut := s.sfOut ++ [f] } p { t with sfseq := t.sfseq + 1, scr := scr })
    else
      let s := s.takeIn p 160
      let s := match s.testOn p with | some n => s.testFill p n 32 | none => s
      let (i, n, t) := (s.port p).pick (s.traffic p)
      let sent := (t.store.drop i).take n
      let fill := 20 - sent.length
      let replays := (sent.filter fun b => decide (b.tries ≠ 0)).length
      let store := t.store.take i ++ sent.map (fun b => { b with tries := b.tries + 1, due := false }) ++ replayRest replays (t.store.drop (i + n))
      let b0 := match sent.head? with | some b => (b.bseq + 4096 - fill) % 4096 | none => (t.bseq + 2048) % 4096
      let s := s.setPort p { t with store := store }
      let (s, broken) := match s.testOn p with | some n => s.testRetry n (fill + 1) sent | none => (s, none)
      let cb := s.ctrlBlock p b0 msg
      let plain := (List.replicate fill TxBlock.filler ++ sent).map fun b => flitBytes b.flits
      let (data, tag) := s.sealFrame p cb plain
      let (lanes, scr) := t.wire t.txMap (leBytes 512 cb.toNat :: data) broken
      let s := s.setPort p { s.port p with sfseq := t.sfseq + 1, tag := BitVec.ofNat 128 tag, nak := none, hbDue := false, scr := scr }
      let s := (s.bump (XP_LINK_CNT0 p) XP_LINK_CNT0_REPLAYS replays).portEvc p 0x09 replays
      let flits := ((sent.flatMap (·.flits)).filter (· ≠ idleFlit)).length
      let s := { s.portEvc p 0x07 flits with sfOut := s.sfOut ++ [⟨p.val, cb, data, lanes⟩] }
      let s := match t.sel with | some n => s.setLink n { s.link n with swReq := s.pathPort n (s.activePath n) != p && (s.link n).swReq } | none => s
      if t.sfseq + 1 ≥ 2 ^ 47 ∧ t.rekey then .next (s.portDown p rsKeyx)
      else if t.sfseq + 1 = 2 ^ 40 then .next (s.rekeyStart p)
      else .next s

/-- The replay timer of the oldest unacknowledged block expires; a block sent nine times waits for R186. -/
def execBlockReplayTimeout (p : PortIx) (s : State) : Host.Outcome State Fault Refusal :=
  let t := s.port p
  match t.store.findIdx? (fun b => !b.acked && decide (b.tries ≠ 0)) with
  | none => .next s
  | some i =>
    .next (s.setPort p { t with store := t.store.modify i fun b => { b with due := decide (b.tries < 9) } })

/-- A block was sent nine times and is not acknowledged: the link goes down with reason RETRY (R186). -/
def execRetryExhausted (p : PortIx) (s : State) : Host.Outcome State Fault Refusal :=
  if s.portState p = 5 ∧ (s.port p).store.any (fun b => !b.acked && decide (b.tries ≥ 9)) then .next (s.portDown p rsRetry)
  else .next s

/-! ## Receiving (R180, R181, R184, R185, R187) -/

def cbNat (cb : BitVec 4096) (off n : Nat) : Nat := nbits cb.toNat (8 * off) (8 * n)
def cbFlag (cb : BitVec 4096) (i : Nat) : Bool := cb.getLsbD (0x0F * 8 + i)
/-- A control block's MARKER matches and its reserved bits are 0 (R179, R180). -/
def cbOk (cb : BitVec 4096) : Bool :=
  cbNat cb 0 8 == 0xA55AC33C0FF09669 && nbits cb.toNat (0x0F * 8 + 5) 3 == 0 && nbits cb.toNat (0x10 * 8 + 12) 4 == 0 &&
  nbits cb.toNat (0x12 * 8 + 12) 3 == 0 && nbits cb.toNat (0x14 * 8 + 12) 3 == 0 && cbNat cb 0x16 2 == 0 &&
  nbits cb.toNat (0x38 * 8 + 4) 4 == 0 && cbNat cb 0x39 7 == 0 && cbNat cb 0x90 368 == 0

/-- Blocks that need not be kept: covered by ACK and, on a logical link, by LACK (R185). -/
def State.release (s : State) (p : Nat) : State :=
  let t := s.port p
  let out : List Nat := match t.sel with | some n => (s.link n).store.map (·.1) | none => []
  s.setPort p { t with store := t.store.filter fun b => !(b.acked && b.ends.all (fun e => !out.contains e || t.sel.isNone)) }
/-- ACK names the highest block up to which all are released. -/
def State.ackTo (s : State) (p a : Nat) : State :=
  let t := s.port p
  let cov (b : TxBlock) : Bool := decide ((a + 4096 - b.bseq) % 4096 < 2048) && decide (b.tries ≠ 0)
  (s.setPort p { t with store := t.store.map fun b => if cov b then { b with acked := true, due := false } else b }).release p
/-- NAK names the block to replay from; one sent nine times waits for R186. A self-test's corrupted block is among those
asked for (R202). -/
def State.nakAt (s : State) (p q : Nat) : State :=
  let s := match s.testOn p with
    | some n =>
      let e := (s.link n).test
      let mine := match e.broken with | some (b, _) => decide ((b + 4096 - q) % 4096 < 20) | none => false
      s.setLink n { s.link n with test := { e with named := e.named || mine } }
    | none => s
  let t := s.port p
  s.setPort p { t with store := t.store.map fun b => if b.bseq = q ∧ !b.acked ∧ b.tries ≠ 0 then { b with due := decide (b.tries < 9) } else b }

/-- A CLAIM arrives on a path (R196, R200): a newer one is accepted, and moves this end's traffic to that path. -/
def State.claimIn (s : State) (n p claim : Nat) : State :=
  if claim ≠ 0 ∧ newer16 claim (s.rf (XP_SEL_STAT n) XP_SEL_STAT_RXCLAIM) then
    let path := s.isAlt n p
    let s := s.wf (XP_SEL_STAT n) XP_SEL_STAT_RXCLAIM claim
    let s := s.setLink n { s.link n with rxPath := path }
    if s.activePath n = path then s else s.switchOver n
  else s

/-- Released flits of a data stream cut into packets (R183): a packet's first flit names the flits that follow. -/
def State.cutFlits (s : State) (p claim : Nat) : Nat → State
  | 0 => s
  | fuel + 1 =>
    let t := s.port p
    match t.rxFlits with
    | [] => s
    | h :: r =>
      if h = idleFlit then (s.setPort p { t with rxFlits := r }).cutFlits p claim fuel
      else
        let n := nbits h.toNat 32 3
        let n := if n > 4 ∨ h.getLsbD 31 then 0 else n
        if r.length < n then s
        else (s.setPort p { t with rxFlits := r.drop n, rxPk := t.rxPk ++ [(claim, h, r.take n)] }).cutFlits p claim fuel

/-- The held data blocks of a superframe are released in BSEQ order (R185). -/
def State.releaseHeld (s : State) (p q : Nat) : List (List Byte) → State
  | [] => s
  | b :: r =>
    let t := s.port p
    if q ≠ t.expect then s.releaseHeld p ((q + 1) % 4096) r
    else
      (s.setPort p { t with rxFlits := t.rxFlits ++ bytesFlits b, expect := (q + 1) % 4096, ack := some q }).releaseHeld p
        ((q + 1) % 4096) r

/-- The fields of a control block take effect (R180, R187): ACK before NAK. -/
def State.cbFields (s : State) (p : Nat) (cb : BitVec 4096) : State :=
  let s := if cbNat cb 0x13 1 ≥ 0x80 then s.ackTo p (nbits cb.toNat (0x12 * 8) 12) else s
  let s := if cbNat cb 0x15 1 ≥ 0x80 then s.nakAt p (nbits cb.toNat (0x14 * 8) 12) else s
  let c := (List.range 8).foldl (fun c v => c.take v (cbNat cb (0x18 + 2 * v) 2)) (s.portCred p)
  let s := s.setPortCred p c
  let s := if cbNat cb 0x2C 6 = 0 then s
    else s.setPort p { s.port p with rxNext := some (cbNat cb 0x28 4, cbNat cb 0x2C 6) }
  let s : State := match (s.port p).sel with
    | none => s
    | some n =>
      let l := s.link n
      let seen := cbNat cb 0x34 2
      let lack := cbNat cb 0x36 2
      let keep := if cbNat cb 0x38 1 % 2 = 1 then l.store.filter (fun e => newer16 e.1 lack) else l.store
      let s := s.setLink n { l with claimSeen := (if newer16 seen l.claimSeen then seen else l.claimSeen), store := keep }
      ((s.release l.prim).release l.alt).claimIn n p (cbNat cb 0x32 2)
  let rxm := cbNat cb 0x58 4
  if s.portState p = 5 ∧ cbNat cb 0x51 1 = 1 ∧ rxm ≠ (s.port p).partnerRx then
    (s.setPort p { s.port p with partnerRx := rxm }).laneRequest p false
  else s

/-- The superframe whose tag verified takes effect: its blocks, deciphered, then its fields. -/
def State.accept (s : State) (p : Nat) (cb : BitVec 4096) (data : List (List Byte)) : State :=
  let n := (s.port p).rxFlits.length + 8 * data.length
  let s := s.releaseHeld p (nbits cb.toNat (0x10 * 8) 12) data
  let s := s.cutFlits p (cbNat cb 0x32 2) n
  if cbFlag cb 4 then s.portDown p rsPartner else s.cbFields p cb
/-- Control ticks of 1 ms. -/
def ticksMs : Nat := 1500000

/-- A FEC block arrives: a receiver that saturated in it makes it uncorrectable (R161), and its corrected symbols count for
the port and for the lanes they came on (R169, R204). `b` is its place in the superframe. -/
def State.fecIn (s : State) (p b : Nat) (raw : List Byte) (marked : Bool) : Option (List Byte) × State :=
  let s := if marked then s.bump (LM_OPT_STAT (siteOfPort p)) LM_OPT_STAT_SAT_MARKS 1 else s
  match (if marked then none else fecDecode raw) with
  | none => (none, s.bump (XP_LINK_CNT0 p) XP_LINK_CNT0_UNCORR 1)
  | some (bs, at_) =>
    let s := (s.bump (XP_LINK_CNT0 p) XP_LINK_CNT0_CORR_SYM at_.length).portEvc p 0x0A at_.length
    let t := s.port p
    let corr := (at_.filterMap fun j => laneOfByte t.rxMap (544 * b + j)).foldl (fun c l => Tab.set 0 c l (Tab.get 0 c l + 1)) t.corr
    (some bs, s.setPort p { t with corr := corr, seen := t.seen + 1 })

/-- The superframe whose control block is held is discarded: its blocks are asked for again from its BSEQ0 (R181). -/
def State.dropHeld (s : State) (p : Nat) : State :=
  let t := s.port p
  match t.cur with
  | some c => s.setPort p { t with cur := none, held := [], nak := some (nbits c.toNat (0x10 * 8) 12) }
  | none => s
/-- The tag of the superframe before has come (R181): where it verifies that superframe takes effect; four failures within
1 ms take the link down. A superframe with a block missing has no tag to check and is discarded (log entry 85). -/
def State.checkHeld (s : State) (p tag : Nat) : State :=
  let t := s.port p
  match t.cur with
  | none => s
  | some c =>
    if t.held.length < 20 ∨ !t.held.all Option.isSome then
      s.setPort p { t with cur := none, held := [], nak := some (t.nak.getD t.expect) }
    else
      match s.openFrame p c (t.held.map (·.getD [])) tag with
      | some data => s.accept p c data
      | none =>
        let recent := t.authAt.filter fun a => decide (s.tick < a + ticksMs)
        let s := (s.dropHeld p).bump (XP_LINK_CNT1 p) XP_LINK_CNT1_AUTH_FAIL 1
        let s := s.setPort p { s.port p with authAt := recent ++ [s.tick] }
        if recent.length ≥ 3 then s.portDown p rsAuth else s

/-- CONTROL_BLOCK_RECEIVE (R179 to R181): the block is decoded and validated. Before ENC its fields take effect at once;
after it those of the superframe before do, once its tag has verified. -/
def execControlBlockReceive (p : PortIx) (raw : List (BitVec 8)) (marked : Bool) (s : State) : Host.Outcome State Fault Refusal :=
  let st := s.portState p
  if st = 0 then .next s
  else
    let (d, s) := s.fecIn p 0 raw marked
    let cb : BitVec 4096 := BitVec.ofNat 4096 (leNat (d.getD []))
    let t := s.port p
    if d.isNone ∨ !cbOk cb then .next ((s.setPort p { t with run := 0 }).dropHeld p)
    else if !cbFlag cb 3 then
      if cbFlag cb 4 then .next (if st = 5 then s.portDown p rsPartner else s)
      else if st = 5 then .next (s.dropHeld p)
      else
        let run := t.run + 1
        let s := s.setPort p { t with run := run, heard := t.heard || (st == 2 && decide (run ≥ 8)) }
        if st = 1 ∧ cbFlag cb 0 ∧ cbFlag cb 1 ∧ !t.notice then .next (s.attempt p) else .next s
    else if st ≠ 5 then .next s
    else
      let s := s.checkHeld p (cbNat cb 0x40 16)
      if s.portState p = st then .next (s.setPort p { s.port p with cur := some cb, held := [] }) else .next s

/-- DATA_BLOCK_RECEIVE (R185): a data block is decoded and held until the tag of its superframe has verified. For one that
cannot be read the lowest block not released is asked for. -/
def execDataBlockReceive (p : PortIx) (raw : List (BitVec 8)) (marked : Bool) (s : State) : Host.Outcome State Fault Refusal :=
  if s.portState p = 0 then .next s
  else
    let (d, s) := s.fecIn p ((s.port p).held.length + 1) raw marked
    let t := s.port p
    match t.cur with
    | none => .next s
    | some c =>
      if t.held.length ≥ 20 then .next s
      else
        let q := (nbits c.toNat (0x10 * 8) 12 + t.held.length) % 4096
        let nak := if d.isNone ∧ (q + 4096 - t.expect) % 4096 < 2048 then some t.expect else t.nak
        .next (s.setPort p { t with held := t.held ++ [d], nak := nak })

/-- The warp form of a port packet (R183). -/
def fromPort (h : Flit) (data : List Flit) : Pkt :=
  let v := h.toNat
  let k := mkPkt (nbits v 28 2) (nbits v 128 384) data (nbits v 0 14) (nbits v 14 14)
  { (k.setF 18 1 (nbits v 30 1)) with hops := BitVec.ofNat 3 (nbits v 35 3) }

/-- A released packet is checked and passed on (R184, R196, R197). -/
def execPortPacketReceive (p : PortIx) (claim : BitVec 16) (hdr : BitVec 512) (data : List (BitVec 512)) (s : State) : Host.Outcome State Fault Refusal :=
  let h := hdr.toNat
  let s := s.setPort p { s.port p with rxPk := (s.port p).rxPk.erase (claim.toNat, hdr, data) }
  let k := fromPort hdr data
  let s := s.portEvc p 0x08 k.flits
  let free (s : State) : State := s.setPortCred p ((s.portCred p).grant k.vc k.flits)
  let bad (s : State) : State := s.bump (XP_LINK_CNT1 p) XP_LINK_CNT1_MALFORMED 1
  if (crc32c (flitBytes (BitVec.ofNat 512 (setBits h 96 32 0) :: data))).toNat ≠ nbits h 96 32 then .next (free (bad s))
  else if nbits h 32 3 > 4 ∨ nbits h 35 3 > 4 ∨ nbits h 39 9 ≠ 0 ∨ nbits h 64 32 ≠ 0 ∨ (hdr.getLsbD 31 ∧ hdr ≠ idleFlit) then
    .next (free ((bad s).rset (XP_LASTBAD p) (BitVec.ofNat 64 h)))
  else if hdr.getLsbD 38 then
    /- an own TEST packet came back and is compared; the partner's goes back to it; after the test both are ignored -/
    if k.snode.toNat = s.ownNode then
      match s.testOn p with
      | some n =>
        let e := (s.link n).test
        let (want, st) := s.testPacket p e.rx
        .next (s.setLink n { s.link n with test := { e with rx := st, back := e.back + 1, bad := e.bad || want != hdr :: data } })
      | none => .next s
    else
      match (s.port p).sel with
      | some n =>
        if s.rf (XP_SEL_STAT n) XP_SEL_STAT_STATE = 1 ∧ s.pathPort n (!s.activePath n) = p then
          .next (s.setPort p { s.port p with stream := (s.port p).stream ++ markEnd noLseq (hdr :: data) })
        else .next s
      | none => .next s
  else
    let deliver (s : State) : State :=
      ((free s).meterPort (s.packetPart k false) (64 * data.length) false).inject (siteOfPort p) (p % 2) 0 false k
    match (s.port p).sel with
    | none => .next (deliver s)
    | some n =>
      let s := s.claimIn n p claim.toNat
      let path := s.isAlt n p
      if claim = 0 ∨ claim.toNat ≠ s.rf (XP_SEL_STAT n) XP_SEL_STAT_RXCLAIM ∨ (s.link n).rxPath ≠ path then
        .next (s.bump (XP_LINK_CNT1 p) XP_LINK_CNT1_STALE_DROP 1)
      else
        let held := s.rb (XP_SEL_STAT n) XP_SEL_STAT_HELD
        let s := if held ∧ s.activePath n = path then
            ((s.wf (XP_SEL_STAT n) XP_SEL_STAT_HELD 0).bump (XP_SEL_STAT n) XP_SEL_STAT_SWITCHES 1).showLink n
          else s
        let l := s.link n
        let q := nbits h 48 16
        let old : Bool := match l.rxSeq with | some a => !newer16 q a | none => false
        if old then .next (s.bump (XP_LINK_CNT1 p) XP_LINK_CNT1_DUP_DROP 1)
        else .next (deliver (s.setLink n { l with rxSeq := some q }))

/-- Both ends switch lane maps at superframe LMAT (R188); a request that came meanwhile names the next step. -/
def execPortLaneMapStep (p : PortIx) (tx : Bool) (s : State) : Host.Outcome State Fault Refusal :=
  let t := s.port p
  if tx then
    match t.txNext with
    | none => .next s
    | some (m, _) => .next (((s.setPort p { t with txNext := none }).setMap p false m).laneRequest p false)
  else
    match t.rxNext with
    | none => .next s
    | some (m, _) => .next ((s.setPort p { t with rxNext := none }).setMap p true m)

/-! ## Logical links (R198 to R203, R205) -/

/-- The 10 µs tick of the selvedge timer: a heartbeat is owed on each ACTIVE path (R198). -/
def execHbSend (n : LinkIx) (s : State) : Host.Outcome State Fault Refusal :=
  let owe (s : State) (path : Bool) : State :=
    if s.pathUp n path ∧ s.pathHb n path then
      let p := s.pathPort n path
      s.setPort p { s.port p with hbDue := true }
    else s
  .next (owe (owe s false) true)

/-- The active path has failed. -/
def State.pathFail (s : State) (n : Nat) : State := if (s.link n).up then s.switchOver n else s

/-- A path misses its third heartbeat; the active path's miss switches over (R198). -/
def execHeartbeatMiss (n : LinkIx) (path : Bool) (s : State) : Host.Outcome State Fault Refusal :=
  if s.pathHb n path ∧ s.activePath n = path then .next (s.pathFail n) else .next s

/-- The active path's port is not ACTIVE: in SD mode that is the path's failure, and the link switches over or goes down; in
HB mode port-down events do not count (R198 to R201). -/
def execSwitchOver (n : LinkIx) (s : State) : Host.Outcome State Fault Refusal :=
  if s.pathUp n (s.activePath n) ∨ s.pathHb n (s.activePath n) then .next s else .next (s.pathFail n)

/-- A commanded switch-over of a Protected link (R201). -/
def State.switchCmd (s : State) (n : Nat) : State :=
  if s.rf (XP_SEL_STAT n) XP_SEL_STAT_STATE = 1 then s.switchOver n else s
def execSwitch (n : LinkIx) (s : State) : Host.Outcome State Fault Refusal := .next (s.switchCmd n)

/-- The self-test of the standby path starts on a Protected link (R202); where the PRBS31 starts is open. -/
def execSelftestStart (n : LinkIx) (s : State) : Host.Outcome State Fault Refusal :=
  if s.rf (XP_SEL_STAT n) XP_SEL_STAT_STATE = 1 then
    let t := s.port (s.pathPort n (!s.activePath n))
    let seed := s.open_.toNat % (2 ^ 31 - 1) + 1
    .next (s.used.setLink n
      { s.link n with testing := true, test := { SelfTest.none with tx := seed, rx := seed, corr := t.corr, seen := t.seen } })
  else .next s

/-- Corrected symbols of a lane since the start of the run reach 10⁻⁶ of the symbols it carried (R202). -/
def laneOver (e : SelfTest) (t : Port) (l : Nat) : Bool :=
  decide ((t.seen - e.seen) * 544 / (ranked t.rxMap).length ≤ (Tab.get 0 t.corr l - Tab.get 0 e.corr l) * 10 ^ 6) &&
    decide (Tab.get 0 e.corr l < Tab.get 0 t.corr l)
/-- The first step of a run that failed: 0 none, 1 ECHO, 2 RETRY, 3 LANES (R202). -/
def State.testFailed (s : State) (n : Nat) : Nat :=
  let e := (s.link n).test
  let t := s.port (s.pathPort n (!s.activePath n))
  if e.bad ∨ e.back < 4096 then 1 else if !e.fixed then 2 else if (ranked t.rxMap).any (laneOver e t) then 3 else 0
/-- A run ends (R202, R203). -/
def execSelftestDone (n : LinkIx) (s : State) : Host.Outcome State Fault Refusal :=
  if (s.link n).testing then
    let h := XP_SEL_HEALTH n
    let failStep := s.testFailed n
    let s := s.setLink n { s.link n with testing := false, test := SelfTest.none }
    let s := (s.wf h XP_SEL_HEALTH_RESULT (if failStep = 0 then 1 else 2)).wf h XP_SEL_HEALTH_FAIL_STEP failStep
    let s := (s.bump h XP_SEL_HEALTH_RUNS 1).wf h XP_SEL_HEALTH_AGE_MS 0
    if failStep = 0 then .next s
    else .next (s.linkRecord n (s.pathPort n (!s.activePath n)) 0x03 failStep (s.rget h).toNat)
  else .next s

/-- A write of XP_SEL_CTL (R205): an enabling write that names one port twice, two ports of one site, or a port of
another enabled link is stored with ENABLE = 0 and CFG_ERR = 1. -/
def State.selWrite (s : State) (n : Nat) (v : BitVec 64) : State :=
  let a := XP_SEL_CTL_PRIMARY.get v
  let b := XP_SEL_CTL_ALTERNATE.get v
  let other := (List.range 16).any fun m => m != n && s.rb (XP_SEL_CTL m) XP_SEL_CTL_ENABLE &&
    [s.rf (XP_SEL_CTL m) XP_SEL_CTL_PRIMARY, s.rf (XP_SEL_CTL m) XP_SEL_CTL_ALTERNATE].any fun x => x == a || x == b
  let bad : Bool := XP_SEL_CTL_ENABLE.get v == 1 && (a == b || a / 2 == b / 2 || other)
  let w := XP_SEL_CTL_MODE.put (XP_SEL_CTL_ALTERNATE.put (XP_SEL_CTL_PRIMARY.put 0 a) b) (XP_SEL_CTL_MODE.get v)
  let w := if bad then XP_SEL_CTL_CFG_ERR.put w 1 else XP_SEL_CTL_ENABLE.put w (XP_SEL_CTL_ENABLE.get v)
  let s := s.rset (XP_SEL_CTL n) w
  if XP_SEL_CTL_SWITCH.get v = 1 then s.switchCmd n else s
def execXpSelCtlWrite (n : LinkIx) (val : BitVec 64) (s : State) : Host.Outcome State Fault Refusal := .next (s.selWrite n val)

end Sys2Proof.Machine
end

