-- ==== Sys2Proof/Machine/Frames.lean ====
section
/-! DEFINITION. Weft frames (R163, R164): the scrambler, lane blocks, what a transmit waveguide sends, and the lanes of a
circuit at its receiver. -/
namespace Sys2Proof

/-- Bytes 0 to 67 of a lane block as bits, the first one sent least significant (R163). -/
def LaneBlock.bits (b : LaneBlock) : Nat := b.payload.toNat + b.tail.toNat * 2 ^ 512
def LaneBlock.ofBits (n : Nat) : LaneBlock := { payload := BitVec.ofNat 512 n, tail := BitVec.ofNat 32 (n / 2 ^ 512) }

end Sys2Proof

namespace Sys2Proof.Machine

/-! ## Frames -/

def LaneBlock.crcOk (b : LaneBlock) : Bool :=
  crc16 (leBytes 64 b.payload.toNat ++ leBytes 2 b.tail.toNat) == b.tail.extractLsb' 16 16
/-- A lane block with its CRC. -/
def mkBlock (fseq ty : Nat) (payload : List Byte) : LaneBlock :=
  let bs := fitBytes 64 payload
  let w := leBytes 2 (fseq % 4096 + ty * 4096)
  { payload := BitVec.ofNat 512 (leNat bs), tail := BitVec.ofNat 32 (leNat w + (crc16 (bs ++ w)).toNat * 2 ^ 16) }

def State.weftT (s : State) (k : Nat) : WeftTx := Tab.get WeftTx.reset s.weftTx k
/-- A frame leaves transmit waveguide `wg` of a site at a rate in Gb/s on the lanes given by wavelength, each block
scrambled (R140, R163). -/
def State.frame (s : State) (site wg rate ty : Nat) (lanes : List Nat) (payload : List Byte) : State :=
  let k := site * 16 + wg
  let t := s.weftT k
  let out := ((List.range lanes.length).zip lanes).map fun (a, wl) =>
    let (b, st) := scramble (Tab.get 0 t.scr wl) (mkBlock t.fseq ty ((payload.drop (64 * a)).take 64)).bits 16
    (wl, BitVec.ofNat 544 b, st)
  let t := { fseq := (t.fseq + 1) % 4096, scr := out.foldl (fun m x => Tab.set 0 m x.1 x.2.2) t.scr }
  { s with weftTx := Tab.set WeftTx.reset s.weftTx k t,
           weftOut := s.weftOut ++ [(k, rate, out.map fun x => (x.1, x.2.1))] }
/-- Consecutive data frames that carry `bs` (R274). -/
def State.dataFrames (s : State) (site wg rate : Nat) (lanes : List Nat) (bs : List Byte) : Nat → State
  | 0 => s
  | n + 1 =>
    if bs = [] then s
    else (s.frame site wg rate 1 lanes (bs.take (64 * lanes.length))).dataFrames site wg rate lanes (bs.drop (64 * lanes.length)) n
/-- Bytes sent in data frames of their own, the idle frames that follow shown by one (log entry 84). -/
def State.sendFrames (s : State) (site wg rate : Nat) (lanes : List Nat) (bs : List Byte) : State :=
  if lanes = [] then s else (s.dataFrames site wg rate lanes bs bs.length).frame site wg rate 0 lanes []

/-! ## Circuits by waveguide (R135, R137, R163) -/

/-- Pair and stack of the standing circuit that ends at a receive waveguide, whether the pair receives, and the transmit
waveguide it comes from (R137). -/
def State.standFrom (s : State) (site wg : Nat) : Option (Bool × Nat × Nat × Nat) :=
  if site < 8 ∧ wg < 8 then
    ((List.range 64).find? fun i => s.standOut false i == 8 * site + wg).map fun i => (true, site, i / 8, (8 + i / 8) * 16 + i % 8)
  else if 8 ≤ site ∧ site < 16 ∧ wg < 8 then
    ((List.range 64).find? fun i => s.standOut true i == 8 * (site - 8) + wg).map fun i => (false, i / 8, site - 8, i / 8 * 16 + i % 8)
  else none
/-- The same without the waveguide. -/
def State.standAt (s : State) (site wg : Nat) : Option (Bool × Nat × Nat) :=
  (s.standFrom site wg).map fun x => (x.1, x.2.1, x.2.2.1)
/-- Transmit and receive waveguides, at site × 16 + waveguide, of the standing circuit from or to a pair and a stack. -/
def State.standWgs (s : State) (toPair : Bool) (p k : Nat) : Option (Nat × Nat) :=
  if toPair then
    ((List.range 8).find? fun w => s.standOut false (8 * k + w) / 8 == p).map fun w =>
      ((8 + k) * 16 + w, p * 16 + s.standOut false (8 * k + w) % 8)
  else
    ((List.range 8).find? fun w => s.standOut true (8 * p + w) / 8 == k).map fun w =>
      (p * 16 + w, (8 + k) * 16 + s.standOut true (8 * p + w) % 8)
/-- Active lanes between a transmit and a receive waveguide of a standing circuit (R163). -/
def State.standLanes (s : State) (tx rx : Nat) : List Nat :=
  let bad := s.endOut (tx / 16) (tx % 16) 0 ++ s.endOut (rx / 16) (rx % 16) 1
  (List.range 32).filter fun wl => !bad.contains wl
/-- A unit's bytes in frames on its standing circuit (R163, R297). -/
def State.circFrames (s : State) (toPair : Bool) (p k : Nat) (bs : List Byte) : State :=
  match s.standWgs toPair p k with
  | some (tx, rx) => s.sendFrames (tx / 16) (tx % 16) 64 (s.standLanes tx rx) bs
  | none => s
/-- Input, and the outputs that name it, of the phase circuit that ends at a receive waveguide in the slot in force. -/
def State.phaseFrom (s : State) (site wg : Nat) : Option (Nat × List Nat) :=
  match phaseOut site wg with
  | none => none
  | some o =>
    let slot := s.rf (LM_WEFT_GSTAT (o / 16)) LM_WEFT_GSTAT_CUR
    (s.outSrc slot o).map fun src =>
      (src, match s.part? (s.partOfPair (o / 16)) with | some p => s.namedBy p slot src | none => [o])
/-- Active lanes of the circuit that ends at a receive waveguide (R163). -/
def State.rxLanes (s : State) (site wg : Nat) : List Nat :=
  match s.standFrom site wg with
  | some (_, _, _, tx) => s.standLanes tx (site * 16 + wg)
  | none => match s.phaseFrom site wg with | some (src, outs) => s.activeLanes src outs | none => []

/-- A source sends eight pilot frames: TYPE 2, every payload byte its input's index (R164). -/
def State.pilot (s : State) (tx rate src : Nat) (lanes : List Nat) : State :=
  (List.range 8).foldl (fun s _ =>
    s.frame (tx / 16) (tx % 16) rate 2 lanes (List.replicate (64 * lanes.length) (BitVec.ofNat 8 src))) s
/-- The named sources of a slot send pilot frames. -/
def State.pilots (s : State) (p : Part) (slot : Nat) : State :=
  ((p.outs.filterMap fun o => s.outSrc slot o).eraseDups).foldl (fun s src =>
    let outs := s.namedBy p slot src
    s.pilot ((phaseAt src).1 * 16 + (phaseAt src).2) (rateOf outs.length) src (s.activeLanes src outs)) s
/-- Transmit and receive waveguides, at site × 16 + waveguide, of the circuit of a standing network's input (R137). -/
def State.standWay (s : State) (up : Bool) (i : Nat) : Nat × Nat :=
  let o := s.standOut up i
  if up then (i / 8 * 16 + i % 8, (8 + o / 8) * 16 + o % 8) else ((8 + i / 8) * 16 + i % 8, o / 8 * 16 + o % 8)
/-- The inputs of both standing networks send pilot frames. -/
def State.standPilots (s : State) : State :=
  [true, false].foldl (fun s up => (List.range 64).foldl (fun s i =>
    let w := s.standWay up i
    s.pilot w.1 64 i (s.standLanes w.1 w.2)) s) s
/-- Pair and stack of the standing circuits that fail a check (R164): some active lane toward the output of an input has no
measurement within the limits. A measurement names the network and its output. -/
def State.badStand (s : State) (ms : List (Bool × OutMeas)) : List (Nat × Nat) :=
  ([true, false].flatMap fun up => (List.range 64).filterMap fun i =>
    let w := s.standWay up i
    let o := s.standOut up i
    if (s.standLanes w.1 w.2).all fun wl => ms.any fun m =>
        m.1 == up && m.2.out.toNat == o && m.2.wl.toNat == wl && measOk false i m.2 then none
    else some (if up then (i / 8, o / 8) else (o / 8, i / 8))).eraseDups

end Sys2Proof.Machine
end

