-- ==== Sys2Proof/Machine/Bulk.lean ====
section
/-! DEFINITION. Bulk memory (R287 to R306): the line map, decoding, writes, standing circuits, scrub, remap, self-test,
fills and the checker. -/
namespace Sys2Proof.Machine

/-! ## Lines (R288, R289) -/

/-- Lines of a stack, the first reserved line, and the test lines. -/
def stackLines : Nat := 119304192
def reservedLine : Nat := 117440512
def isTestLine (n : Nat) : Bool := decide (reservedLine + 1081344 ≤ n) && decide (n < reservedLine + 1081408)
/-- Lines the stepping does not use (R289). -/
def isUnused (n : Nat) : Bool := decide (reservedLine + 1081408 ≤ n)
/-- Logical pseudo-channel, block address, die and row of a slot of a line (R288). -/
structure Place where
  q : Nat
  a : Nat
  die : Nat
  row : Nat
deriving DecidableEq, Repr
def placeOf (n k : Nat) : Place :=
  let i := 9 * (n % 64) + k
  let a := 9 * (n / 64) + i / 64
  { q := i % 64, a := a, die := i % 64 % 16, row := a / 16 }
/-- Byte offset at which a line's data is kept: package line 8n + k (R288). -/
def lineAddr (k n : Nat) : Nat := 512 * (8 * n + k)

/-! ## Decoding (R291, R292) -/

/-- What decoding a line gives: the outcome code, the correction of each codeword, and the slot a die-trial chose. -/
structure Decoded where
  code : Nat
  fix : List Sparse
  chosen : Option Nat
deriving DecidableEq, Repr

def clean4 (ws : List Sparse) : Bool := ws.all fun w => (gfBulk.synd 72 w).all (· == 0)
/-- Step 3: every codeword corrects. -/
def correct4 (ws : List Sparse) : Option (List Sparse) :=
  let l := ws.map (gfBulk.correct 72)
  if l.all Option.isSome then some (l.map fun o => o.getD []) else none
/-- A slot of each codeword decoded as erasures. -/
def erase4 (k : Nat) (ws : List Sparse) : List Sparse :=
  ws.map fun w => (gfBulk.erase 72 ((List.range 8).map (8 * k + ·)) w).filter fun p => p.2 ≠ 0
/-- The reads agree outside a slot (R292). -/
def agreeOutside (k : Nat) (a b : List Sparse) : Bool :=
  (List.zipWith (fun x y => (sparseAdd 72 x y).all fun p => p.1 / 8 == k) a b).all id

/-- The outcome of two reads (R291), the slot of an erased die, and the slots the probe finds suspect. A line with a slot
on the erased die is always RECONSTRUCTED, for reads ignore that slot (R293; log entry 80). -/
def decodeLine (first second : List Sparse) (erased : Bool) (slot : Option Nat) (suspect : BitVec 9) : Decoded :=
  let nofix := List.replicate 4 ([] : Sparse)
  match slot with
  | some k => ⟨1, erase4 k first, none⟩
  | none =>
    if clean4 first then ⟨0, nofix, none⟩
    else
      match correct4 first with
      | some f => ⟨2, f, none⟩
      | none =>
        if clean4 second then ⟨3, nofix, none⟩
        else
          match correct4 second with
          | some f => ⟨3, f, none⟩
          | none =>
            if erased then ⟨5, nofix, none⟩
            else
              match (List.range 9).filter (fun k => suspect.getLsbD k) with
              | [k] => if agreeOutside k first second then ⟨4, erase4 k second, some k⟩ else ⟨5, nofix, none⟩
              | _ => ⟨5, nofix, none⟩

/-- Errors of a read, by codeword. -/
def errWords (es : List SymErr) : List Sparse :=
  (List.range 4).map fun w => sparseAdd 72 ((es.filter fun e => e.w.val == w).map fun e => (e.x.val, e.e.toNat)) []
/-- Symbols corrected, as (codeword, symbol). -/
def Decoded.pos (d : Decoded) : List (Nat × Nat) :=
  ((List.range 4).zip d.fix).flatMap fun e => e.2.map fun p => (e.1, p.1)
/-- Slots with corrected symbols, or the chosen slot (R306). -/
def Decoded.slots (d : Decoded) : Nat :=
  match d.chosen with
  | some k => 2 ^ k
  | none => ((List.range 9).filter fun k => d.pos.any fun p => p.2 / 8 == k).foldl (fun m k => m + 2 ^ k) 0

/-- Slot of a line that lies on the stack's erased die. -/
def State.erasedSlot (s : State) (k n : Nat) : Option Nat :=
  match Tab.get 0 s.erasedDie k with
  | 0 => none
  | d + 1 => (List.range 9).find? fun i => (placeOf n i).die = d

/-- What decoding leaves wrong in the data of a line, by 16-byte block. -/
def residue (ws : List Sparse) (d : Decoded) : List (Nat × Nat) :=
  let l := (List.range 4).zip (List.zipWith (fun a b => sparseAdd 72 a b) ws d.fix)
  l.flatMap fun e => (e.2.filter fun p => p.1 < 64).map fun p => (4 * p.1 + e.1, p.2)
/-- Key of a line (R299): 0 none, else the partition's, or the reserve key. -/
def State.lineKey (s : State) (k n : Nat) : Nat :=
  if n < reservedLine then let o := s.regionOf (lineAddr k n); if o = 0 then 0 else 1 + Tab.get 0 s.bulkKeys o
  else if isTestLine n then 0 else 1 + Tab.get 0 s.bulkKeys 9
/-- The data of a line with a residue in its 16-bit words: the line is stored enciphered, and deciphered after decoding
(R299). -/
def applyResidue (key line : Nat) (data : List Byte) (res : List (Nat × Nat)) : List Byte :=
  if res = [] then data
  else
    (List.range 32).flatMap fun b =>
      let plain := leNat ((data.drop (16 * b)).take 16)
      let r := (res.filter fun p => p.1 / 8 == b).foldl (fun v p => v ^^^ (p.2 * 2 ^ (16 * (p.1 % 8)))) 0
      if r = 0 then leBytes 16 plain
      else if key = 0 then leBytes 16 (plain ^^^ r)
      else leBytes 16 (xtsDec (Config.bulkKey key) line b (xtsEnc (Config.bulkKey key) line b plain ^^^ r))

/-! ## Reads and writes of a line -/

/-- A die is erased (R293). -/
def State.eraseDie (s : State) (k die n : Nat) : State :=
  let s := { s with erasedDie := Tab.set 0 s.erasedDie k (die + 1) }
  let a := BM_STAT k
  let s := ((s.wf a BM_STAT_STATE 3).wf a BM_STAT_ERASED 1).wf a BM_STAT_EDIE die
  s.event 0x08 0x02 (unitOf 7 k) 0 0 die n (s.rget (BM_ECC_LAST k)).toNat

/-- Rows that qualify for remap when a line shows corrected symbols again (R301). -/
def State.qualify (s : State) (k n : Nat) (pos : List (Nat × Nat)) (back : Bool) : State :=
  let key := k * 2 ^ 27 + n
  let r := Tab.get CorrRec.none s.lastCorr key
  let at_ (l : List (Nat × Nat)) (i : Nat) := l.filter fun p => p.2 / 8 == i
  let same := (List.range 9).filter fun i => decide (at_ pos i ≠ []) && decide (at_ pos i = at_ r.pos i)
  let rows := if r.back ∧ s.tick - r.tick ≤ 1500000000 then same.map fun i => (k, (placeOf n i).q, (placeOf n i).row) else []
  let new := rows.filter fun x => !s.remapQual.contains x
  { s with lastCorr := Tab.set CorrRec.none s.lastCorr key { tick := s.tick, back := back, pos := pos },
           remapQual := s.remapQual ++ new }

/-- The outcome of a service line in the registers and the records (R291 to R294, R306). -/
def State.noteDecode (s : State) (k n : Nat) (d : Decoded) (scrub full : Bool) : State :=
  let c := BM_ECC_CNT k
  let s := s.lmEvc (siteOfStack k) 0 0x0F 1
  let s := match d.code with
    | 2 => (s.bump c BM_ECC_CNT_CORRECTED 1).lmEvc (siteOfStack k) 0 0x11 1
    | 3 => (s.bump c BM_ECC_CNT_REREADS 1).lmEvc (siteOfStack k) 0 0x11 1
    | 4 => s.bump c BM_ECC_CNT_DIETRIALS 1
    | 5 => s.bump c BM_ECC_CNT_UE 1
    | _ => s
  if d.code ≤ 1 then s
  else
    let w := n % 2 ^ 27 + d.code * 2 ^ 27 + d.slots * 2 ^ 30 + scrub.toNat * 2 ^ 39
    let s := s.rset (BM_ECC_LAST k) (BitVec.ofNat 64 w)
    match d.code with
    | 4 => s.eraseDie k (placeOf n (d.chosen.getD 0)).die n
    | 5 => s.event 0x08 0x01 (unitOf 7 k) (s.ctx (s.bulkOwner (lineAddr k n))) 0 0 n w
    | _ => s.qualify k n d.pos (!full)

/-- A line read and decoded (R291); `none` where it is uncorrectable. A line in the write buffer is served from there
(R296). `full`: the operation overwrites all eight granules. -/
def State.bulkRead (s : State) (k n : Nat) (e : DramRead) (scrub full : Bool) : Option (List Byte) × State :=
  let data := s.bytes (lineAddr k n) 512
  if s.writeBuf.contains (k, n) then (some data, s.lmEvc (siteOfStack k) 0 0x0F 1)
  else
    let first := errWords e.first
    let second := errWords e.second
    let d := decodeLine first second (Tab.get 0 s.erasedDie k ≠ 0) (s.erasedSlot k n) e.suspect
    let ws := if d.code ≤ 2 then first else second
    let out := applyResidue (s.lineKey k n) (8 * n + k) data (residue ws d)
    let s := s.noteDecode k n d scrub full
    if d.code = 5 then (none, s)
    else if 2 ≤ d.code ∧ !full ∧ out ≠ data then (some out, s.putBytes (lineAddr k n) out)
    else (some out, s)

/-- Granules of a mask laid over a line's data (R296). -/
def mergeGran (data : List Byte) (mask : BitVec 8) (gran : List Flit) : Nat → List Byte
  | 0 => []
  | g + 1 =>
    let i := 7 - g
    let old := (data.drop (64 * i)).take 64
    if mask.getLsbD i then
      match gran with
      | x :: r => leBytes 64 x.toNat ++ mergeGran data mask r g
      | [] => old ++ mergeGran data mask [] g
    else old ++ mergeGran data mask gran g

/-- Lines of a stack in its write buffer. -/
def State.bufCount (s : State) (k : Nat) : Nat := (s.writeBuf.filter fun e => e.1 = k).length
/-- The write buffer of a stack is full: no write is taken (R296). -/
def State.bufShut (s : State) (k : Nat) : Bool := decide (256 ≤ s.bufCount k)
/-- A line write (R294, R296): its status, or `none` while the write buffer is full. -/
def State.bulkPut (s : State) (k n : Nat) (mask : BitVec 8) (gran : List Flit) (e : DramRead) : Option Nat × State :=
  if s.bufShut k then (none, s)
  else
    let full := mask = BitVec.allOnes 8
    let (old, s) : Option (List Byte) × State :=
      if full then (some (List.replicate 512 0), s) else s.bulkRead k n e false false
    match old with
    | none => (some stMemUe, s)
    | some data =>
      let s := s.putBytes (lineAddr k n) (mergeGran data mask gran 8)
      let s := { s with writeBuf := if s.writeBuf.contains (k, n) then s.writeBuf else s.writeBuf ++ [(k, n)] }
      (some stOK, s.lmEvc (siteOfStack k) 0 0x10 1)

/-- A line the controllers use in service. -/
def lineOk (n : Nat) : Bool := decide (n < stackLines) && !isTestLine n && !isUnused n

def State.ctl (s : State) (k : Nat) : BulkCtl := Tab.get BulkCtl.reset s.bulkCtl k
def State.setCtl (s : State) (k : Nat) (c : BulkCtl) : State := { s with bulkCtl := Tab.set BulkCtl.reset s.bulkCtl k c }
/-- An internal access to an unused line is refused and counted as an error of the block that asks (R289). -/
def State.lineRefused (s : State) (k n : Nat) : State :=
  if isUnused n then s.setCtl k { s.ctl k with refused := (s.ctl k).refused + 1 } else s

/-- BULK_LINE_READ (R289, R291 to R295). -/
def execBulkLineRead (k : StackIx) (n : BitVec 27) (e : DramRead) (s : State) : Host.Outcome State Fault Refusal :=
  if lineOk n.toNat then .next (s.bulkRead k n.toNat e false false).2 else .next (s.lineRefused k n.toNat)
/-- BULK_WRITE (R289, R294, R296). -/
def execBulkWrite (k : StackIx) (n : BitVec 27) (mask : BitVec 8) (gran : List (BitVec 512)) (e : DramRead) (s : State) :
    Host.Outcome State Fault Refusal :=
  if !lineOk n.toNat then .next (s.lineRefused k n.toNat)
  else if mask ≠ 0 then .next (s.bulkPut k n.toNat mask gran e).2
  else .next s

/-! ## Standing circuits (R297, R298) -/

def uType (u : StandUnit) : Nat := nbits u.toNat 0 4
def uPart (u : StandUnit) : Nat := nbits u.toNat 4 4
def uMask (u : StandUnit) : BitVec 8 := BitVec.ofNat 8 (nbits u.toNat 8 8)
def uSeq (u : StandUnit) : Nat := nbits u.toNat 16 16
def uAseq (u : StandUnit) : Nat := nbits u.toNat 32 16
def uAvalid (u : StandUnit) : Bool := u.getLsbD 48
def uNvalid (u : StandUnit) : Bool := u.getLsbD 49
def uCrn (u : StandUnit) : Nat := nbits u.toNat 50 6
def uStatus (u : StandUnit) : Nat := nbits u.toNat 56 8
def uLine (u : StandUnit) : Nat := nbits u.toNat 64 27
def uTag (u : StandUnit) : Nat := nbits u.toNat 96 16
/-- A reserved UTYPE or a non-zero reserved bit (R297). -/
def uBad (u : StandUnit) : Bool := uType u == 0 || decide (uType u > 5) || nbits u.toNat 91 5 != 0 || nbits u.toNat 112 16 != 0
def mkUnit (ty part mask status line tag : Nat) : StandUnit :=
  BitVec.ofNat 128 (ty + part * 2 ^ 4 + mask * 2 ^ 8 + status * 2 ^ 56 + line * 2 ^ 64 + tag * 2 ^ 96)

def circKey (p k : Nat) : Nat := p * 8 + k
/-- The end of a circuit: the pair's or the controller's. -/
def State.end_ (s : State) (pair : Bool) (key : Nat) : CircEnd :=
  Tab.get CircEnd.reset (if pair then s.pairEnd else s.ctlEnd) key
def State.setEnd (s : State) (pair : Bool) (key : Nat) (c : CircEnd) : State :=
  if pair then { s with pairEnd := Tab.set CircEnd.reset s.pairEnd key c }
  else { s with ctlEnd := Tab.set CircEnd.reset s.ctlEnd key c }
def State.circDown (s : State) (p k : Nat) : Bool := (s.rf (BM_CIRC_STAT k) BM_CIRC_STAT_DOWN).testBit p

/-- The link fields of a unit an end sends, and the unit on its way (R297, R298). `count`: it takes a USEQ. -/
def State.sendUnit (s : State) (pair : Bool) (key : Nat) (u : StandUnit) (gran : List Flit) (count : Bool) : State :=
  let c := s.end_ pair key
  let crn := if pair then 0 else min (32 + c.spent) (32 + c.told + 31)
  let v := setBits u.toNat 16 16 (if count then c.seq else 0)
  let v := setBits (setBits v 32 16 ((c.next + 65535) % 65536)) 48 1 c.seen.toNat
  let u := BitVec.ofNat 128 (setBits v 50 6 (crn % 64))
  let c := if count then
      { c with seq := (c.seq + 1) % 65536, sent := c.sent ++ [{ useq := c.seq, hdr := u, gran := gran, tries := 1 }] } else c
  let c := { (if pair then c else { c with told := crn - 32 }) with owe := 0 }
  { s.setEnd pair key c with circOut := s.circOut ++ [(key, !pair, u, gran)] }.circFrames (!pair) (key / 8) (key % 8)
    (leBytes 16 u.toNat ++ flitBytes gran)

/-- The units of a MOVE that travel on a circuit and have no status yet end with one (R298, R318). -/
def State.moveUnit (s : State) (core ch slot i st : Nat) : State :=
  match s.desc? core ch slot with
  | none => s
  | some d =>
    let units := if (d.units.any fun e => e.1 = i) then d.units else Tab.set 0 d.units i (st + 1)
    let d' := { d with units := units }
    let s := s.updDesc core ch slot fun _ => d'
    if units.length ≥ d.len then
      let s := match d.tag with | some t => s.setTag (core * 32 + t) none | none => s
      s.descDone core ch slot (moveStatus d') 0 0
    else s

/-- What waits on a circuit at either end is given up. -/
def State.circDrop (s : State) (p k : Nat) : State :=
  let key := circKey p k
  let keep (e : Nat × EdgeLoad) : Bool := match e.2 with | .unitOut x _ _ => x != key | _ => true
  let edge := (List.range 2).foldl (fun t e =>
    let r := egressKey p (2 * k + e) true
    Tab.set [] t r ((Tab.get [] t r).filter keep)) s.edge
  let s := { (s.setEnd true key CircEnd.reset).setEnd false key CircEnd.reset with edge := edge }
  s.setCtl k { s.ctl k with wait := (s.ctl k).wait.filter fun u => u.pair ≠ p }
/-- A circuit fails (R298). -/
def State.circFail (s : State) (p k : Nat) : State :=
  let s := s.circDrop p k
  let a := BM_CIRC_STAT k
  let s := (s.bump a BM_CIRC_STAT_FAILS 1).wf a BM_CIRC_STAT_DOWN (s.rf a BM_CIRC_STAT_DOWN ||| 2 ^ p)
  let s := s.event 0x08 0x03 (unitOf 7 k) 0 0 p 0 (s.rget (BM_ECC_LAST k)).toNat
  (s.shch.filter fun e => e.1 / 1024 = p).foldl (fun s e =>
    e.2.inflight.foldl (fun s d =>
      if d.op = 0x12 ∧ d.status.isNone ∧ !d.coll then
        ((List.range d.sent).filter fun i => (d.addr / 512 + i) % 8 = k).foldl
          (fun s i => s.moveUnit (e.1 / 4) (e.1 % 4) d.slot i stPathDown) s
      else s) s) s
/-- A standing circuit passes its check and returns: both ends restart (R298). -/
def State.circUp (s : State) (p k : Nat) : State :=
  let key := circKey p k
  let a := BM_CIRC_STAT k
  let m := s.rf a BM_CIRC_STAT_DOWN
  if m.testBit p then
    ((s.setEnd true key CircEnd.reset).setEnd false key CircEnd.reset).wf a BM_CIRC_STAT_DOWN (m - 2 ^ p)
  else s

/-- An end resends every unacknowledged unit; a fifth sending fails the circuit (R298). -/
def State.resendAll (s : State) (pair : Bool) (p k : Nat) : State :=
  let key := circKey p k
  let c := s.end_ pair key
  if c.sent.any fun u => decide (u.tries ≥ 4) then s.circFail p k
  else
    let s1 := s.setEnd pair key { c with sent := c.sent.map fun u => { u with tries := u.tries + 1 } }
    let s1 := c.sent.foldl (fun s u =>
      { s with circOut := s.circOut ++ [(key, !pair, u.hdr, u.gran)] }.circFrames (!pair) p k
        (leBytes 16 u.hdr.toNat ++ flitBytes u.gran)) s1
    if pair then s1 else s1.bump (BM_CIRC_STAT k) BM_CIRC_STAT_RESENDS c.sent.length

/-- An end acts on the link fields of a unit it receives (R298). -/
def State.unitLink (s : State) (pair : Bool) (p k : Nat) (u : StandUnit) : State :=
  let key := circKey p k
  let c := s.end_ pair key
  let c := if uAvalid u then { c with sent := c.sent.filter fun x => !decide ((uAseq u + 65536 - x.useq) % 65536 < 32768) } else c
  let c := if pair then { c with got := c.got + (uCrn u + 128 - (32 + c.got) % 64) % 64 } else c
  let s := s.setEnd pair key c
  if uNvalid u then s.resendAll pair p k else s

/-- What an end does with a unit: drop it, discard it as a duplicate, or deliver it (R297, R298). -/
def State.unitIn (s : State) (pair : Bool) (p k : Nat) (u : StandUnit) (want : Nat) : Bool × State :=
  let key := circKey p k
  if s.circDown p k then (false, s)
  else if (s.end_ pair key).drop then (false, s)
  else if uBad u ∨ uType u ≠ want then
    (false, if pair then s else s.bump (BM_CIRC_STAT k) BM_CIRC_STAT_DISCARDS 1)
  else
    let s := s.unitLink pair p k u
    let c := s.end_ pair key
    let c := { c with owe := if c.owe = 0 then s.tick + 1 else c.owe }
    if s.circDown p k then (false, s)
    else if uSeq u = c.next then (true, s.setEnd pair key { c with next := (c.next + 1) % 65536, seen := true })
    else (false, if c.seen then s.setEnd pair key c else s)

/-- A controller has taken a command and grants its credit again. -/
def State.regrant (s : State) (key : Nat) : State :=
  let c := s.end_ false key
  s.setEnd false key { c with spent := c.spent + 1 }

/-- Status of a command unit before it is performed (R297). -/
def State.unitCheck (s : State) (k : Nat) (u : StandUnit) : Nat :=
  if uLine u ≥ reservedLine then stAddrInvalid
  else if s.bulkOwner (lineAddr k (uLine u)) ≠ uPart u ∨ uPart u = 0 then stAccessDenied
  else stOK

/-- A command taken by its controller: RD is answered with RDATA, WR with WACK (R294, R297). -/
def State.unitDo (s : State) (k : Nat) (x : UnitWait) : State :=
  let key := circKey x.pair k
  let u := x.hdr
  let rd : Bool := uType u == 1
  let s := (s.setCtl k { s.ctl k with last := 1 + x.pair }).regrant key
  let st := s.unitCheck k u
  let back (s : State) (st : Nat) (gran : List Flit) : State :=
    s.sendUnit false key (mkUnit (if rd then 3 else 4) 0 (uMask u).toNat st (uLine u) (uTag u)) gran true
  if st ≠ stOK then back s st []
  else if rd then
    match s.bulkRead k (uLine u) x.dram false false with
    | (none, s) => back s stMemUe []
    | (some data, s) =>
      back s stOK ((List.range 8).filterMap fun g =>
        if (uMask u).getLsbD g then some (BitVec.ofNat 512 (leNat ((data.drop (64 * g)).take 64))) else none)
  else
    let (st, s) := s.bulkPut k (uLine u) (uMask u) x.gran x.dram
    back s (st.getD stOK) []
/-- The controller can take a command at the head of its circuit: no write while the write buffer is full (R296). -/
def State.unitMay (s : State) (k : Nat) (x : UnitWait) : Bool := uType x.hdr == 1 || !s.bufShut k
/-- A command delivered in USEQ order is taken at once, or waits behind those of its circuit (R295, R296). -/
def State.unitTake (s : State) (k : Nat) (x : UnitWait) : State :=
  let c := s.ctl k
  if c.wait.all (fun y => y.pair ≠ x.pair) && s.unitMay k x then s.unitDo k x
  else s.setCtl k { c with wait := c.wait ++ [x] }

/-- RD (R295, R297). -/
def execRd (k : StackIx) (p : PairIx) (u : StandUnit) (e : DramRead) (s : State) : Host.Outcome State Fault Refusal :=
  match s.unitIn false p k u 1 with
  | (false, s) => .next s
  | (true, s) => .next (s.unitTake k ⟨p, u, [], e⟩)
/-- WR (R294 to R297). -/
def execWr (k : StackIx) (p : PairIx) (u : StandUnit) (gran : List (BitVec 512)) (e : DramRead) (s : State) :
    Host.Outcome State Fault Refusal :=
  match s.unitIn false p k u 2 with
  | (false, s) => .next s
  | (true, s) => .next (s.unitTake k ⟨p, u, gran, e⟩)

/-- The MOVE unit a returning unit belongs to: core, channel, ring slot and unit number (R318). -/
def State.unitOwner (s : State) (k : Nat) (u : StandUnit) : Option (Nat × Nat × Nat × Nat) :=
  let core := uTag u % 2048
  match s.tag? (core * 32 + uTag u / 2048) with
  | some t =>
    match s.desc? core t.ch t.slot with
    | some d =>
      let line := 8 * uLine u + k
      if t.move ∧ d.addr / 512 ≤ line ∧ line < d.addr / 512 + d.len then some (core, t.ch, t.slot, line - d.addr / 512) else none
    | none => none
  | none => none

/-- A returning unit comes out of the express input lanes at its core: RDATA lands at the line's local data, or the error
value does; WACK carries a status only (R318). -/
def State.unitLand (s : State) (k : Nat) (u : StandUnit) (gran : List Flit) : State :=
  match s.unitOwner k u with
  | none => s
  | some (c, ch, slot, i) =>
    let s := s.cdEvc c 0x14 (1 + gran.length)
    if uType u = 4 then s.moveUnit c ch slot i (uStatus u)
    else
      match s.desc? c ch slot with
      | none => s
      | some d =>
        match localOf c d.lcl with
        | none => s
        | some a =>
          let bs := if uStatus u = stOK then fitBytes 512 (flitBytes gran) else errBytes d.fmt 512
          match s.localWrite c ch slot (some (i + 2 ^ 20 * uStatus u)) (a.plus (512 * i)) bs with
          | (.written, s) => s.moveUnit c ch slot i (uStatus u)
          | (.waiting, s) => s
          | (.refused, s) => (s.moveUnit c ch slot i stNoZone).busError c ch stNoZone
/-- A returning unit crosses its edge port and waits at an express input lane of its core's cluster (R257, R298). -/
def State.unitQueue (s : State) (p k : Nat) (u : StandUnit) (gran : List Flit) : State :=
  let e := 2 * k + uLine u % 2
  s.edgePut (laneKeyOf (gclusterOf (uTag u % 2048)) (e % 4)) (e / 4) (.unitIn p k u gran)

/-- RDATA (R257, R318). -/
def execRdata (p : PairIx) (k : StackIx) (u : StandUnit) (gran : List (BitVec 512)) (s : State) :
    Host.Outcome State Fault Refusal :=
  match s.unitIn true p k u 3 with
  | (false, s) => .next s
  | (true, s) => .next (s.unitQueue p k u gran)

/-- WACK (R257, R297, R318). -/
def execWack (p : PairIx) (k : StackIx) (u : StandUnit) (s : State) : Host.Outcome State Fault Refusal :=
  match s.unitIn true p k u 4 with
  | (false, s) => .next s
  | (true, s) => .next (s.unitQueue p k u [])

/-- ACKONLY (R298): its link fields take effect, unless its receiver is dropping frames. -/
def execAckonly (p : PairIx) (k : StackIx) (toPair : Bool) (u : StandUnit) (s : State) : Host.Outcome State Fault Refusal :=
  if s.circDown p k ∨ (s.end_ toPair (circKey p k)).drop then .next s
  else if uBad u ∨ uType u ≠ 5 then
    .next (if toPair then s else s.bump (BM_CIRC_STAT k) BM_CIRC_STAT_DISCARDS 1)
  else .next (s.unitLink toPair p k u)

/-- STANDING_RESEND_TIMEOUT (R298). -/
def execStandingResendTimeout (p : PairIx) (k : StackIx) (byPair : Bool) (s : State) : Host.Outcome State Fault Refusal :=
  if (s.end_ byPair (circKey p k)).sent = [] then .next s else .next (s.resendAll byPair p k)

/-- STANDING_REPORT_REPEAT (R298): ACKONLY with NVALID = 1 while the end is dropping. -/
def State.standReport (s : State) (pair : Bool) (p k : Nat) : State :=
  s.sendUnit pair (circKey p k) (BitVec.ofNat 128 (5 + 2 ^ 49)) [] false
def execStandingReportRepeat (p : PairIx) (k : StackIx) (byPair : Bool) (s : State) : Host.Outcome State Fault Refusal :=
  if (s.end_ byPair (circKey p k)).drop then .next (s.standReport byPair p k) else .next s

/-! ## Background work (R300 to R303) -/

/-- An end that has owed an acknowledgement for 100 ns sends it in an ACKONLY (R298). -/
def State.standAck (s : State) (pair : Bool) (p k : Nat) : State :=
  let o := (s.end_ pair (circKey p k)).owe
  if o ≠ 0 ∧ o + 149 ≤ s.tick then s.sendUnit pair (circKey p k) (BitVec.ofNat 128 5) [] false else s
def State.standAcks (s : State) : State :=
  let s := s.pairEnd.foldl (fun s e => s.standAck true (e.1 / 8) (e.1 % 8)) s
  s.ctlEnd.foldl (fun s e => s.standAck false (e.1 / 8) (e.1 % 8)) s

/-- BULK_SCRUB (R300): one line, test lines excepted. -/
def execBulkScrub (k : StackIx) (e : DramRead) (s : State) : Host.Outcome State Fault Refusal :=
  let n := Tab.get 0 s.scrubLine k
  let s1 := (s.bulkRead k n e true false).2
  let nx := if isTestLine (n + 1) then reservedLine + 1081408 else n + 1
  if nx ≥ stackLines then
    let sec := (s.tick - Tab.get 0 s.scrubFrom k) / 1500000000
    let a := BM_SCRUB k
    let s1 := (s1.bump a BM_SCRUB_PASSES 1).wf a BM_SCRUB_PASS_S (min sec BM_SCRUB_PASS_S.max)
    .next { s1 with scrubLine := Tab.set 0 s1.scrubLine k 0, scrubFrom := Tab.set 0 s1.scrubFrom k s.tick }
  else .next { s1 with scrubLine := Tab.set 0 s1.scrubLine k nx }

/-- REMAP (R301). -/
def execRemap (k : StackIx) (q : BitVec 6) (row : BitVec 20) (s : State) : Host.Outcome State Fault Refusal :=
  if !s.remapQual.contains (k.val, q.toNat, row.toNat) then .next s
  else
    let s := { s with remapQual := s.remapQual.filter fun x => x ≠ (k.val, q.toNat, row.toNat) }
    let used := (List.range 16).filter fun r => s.rb (BM_REMAP k r) BM_REMAP_VALID
    let free := (List.range 16).find? fun r => !s.rb (BM_REMAP k r) BM_REMAP_VALID
    let spare := (List.range 4).find? fun i =>
      !s.badSpares.contains (k.val, q.toNat, i) &&
        !used.any fun r => s.rf (BM_REMAP k r) BM_REMAP_Q == q.toNat && s.rf (BM_REMAP k r) BM_REMAP_SPARE == i
    match free, spare with
    | some r, some i =>
      let w := BitVec.ofNat 64 (q.toNat + row.toNat * 2 ^ 6 + i * 2 ^ 26 + 2 ^ 28)
      let s := (s.rset (BM_REMAP k r) w).wf (BM_STAT k) BM_STAT_REMAPS (used.length + 1)
      .next { s with remapFlash := Tab.set 0 s.remapFlash (k * 16 + r) w }
    | _, _ => .next (s.raise (BM_STAT k) BM_STAT_REMAP_FULL 1)

def State.self (s : State) (k : Nat) : SelfRun := Tab.get SelfRun.none s.selfRun k
def State.setSelf (s : State) (k : Nat) (r : SelfRun) : State := { s with selfRun := Tab.set SelfRun.none s.selfRun k r }

/-- BULK_SELFTEST (R303): one piece of the hourly run. -/
def execBulkSelftest (k : StackIx) (ev : SelfEv) (s : State) : Host.Outcome State Fault Refusal :=
  let a := BM_SELFTEST k
  let r := s.self k
  let r := if r.on then r else { SelfRun.none with on := true, step := 1 }
  match ev with
  | .datapath ok =>
    if ok then .next (s.setSelf k { r with step := 2, yielded := false })
    else
      let s := (s.setSelf k { r with bad := 1, step := 2, yielded := false }).wf (BM_STAT k) BM_STAT_STATE 3
      .next (s.event 0x08 0x04 (unitOf 7 k) 0 0 0 0 (s.rget (BM_ECC_LAST k)).toNat)
  | .spare q row ok =>
    let x := (k.val, q.toNat, row.toNat)
    if ok || s.badSpares.contains x then .next (s.setSelf k { r with yielded := false })
    else
      let s := s.setSelf k { r with bad := if r.bad = 0 then 2 else r.bad, yielded := false }
      .next ({ s with badSpares := s.badSpares ++ [x] }.bump a BM_SELFTEST_BAD_SPARES 1)
  | .done =>
    let s := (s.setSelf k SelfRun.none).bump a BM_SELFTEST_RUNS 1
    let s := (s.wf a BM_SELFTEST_RESULT (if r.bad = 0 then 1 else 2)).wf a BM_SELFTEST_FAIL_STEP r.bad
    .next (s.wf a BM_SELFTEST_AGE_S 0)
  | .yields => .next (s.setSelf k { r with yielded := true })
  | .interrupted =>
    let s := ((s.setSelf k SelfRun.none).bump a BM_SELFTEST_INTERRUPTS 1).raise a BM_SELFTEST_WAS_INT 1
    .next (s.wf a BM_SELFTEST_RESULT 3)
/-- BULK_SELFTEST_RESUME (R303). -/
def execBulkSelftestResume (k : StackIx) (s : State) : Host.Outcome State Fault Refusal :=
  if (s.self k).on then .next (s.setSelf k { s.self k with yielded := false }) else .next s

/-! ## Fills (R302) -/

/-- Bytes of [lo, hi) cleared to zero data. -/
def State.zero (s : State) (lo hi : Nat) : State :=
  { s with mem := Tab.drop s.mem lo hi, ecc := Tab.drop s.ecc (lo / 8) (hi / 8) }
/-- The package fill ends (R302): every line zero under a new reserve key (R398), and the stacks that were filling are ready
or degraded. -/
def State.packageFill (s : State) : State :=
  let s := { s.zero 0 (2 ^ 48) with testLines := [], writeBuf := [], filled := true, lastCorr := [],
                                    bulkKeys := Tab.set 0 s.bulkKeys 9 (s.keySeq + 1), keySeq := s.keySeq + 1 }
  (List.range 8).foldl (fun s k =>
    if s.rf (BM_STAT k) BM_STAT_STATE = 1 then
      s.wf (BM_STAT k) BM_STAT_STATE (if Tab.get 0 s.erasedDie k = 0 then 2 else 3) else s) s

/-! ## Checker test mode (R305) -/

/-- The image buffer as bytes, and bytes put into it from byte `off` on. -/
def State.image (s : State) (k : Nat) : List Byte := (List.range 72).flatMap fun w => leBytes 8 (s.rget (BM_CHK_BUF k w)).toNat
def State.setImage (s : State) (k : Nat) (bs : List Byte) : State :=
  ((List.range 72).zip (chunksOf 8 72 bs)).foldl (fun s e => s.rset (BM_CHK_BUF k e.1) (BitVec.ofNat 64 (leNat e.2))) s
def State.testLine (s : State) (k t : Nat) : List Byte := Tab.get (List.replicate 576 0) s.testLines (k * 64 + t)
def State.setTestLine (s : State) (k t : Nat) (bs : List Byte) : State :=
  { s with testLines := Tab.set (List.replicate 576 0) s.testLines (k * 64 + t) (fitBytes 576 bs) }

/-- 16-bit word `i` of a byte string. -/
def word16 (bs : List Byte) (i : Nat) : Nat := leNat ((bs.drop (2 * i)).take 2)
/-- The codewords of an image: symbol x of codeword w is word 4x + w (R290). -/
def imageWords (img : List Byte) : List Sparse :=
  (List.range 4).map fun w => (List.range 72).filterMap fun x => let v := word16 img (4 * x + w); if v = 0 then none else some (x, v)
/-- An image's data with its check symbols computed (R290). -/
def encodeImage (img : List Byte) : List Byte :=
  let data := img.take 512
  let cs := (List.range 4).map fun w => gfBulk.check ((List.range 64).map fun x => word16 data (4 * x + w))
  data ++ (List.range 8).flatMap fun i => (List.range 4).flatMap fun w => leBytes 2 ((cs.getD w []).getD i 0)
/-- Words of an image as bytes. -/
def wordsImage (ws : List Sparse) : List Byte :=
  (List.range 72).flatMap fun x => (List.range 4).flatMap fun w =>
    leBytes 2 (((ws.getD w []).find? fun p => p.1 == x).map Prod.snd |>.getD 0)

/-- A checker operation is ignored while BUSY is 1; else TLINE takes the line's number. -/
def State.chk (s : State) (k t : Nat) (f : State → State) : Host.Outcome State Fault Refusal :=
  if s.rb (BM_CHK_RES k) BM_CHK_RES_BUSY then .next (s.raise (BM_CHK_RES k) BM_CHK_RES_IGNORED 1)
  else .next (f (s.wf (BM_CHK_CTL k) BM_CHK_CTL_TLINE t))

def State.chkWriteLine (s : State) (k t : Nat) : State := s.setTestLine k t (encodeImage (s.image k))
def State.chkWriteData (s : State) (k t : Nat) : State :=
  s.setTestLine k t ((s.image k).take 512 ++ (s.testLine k t).drop 512)
def State.chkWriteCheck (s : State) (k t : Nat) : State :=
  s.setTestLine k t ((s.testLine k t).take 512 ++ (s.image k).drop 512)
def State.chkWriteRaw (s : State) (k t : Nat) : State := s.setTestLine k t (s.image k)
def State.chkReadRaw (s : State) (k t : Nat) : State := s.setImage k (s.testLine k t)
/-- READ_DECODE (R305): the outcome in BM_CHK_RES, the decoded data in the image, nothing in the service counters. -/
def State.chkReadDecode (s : State) (k t : Nat) (e : DramRead) : State :=
  let add (ws es : List Sparse) : List Sparse := List.zipWith (fun a b => sparseAdd 72 a b) ws es
  let ws := imageWords (s.testLine k t)
  let first := add ws (errWords e.first)
  let second := add ws (errWords e.second)
  let n := reservedLine + 1081344 + t
  let erased := decide (Tab.get 0 s.erasedDie k ≠ 0)
  let d := decodeLine first second erased (s.erasedSlot k n) e.suspect
  let a := BM_CHK_RES k
  let probed := !erased && decide (4 ≤ d.code)
  let s := (s.wf a BM_CHK_RES_OUTCOME d.code).wf a BM_CHK_RES_SYMS (if d.code = 2 ∨ d.code = 3 then d.pos.length else 0)
  let s := s.wf a BM_CHK_RES_SUSPECT (if probed then e.suspect.toNat else 0)
  if d.code = 5 then s
  else
    let out := wordsImage (add (if d.code ≤ 2 then first else second) d.fix)
    s.setImage k (out.take 512 ++ (s.image k).drop 512)

/-- WRITE_LINE (R305). -/
def execWriteLine (k : StackIx) (t : BitVec 6) (s : State) : Host.Outcome State Fault Refusal :=
  s.chk k t.toNat fun s => s.chkWriteLine k t.toNat
/-- WRITE_DATA (R305). -/
def execWriteData (k : StackIx) (t : BitVec 6) (s : State) : Host.Outcome State Fault Refusal :=
  s.chk k t.toNat fun s => s.chkWriteData k t.toNat
/-- WRITE_CHECK (R305). -/
def execWriteCheck (k : StackIx) (t : BitVec 6) (s : State) : Host.Outcome State Fault Refusal :=
  s.chk k t.toNat fun s => s.chkWriteCheck k t.toNat
/-- WRITE_RAW (R305). -/
def execWriteRaw (k : StackIx) (t : BitVec 6) (s : State) : Host.Outcome State Fault Refusal :=
  s.chk k t.toNat fun s => s.chkWriteRaw k t.toNat
/-- READ_RAW (R305). -/
def execReadRaw (k : StackIx) (t : BitVec 6) (s : State) : Host.Outcome State Fault Refusal :=
  s.chk k t.toNat fun s => s.chkReadRaw k t.toNat
/-- READ_DECODE (R305). -/
def execReadDecode (k : StackIx) (t : BitVec 6) (e : DramRead) (s : State) : Host.Outcome State Fault Refusal :=
  s.chk k t.toNat fun s => s.chkReadDecode k t.toNat e

end Sys2Proof.Machine
end

