-- ==== Sys2Proof/Machine/Fabric.lean ====
section
/-! DEFINITION. Memory-semantic operations at their target and their requester (R206 to R239), the duplicate filter
(R228 to R231) and what waits at an endpoint (R82, R107, R223, R296). -/
namespace Sys2Proof.Machine

/-! ## Checks (R213, R221, R236) -/

/-- Width of an atomic TYPE in bytes; 0 for a reserved one (R214). -/
def atomWidth : Nat → Nat
  | 0 => 4 | 1 => 8 | 2 => 8 | 3 => 2 | 4 => 2 | 5 => 4 | _ => 0
def isAtomic (op : Nat) : Bool := decide (4 ≤ op) && decide (op ≤ 8)
/-- Bytes a request touches at ADDR. -/
def reqBytes (p : Pkt) : Nat := if isAtomic p.op then atomWidth (p.size % 16) else 64 * (p.size % 4 + 1)
/-- A reserved bit or byte of TXN is set (R218, R219, R221). -/
def txnReserved (p : Pkt) : Bool :=
  p.notify / 2 ^ 15 != 0 || p.rfl / 2 != 0 || p.t 0x17 1 != 0 || (p.cls == 1 && p.t 0x28 2 / 2 ^ 14 != 0)
/-- The reasons of OP_INVALID (R213). -/
def opInvalid (p : Pkt) : Bool :=
  let op := p.op
  let at_ := isAtomic op
  !(decide (1 ≤ op) && decide (op ≤ 8)) || (p.cls == 1 && op != 2) ||
    (if at_ then p.size / 16 != 0 || atomWidth (p.size % 16) == 0 || (op == 4 && decide (3 ≤ p.size % 16)) else p.size / 4 != 0) ||
    (!at_ && p.operand != 0) || (op != 7 && p.compare != 0) || (p.cls == 0 && op != 3 && p.dest != 0) ||
    (op != 1 && p.rfl % 2 != 0) || (op == 1 && (p.notify / 2 ^ 14) % 2 == 1)
/-- The knot a request notifies: global cluster and knot. -/
def notifyOf (p : Pkt) : Option (Nat × Nat) :=
  if p.notify / 2 ^ 14 % 2 = 1 then some (p.notify % 256, p.notify / 256 % 64) else none
/-- The status of an access of `n` bytes at an address before its endpoint is asked, in the order of R236. -/
def State.accessCheck (s : State) (addr n align : Nat) (domain : Nat) (nt : Option (Nat × Nat)) : Nat :=
  let off := offOf addr
  if spaceOf off = 3 ∨ !offValid off n ∨ s.ownerOf off n = 0 then stAddrInvalid
  else if off % align ≠ 0 then stAlign
  else
    let o := s.ownerOf off n
    let badKnot : Bool := match nt with | some (cl, _) => s.partOfPair (cl / 32) != o | none => false
    if domain = 0 ∨ domain ≠ s.domain o ∨ badKnot then stAccessDenied
    else
      match s.part? o with
      | some q => if q.state = .faulted then stTargetFaulted else stOK
      | none => stAddrInvalid
/-- Checks of a request before its endpoint is asked. A COPY's NOTIFY and DEST are checked where it writes (R216). -/
def State.reqCheck (s : State) (p : Pkt) : Nat :=
  if opInvalid p then stOpInvalid
  else
    let al := if isAtomic p.op then reqBytes p else 64
    let st := s.accessCheck p.addr (reqBytes p) al p.domain (if p.op = 3 then none else notifyOf p)
    if p.op = 3 ∧ p.dest % 64 ≠ 0 ∧ st ≠ stAddrInvalid then stAlign else st
/-- An ACCESS_DENIED is counted and recorded (R208, R217). -/
def State.denied (s : State) (site : Nat) (p : Pkt) : State :=
  (s.bump LM_MS_STAT2 LM_MS_STAT2_DENIED 1).event 0x04 0x02 (unitOf 4 site)
    (s.ctx (s.ownerOf (offOf p.addr) (reqBytes p))) stAccessDenied (p.tag / 2 ^ 11) p.addr p.detail

/-! ## Atomics (R214, R215) -/

/-- Signed value of `w` bytes. -/
def signedOf (w v : Nat) : Int := if v ≥ 2 ^ (8 * w - 1) then (v : Int) - (2 ^ (8 * w) : Nat) else v
def floatOf (ty : Nat) : FloatFmt := if ty = 3 then fmtFP16 else if ty = 4 then fmtBF16 else fmtFP32
/-- Minimum (or maximum) of two elements of a TYPE. -/
def atomPick (max : Bool) (ty a b : Nat) : Nat :=
  if ty = 2 then
    match decodeTally false a, decodeTally false b with
    | some x, some y => if decide (x < y) = max then b else a
    | _, _ => 2 ^ 63
  else if ty ≤ 1 then
    if decide (signedOf (atomWidth ty) a < signedOf (atomWidth ty) b) = max then b else a
  else
    let f := floatOf ty
    let x := f.decode a
    let y := f.decode b
    if x.isNaN || y.isNaN then f.qnan
    else if xlt true x y = max then b else a
/-- The new element and whether a TL64 step clamped. -/
def atomNew (op ty old operand compare : Nat) : Nat × Bool :=
  let m := 2 ^ (8 * atomWidth ty)
  let o := operand % m
  match op with
  | 4 =>
    if ty = 2 then
      let r := accumulate false (decodeTally false old) [decodeTally false o]
      (encodeTally false r.val, r.flags &&& flTSAT != 0)
    else ((old + o) % m, false)
  | 5 => (atomPick false ty old o, false)
  | 6 => (atomPick true ty old o, false)
  | 7 => (if old = compare % m then o else old, false)
  | _ => (o, false)

/-! ## Accesses at the endpoints -/

/-- Lines of a bulk byte range: stack, stack line, first byte and bytes within it. -/
def bulkPieces (b n : Nat) : List (Nat × Nat × Nat × Nat) :=
  let l0 := b / 512
  (List.range ((b + n - 1) / 512 - l0 + 1)).map fun i =>
    let l := l0 + i
    let lo := max b (512 * l)
    let hi := min (b + n) (512 * (l + 1))
    (l % 8, l / 8, lo - 512 * l, hi - lo)
/-- The lines of a range decoded, an empty list for a line that is written whole; `none` where one is uncorrectable
(R294). -/
def State.bulkLines (s : State) (wr : Bool) : List ((Nat × Nat × Nat × Nat) × DramRead) → Option (List (List Byte)) × State
  | [] => (some [], s)
  | ((k, n, _, len), e) :: r =>
    let (x, s) := if wr && len == 512 then (some [], s) else s.bulkRead k n e false false
    let (xs, s) := s.bulkLines wr r
    (x.bind fun x => xs.map (x :: ·), s)
/-- Decoded lines put into memory before a write merges into them (R296). -/
def State.keepLines (s : State) : List ((Nat × Nat × Nat × Nat) × List Byte) → State
  | [] => s
  | ((k, n, _, _), x) :: r => (if x = [] then s else s.putBytes (lineAddr k n) x).keepLines r
/-- Bytes of a bulk range as its lines decode (R291); `keep`: a write of them follows under the same lock (R295, R296). -/
def State.bulkFetch (s : State) (b n : Nat) (es : List DramRead) (keep : Bool) : Option (List Byte) × State :=
  let ps := bulkPieces b n
  match s.bulkLines false (ps.zip (es ++ List.replicate ps.length ⟨[], [], 0⟩)) with
  | (some xs, s) =>
    (some ((ps.zip xs).flatMap fun ((_, _, o, len), x) => (x.drop o).take len), if keep then s.keepLines (ps.zip xs) else s)
  | (none, s) => (none, s)
/-- Bytes stored, the lines entering the write buffers (R296). -/
def State.bulkStore (s : State) (b : Nat) (bs : List Byte) : State :=
  let s := s.putBytes b bs
  (bulkPieces b bs.length).foldl (fun s (k, n, _, _) =>
    { s with writeBuf := if s.writeBuf.contains (k, n) then s.writeBuf else s.writeBuf ++ [(k, n)] }.lmEvc (siteOfStack k) 0 0x10 1) s

/-- Bytes read at an offset: `none` for MEM_UE (R236). `keep`: a write follows under the same lock. -/
def State.fetch (s : State) (off n : Nat) (es : List DramRead) (keep : Bool) : Option (List Byte) × State :=
  match spaceOf off with
  | 1 => s.spRead (coreAt off) (off % 2 ^ 22) n
  | 2 => s.poolRead (clusterAt off) (off % 2 ^ 23) n
  | _ => s.bulkFetch (off % 2 ^ 48) n es keep
/-- Bytes written at an offset; `false` for MEM_UE in a partial bulk write (R294). -/
def State.store (s : State) (off : Nat) (bs : List Byte) (es : List DramRead) : Bool × State :=
  match spaceOf off with
  | 1 => (true, (s.putBytes off bs).cdEvc (coreAt off) 0x09 ((bs.length + 127) / 128))
  | 2 => (true, s.poolWrite (clusterAt off) (off % 2 ^ 23) bs)
  | _ =>
    let ps := bulkPieces (off % 2 ^ 48) bs.length
    match s.bulkLines true (ps.zip (es ++ List.replicate ps.length ⟨[], [], 0⟩)) with
    | (some xs, t) => (true, (t.keepLines (ps.zip xs)).bulkStore (off % 2 ^ 48) bs)
    | (none, t) => (false, t)
/-- A knot increment after a performed request (R217, R326). -/
def State.notifyKnot (s : State) (nt : Option (Nat × Nat)) : State :=
  match nt with
  | some (cl, k) => (s.knotAdd cl k 1).clEvc cl 0x12 1
  | none => s

/-! ## Waiting at the endpoint (R82, R107, R209, R223, R296) -/

/-- Channel of a request at its target: source node and class (R211, R228). -/
def filterKey (p : Pkt) : Nat := p.snode.toNat * 2 + p.cls % 2
/-- The endpoint that performs an access: a stack's controller, a landing port or a pool port (R209). -/
def endKey (off : Nat) : Nat :=
  match spaceOf off with
  | 1 => 2 ^ 20 + coreAt off
  | 2 => 2 ^ 21 + clusterAt off
  | _ => off % 2 ^ 48 / 512 % 8
/-- Lines of the landing buffer that an access of `n` bytes takes, and those in use; replies have their own store (R82). -/
def linesOf (off n : Nat) : Nat := (off % 128 + n + 127) / 128
def LandEnt.lines : LandEnt → Nat
  | .acc a => if a.reply then 0 else linesOf a.addr.toNat a.data.length
  | .req a => linesOf (offOf a.pk.addr) (reqBytes a.pk)
  | .dup a => linesOf (offOf a.pk.addr) (reqBytes a.pk)
  | .reply .. => 0
def landLines (l : List LandEnt) : Nat := (l.map LandEnt.lines).sum
/-- An access to a closed zone joins the landing buffer (R82). -/
def State.landHold (s : State) (c : Nat) (e : LandEnt) : State :=
  let k := s.core c
  (s.setCore c { k with lbuf := k.lbuf ++ [e] }).cdEvc c 0x0A 1
/-- A request joins those that wait outside their endpoint. -/
def State.stall (s : State) (e : LandEnt) : State := { s with stalled := s.stalled ++ [e] }
/-- The request of an entry belongs to a channel and an endpoint. -/
def LandEnt.ofChannel (k ep : Nat) : LandEnt → Bool
  | .req a => filterKey a.pk == k && endKey (offOf a.pk.addr) == ep
  | .dup a => filterKey a.pk == k && endKey (offOf a.pk.addr) == ep
  | _ => false
/-- An earlier request of the channel waits at the endpoint, so that this one may not overtake it (R223). -/
def State.behind (s : State) (p : Pkt) (off : Nat) : Bool :=
  let mine := LandEnt.ofChannel (filterKey p) (endKey off)
  s.stalled.any mine || (spaceOf off == 1 && (s.core (coreAt off)).lbuf.any mine)
/-- A write to bulk finds a write buffer full (R296). -/
def State.bufFull (s : State) (off n : Nat) : Bool :=
  spaceOf off == 0 && (bulkPieces (off % 2 ^ 48) n).any fun (k, _, _, _) => s.bufShut k
/-- Whether the endpoint can take an access now: refused for want of a zone, kept in the landing buffer until its turn,
kept outside the endpoint, or free (R82, R107, R209, R223, R296). -/
inductive Gate | refuse | wait (core : Nat) | stall | go
deriving DecidableEq, Repr
/-- The gate of an access of `n` bytes at an offset by a request; `wr`: it stores there at once. -/
def State.gate (s : State) (p : Pkt) (off n : Nat) (wr : Bool) : Gate :=
  let shut := s.behind p off
  match spaceOf off with
  | 1 =>
    let c := coreAt off
    match s.accessZone c (off % 2 ^ 22) n with
    | none => .refuse
    | some z =>
      if (s.zopen c).getLsbD z && !shut then .go
      else if landLines (s.core c).lbuf + linesOf off n ≤ 16 then .wait c
      else .stall
  | 2 => if shut || !s.portCan (clusterAt off) (off % 2 ^ 23) n wr then .stall else .go
  | _ => if shut || wr && s.bufFull off n then .stall else .go
/-- The gate of a request at its ADDR: an atomic of bulk stores at once, one of a pool reads first (R215). -/
def State.reqGate (s : State) (p : Pkt) : Gate :=
  s.gate p (offOf p.addr) (reqBytes p) (p.op == 2 || isAtomic p.op && spaceOf (offOf p.addr) == 0)

/-- A warp request is taken by a bulk controller, as the input served last (R295). -/
def State.warpTaken (s : State) (off : Nat) : State :=
  if spaceOf off = 0 then s.setCtl (endKey off) { s.ctl (endKey off) with last := 0 } else s

/-! ## Replies -/

/-- Own SEPOCH (R212). -/
def State.sepoch (s : State) : Nat := s.rf LM_MS_NODE LM_MS_NODE_SEPOCH
/-- Requester's node, TAG and SEQ of a REQ or FWD (R219). -/
def answerTo (p : Pkt) : Nat × Nat × Nat :=
  if p.cls = 1 then (p.t 0x28 2 % 2 ^ 14, p.t 0x2A 2, p.t 0x2C 4) else (p.snode.toNat, p.tag, p.seqNo)
/-- The reply of a request (R220), sent from the endpoint's site. -/
def State.reply (s : State) (a : Arrival) (status rflags value : Nat) (data : List Byte) : State :=
  let (node, tag, seq) := answerTo a.pk
  let txn := tag + status * 2 ^ 16 + rflags * 2 ^ 24 + seq * 2 ^ 32 + value % 2 ^ 64 * 2 ^ 64
  s.inject a.site a.ep.toNat (a.pk.f 40 4) true (mkPkt 2 txn (bytesFlits data) s.ownNode node)
/-- The FWD of a COPY (R219). -/
def State.sendFwd (s : State) (a : Arrival) (seq : Nat) (data : List Byte) : State :=
  let p := a.pk
  let txn := p.dest + 2 * 2 ^ 64 + p.size * 2 ^ 72 + seq * 2 ^ 96 + s.sepoch * 2 ^ 128 + p.domain * 2 ^ 144 +
    p.notify * 2 ^ 160 + (p.snode.toNat + p.tag * 2 ^ 16 + p.seqNo * 2 ^ 32) * 2 ^ 320
  s.inject a.site a.ep.toNat (p.f 40 4) true (mkPkt 1 txn (bytesFlits data) s.ownNode (nodeOf p.dest))

/-! ## The duplicate filter (R228 to R231) -/

def newer (m a b : Nat) : Bool :=
  let d := (a + 2 ^ m - b) % 2 ^ m
  decide (1 ≤ d) && decide (d ≤ 2 ^ (m - 1))
def older (m a b : Nat) : Bool := decide ((a + 2 ^ m - b) % 2 ^ m > 2 ^ (m - 1))
def State.fentry (s : State) (k : Nat) : Option FEntry := Tab.get none s.filter k
def State.setFentry (s : State) (k : Nat) (e : FEntry) : State := { s with filter := Tab.set none s.filter k (some e) }

/-- What the filter decides (R229). -/
inductive FDec | new | dup (r : FRec) | stale
deriving DecidableEq, Repr
/-- The decision on a SEPOCH and SEQ, and the entry as it then stands. -/
def filterDecide (e : Option FEntry) (epoch seq : Nat) : FDec × Option FEntry :=
  let fresh : FEntry := { epoch := epoch, hwm := seq, recs := [(seq, { status := none, rflags := 0, fwd := none })] }
  match e with
  | none => (.new, some fresh)
  | some x =>
    if newer 16 epoch x.epoch then (.new, some fresh)
    else if older 16 epoch x.epoch then (.stale, e)
    else if newer 32 seq x.hwm then
      let kept := x.recs.filter fun r => decide ((seq + 2 ^ 32 - r.1) % 2 ^ 32 < 256)
      (.new, some { x with hwm := seq, recs := kept ++ [(seq, { status := none, rflags := 0, fwd := none })] })
    else if (x.hwm + 2 ^ 32 - seq) % 2 ^ 32 < 256 then
      match x.recs.find? (fun r => r.1 = seq) with
      | some r => (.dup r.2, e)
      | none => (.new, some { x with recs := x.recs ++ [(seq, { status := none, rflags := 0, fwd := none })] })
    else (.stale, e)
/-- Result-cache entries whose SEQ has left the window are freed, those of an earlier use of the SEQ of a new request
among them (R231). -/
def State.trimAtoms (s : State) (k seq : Nat) : State :=
  match s.fentry k with
  | none => s
  | some e =>
    { s with atomRes := s.atomRes.filter fun r => r.key ≠ k || (r.seq != seq && e.recs.any fun x => x.1 == r.seq) }
/-- The record of a performed or refused request (R228). -/
def State.noteFilter (s : State) (p : Pkt) (f : FRec → FRec) : State :=
  if p.snode.toNat = s.ownNode then s
  else
    match s.fentry (filterKey p) with
    | none => s
    | some e => s.setFentry (filterKey p) { e with recs := e.recs.map fun r => if r.1 = p.seqNo then (r.1, f r.2) else r }
/-- An entry of the result cache; a full cache evicts the entry accepted earliest (R231). -/
def State.cacheAtom (s : State) (p : Pkt) (value : Nat) (rflags : Nat) : State :=
  if p.snode.toNat = s.ownNode then s
  else
    let r : AtomRes :=
      { key := filterKey p, seq := p.seqNo, value := BitVec.ofNat 64 value, status := stOK, rflags := rflags }
    { s with atomRes := (if s.atomRes.length ≥ 4096 then s.atomRes.drop 1 else s.atomRes) ++ [r] }
/-- A filter entry used: it is in the Loom, and another spills if the 512 places are full (R228). -/
def State.touchFilter (s : State) (k : Nat) : State :=
  let l := s.filterHot.filter (· ≠ k) ++ [k]
  { s with filterHot := if l.length > 512 then l.drop 1 else l }

/-! ## Performing a request -/

/-- Express flits into and out of the cluster that holds an offset (R115, R433). -/
def State.flitsIn (s : State) (off n : Nat) : State :=
  match spaceOf off with
  | 1 => s.cdEvc (coreAt off) 0x14 n
  | 2 => s.clEvc (clusterAt off) 0x14 n
  | _ => s
def State.flitsOut (s : State) (off n : Nat) : State :=
  match spaceOf off with
  | 1 => s.cdEvc (coreAt off) 0x15 n
  | 2 => s.clEvc (clusterAt off) 0x15 n
  | _ => s
/-- Errors that struck the memory at an offset (R62, R108). -/
def State.strikeAt (s : State) (off : Nat) (up : List Upset) : State :=
  match spaceOf off with
  | 1 => s.strikes (spBase (coreAt off) / 8) 393216 up
  | 2 => s.strikes (poolBase (clusterAt off) / 8) 1048576 up
  | _ => s
/-- MEM_UE at the target is recorded (R236). -/
def State.memUe (s : State) (a : Arrival) : State :=
  s.event 0x04 0x03 (unitOf 4 a.site) (s.ctx (s.ownerOf (offOf a.pk.addr) (reqBytes a.pk))) stMemUe (a.pk.tag / 2 ^ 11)
    a.pk.addr a.pk.detail

/-- A duplicate answered from memory, which its endpoint can read now (R230): a READ with its data, a COPY by its FWD. -/
def State.dupRead (s : State) (a : Arrival) (fwd : Option Nat) : State :=
  let p := a.pk
  match s.fetch (offOf p.addr) (reqBytes p) a.dram false with
  | (none, s) => (s.memUe a).reply a stMemUe 2 0 []
  | (some bs, s) =>
    match fwd with
    | some q => (s.seqAgain (chanKey (nodeOf p.dest) 1) q).sendFwd a q bs
    | none => s.reply a stOK 2 0 bs
/-- A duplicate that reads memory again meets the checks and the endpoint as the original did (R230; log entry 79). -/
def State.dupGate (s : State) (a : Arrival) (fwd : Option Nat) : State :=
  let st := s.reqCheck a.pk
  if st ≠ stOK then s.reply a st 2 0 []
  else
    match s.reqGate a.pk with
    | .refuse => s.reply a stNoZone 2 0 []
    | .wait c => s.landHold c (.dup a)
    | .stall => s.stall (.dup a)
    | .go => (s.warpTaken (offOf a.pk.addr)).dupRead a fwd
/-- The answer to a duplicate whose original's status is recorded (R230). -/
def State.dupAnswer (s : State) (a : Arrival) (r : FRec) : State :=
  let p := a.pk
  let s := (s.bump LM_MS_STAT1 LM_MS_STAT1_DUP_REQ 1).lmEvc a.site 0 0x0C 1
  let st := r.status.getD stOK
  if p.op = 1 then s.dupGate a none
  else if st ≠ stOK then s.reply a st (r.rflags % 2 + 2) 0 []
  else if isAtomic p.op then
    match s.atomRes.find? (fun x => x.key = filterKey p && x.seq = p.seqNo) with
    | some x => s.reply a x.status (x.rflags + 2) x.value.toNat []
    | none => (s.bump LM_MS_STAT1 LM_MS_STAT1_DUP_EXPIRED 1).reply a stDupExpired 2 0 []
  else
    match r.fwd with
    | none => s.reply a stOK (r.rflags % 2 + 2) 0 []
    | some q => s.dupGate a (some q)
/-- The FWD SEQ recorded for a request (R228). -/
def State.fwdOf (s : State) (p : Pkt) : Option Nat :=
  match s.fentry (filterKey p) with
  | some e => (e.recs.find? fun r => r.1 = p.seqNo).bind fun r => r.2.fwd
  | none => none

/-- The status of a request is recorded, and duplicates that waited for it are answered (R228, R229). -/
def State.noted (s : State) (p : Pkt) (status rflags : Nat) (fwd : Option Nat) : State :=
  let r : FRec := { status := some status, rflags := rflags, fwd := fwd }
  let s := s.noteFilter p fun _ => r
  if p.snode.toNat = s.ownNode then s
  else
    let mine (a : Arrival) : Bool := filterKey a.pk == filterKey p && a.pk.seqNo == p.seqNo
    let ds := s.dupHeld.filter mine
    ds.foldl (fun s a => s.dupAnswer a r) { s with dupHeld := s.dupHeld.filter fun a => !mine a }
/-- A request answered: its status recorded and its reply sent. -/
def State.answer (s : State) (a : Arrival) (status rflags value : Nat) (data : List Byte) : State :=
  (s.reply a status rflags value data).noted a.pk status rflags none

/-- The write of a COPY as a request of its own: a WRITE at DEST. -/
def copyWrite (a : Arrival) (data : List Byte) : Arrival :=
  let p := a.pk
  { a with pk := { (((p.setT 0 8 p.dest).setT 8 1 2).setT 0x28 8 0) with data := bytesFlits data }, up := [], dram := a.dram.drop 2 }
/-- The write of a COPY whose DEST lies on this node (R216). -/
def State.copyHere (s : State) (a : Arrival) (data : List Byte) : State :=
  let p := a.pk
  let st := s.accessCheck p.dest data.length 64 p.domain (notifyOf p)
  if st ≠ stOK then (if st = stAccessDenied then s.denied a.site p else s).answer a st 0 0 []
  else
    match s.gate p (offOf p.dest) data.length true with
    | .refuse => s.answer a stNoZone 0 0 []
    | .wait c => s.landHold c (.req (copyWrite a data))
    | .stall => s.stall (.req (copyWrite a data))
    | .go =>
      match s.store (offOf p.dest) data (a.dram.drop 2) with
      | (true, s) => (s.notifyKnot (notifyOf p)).answer a stOK 0 0 []
      | (false, s) => (s.memUe a).answer a stMemUe 0 0 []

/-- Bytes stored without reading the line again: an atomic's write (R215). -/
def State.storeOver (s : State) (off : Nat) (bs : List Byte) : State :=
  match spaceOf off with
  | 0 => s.bulkStore (off % 2 ^ 48) bs
  | 1 => (s.putBytes off bs).cdEvc (coreAt off) 0x09 1
  | _ => s.poolWrite (clusterAt off) (off % 2 ^ 23) bs

/-- The write of an atomic that has read its element, and its answer (R214, R215). -/
def State.atomWrite (s : State) (a : Arrival) (old : Nat) : State :=
  let p := a.pk
  let ty := p.size % 16
  let (new, sat) := atomNew p.op ty old p.operand p.compare
  let s := s.storeOver (offOf p.addr) (leBytes (atomWidth ty) new)
  let s := if sat then s.bump LM_MS_STAT1 LM_MS_STAT1_ATOM_SAT 1 else s
  ((s.cacheAtom p old sat.toNat).notifyKnot (notifyOf p)).answer a stOK sat.toNat old []
/-- An atomic that has read its element: a pool port writes it in a later bank beat (R215). -/
def State.atomic (s : State) (a : Arrival) (old : Nat) : State :=
  if spaceOf (offOf a.pk.addr) = 2 then
    let cl := clusterAt (offOf a.pk.addr)
    let k := s.pool cl
    s.setPool cl { k with atoms := k.atoms ++ [(a, old)] }
  else s.atomWrite a old

/-- A request that has passed its checks and whose endpoint can take it is performed (R213 to R217, R222). -/
def State.perform (s : State) (a : Arrival) : State :=
  let p := a.pk
  let off := offOf p.addr
  let n := reqBytes p
  let s := (s.strikeAt off a.up).flitsIn off p.flits
  if p.op = 2 then
    match s.store off (fitBytes n (flitBytes p.data)) a.dram with
    | (true, s) => ((s.notifyKnot (notifyOf p)).flitsOut off 1).answer a stOK 0 0 []
    | (false, s) => (s.memUe a).answer a stMemUe 0 0 []
  else
    match s.fetch off n a.dram (isAtomic p.op) with
    | (none, s) => (s.memUe a).answer a stMemUe 0 0 []
    | (some bs, s) =>
      let s := s.flitsOut off (if isAtomic p.op then 1 else 1 + (n + 63) / 64)
      if p.op = 1 then s.answer a stOK 0 0 bs
      else if p.op = 3 then
        if nodeOf p.dest = s.ownNode then s.copyHere a bs
        else
          let (q, s) := s.takeSeq (chanKey (nodeOf p.dest) 1)
          (s.sendFwd a q bs).noted p stOK 0 (some q)
      else s.atomic a (leNat bs)

/-! ## The control space (R347, R348) -/

/-- The bytes [o, o + n) lie in one area of the control space. -/
def ctlArea (o n : Nat) : Bool :=
  decide (o + n ≤ 0x1000) || o == 0x1000 || (decide (0x2000 ≤ o) && decide (o + n ≤ 0x3000)) || o == 0x3000 ||
    (o == 0x4000 && n == 64) || (o == 0x5000 && n == 64) || (decide (0x6000 ≤ o) && decide (o + n ≤ 0x7000))
/-- A WRITE the Heddle performs. -/
def isCtl (p : Pkt) : Bool :=
  spaceOf (offOf p.addr) == 3 && p.op == 2 && p.domain == 0xFFFF && ctlArea (offOf p.addr % 2 ^ 48) (reqBytes p)

/-- A request that has passed its checks is performed, waits, or finds no zone (R82, R107, R209, R223). -/
def State.meetEnd (s : State) (a : Arrival) : State :=
  match s.reqGate a.pk with
  | .refuse => s.answer a stNoZone 0 0 []
  | .wait c => s.landHold c (.req a)
  | .stall => s.stall (.req a)
  | .go => (s.warpTaken (offOf a.pk.addr)).perform a
/-- A waiting request meets its endpoint again. -/
def State.retry (s : State) : LandEnt → State
  | .req a => s.meetEnd a
  | .dup a => s.dupGate a (s.fwdOf a.pk)
  | _ => s
/-- Stack whose controller performs the request of an entry. -/
def LandEnt.stack : LandEnt → Option Nat
  | .req a | .dup a => if spaceOf (offOf a.pk.addr) = 0 then some (endKey (offOf a.pk.addr)) else none
  | _ => none
/-- The requests that wait outside a landing or pool port meet it again, in their order (R223). -/
def State.retryStalled (s : State) : State :=
  (s.stalled.filter fun e => e.stack.isNone).foldl State.retry { s with stalled := s.stalled.filter fun e => e.stack.isSome }

/-! ## The nine inputs of a bulk controller (R295) -/

/-- The oldest warp request that waits at a controller. -/
def State.warpHead (s : State) (k : Nat) : Option LandEnt := s.stalled.find? fun e => e.stack == some k
/-- The oldest command that waits from a pair. -/
def State.circHead (s : State) (k p : Nat) : Option UnitWait := (s.ctl k).wait.find? fun u => u.pair == p
/-- The warp request at the head of its input, taken; it stays where its stack still cannot take it. -/
def State.warpTurn (s : State) (k : Nat) : Option State :=
  match s.warpHead k with
  | none => none
  | some e =>
    let t : State := { s with stalled := s.stalled.erase e }
    let go : Bool := match e with
      | .req a => t.reqGate a.pk == .go
      | .dup a => t.reqGate a.pk == .go
      | _ => false
    if go then some (t.retry e) else none
/-- The operation of input `i` (0 warp, 1 + p the circuit of STp) is taken, if its head can be. -/
def State.inputTurn (s : State) (k i : Nat) : Option State :=
  if i = 0 then s.warpTurn k
  else
    match s.circHead k (i - 1) with
    | some x =>
      if s.unitMay k x then some ((s.setCtl k { s.ctl k with wait := (s.ctl k).wait.erase x }).unitDo k x) else none
    | none => none
/-- Waiting operations are taken one per turn, round-robin from the input after the one served last, until none can be. -/
def State.bulkServe (s : State) (k : Nat) : Nat → State
  | 0 => s
  | n + 1 =>
    match (List.range 9).findSome? fun i => s.inputTurn k (((s.ctl k).last + 1 + i) % 9) with
    | some t => t.bulkServe k n
    | none => s
/-- WRITE_BUFFER_DRAIN (R295, R296). -/
def execWriteBufferDrain (k : StackIx) (n : BitVec 27) (s : State) : Host.Outcome State Fault Refusal :=
  let s := { s with writeBuf := s.writeBuf.filter fun e => e ≠ (k.val, n.toNat) }
  .next (s.bulkServe k (s.stalled.length + (s.ctl k).wait.length))

/-- A request that the filter or the local order lets through meets its target's checks (R209, R236). -/
def State.serve (s : State) (a : Arrival) : State :=
  let p := a.pk
  if !opInvalid p && isCtl p && offOf p.addr % 64 = 0 then
    (s.putBytes (offOf p.addr) (fitBytes (reqBytes p) (flitBytes p.data))).answer a stOK 0 0 []
  else
    let st := s.reqCheck p
    if st ≠ stOK then (if st = stAccessDenied then s.denied a.site p else s).answer a st 0 0 []
    else
      s.meetEnd a

/-! ## Arrival -/

/-- The filter's decision on a request whose entry is in reach (R229). -/
def State.decide_ (s : State) (a : Arrival) : State :=
  let k := filterKey a.pk
  let (d, e) := filterDecide (s.fentry k) a.pk.sepoch a.pk.seqNo
  match d with
  | .stale => s.bump LM_MS_STAT0 LM_MS_STAT0_STALE_DROP 1
  | .new => (({ s with filter := Tab.set none s.filter k e }.touchFilter k).trimAtoms k a.pk.seqNo).serve a
  | .dup r =>
    let s := s.touchFilter k
    if r.status.isSome then s.dupAnswer a r else { s with dupHeld := s.dupHeld ++ [a] }
/-- Its endpoint cannot take the request now: it stays in the endpoint's queue (R82, R107, R296). -/
def State.endFull (s : State) (p : Pkt) : Bool :=
  decide (s.reqCheck p = stOK) &&
    (s.reqGate p == .stall || p.op == 3 && nodeOf p.dest == s.ownNode && s.gate p (offOf p.dest) (reqBytes p) true == .stall)

/-- A request arrives at its endpoint (R221, R228, R229, R250). -/
def State.arrive (s : State) (a : Arrival) : State :=
  let p := a.pk
  if txnReserved p then (s.takeEp a.site a.ep.toNat p).bump LM_MS_STAT2 LM_MS_STAT2_MALFORMED_TXN 1
  else if s.endFull p then s
  else
    let s := s.takeEp a.site a.ep.toNat p
    if p.snode.toNat = s.ownNode ∧ p.cls = 0 then
      if s.mustWait (localKey a.site 0) p.seqNo then
        { s.bump LM_RT_STAT LM_RT_STAT_ORDER_HOLDS 1 with localHeld := s.localHeld ++ [a] }
      else (s.passed (localKey a.site 0) p.seqNo).serve a
    else
      let k := filterKey p
      if (s.fentry k).isSome ∧ !s.filterHot.contains k then
        { s.bump LM_MS_STAT1 LM_MS_STAT1_FILTER_FILLS 1 with coldHeld := s.coldHeld ++ [a] }
      else s.decide_ a

/-- The command of a row: an arrival of class `cls` whose OP is the row's, or a reserved one. -/
def State.arriveOp (s : State) (a : Arrival) (cls op : Nat) : State :=
  if a.pk.cls = cls ∧ (a.pk.op = op ∨ a.pk.op = 0 ∨ 8 < a.pk.op) then s.arrive a else s

/-- READ (R213, R222, R230). -/
def execRead (a : Arrival) (s : State) : Host.Outcome State Fault Refusal := .next (s.arriveOp a 0 1)
/-- WRITE (R213, R217, R347). -/
def execWrite (a : Arrival) (s : State) : Host.Outcome State Fault Refusal := .next (s.arriveOp a 0 2)
/-- COPY (R216). -/
def execCopy (a : Arrival) (s : State) : Host.Outcome State Fault Refusal := .next (s.arriveOp a 0 3)
/-- ADD (R214, R215). -/
def execAdd (a : Arrival) (s : State) : Host.Outcome State Fault Refusal := .next (s.arriveOp a 0 4)
/-- MIN (R214, R215). -/
def execMin (a : Arrival) (s : State) : Host.Outcome State Fault Refusal := .next (s.arriveOp a 0 5)
/-- MAX (R214, R215). -/
def execMax (a : Arrival) (s : State) : Host.Outcome State Fault Refusal := .next (s.arriveOp a 0 6)
/-- CAS (R214, R215). -/
def execCas (a : Arrival) (s : State) : Host.Outcome State Fault Refusal := .next (s.arriveOp a 0 7)
/-- SWAP (R214, R215). -/
def execSwap (a : Arrival) (s : State) : Host.Outcome State Fault Refusal := .next (s.arriveOp a 0 8)
/-- FWD_WRITE (R219). -/
def execFwdWrite (a : Arrival) (s : State) : Host.Outcome State Fault Refusal := .next (s.arriveOp a 1 2)

/-- FILTER_FILL (R228): the entry of a source and class returns to the Loom, and the requests that waited are decided. -/
def execFilterFill (node : BitVec 14) (fwd : Bool) (s : State) : Host.Outcome State Fault Refusal :=
  let k := node.toNat * 2 + fwd.toNat
  let mine (a : Arrival) : Bool := filterKey a.pk == k
  let s1 := { s with coldHeld := s.coldHeld.filter fun a => !mine a }
  if (s.fentry k).isSome then .next ((s.coldHeld.filter mine).foldl State.decide_ (s1.touchFilter k)) else .next s

/-! ## The requester (R222, R225, R227, R233 to R235, R389) -/

/-- A reply from a node ends its run of timeouts (R389). -/
def State.peerOk (s : State) (n : Nat) : State := { s with peerMiss := Tab.set 0 s.peerMiss n 0 }
/-- A node is marked dead (R238). -/
def State.markDead (s : State) (n : Nat) (b : Bool) : State :=
  let a := LM_MS_DEAD (n / 64)
  let s := s.rset a (BitVec.ofNat 64 (setBits (s.rget a).toNat (n % 64) 1 b.toNat))
  if b then { s with peerMiss := Tab.set 0 s.peerMiss n 0 }.nodeMarked n else s
/-- A request to another node ended with TIMEOUT; at LIMIT the node is marked (R389). -/
def State.peerTimeout (s : State) (site n : Nat) : State :=
  let k := Tab.get 0 s.peerMiss n + 1
  let lim := s.rf HD_PEER_CTL HD_PEER_CTL_LIMIT
  if s.nodeDead n then s
  else if lim ≠ 0 ∧ k ≥ lim then
    ((s.markDead n true).event 0x04 0x07 (unitOf 4 site) 0 0 0 n 0).bump HD_PEER_CTL HD_PEER_CTL_MARKED 1
  else { s with peerMiss := Tab.set 0 s.peerMiss n k }

/-- Space of a cached READ that the remote read cache may serve (R225). -/
def cacheable (own addr : Nat) : Bool := nodeOf addr != own && (spaceOf (offOf addr) == 0 || spaceOf (offOf addr) == 2)
/-- An OK reply to a cached READ fills its lines, but those an invalidation covered meanwhile (R225, R227). -/
def State.rrcFill (s : State) (k : Nat) (t : Tag) (data : List Flit) : State :=
  let part := s.partOfCore (k / 32)
  if t.pk.op = 1 ∧ t.pk.rfl % 2 = 1 ∧ cacheable s.ownNode t.pk.addr then
    ((List.range data.length).zip data).foldl (fun s (i, d) =>
      let l := t.pk.addr / 64 + i
      if t.nofill.contains l then s
      else s.rrcPut (pairOf (k / 32)) { part := part, gen := Tab.get 0 s.rrcGen part, line := l, data := d }) s
  else s

/-- A reply to a core's request (R222, R235). -/
def State.coreReply (s : State) (pk : Pkt) : State :=
  let c := pk.rTag % 2048
  let k := c * 32 + pk.rTag / 2048
  match s.tag? k with
  | none => s.bump LM_MS_STAT0 LM_MS_STAT0_LATE_RSP 1
  | some t =>
    if t.quar ∨ t.move ∨ t.seq ≠ pk.rSeq then s.bump LM_MS_STAT0 LM_MS_STAT0_LATE_RSP 1
    else
      let s := if pk.rStatus = stOK then s.rrcFill k t pk.data else s
      (s.cdEvc c 0x14 pk.flits).tagDone k pk.rStatus pk.rValue (flitBytes pk.data) false
/-- A request of the Heddle is complete, or its time is up: `keep` leaves it quarantined (R233, R347). -/
def State.hdDone (s : State) (q : HdReq) (keep : Bool) : State :=
  let l := if keep then s.hdReqs.map fun x => if x = q then { x with quar := true } else x else s.hdReqs.erase q
  { s with hdReqs := l }.passed (chanKey q.node 0) q.seq
/-- A reply to a request of the Heddle (R235, R347). -/
def State.hdReply (s : State) (pk : Pkt) : State :=
  match s.hdReq? pk with
  | some q => if q.quar then s.bump LM_MS_STAT0 LM_MS_STAT0_LATE_RSP 1 else s.hdDone q false
  | none => s.bump LM_MS_STAT0 LM_MS_STAT0_LATE_RSP 1

/-- RSP_RECEIVE (R221, R222, R235): at the core its TAG names, or at MS0 EP1 (R347). -/
def execRspReceive (pk : Pkt) (s : State) : Host.Outcome State Fault Refusal :=
  let c := pk.rTag % 2048
  if pk.cls ≠ 2 then .next s
  else
    let hd : Bool := pk.dsite == 8 && pk.dep == 1
    let s := if hd then s.takeEp 8 1 pk else s.takeEp (pairOf c) (dieOf c) pk
    if pk.t 3 1 / 4 ≠ 0 ∨ pk.t 0x10 32 ≠ 0 then .next (s.bump LM_MS_STAT2 LM_MS_STAT2_MALFORMED_TXN 1)
    else
      let s := if pk.snode.toNat = s.ownNode then s else s.peerOk pk.snode.toNat
      .next (if hd then s.hdReply pk else s.coreReply pk)

/-- The outstanding request of the Heddle to a node with a SEQ. -/
def State.hdFind (s : State) (node seq : Nat) : Option HdReq := s.hdReqs.find? fun q => q.node = node && q.seq = seq && !q.quar
/-- REISSUE (R233): once, for a remote request, with the same content. -/
def execReissue (q : Requester) (s : State) : Host.Outcome State Fault Refusal :=
  match q with
  | .core c slot =>
    let k := c.val * 32 + slot.val
    match s.tag? k with
    | none => .next s
    | some t =>
      if t.quar ∨ t.move ∨ t.unsent ∨ t.reissued ∨ t.site.isSome then .next s
      else
        let s := (s.setTag k (some { t with reissued := true })).bump LM_MS_STAT0 LM_MS_STAT0_REISSUES 1
        .next ((s.seqAgain t.key t.seq).inject (pairOf c) (dieOf c) (clusterOf c) true t.pk)
  | .heddle node seq =>
    match s.hdFind node.toNat seq.toNat with
    | none => .next s
    | some q =>
      if q.reissued then .next s
      else
        let s := { s with hdReqs := s.hdReqs.map fun x => if x = q then { x with reissued := true } else x }
        .next (((s.bump LM_MS_STAT0 LM_MS_STAT0_REISSUES 1).seqAgain (chanKey q.node 0) q.seq).inject 8 1 0 true q.pk)

/-- TIMEOUT (R233, R389). -/
def execTimeout (q : Requester) (s : State) : Host.Outcome State Fault Refusal :=
  match q with
  | .core c slot =>
    let k := c.val * 32 + slot.val
    match s.tag? k with
    | none => .next s
    | some t =>
      if t.quar ∨ t.move ∨ t.unsent then .next s
      else
        let s := s.bump LM_MS_STAT0 LM_MS_STAT0_TIMEOUTS 1
        let s := s.event 0x04 0x01 (unitOf 1 c) (s.ctx (s.partOfCore c)) stTimeout slot t.pk.addr t.pk.detail
        let s := s.tagDone k stTimeout 0 [] true
        .next (if t.site.isSome then s else s.peerTimeout (pairOf c) t.node)
  | .heddle node seq =>
    match s.hdFind node.toNat seq.toNat with
    | none => .next s
    | some q =>
      let s := s.bump LM_MS_STAT0 LM_MS_STAT0_TIMEOUTS 1
      let s := s.event 0x04 0x01 (unitOf 0 0) 0 stTimeout 0 q.pk.addr q.pk.detail
      .next ((s.hdDone q true).peerTimeout 8 q.node)

/-- QUARANTINE_END (R233). -/
def execQuarantineEnd (q : Requester) (s : State) : Host.Outcome State Fault Refusal :=
  match q with
  | .core c slot =>
    let k := c.val * 32 + slot.val
    match s.tag? k with
    | some t => .next (if t.quar then s.setTag k none else s)
    | none => .next s
  | .heddle node seq =>
    .next { s with hdReqs := s.hdReqs.filter fun q => !(q.quar && q.node == node.toNat && q.seq == seq.toNat) }

/-- The first held request of a channel that has to wait no longer. -/
def State.releaseOne (s : State) (k : Nat) : State :=
  match s.orderHeld.find? (fun e => chanKey e.2.dnode.toNat e.2.cls == k && !s.mustWait k e.2.seqNo) with
  | some (q, p) => ({ s with orderHeld := s.orderHeld.erase (q, p) }.passed k p.seqNo).toEp (q / 8) (q % 8) p
  | none => s
def State.releaseAll (s : State) (k : Nat) : Nat → State
  | 0 => s
  | n + 1 => (s.releaseOne k).releaseAll k n
/-- The first held local request that has to wait no longer is served. -/
def State.localOne (s : State) : State :=
  match s.localHeld.find? (fun a => !s.mustWait (localKey a.site 0) a.pk.seqNo) with
  | some a => ({ s with localHeld := s.localHeld.erase a }.passed (localKey a.site 0) a.pk.seqNo).serve a
  | none => s
def State.localAll (s : State) : Nat → State
  | 0 => s
  | n + 1 => s.localOne.localAll n

/-- ORDER_HOLD_RELEASE (R250): the held requests of a channel go on, in SEQ order; those of the own node are performed
at their sites. -/
def execOrderHoldRelease (node : BitVec 14) (fwd : Bool) (s : State) : Host.Outcome State Fault Refusal :=
  if node.toNat = s.ownNode then .next (s.localAll s.localHeld.length)
  else .next (s.releaseAll (chanKey node.toNat fwd.toNat) s.orderHeld.length)

end Sys2Proof.Machine
end

