-- ==== Sys2Proof/Machine/Weave.lean ====
section
/-! DEFINITION. Packets on the warp plane (R128 to R132, R252 to R254) and phase switches (R141 to R143). -/
namespace Sys2Proof.Machine

/-- Credits a site holds for a virtual channel toward another: four reserved flits, and those returned (R252, R254). -/
def WarpTx.avail (t : WarpTx) (v : Nat) : Nat := 4 + Tab.get 0 t.got v - Tab.get 0 t.spent v
/-- Credits a receiving site owes in all: twelve of the shared region, and the flits delivered (R252; log entry 12). -/
def WarpRx.owed (r : WarpRx) (v : Nat) : Nat := 12 + Tab.get 0 r.freed v

/-- A packet is accepted into the queue: it takes the next PSEQ and spends its credits (R131, R252). -/
def WarpTx.enqueue (t : WarpTx) (o : WOffer) : WarpTx :=
  { t with queue := t.queue ++ [(t.seq, o)], seq := (t.seq + 1) % 4096,
           spent := Tab.set 0 t.spent o.pk.vc (Tab.get 0 t.spent o.pk.vc + o.pk.flits) }
/-- The offers that have their credits and stand behind none of their virtual channel that has not (R242, R252). -/
def WarpTx.ready (t : WarpTx) : List Nat → List WOffer → List WOffer
  | _, [] => []
  | shut, o :: r =>
    if shut.contains o.pk.vc then t.ready shut r
    else if o.pk.flits ≤ t.avail o.pk.vc then o :: t.ready shut r
    else t.ready (o.pk.vc :: shut) r
/-- The offer to accept next: where two endpoints of the site have one, not that of the endpoint whose packet was accepted
last (R125; log entry 78). -/
def WarpTx.choice (t : WarpTx) : Option WOffer :=
  let l := t.ready [] t.offer
  match l.find? fun o => o.pk.f 29 3 ≠ t.last with
  | some o => some o
  | none => l.head?
/-- Packets are accepted while a virtual channel has credits (R252). -/
def WarpTx.accept (t : WarpTx) : Nat → WarpTx
  | 0 => t
  | n + 1 =>
    match t.choice with
    | none => t
    | some o => WarpTx.accept ({ t with offer := t.offer.erase o, last := o.pk.f 29 3 }.enqueue o) n

/-- The virtual channel a flit names, and the count it announces: at most 10 more than the last (R254). -/
def WarpRx.announce (r : WarpRx) : Nat × Nat :=
  let due := (List.range 8).map fun i => (r.turn + 1 + i) % 8
  let v := (due.find? fun v => Tab.get 0 r.told v ≠ r.owed v).getD r.turn
  (v, min (r.owed v) (Tab.get 0 r.told v + 10))

/-- The credit and acknowledgement fields of a flit from site `a` to site `d`, and what the receiver has said (R129). -/
def State.linkFields (s : State) (a d : Nat) (p : Pkt) : Pkt × State :=
  let r := s.rx (siteKey a d)
  let (v, n) := r.announce
  let p := ((p.setF 48 2 (v / 2)).setF 50 1 (v % 2)).setF 51 5 (n % 32)
  let p := (p.setF 56 12 ((r.next + 4095) % 4096)).setF 68 1 r.seen.toNat
  let p := match r.nak with
    | some wg => ((p.setF 69 12 r.next).setF 81 1 1).setF 82 4 wg
    | none => ((p.setF 69 12 0).setF 81 1 0).setF 82 4 0
  (p, s.setRx (siteKey a d) { r with owe := false, nak := none, told := Tab.set 0 r.told v n, turn := v })

/-- The first waveguide, upward from `start`, whose lane is unmasked, not busy and in service (R128, R151, R170). -/
def State.freeLane (s : State) (a d start : Nat) (busy : BitVec 16) (avoid : Option Nat) : Option Nat :=
  let m := s.maskOf a d
  let l := ((List.range 16).map fun i => (start + i) % 16).filter fun k =>
    !m.testBit k && !busy.getLsbD k && decide ((s.lane (warpLane a d k)).out = 0)
  match avoid with
  | none => l.head?
  | some w => match l.find? (· ≠ w) with | some k => some k | none => l.head?

/-- A packet leaves on a waveguide. -/
def State.emitWarp (s : State) (a d k pseq : Nat) (p : Pkt) : State :=
  let (p, s) := s.linkFields a d (p.setF 0 12 pseq)
  let s := { s with warpOut := s.warpOut ++ [(siteKey a d, k, p.sealed)] }
  (s.lmEvc a 0 0x02 1).lmEvc a 0 0x04 p.flits

/-- WARP_PACKET_SEND (R128, R131, R132, R252): a replay that is due, else the head of the queue within the bounds on
unacknowledged traffic, on a free lane. Light hold pauses the queue (R167). -/
def execWarpPacketSend (a d : SiteIx) (busy : BitVec 16) (s : State) : Host.Outcome State Fault Refusal :=
  let k := siteKey a d
  if s.lightHold || s.isDown a d || a == d then .next s
  else
    let t := (s.tx k).accept (s.tx k).offer.length
    match t.sent.find? WSent.again with
    | some w =>
      match s.freeLane a d w.off.start busy (some w.last) with
      | none => .next (s.setTx k t)
      | some wg =>
        let sent := t.sent.filter (fun x => decide (x.pseq ≠ w.pseq)) ++ [{ w with again := false, tries := w.tries + 1, last := wg }]
        let s := s.setTx k { t with sent := sent }
        .next (((s.bump (LM_WARP_STAT a) LM_WARP_STAT_REPLAYS 1).lmEvc a 0 0x05 1).emitWarp a d wg w.pseq w.off.pk)
    | none =>
      match t.queue with
      | [] => .next (s.setTx k t)
      | (q, o) :: rest =>
        let flits := (t.sent.map fun x => x.off.pk.flits).sum
        if t.sent.length ≥ 1024 ∨ flits + o.pk.flits > 256 then .next ((s.setTx k t).lmEvc a 0 0x12 1)
        else
          match s.freeLane a d o.start busy none with
          | none => .next (s.setTx k t)
          | some wg =>
            let w : WSent := { pseq := q, off := o, tries := 1, last := wg, again := false }
            .next ((s.setTx k { t with queue := rest, sent := t.sent ++ [w] }).emitWarp a d wg q o.pk)

/-! ## Receiving -/

/-- A replay of an unacknowledged packet becomes due, or its ninth sending was the last (R132). -/
def State.replayDue (s : State) (a d pseq : Nat) : State :=
  let t := s.tx (siteKey a d)
  match t.sent.find? (fun w => w.pseq = pseq) with
  | none => s
  | some w =>
    if w.tries ≥ 9 then s.warpDown a d
    else s.setTx (siteKey a d) { t with sent := t.sent.map fun x => if x.pseq = pseq then { x with again := true } else x }

/-- The sender at site `a` acts on the fields of a flit from site `d` (R130, R132, R254). -/
def State.actLink (s : State) (a d : Nat) (p : Pkt) : State :=
  let k := siteKey a d
  let t := s.tx k
  let v := 2 * p.f 48 2 + p.f 50 1
  let got := Tab.get 0 t.got v
  let t := { t with got := Tab.set 0 t.got v (got + (p.f 51 5 + 32 - got % 32) % 32) }
  let t := if p.f 68 1 = 1 then
      { t with sent := t.sent.filter fun w => !decide ((p.f 56 12 + 4096 - w.pseq) % 4096 < 2048) } else t
  let s := s.setTx k t
  if p.f 81 1 = 1 then
    let wg := p.f 82 4
    let last := Tab.get 0 t.badAt wg
    let s := s.setTx k { t with badAt := Tab.set 0 t.badAt wg (s.tick + 1) }
    let s := if last ≠ 0 ∧ s.tick + 1 - last ≤ 1500000 then s.maskLane a d wg else s
    s.replayDue a d (p.f 69 12)
  else s

/-- DEP names an endpoint of the site (R125). -/
def epExists (site ep : Nat) : Bool :=
  ep == 7 || ep == 0 || (ep == 1 && !(decide (9 ≤ site) && decide (site < 16)))
/-- Step 2 of R130. -/
def warpMalformed (site : Nat) (p : Pkt) : Bool :=
  decide (p.nflit > 4) || p.f 19 5 != 0 || p.f 44 4 != 0 || p.f 86 10 != 0 || p.dsite != site || !epExists site p.dep ||
    (p.linkonly && (p.nflit != 0 || p.pseq != 0 || p.cls != 0 || p.phase != 0 || p.dep != 0 || p.f 40 4 != 0 ||
      p.f 128 384 != 0))

/-- One packet that came on waveguide `wg` delivered in order (R131). At a pair site one for a die leaves through edge port
EPwg, which asks for lane wg mod 4 of its cluster (R128, R257). -/
def State.deliverOne (s : State) (d a wg : Nat) (p : Pkt) : State :=
  let r := s.rx (siteKey d a)
  let s := s.setRx (siteKey d a)
    { r with next := (r.next + 1) % 4096, owe := true, seen := true,
             buf := Tab.set 0 r.buf p.vc (Tab.get 0 r.buf p.vc + p.flits) }
  let s := s.lmEvc d 0 0x03 1
  if d < 8 ∧ p.dep < 2 then s.edgePut (laneKeyOf (d * 32 + 16 * p.dep + p.f 40 4) (wg % 4)) (wg / 4) (.packet p)
  else s.deliverEp d p.dep p
/-- The held packets that follow are delivered. -/
def State.deliverHeld (s : State) (d a : Nat) : Nat → State
  | 0 => s
  | n + 1 =>
    let r := s.rx (siteKey d a)
    match r.held.find? (fun e => e.1 = r.next) with
    | none => s
    | some (q, wg, p) =>
      ((s.setRx (siteKey d a) { r with held := r.held.filter fun e => e.1 ≠ q }).deliverOne d a wg p).deliverHeld d a n

/-- WARP_PACKET_RECEIVE (R130, R131, R161) at site `d`, on waveguide `wg`, from site `src`. -/
def execWarpPacketReceive (d : SiteIx) (wg : Fin 16) (src : SiteIx) (p : Pkt) (marked : Bool) (s : State) :
    Host.Outcome State Fault Refusal :=
  let k := siteKey d src
  let s := if marked then s.bump (LM_OPT_STAT d) LM_OPT_STAT_SAT_MARKS 1 else s
  if marked || !p.crcOk then
    let s := (s.bump (LM_WARP_STAT d) LM_WARP_STAT_CRC_ERR 1).lmEvc d 0 0x06 1
    .next (s.setRx k { s.rx k with nak := some wg.val })
  else
    let s := s.actLink d src p
    if warpMalformed d p then
      let s := s.bump (LM_WARP_STAT d) LM_WARP_STAT_MALFORMED 1
      .next (s.rset (LM_WARP_LASTBAD d) (BitVec.ofNat 64 p.hdr.toNat))
    else if p.linkonly then .next s
    else
      let r := s.rx k
      let ahead := (p.pseq + 4096 - r.next) % 4096
      if ahead ≥ 2048 ∨ r.held.any (fun e => e.1 == p.pseq) then .next (s.setRx k { r with owe := true })
      else if ahead = 0 then .next ((s.deliverOne d src wg p).deliverHeld d src r.held.length)
      else .next (s.setRx k { r with held := r.held ++ [(p.pseq, wg.val, p)] })

/-- WARP_ACK_SEND (R131, R132, R254): site `a` owes site `d` an acknowledgement, a replay request or credits, and sends
them in a LINKONLY flit. -/
def execWarpAckSend (a d : SiteIx) (busy : BitVec 16) (s : State) : Host.Outcome State Fault Refusal :=
  let r := s.rx (siteKey a d)
  let due := r.owe || r.nak.isSome || (List.range 8).any fun v => Tab.get 0 r.told v != r.owed v
  if !due || s.lightHold || s.isDown a d || a == d then .next s
  else
    match s.freeLane a d 0 busy none with
    | none => .next s
    | some wg =>
      let p := ((mkPkt 0 0 [] s.ownNode s.ownNode).setF 15 1 1).setF 24 5 a
      .next (s.emitWarp a d wg 0 (p.setF 32 5 d))

/-- WARP_REPLAY_TIMEOUT (R132): the unacknowledged packet that was sent longest ago has waited 300 ns; light hold pauses
the timer. -/
def execWarpReplayTimeout (a d : SiteIx) (s : State) : Host.Outcome State Fault Refusal :=
  if s.lightHold then .next s
  else
    match (s.tx (siteKey a d)).sent.find? (fun w => !w.again) with
    | some w => .next (s.replayDue a d w.pseq)
    | none => .next s

/-! ## Phase switches -/

/-- PHASE_SWITCH_REQUEST (R141). -/
def execPhaseSwitchRequest (part : PartNo) (slot : BitVec 4) (byHeddle : Bool) (s : State) :
    Host.Outcome State Fault Refusal :=
  match s.part? part with
  | none => .next s
  | some p => .next (s.swRequest part p slot.toNat byHeddle)

/-- PHASE_SWITCH_SETTLED (R142, R164): tick 1,200; pilot light on every source the slot names. -/
def execPhaseSwitchSettled (part : PartNo) (s : State) : Host.Outcome State Fault Refusal :=
  match s.part? part with
  | none => .next s
  | some p =>
    let w := s.sw part
    if w.on then .next ((if w.roll then s else s.gset p LM_WEFT_GSTAT_STATE 2).pilots p w.target) else .next s

/-- PHASE_SWITCH_VERIFY (R142 to R144): tick 1,800. -/
def execPhaseSwitchVerify (part : PartNo) (meas : List OutMeas) (s : State) : Host.Outcome State Fault Refusal :=
  match s.part? part with
  | none => .next s
  | some p =>
    let w := s.sw part
    if !w.on then .next s
    else
      match s.badOuts p w.target meas with
      | [] =>
        if w.roll then .next (s.swEnd part p w.target 0 2 w.want)
        else
          let s := if w.asker.isSome then s.gbump p LM_WEFT_GSTAT_SWITCHES else s
          .next (s.swEnd part p w.target 0 1 w.want)
      | o :: _ =>
        let s := (s.gbump p LM_WEFT_GSTAT_FAILS).gset p LM_WEFT_GSTAT_FAIL_OUT o
        if w.roll then
          let s := s.event 0x06 0x03 (unitOf 4 p.first) (s.ctx part) 0 (selOf 1 1 (phaseAt o).2 0) o (s.loomDetail p.first)
          .next (s.swEnd part p 0 4 2 w.want)
        else
          .next (((s.setSw part { w with roll := true, target := w.old }).drive p w.old).gset p LM_WEFT_GSTAT_STATE 3)

end Sys2Proof.Machine
end

