-- ==== Sys2Proof/Machine/Edge.lean ====
section
/-! DEFINITION. The edge arbiters of a pair (R257 to R263): what asks for each resource, decisions, holds and backoff. -/
namespace Sys2Proof.Machine

def arbKey : ArbRef → Nat
  | .egress p e st => egressKey p e st
  | .lane cl j => laneKeyOf cl j
def State.arb (s : State) (k : Nat) : Arb := Tab.get Arb.none s.arbs k
def State.setArb (s : State) (k : Nat) (a : Arb) : State := { s with arbs := Tab.set Arb.none s.arbs k a }
/-- A guaranteed requester stands in the order of the tick at which it became so, then of its index (R259). -/
def insertGuar (x : Nat × Nat) : List (Nat × Nat) → List (Nat × Nat)
  | [] => [x]
  | y :: r => if x.2 < y.2 ∨ (x.2 = y.2 ∧ x.1 < y.1) then x :: y :: r else y :: insertGuar x r

/-! ## What is ready (R252, R257) -/

/-- Flits a load moves. -/
def EdgeLoad.flits : EdgeLoad → Nat
  | .packet p => p.flits
  | .unitOut _ _ g => 1 + g.length
  | .unitIn _ _ _ g => 1 + g.length
/-- Loads of one requester that keep their order: the packets of one virtual channel for one site, or of one class for a
cluster; standing units (R242, R256, R257). -/
def EdgeLoad.stream (egress : Bool) : EdgeLoad → Nat
  | .packet p => if egress then 2 + p.f 32 5 * 8 + p.vc else 2 + p.cls
  | .unitOut .. => 0
  | .unitIn .. => 1
/-- Flits of a class in a cluster's express input buffer, of its sixteen (R252). -/
def State.expressUse (s : State) (p die cl cls : Nat) : Nat :=
  (((Tab.get [] s.epIn (p * 8 + die)).filter fun x => x.f 40 4 = cl && x.cls = cls && x.f 24 5 != p).map Pkt.flits).sum
/-- A load holds the credits it needs beyond the resource (R252, R257). -/
def State.loadReady (s : State) (egress : Bool) : EdgeLoad → Bool
  | .packet p =>
    if egress then decide (p.flits ≤ (s.tx (siteKey (p.f 24 5) p.dsite)).avail p.vc)
    else decide (s.expressUse p.dsite p.dep (p.f 40 4) p.cls + p.flits ≤ 16)
  | _ => true
/-- The load a requester would move next: the first one that is ready and stands behind none of its own stream. -/
def State.edgeFirst (s : State) (egress : Bool) (ix : Nat) : List Nat → List (Nat × EdgeLoad) → Option EdgeLoad
  | _, [] => none
  | shut, (i, l) :: r =>
    if i ≠ ix ∨ shut.contains (l.stream egress) then s.edgeFirst egress ix shut r
    else if s.loadReady egress l then some l
    else s.edgeFirst egress ix (l.stream egress :: shut) r
def State.edgeNext (s : State) (k ix : Nat) : Option EdgeLoad := s.edgeFirst (decide (k < 1024)) ix [] (s.edgeAt k)

/-! ## Moving what is granted (R128, R252, R257, R260) -/

/-- A load leaves: into the site's transmit queue, onto a standing circuit, or to its cluster. -/
def State.edgeMove (s : State) (k ix : Nat) (l : EdgeLoad) : State :=
  let s := { s with edge := Tab.set [] s.edge k ((s.edgeAt k).erase (ix, l)) }
  match l with
  | .packet p =>
    if k < 1024 then
      let key := siteKey (p.f 24 5) p.dsite
      s.setTx key ((s.tx key).enqueue { start := k % 16, pk := p })
    else (s.creditBack p.dsite p).deliverEp p.dsite p.dep p
  | .unitOut key u gran => if s.circDown (key / 8) (key % 8) then s else s.sendUnit true key u gran true
  | .unitIn _ stack u gran => s.unitLand stack u gran
/-- A hold: consecutive loads up to 64 flits; `true` if it ends with one more ready (R260). -/
def State.edgeHold (s : State) (k ix used : Nat) : Nat → Bool × State
  | 0 => (false, s)
  | n + 1 =>
    match s.edgeNext k ix with
    | none => (false, s)
    | some l => if used + l.flits > 64 then (true, s) else (s.edgeMove k ix l).edgeHold k ix (used + l.flits) n

/-! ## Requests and decisions (R258 to R260) -/

/-- Requesters of a resource (R257). -/
def arbWidth (k : Nat) : Nat := if k < 1024 then 32 else 4
/-- The requests of a resource as they stand at the end of the tick that now ends: a requester with a load ready, but not
one that has withdrawn; the loser of a decision of this very tick withdraws in the next (R258, R259). -/
def State.arbRaise (s : State) (k : Nat) : State :=
  let a := s.arb k
  let ask := (List.range (arbWidth k)).filter fun i =>
    (s.edgeNext k i).isSome && (Tab.get 0 a.back i == 0 || Tab.get 0 a.back i == s.tick + 1)
  let since := ask.foldl (fun t i => if Tab.get 0 t i = 0 then Tab.set 0 t i (s.tick + 1) else t) a.since
  s.setArb k { a with req := ask, since := since, holder := none }
/-- Every resource with something to move, at the end of a tick. -/
def State.raiseAll (s : State) : State :=
  let s := s.arbs.foldl (fun s e => s.setArb e.1 { s.arb e.1 with req := [], holder := none }) s
  s.edge.foldl (fun s e => s.arbRaise e.1) s

/-- The winner of a decision (R259). -/
def arbPick (a : Arb) : Option Nat :=
  match a.guar.find? (fun g => a.req.contains g.1) with
  | some g => some g.1
  | none => a.req.foldl (fun b i => match b with | some x => if i < x then some i else b | none => some i) none
/-- Another requester the decision considered loses: one more consecutive loss, and a backoff unless it is guaranteed. -/
def arbLose (t : Nat) (a : Arb) (ix : Nat) : Arb :=
  if a.guar.any fun g => g.1 == ix then a
  else { a with losses := Tab.set 0 a.losses ix (Tab.get 0 a.losses ix + 1), back := Tab.set 0 a.back ix (t + 1) }
/-- The registers of a grant (R258, R260, R263). -/
def State.arbNote (s : State) (r : ArbRef) (ix waited : Nat) (guar empty cut : Bool) : State :=
  match r with
  | .egress p e _ =>
    let a := CD_EDGE_ARB p e
    let s := if guar then s.bump a CD_EDGE_ARB_GUARANTEED 1 else s
    let s := if empty then s.bump a CD_EDGE_ARB_EMPTY_GRANTS 1 else s
    let s := s.wf a CD_EDGE_ARB_MAX_WAIT (max (s.rf a CD_EDGE_ARB_MAX_WAIT) (min waited 65535))
    if cut then
      (s.bump a CD_EDGE_ARB_CUTOFFS 1).raise (CD_EDGE_CUT p e) CD_EDGE_CUT_CUT (2 ^ ix)
    else s
  | .lane cl j =>
    let a := CD_XLANE_ARB cl
    let s := if guar then s.bump a CD_XLANE_ARB_GUARANTEED 1 else s
    let s := if empty then s.bump a CD_XLANE_ARB_EMPTY_GRANTS 1 else s
    let s := s.wf a CD_XLANE_ARB_MAX_WAIT (max (s.rf a CD_XLANE_ARB_MAX_WAIT) (min waited 65535))
    if cut then s.raise a CD_XLANE_ARB_CUT (2 ^ j.val) else s

/-- ARB_DECISION (R258 to R260): from the requests of the last tick's end, the holder of the next tick; what it moves
leaves now (log entry 81). -/
def execArbDecision (r : ArbRef) (s : State) : Host.Outcome State Fault Refusal :=
  let k := arbKey r
  let a := s.arb k
  match arbPick a with
  | none => .next s
  | some ix =>
    let guar := a.guar.any fun g => g.1 == ix
    let empty := (s.edgeNext k ix).isNone
    let waited := s.tick + 2 - Tab.get 0 a.since ix
    let (cut, s) := s.edgeHold k ix 0 64
    let lost := (a.req.filter (· ≠ ix)).foldl (arbLose s.tick) a
    let won : Arb :=
      { losses := Tab.set 0 lost.losses ix 0, req := [], since := Tab.set 0 lost.since ix 0, back := Tab.set 0 lost.back ix 0,
        guar := lost.guar.filter fun g => g.1 ≠ ix, holder := if empty then none else some ix }
    .next ((s.setArb k won).arbNote r ix waited guar empty cut)

/-- ARB_BACKOFF_END (R259): after min(2^k, 512) ticks from the one after its k-th loss the requester raises its request
again; at its 8th consecutive loss it is guaranteed. -/
def execArbBackoffEnd (r : ArbRef) (i : Fin 32) (s : State) : Host.Outcome State Fault Refusal :=
  let k := arbKey r
  let a := s.arb k
  let lost := Tab.get 0 a.back i.val
  let n := Tab.get 0 a.losses i.val
  if lost = 0 ∨ s.tick < lost + min (2 ^ n) 512 then .next s
  else
    let a := { a with back := Tab.set 0 a.back i.val 0 }
    .next (s.setArb k (if n ≥ 8 then { a with guar := insertGuar (i.val, s.tick) a.guar } else a))

end Sys2Proof.Machine
end

