-- ==== Sys2Proof/Machine/Landing.lean ====
section
/-! DEFINITION. The landing port of a core (R60, R82, R209, R217) and the pool port of a cluster (R107, R215). -/
namespace Sys2Proof.Machine

/-- Width of the accesses of an arrival: 8 bytes for an atomic, 64 otherwise. -/
def landWidth (a : LandAcc) : Nat := if a.data.length % 64 = 0 then 64 else 8
/-- The access is performed: its bytes are written and its knot incremented (R82, R326). -/
def State.landPerform (s : State) (c : Nat) (a : LandAcc) : State :=
  let s := (s.putBytes (spBase c + a.addr.toNat) a.data).cdEvc c 0x09 (linesOf a.addr.toNat a.data.length)
  match a.knot with
  | some k => s.notifyKnot (some (gclusterOf c, k.toNat))
  | none => s

/-- LANDING_WRITE (R60, R82): performed in an open zone, kept for a closed one, refused outside every zone or when
misaligned. An arrival that finds the buffer full waits outside. -/
def execLandingWrite (c : CoreIx) (a : LandAcc) (s : State) : Host.Outcome State Fault Refusal :=
  if a.data = [] ∨ a.addr.toNat % landWidth a ≠ 0 ∨ a.data.length % landWidth a ≠ 0 then .next s
  else
    match s.accessZone c a.addr.toNat a.data.length with
    | none => .next s
    | some z =>
      if (s.zopen c).getLsbD z then .next (s.landPerform c a)
      else if a.reply || decide (landLines ((s.core c).lbuf ++ [.acc a]) ≤ 16) then .next (s.landHold c (.acc a))
      else .next s

/-- A reply whose data has been written completes its descriptor, or its unit of a MOVE (R318, R319). -/
def State.replyLanded (s : State) (core ch slot : Nat) (unit : Option Nat) : State :=
  match unit with
  | some u => s.moveUnit core ch slot (u % 2 ^ 20) (u / 2 ^ 20)
  | none =>
    match s.desc? core ch slot with
    | some d => s.descDone core ch slot (Tab.get 0 d.units 0 - 1) 0 0
    | none => s

/-- Zone of an entry that waits. -/
def State.entZone (s : State) (c : Nat) : LandEnt → Option Nat
  | .acc a => s.accessZone c a.addr.toNat a.data.length
  | .req a | .dup a => s.accessZone c (offOf a.pk.addr % 2 ^ 22) (reqBytes a.pk)
  | .reply addr data _ _ _ _ => s.accessZone c addr data.length
/-- What waited is written or performed. -/
def State.landEnt (s : State) (c : Nat) : LandEnt → State
  | .acc a => s.landPerform c a
  | .req a => s.perform a
  | .dup a => s.dupRead a (s.fwdOf a.pk)
  | .reply addr data core ch slot unit =>
    ((s.putBytes (spBase c + addr) data).cdEvc c 0x09 (linesOf addr data.length)).replyLanded core ch slot unit
/-- Channel of a request that waits. -/
def LandEnt.channel : LandEnt → Option Nat
  | .req a | .dup a => some (filterKey a.pk)
  | _ => none
/-- The entries that satisfy a test, but for requests behind one of their channel that stays, and those that stay (R223). -/
def landSplit (go : LandEnt → Bool) : List Nat → List LandEnt → List LandEnt × List LandEnt
  | _, [] => ([], [])
  | shut, e :: r =>
    let free := match e.channel with | some k => !shut.contains k | none => true
    if go e && free then let (a, b) := landSplit go shut r; (e :: a, b)
    else let (a, b) := landSplit go (e.channel.toList ++ shut) r; (a, e :: b)

/-- LANDING_BUFFER_DRAIN (R82, R223): what waits for an open zone is written or performed in order of arrival. -/
def execLandingBufferDrain (c : CoreIx) (z : Fin 8) (s : State) : Host.Outcome State Fault Refusal :=
  if (s.zopen c).getLsbD z then
    let k := s.core c
    let (go, kept) := landSplit (fun e => s.entZone c e == some z.val) [] k.lbuf
    .next (go.foldl (fun s e => s.landEnt c e) (s.setCore c { k with lbuf := kept }))
  else .next s

/-! ## The pool port (R107, R215) -/

/-- The write of an atomic takes its bank, or goes on waiting for it. -/
def State.poolAtom (s : State) (cl : Nat) (e : Arrival × Nat) : State :=
  if s.portFree cl (poolOffOf e.1 / 128 % 16) then
    let k := s.pool cl
    (s.setPool cl { k with atoms := k.atoms.erase e }).atomWrite e.1 e.2
  else s
/-- A reply's data takes its banks, or goes on waiting for them. -/
def State.poolReply (s : State) (cl : Nat) (e : LandEnt) : State :=
  match e with
  | .reply off data core ch slot unit =>
    if s.portCan cl off data.length true then
      let k := s.pool cl
      ((s.setPool cl { k with reps := k.reps.erase e }).poolWrite cl off data).replyLanded core ch slot unit
    else s
  | _ => s
/-- What waits at a pool's port, arrivals before departures, each taking its banks where they are free; the others wait on
(R107). -/
def State.servePort (s : State) (cl : Nat) : State :=
  let s := (s.pool cl).atoms.foldl (fun s e => s.poolAtom cl e) s
  let s := (s.pool cl).reps.foldl (fun s e => s.poolReply cl e) s
  let ws := (s.pool cl).wait
  let s := s.setPool cl { s.pool cl with wait := [] }
  (ws.filter PoolAcc.write ++ ws.filter fun a => !a.write).foldl (fun s a =>
    let line := a.addr.toNat / 128
    if s.portFree cl (line % 16) && !s.atomOn cl line then s.portDo cl a else s.portWait cl a) s
/-- The port has something to serve. -/
def PoolSide.busy (k : PoolSide) : Bool := k.wait != [] || k.reps != [] || k.atoms != []

/-- POOL_BANK_BEAT (R106): the static claimants, and the pool port in the banks they leave (R107). -/
def execPoolBankBeat (cl : ClusterIx) (up : List Upset) (s : State) : Host.Outcome State Fault Refusal :=
  .next (((s.poolStrikes cl up).poolBeat cl).servePort cl)

/-- POOL_PORT_ACCESS (R107, R108): 64-byte accesses at multiples of 64. An access takes its bank where no static claimant
holds it and the port has not used it in this wall beat, and waits otherwise; one that is misaligned or past the pool is
not made. -/
def execPoolPortAccess (cl : ClusterIx) (a : PoolAcc) (up : List Upset) (s : State) : Host.Outcome State Fault Refusal :=
  let s := s.poolStrikes cl up
  if a.addr.toNat % 64 ≠ 0 ∨ (a.write ∧ a.data.length ≠ 64) then .next s
  else .next ((s.portWait cl a).servePort cl)

end Sys2Proof.Machine
end

