-- ==== Sys2Proof/Machine/ShutBase.lean ====
section
/-! DEFINITION. What a shuttle channel does at the start and the end of a descriptor (R309, R310, R314, R316, R319). -/
namespace Sys2Proof.Machine

def State.chState (s : State) (c ch : Nat) : Nat := s.rf (SH_CH_STAT c ch) SH_CH_STAT_STATE
/-- Pacing allows a start (R316). -/
def State.paced (s : State) (c ch : Nat) : Bool :=
  let a := SH_CH_CTL c ch
  match s.rf a SH_CH_CTL_PACE with
  | 1 =>
    match (s.shch_ c ch).started with
    | some t => decide (s.tick ≥ t + s.rf a SH_CH_CTL_PERIOD)
    | none => true
  | 2 => decide (s.rf (SH_RING c ch) SH_RING_CREDITS > 0)
  | _ => true
/-- A started FENCE has not completed (R224). -/
def State.fenced (s : State) (c ch : Nat) : Bool :=
  (s.shch_ c ch).inflight.any fun d => !d.coll && d.op == 0x10 && d.status.isNone
/-- The channel may start the descriptor at HEAD, but for its gate, tag and turn; at most one in a wall beat (R224, R314). -/
def State.chReady (s : State) (c ch : Nat) : Bool :=
  s.chState c ch == 1 && decide (s.rf (SH_CH_STAT c ch) SH_CH_STAT_READY > 0) && s.paced c ch && !s.fenced c ch &&
    decide ((s.shch_ c ch).inflight.length < 32) && (s.shch_ c ch).startPb != some (s.pb (pairOf c))

/-- 1 + the beat count of the SHKICK that made the slot at HEAD ready; 0 for a host KICK (R270, R310). -/
def ShCh.headW (k : ShCh) : Nat := match k.ready.find? (fun r => r.1 ≠ 0) with | some r => r.2 | _ => 0
/-- The slot at HEAD is no longer ready. -/
def takeReady : List (Nat × Nat) → List (Nat × Nat)
  | [] => []
  | (n, w) :: r => if n = 0 then takeReady r else if n = 1 then r else (n - 1, w) :: r

/-- A descriptor starts: HEAD, PGEN, READY, INFLIGHT and the pacing move on (R309, R310, R314, R316). -/
def State.chStart (s : State) (c ch : Nat) (d : Desc) : State :=
  let a := SH_CH_STAT c ch
  let h := s.rf a SH_CH_STAT_HEAD
  let wrap := decide (h + 1 ≥ s.ringSlots c ch)
  let s := (s.wf a SH_CH_STAT_HEAD (if wrap then 0 else h + 1)).wf a SH_CH_STAT_READY (s.rf a SH_CH_STAT_READY - 1)
  let s := s.wf a SH_CH_STAT_INFLIGHT (s.rf a SH_CH_STAT_INFLIGHT + 1)
  let r := SH_RING c ch
  let s := if wrap then s.wf r SH_RING_PGEN (s.rf r SH_RING_PGEN + 1) else s
  let s := if s.rf (SH_CH_CTL c ch) SH_CH_CTL_PACE = 2 then s.wf r SH_RING_CREDITS (s.rf r SH_RING_CREDITS - 1) else s
  let k := s.shch_ c ch
  (s.setShch c ch { k with inflight := k.inflight ++ [{ d with wn := k.headW }], started := some s.tick,
                           startPb := some (s.pb (pairOf c)), ready := takeReady k.ready }).cdEvc c 0x0E 1

/-- A descriptor that has just started. -/
def newDesc (slot : Nat) (raw : BitVec 512) (coll : Bool) : Desc :=
  { slot := slot, raw := raw, coll := coll, tag := none, packet := none, sent := 0, units := [], status := none, value := 0,
    xgen := 0, wn := 0, back := [] }

/-- Credits for the channels that a write-back of channel `ch` paces (R316). -/
def State.chainCredit (s : State) (c ch : Nat) : State :=
  (List.range 4).foldl (fun s i =>
    let a := SH_CH_CTL c i
    let r := SH_RING c i
    if s.rf a SH_CH_CTL_PACE = 2 ∧ s.rf a SH_CH_CTL_SRC = ch then
      if s.rf r SH_RING_CREDITS ≥ 4095 then s.raise r SH_RING_CRSAT 1 else s.wf r SH_RING_CREDITS (s.rf r SH_RING_CREDITS + 1)
    else s) s

/-- The control granule of a completed slot, in one access of the pool port (R319). -/
def State.writeBack (s : State) (c ch : Nat) (d : Desc) : State :=
  let b := s.slotByte c ch d.slot + 64
  let fl := BitVec.ofNat 8 (nbits (s.byte (b + 4)).toNat 2 1 * 4 + 2)
  let bs := s.bytes b 4 ++ [fl, BitVec.ofNat 8 (d.status.getD 0)] ++ leBytes 2 d.xgen ++ leBytes 8 d.value.toNat ++
    List.replicate 48 0
  s.poolWrite (gclusterOf c) (b - poolBase (gclusterOf c)) bs

/-- The pool port can take the write-back of a slot now (R107). -/
def State.backCan (s : State) (c ch slot : Nat) : Bool :=
  s.portCan (gclusterOf c) (128 * s.slotLine c ch slot + 64) 64 true

/-- The NOTIFY or LKNOT of a descriptor that has been written back (R270, R319). -/
def Desc.notifies (d : Desc) (p cl : Nat) : Option (Nat × Nat) :=
  if d.coll then (if d.flag 2 then some (p * 32 + d.fld 0x20 2 % 32, d.fld 0x20 2 / 32 % 64) else none)
  else if d.flag 0 then some (cl, d.fld 0x2A 1 % 64)
  else none

/-- DESCRIPTOR_COMPLETE (R107, R270, R319): once its bank is free the slot is written back, the fields of a collective
first; after the control granule LKNOT or NOTIFY is incremented and chained channels are credited. -/
def execDescriptorComplete (c : CoreIx) (ch : ChIx) (slot : BitVec 12) (s : State) : Host.Outcome State Fault Refusal :=
  let k := s.shch_ c ch
  match k.inflight.find? (fun d => d.slot = slot.toNat && d.status.isSome) with
  | none => .next s
  | some d =>
    if !s.backCan c ch d.slot then .next s
    else if d.back ≠ [] then
      let l := k.inflight.map fun x => if x = d then { x with back := [] } else x
      .next ((s.poolWrite (gclusterOf c) (128 * s.slotLine c ch d.slot + 0x28) d.back).setShch c ch { k with inflight := l })
    else
      let s := (s.writeBack c ch d).setShch c ch { k with inflight := k.inflight.erase d }
      let s := s.wf (SH_CH_STAT c ch) SH_CH_STAT_INFLIGHT (s.rf (SH_CH_STAT c ch) SH_CH_STAT_INFLIGHT - 1)
      .next (((s.notifyKnot (d.notifies (pairOf c) (gclusterOf c))).chainCredit c ch).cdEvc c 0x0F 1)

end Sys2Proof.Machine
end

