-- ==== Sys2Proof/Machine/Collectives.lean ====
section
/-! DEFINITION. Collectives (R264 to R286): descriptors and their checks, endpoint regions, grants, streams on the four
paths, port combiners, multicast, and how a stream ends. -/
namespace Sys2Proof.Machine

/-! ## Descriptors (R267) -/

def cf (r : BitVec 512) (off n : Nat) : Nat := nbits r.toNat (8 * off) (8 * n)
def colOp (r : BitVec 512) : Nat := cf r 0 1
def cPath (r : BitVec 512) : Nat := cf r 1 1
def cFlag (r : BitVec 512) (i : Nat) : Bool := (cf r 2 1).testBit i
def cFmt (r : BitVec 512) : Nat := cf r 3 1 % 16
def cTspec (r : BitVec 512) : BitVec 16 := BitVec.ofNat 16 (cf r 4 2)
def cColid (r : BitVec 512) : Nat := cf r 6 2
def cAttempt (r : BitVec 512) : Nat := cf r 8 2
def cSlot (r : BitVec 512) : Nat := cf r 0x0A 1
def cWg (r : BitVec 512) : Nat := cf r 0x0B 1 % 8
def cLocal (r : BitVec 512) : Nat := cf r 0x0C 4
def cChunks (r : BitVec 512) : Nat := cf r 0x10 4
def cWindow (r : BitVec 512) : Nat := cf r 0x14 1
def cNin (r : BitVec 512) : Nat := cf r 0x15 1
def cPeer (r : BitVec 512) : Nat := cf r 0x18 8
/-- DNODE and CSITE of a CSEND FABRIC or a CCOMB; RSITE; XSITE. -/
def cDnode (r : BitVec 512) : Nat := cPeer r % 2 ^ 14
def cCsite (r : BitVec 512) : Nat := nbits (cPeer r) 16 5
def cRsite (r : BitVec 512) : Nat := nbits (cPeer r) 32 5
def cXsite (r : BitVec 512) : Nat := nbits (cPeer r) 24 5
/-- Pool address of the list. -/
def cList (r : BitVec 512) : Nat := if colOp r = 3 then cPeer r / 2 ^ 32 else cPeer r % 2 ^ 32
def cHasList (r : BitVec 512) : Bool := colOp r == 3 || (colOp r == 2 && cPath r == 2) || (colOp r == 1 && cPath r == 3)
def isTally (fmt : Nat) : Bool := fmt == 8 || fmt == 9

/-! ## Endpoint regions (R266) -/

inductive EpAddr | sp (core line : Nat) | pool (cl line : Nat) | slot (ix : Nat)
deriving DecidableEq, Repr
/-- The region of `lines` lines that an endpoint address names, where it is valid. -/
def epOf (p w lines : Nat) : Option EpAddr :=
  match w % 4 with
  | 0 => if w / 2 ^ 25 = 0 ∧ nbits w 10 15 + lines ≤ 24576 then some (.sp (p * 256 + nbits w 2 8) (nbits w 10 15)) else none
  | 1 => if w / 2 ^ 23 = 0 ∧ nbits w 7 16 + lines ≤ 65536 then some (.pool (p * 32 + nbits w 2 5) (nbits w 7 16)) else none
  | 2 => if w / 2 ^ 11 = 0 ∧ nbits w 2 9 + lines ≤ 512 then some (.slot (nbits w 2 9)) else none
  | _ => none

/-- Outcome of an access to a region: done, waiting for a zone, a free bank or a slot beat, or refused with a status. -/
inductive EpRes (α : Type) | ok (a : α) | wait | bad (st : Nat)

/-- A static contribution that covers a slot line. -/
def inLine (slot sofs n ix : Nat) : Bool := decide (16 * slot + sofs ≤ ix) && decide (ix < 16 * slot + sofs + n)
/-- A contribution to a slot line whose slot beat is below `w` has not been performed yet (R270). -/
def State.slotDue (s : State) (p ix w : Nat) : Bool :=
  ((s.pair p).slotIn.any fun i => decide (i.beat < w) && inLine i.slot i.sofs i.data.length ix) ||
    (s.pair p).xfers.any fun x => match x.dest with
      | .slot k _ _ o => decide ((x.claims.getLastD (0, 0)).1 < w) && inLine k o x.data.length ix
      | _ => false
/-- A slot line with the static contributions of slot beats below `w`, as it stands where `w` is 0 (R270). -/
def State.slotAsOf (s : State) (p ix w : Nat) : Line :=
  match (s.pair p).slotHist.find? (fun h => h.1 = ix && w ≠ 0 && w ≤ h.2.1) with
  | some h => h.2.2
  | none => Tab.get 0 (s.pair p).slotLine ix
/-- Chunk `c` of a region read (R265, R209, R236, R266); `w`: 1 + the beat count that bounds the static contributions it
includes, 0 for none (R270). -/
def State.epRead (s : State) (p : Nat) (e : EpAddr) (c w : Nat) : EpRes (List Byte) × State :=
  match e with
  | .sp core l =>
    match s.accessZone core (128 * (l + 2 * c)) 256 with
    | none => (.bad stNoZone, s)
    | some z =>
      if (s.zopen core).getLsbD z then
        match s.spRead core (128 * (l + 2 * c)) 256 with
        | (some b, s) => (.ok b, s)
        | (none, s) => (.bad stMemUe, s)
      else (.wait, s)
  | .pool cl l =>
    if !s.portCan cl (128 * (l + 2 * c)) 256 false then (.wait, s)
    else
      match s.poolRead cl (128 * (l + 2 * c)) 256 with
      | (some b, s) => (.ok b, s)
      | (none, s) => (.bad stMemUe, s)
  | .slot ix =>
    let i := ix + 2 * c
    if w ≠ 0 ∧ (s.slotDue p i w || s.slotDue p (i + 1) w) then (.wait, s)
    else (.ok (leBytes 128 (s.slotAsOf p i w).toNat ++ leBytes 128 (s.slotAsOf p (i + 1) w).toNat), s)

/-- A slot line replaced, with the width it records (R277). -/
def State.slotReplace (s : State) (p ix : Nat) (bs : List Byte) (width : Nat) : State :=
  let q := s.pair p
  s.setPair p { q with slotLine := Tab.set 0 q.slotLine ix (BitVec.ofNat 1024 (leNat bs)),
                       slotWidth := Tab.set 0 q.slotWidth ix width }
/-- Width that a descriptor's FMT records: 1 TL64, 2 TL128, 0 none. -/
def fmtWidth (fmt : Nat) : Nat := if fmt = 8 then 1 else if fmt = 9 then 2 else 0
/-- Chunk `c` of a region replaced. -/
def State.epWrite (s : State) (p : Nat) (e : EpAddr) (c fmt : Nat) (bs : List Byte) : EpRes Unit × State :=
  match e with
  | .sp core l =>
    match s.accessZone core (128 * (l + 2 * c)) 256 with
    | none => (.bad stNoZone, s)
    | some z =>
      if (s.zopen core).getLsbD z then (.ok (), (s.putBytes (spBase core + 128 * (l + 2 * c)) bs).cdEvc core 0x09 2)
      else (.wait, s)
  | .pool cl l =>
    if s.portCan cl (128 * (l + 2 * c)) 256 true then (.ok (), s.poolWrite cl (128 * (l + 2 * c)) bs) else (.wait, s)
  | .slot ix =>
    (.ok (), (s.slotReplace p (ix + 2 * c) (bs.take 128) (fmtWidth fmt)).slotReplace p (ix + 2 * c + 1) (bs.drop 128)
      (fmtWidth fmt))
/-- One accumulate step of a slot line, and whether it clamped (R277). -/
def State.slotAdd (s : State) (p ix : Nat) (wide : Bool) (bs : List Byte) : Bool × State :=
  let c : Contrib := { first := false, wide := wide, line := BitVec.ofNat 1024 (leNat bs) }
  let q := s.pair p
  let (_, _, sat, _) := slotStep (Tab.get 0 q.slotLine ix) (Tab.get 0 q.slotWidth ix) [c]
  (sat, s.slotLineStep p (ix / 16) (ix % 16) none [c])

/-! ## Checks (R269) -/

def siteConsumer (x : Nat) : Bool := decide (x < 8) || decide (16 ≤ x)
/-- Bits of PEER that the operation names. -/
def peerOk (r : BitVec 512) : Bool :=
  let w := cPeer r
  match colOp r, cPath r with
  | 1, 0 => w / 2 ^ 32 == 0
  | 1, 2 => nbits w 14 2 == 0 && w / 2 ^ 21 == 0 && siteConsumer (cCsite r)
  | 1, 3 => w / 2 ^ 37 == 0 && decide (16 ≤ cRsite r)
  | 2, 2 => w / 2 ^ 32 == 0
  | 3, _ => nbits w 14 2 == 0 && nbits w 21 3 == 0 && nbits w 29 3 == 0 && siteConsumer (cCsite r) && decide (16 ≤ cXsite r)
  | _, _ => w == 0
/-- Some field of the descriptor breaks R267. -/
def colBad (r : BitVec 512) : Bool :=
  let op := colOp r; let path := cPath r; let n := cNin r
  !(decide (1 ≤ op) && decide (op ≤ 3)) || decide (path > 3) || (op == 2 && path != 1 && path != 2) || (op == 3 && path != 0) ||
    cf r 2 1 / 16 != 0 || cf r 3 1 / 16 != 0 || decide (cFmt r > 9) ||
    (if isTally (cFmt r) then !specOk (cTspec r) else cTspec r != 0) ||
    (cFlag r 0 && !isTally (cFmt r)) || (op == 2 && !cFlag r 0 && decide (n > 1)) ||
    (if path == 1 then cSlot r == 0 || decide (cSlot r > 15) else cSlot r != 0) ||
    cf r 0x0B 1 / 8 != 0 || (path != 1 && cWg r != 0) || (op == 3 && cLocal r != 0) ||
    cChunks r == 0 || decide (cChunks r > 65536) || cWindow r == 0 || decide (cWindow r > 64) ||
    (if cHasList r then n == 0 || decide (n > if op == 1 then 64 else 32) else n != 0) || !peerOk r ||
    cf r 0x20 2 / 2 ^ 11 != 0 || cf r 0x22 2 / 2 ^ 11 != 0 || cf r 0x24 4 != 0 || cf r 0x2A 2 != 0 || cf r 0x38 8 != 0
/-- Lines the list takes. -/
def listLines (r : BitVec 512) : Nat := (4 * cNin r + 127) / 128
/-- Where a stream's data comes from or goes to, and where a CSEND LOCAL writes. -/
def cSource (p : Nat) (r : BitVec 512) : Option EpAddr := epOf p (cLocal r) (2 * cChunks r)
def cDest (p : Nat) (r : BitVec 512) : Option EpAddr :=
  if colOp r = 1 then epOf p (cPeer r % 2 ^ 32) (2 * cChunks r) else cSource p r
def isSlot : Option EpAddr → Bool
  | some (.slot _) => true
  | _ => false
/-- Some address breaks R266. -/
def colBadAddr (p : Nat) (r : BitVec 512) : Bool :=
  (colOp r != 3 && (cSource p r).isNone) || (colOp r == 1 && cPath r == 0 && (cDest p r).isNone) ||
    (cHasList r && (cList r % 4 != 1 || (epOf p (cList r) (listLines r)).isNone)) ||
    (cFlag r 0 && ((colOp r == 2 || (colOp r == 1 && cPath r == 0)) && !isSlot (cDest p r)))
/-- The refusal of R269, 0 for none. -/
def State.colCheck (s : State) (p : Nat) (r : BitVec 512) : Nat :=
  if colBad r then stOpInvalid
  else if colBadAddr p r then stAddrInvalid
  else
    let x := LM_COMB (cXsite r - 16)
    let full : Bool :=
      if colOp r = 3 then decide (s.rf x LM_COMB_ENTRIES ≥ 64) || decide (s.rf x LM_COMB_BUFS + cWindow r > 2048)
      else colOp r == 1 && cPath r == 3 && decide (s.rf (LM_COMB (cRsite r - 16)) LM_COMB_REPL ≥ 64)
    if full then stColNoSpace
    else if colOp r = 1 ∧ cPath r = 2 ∧ s.nodeDead (cDnode r) then stTargetDead
    else stOK

/-! ## Streams -/

def State.stream? (s : State) (p i : Nat) : Option Stream := Tab.get none s.streams (p * 16 + i)
/-- Slot lines a stream holds (R278). -/
def Stream.slots (p : Nat) (t : Stream) : List Nat :=
  let f (e : Option EpAddr) : List Nat := match e with | some (.slot ix) => (List.range (2 * cChunks t.raw)).map (ix + ·) | _ => []
  (if colOp t.raw = 3 then [] else f (cSource p t.raw)) ++ (if colOp t.raw = 1 ∧ cPath t.raw = 0 then f (cDest p t.raw) else [])
/-- The streams of an engine. -/
def State.streamsOf (s : State) (p : Nat) : List (Nat × Stream) :=
  (List.range 16).filterMap fun i => (s.stream? p i).map fun t => (i, t)
/-- ACTIVE and the HELD bits follow the streams (R278, R285, R286). -/
def State.showEng (s : State) (p : Nat) : State :=
  let ts := s.streamsOf p
  let s := s.wf (LM_COL_ENG p) LM_COL_ENG_ACTIVE ts.length
  let held := ts.flatMap fun t => t.2.slots p
  (List.range 32).foldl (fun s k =>
    s.wf (CD_SLOT_REC p k) CD_SLOT_REC_HELD
      ((List.range 16).foldl (fun m l => if held.contains (16 * k + l) then m + 2 ^ l else m) 0)) s
def State.putStream (s : State) (p i : Nat) (t : Option Stream) : State :=
  { s with streams := Tab.set none s.streams (p * 16 + i) t }
def State.updStream (s : State) (p i : Nat) (f : Stream → Stream) : State :=
  match s.stream? p i with
  | some t => s.putStream p i (some (f t))
  | none => s
/-- Inputs or targets of a stream; a stream without a list has one. -/
def Stream.full (t : Stream) : Nat := 2 ^ (max 1 t.inputs.length) - 1
/-- Chunk `c` is complete. -/
def Stream.has (t : Stream) (c : Nat) : Bool := decide (c < t.low) || Tab.get 0 t.got c == t.full
/-- LOW moves over the complete chunks. -/
def Stream.advance (t : Stream) : Nat → Stream
  | 0 => t
  | n + 1 =>
    if t.low < cChunks t.raw ∧ Tab.get 0 t.got t.low = t.full then
      Stream.advance { t with low := t.low + 1, got := Tab.set 0 t.got t.low 0 } n
    else t
/-- DONE (R270). -/
def Stream.done (t : Stream) : Nat := t.low + (t.got.filter fun e => e.2 = t.full).length
/-- The stream receives into a region of its pair. -/
def Stream.receives (t : Stream) : Bool := colOp t.raw == 2 || (colOp t.raw == 1 && cPath t.raw == 0)
/-- Inputs that have not delivered chunk LOW, as FAILMAP marks them (R282). -/
def Stream.missing (t : Stream) : Nat := t.full - Tab.get 0 t.got t.low

/-! ## COL packets (R280) -/

def State.siteDomain (s : State) (p : Nat) : Nat := s.domain (s.partOfPair p)
/-- A COL packet of descriptor `r`'s stream from a site to a site of a node. -/
def State.colPkt (s : State) (ty cflag : Nat) (r : BitVec 512) (dom val0 val1 osite dnode csite tidx tmask : Nat)
    (data : List Byte) : Pkt :=
  let txn := ty + cflag * 2 ^ 8 + cColid r * 2 ^ 16 + cAttempt r * 2 ^ 32 + dom * 2 ^ 48 + val0 * 2 ^ 64 + val1 * 2 ^ 96 +
    s.sepoch * 2 ^ 128 + osite * 2 ^ 144 + csite * 2 ^ 152 + cFmt r * 2 ^ 160 + tidx * 2 ^ 168 +
    (cTspec r).toNat * 2 ^ 176 + tmask * 2 ^ 192
  mkPkt 3 txn (bytesFlits data) s.ownNode dnode
def kType (p : Pkt) : Nat := p.t 0 1
def kFlags (p : Pkt) : Nat := p.t 1 1
def kColid (p : Pkt) : Nat := p.t 2 2
def kAttempt (p : Pkt) : Nat := p.t 4 2
def kDomain (p : Pkt) : Nat := p.t 6 2
def kVal0 (p : Pkt) : Nat := p.t 8 4
def kVal1 (p : Pkt) : Nat := p.t 0x0C 4
def kEpoch (p : Pkt) : Nat := p.t 0x10 2
def kOsite (p : Pkt) : Nat := p.t 0x12 1
def kMask (p : Pkt) : Nat := p.t 0x18 8
/-- A reserved bit of the TXN is set (R221, R280). -/
def kBad (p : Pkt) : Bool :=
  !(decide (1 ≤ kType p) && decide (kType p ≤ 4)) || kFlags p / 4 != 0 || kOsite p / 32 != 0 || p.t 0x13 1 / 32 != 0 ||
    p.t 0x14 1 / 16 != 0 || p.t 0x20 16 != 0
/-- The packet belongs to a descriptor's collective and attempt. -/
def kFor (p : Pkt) (r : BitVec 512) : Bool := kColid p == cColid r && kAttempt p == cAttempt r

/-! ## The end of a stream (R270, R283, R284) -/

/-- The engine's write-back: the counters, the record, and the slot's status with the fields at 0x28, which the channel
writes before its control granule; NOTIFY follows that (R270, R319). -/
def State.colWrite (s : State) (p core ch slot : Nat) (r : BitVec 512) (ctx : BitVec 16) (st : Nat) (sat : Bool)
    (done failmap : Nat) : State :=
  let bs := [BitVec.ofNat 8 st, BitVec.ofNat 8 sat.toNat, 0, 0] ++ leBytes 4 done ++ leBytes 8 failmap
  let s := s.bump (LM_COL_DONE p) LM_COL_DONE_STREAMS 1
  let s :=
    if st = stOK then s
    else (s.bump (LM_COL_ENG p) LM_COL_ENG_FAILS 1).event 0x05 0x01 (unitOf 4 p) ctx st 0
      (cColid r + cAttempt r * 2 ^ 16) (failmap + done * 2 ^ 64)
  (s.updDesc core ch slot fun d => { d with back := bs }).descDone core ch slot st 0 0

/-- The error value goes into the chunks that still lack it; those in a closed zone or a taken bank stay (R284). -/
def State.fillErr (s : State) (p i : Nat) : State :=
  match s.stream? p i with
  | none => s
  | some t =>
    match cDest p t.raw with
    | none => s
    | some e => t.fill.foldl (fun s c =>
        match s.epWrite p e c (cFmt t.raw) (errBytes (cFmt t.raw) 256) with
        | (.wait, s) => s
        | (_, s) => s.updStream p i fun t => { t with fill := t.fill.erase c }) s
/-- Combiner and replication entries of a stream are freed (R279, R281, R284). -/
def State.freeEntries (s : State) (p i : Nat) : State :=
  let cs := s.combs.filter fun e => match e.2 with | some c => c.pair == p && c.ix == i | none => false
  let s := cs.foldl (fun s e =>
    let x := LM_COMB (e.1 / 64 - 16)
    let w := match e.2 with | some c => cWindow c.raw | none => 0
    let s := { s with combs := Tab.set none s.combs e.1 none }
    (s.wf x LM_COMB_ENTRIES (s.rf x LM_COMB_ENTRIES - 1)).wf x LM_COMB_BUFS (s.rf x LM_COMB_BUFS - w)) s
  let rs := s.repls.filter fun e => match e.2 with | some c => c.pair == p && c.ix == i | none => false
  rs.foldl (fun s e =>
    let x := LM_COMB (e.1 / 64 - 16)
    { s with repls := Tab.set none s.repls e.1 none }.wf x LM_COMB_REPL (s.rf x LM_COMB_REPL - 1)) s
/-- A static contribution has met a line the stream holds (R278). -/
def State.overlapped (s : State) (p : Nat) (t : Stream) : Bool := (t.slots p).any (s.pair p).overlaps.contains
/-- A stream ends with a status; what it receives into and has not completed takes the error value (R284). A held line that
a static contribution has met makes it COL_OVERLAP (R278). -/
def State.streamEnd (s : State) (p i st failmap : Nat) : State :=
  match s.stream? p i with
  | none => s
  | some t =>
    if t.status.isSome then s
    else
      let st := if st = stOK ∧ s.overlapped p t then stColOverlap else st
      let fill := if t.receives && st != stOK then (List.range (cChunks t.raw)).filter fun c => !t.has c else []
      let s := s.putStream p i (some { t with status := some st, failmap := failmap, pend := [], zero := [], fill := fill })
      (s.freeEntries p i).fillErr p i
/-- Streams whose held lines a static contribution has met complete with COL_OVERLAP, those that had only to be written back
too (R278). -/
def State.overlapEnd (s : State) (p : Nat) : State :=
  if (s.pair p).overlaps = [] then s
  else
    let hit := (s.streamsOf p).filter fun t => s.overlapped p t.2
    let s := hit.foldl (fun s t =>
      if t.2.status = some stOK then s.putStream p t.1 (some { t.2 with status := some stColOverlap })
      else s.streamEnd p t.1 stColOverlap 0) s
    s.setPair p { s.pair p with overlaps := [] }

/-! ## Grants (R271) -/

/-- A consumer's LOW and UPTO to each listed input, by COL packets from a site. -/
def State.grantAll (s : State) (site : Nat) (r : BitVec 512) (dom : Nat) (ins : List (Nat × Nat)) (low upto : Nat) : State :=
  ins.foldl (fun s x => s.inject site 7 0 true (s.colPkt 2 0 r dom low upto site x.1 x.2 0 0 [])) s

/-- The source input of a pair's phase receive waveguide in the slot in force. -/
def State.rxSource (s : State) (p wg : Nat) : Option Nat :=
  s.outSrc (s.rf (LM_WEFT_GSTAT p) LM_WEFT_GSTAT_CUR) (16 * p + wg)
/-- Outputs that an input of pair `p` reaches in the slot in force. -/
def State.txDests (s : State) (p wg : Nat) : List Nat :=
  match s.part? (s.partOfPair p) with
  | some q => s.namedBy q (s.rf (LM_WEFT_GSTAT p) LM_WEFT_GSTAT_CUR) (16 * p + wg)
  | none => []
/-- The stream of an engine on a circuit. -/
def State.circStream (s : State) (p op wg colid attempt : Nat) : Option (Nat × Stream) :=
  (s.streamsOf p).find? fun t => colOp t.2.raw == op && cPath t.2.raw == 1 && cWg t.2.raw == wg && t.2.status.isNone &&
    cColid t.2.raw == colid && cAttempt t.2.raw == attempt

/-- GATE lets chunk `c` go (R270). -/
def State.gateOpen (s : State) (p : Nat) (r : BitVec 512) (c : Nat) : Bool :=
  !cFlag r 3 || decide (s.knotCount (p * 32 + cf r 0x22 2 % 32) (cf r 0x22 2 / 32 % 64) ≥ c + 1)
/-- Multicast chunks of the package that are not acknowledged (R281). -/
def State.mcOpen (s : State) : Nat :=
  (s.streams.map fun e => match e.2 with
    | some t => if colOp t.raw = 1 ∧ cPath t.raw = 3 ∧ t.status.isNone then t.next - t.done else 0
    | none => 0).sum
/-- Targets of a multicast stream that are marked dead (R281). -/
def State.deadMask (s : State) (t : Stream) : Nat :=
  ((List.range t.inputs.length).zip t.inputs).foldl (fun m e => if s.nodeDead e.2.1 then m + 2 ^ e.1 else m) 0
/-- A DATA to the replicating site with a new MSEQ (R281). -/
def State.mcSend (s : State) (p : Nat) (t : Stream) (c mask : Nat) (bs : List Byte) : State :=
  let m := s.mseq
  let s := { s with mseq := (m + 1) % 2 ^ 32 }
  s.inject p 7 0 true (s.colPkt 1 2 t.raw (s.domain t.part) c m p s.ownNode (cRsite t.raw) 0 mask bs)

/-! ## Writing what a stream receives (R277) -/

/-- After a chunk has completed: LOW, and the end or a new grant. -/
def State.afterChunk (s : State) (p i : Nat) : State :=
  match s.stream? p i with
  | none => s
  | some t =>
    let u := t.advance (t.got.length + 1)
    if u.low = t.low then s
    else
      let u := { u with upto := u.low + cWindow u.raw }
      let s := s.putStream p i (some u)
      let s := if colOp u.raw = 2 ∧ cPath u.raw = 2 then s.grantAll p u.raw (s.domain u.part) u.inputs u.low u.upto else s
      if u.low = cChunks u.raw then s.streamEnd p i stOK 0 else s
/-- One waiting contribution is written: an accumulate step, or a replacement. -/
def State.pendWrite (s : State) (p i : Nat) (x : Nat × Nat × List Byte) : State :=
  match s.stream? p i with
  | none => s
  | some t =>
    if t.status.isSome then s
    else
      let (c, inp, bs) := x
      let (r, sat, s) : EpRes Unit × Bool × State :=
        match cDest p t.raw with
        | none => (.bad stAddrInvalid, false, s)
        | some (.slot ix) =>
          if cFlag t.raw 0 then
            let wide := specWide (cTspec t.raw)
            let (a, s) := s.slotAdd p (ix + 2 * c) wide (bs.take 128)
            let (b, s) := s.slotAdd p (ix + 2 * c + 1) wide (bs.drop 128)
            (.ok (), a || b, s)
          else let (r, s) := s.epWrite p (.slot ix) c (cFmt t.raw) bs; (r, false, s)
        | some e => let (r, s) := s.epWrite p e c (cFmt t.raw) bs; (r, false, s)
      match r with
      | .wait => s
      | .bad st => s.streamEnd p i st 0
      | .ok _ =>
        (s.putStream p i (some { t with got := Tab.set 0 t.got c (Tab.get 0 t.got c ||| 2 ^ inp), sat := t.sat || sat,
                                        pend := t.pend.erase x })).afterChunk p i
/-- A contribution reaches a stream: slot lines wait for the Loom input, the rest is written at once where it can be. -/
def State.chunkIn (s : State) (p i c inp : Nat) (bs : List Byte) (sat : Bool) : State :=
  match s.stream? p i with
  | none => s
  | some t =>
    let x := (c, inp, bs)
    let s := s.putStream p i (some { t with pend := t.pend ++ [x], sat := t.sat || sat })
    if isSlot (cDest p t.raw) then s else s.pendWrite p i x
/-- The contribution of an input to a chunk is neither written nor waiting. -/
def Stream.wants (t : Stream) (c inp : Nat) : Bool :=
  decide (c < cChunks t.raw) && !t.has c && !(Tab.get 0 t.got c).testBit inp && !t.pend.any fun x => x.1 == c && x.2.1 == inp

/-! ## Sending -/

/-- 1 + the beat count that bounds the static contributions in chunk `c`: that of the KSIG that opened its gate, or of the
SHKICK that made the descriptor ready (R270). -/
def Stream.bound (t : Stream) (c : Nat) : Nat := let w := Tab.get 0 t.gateW c; if w = 0 then t.wn else w

/-- The next chunk of a stream that is not on a circuit, sent where its bounds allow; `false` where nothing is sent. -/
def State.pumpOne (s : State) (p i : Nat) : Bool × State :=
  match s.stream? p i with
  | none => (false, s)
  | some t =>
    let c := t.next
    let lim : Bool := match cPath t.raw with
      | 0 => decide (c < t.low + cWindow t.raw)
      | 2 => decide (c < t.upto)
      | 3 => decide (s.mcOpen < 256)
      | _ => false
    if colOp t.raw ≠ 1 ∨ t.status.isSome ∨ c ≥ cChunks t.raw ∨ !lim ∨ !s.gateOpen p t.raw c then (false, s)
    else
      match cSource p t.raw with
      | none => (false, s)
      | some e =>
        match s.epRead p e c (t.bound c) with
        | (.wait, s) => (false, s)
        | (.bad st, s) => (false, s.streamEnd p i st 0)
        | (.ok bs, s) =>
          let s := s.putStream p i (some { t with next := c + 1 })
          match cPath t.raw with
          | 0 => (true, s.chunkIn p i c 0 bs false)
          | 2 => (true, s.inject p 7 0 true (s.colPkt 1 0 t.raw (s.domain t.part) c 0 p (cDnode t.raw) (cCsite t.raw) 0 0 bs))
          | _ => (true, s.mcSend p t c (t.full - s.deadMask t) bs)
def State.pumpN (s : State) (p i : Nat) : Nat → State
  | 0 => s
  | n + 1 => match s.pumpOne p i with
    | (true, s) => s.pumpN p i n
    | (false, s) => s

/-- UPTO of a circuit sender: the smallest of its destinations (R276). -/
def State.circUpto (s : State) (p : Nat) (t : Stream) : Nat :=
  match s.txDests p (cWg t.raw) with
  | [] => 0
  | ds => ds.foldl (fun m o => min m (match t.dst.find? (fun e => e.1 = o) with | some e => e.2.2 | none => 0)) (2 ^ 32)
/-- The segment header of chunks [first, first + n) (R274). -/
def segHeader (r : BitVec 512) (first n : Nat) (sat : Bool) : Flit :=
  BitVec.ofNat 512 (cColid r + cAttempt r * 2 ^ 16 + first * 2 ^ 32 + n * 2 ^ 64 + sat.toNat * 2 ^ 80)
/-- The run of consecutive chunks a list starts with, at most `n`. -/
def runOf : Nat → List Nat → Nat
  | 0, _ => 0
  | _, [] => 0
  | _, [_] => 1
  | n + 1, a :: b :: r => if b = a + 1 then 1 + runOf n (b :: r) else 1
/-- Chunks read for a segment. -/
def State.readChunks (s : State) (p : Nat) (e : EpAddr) (w : Nat → Nat) : List Nat → EpRes (List (List Byte)) × State
  | [] => (.ok [], s)
  | c :: r =>
    match s.epRead p e c (w c) with
    | (.ok b, s) =>
      match s.readChunks p e w r with
      | (.ok l, s) => (.ok (b :: l), s)
      | (.wait, s) => (.ok [b], s)
      | (.bad st, s) => (.bad st, s)
    | (.wait, s) => (.wait, s)
    | (.bad st, s) => (.bad st, s)
/-- Another stream that was accepted earlier still sends on the waveguide (R274). -/
def State.wgTaken (s : State) (p : Nat) (t : Stream) : Bool :=
  (s.streamsOf p).any fun u => colOp u.2.raw == 1 && cPath u.2.raw == 1 && cWg u.2.raw == cWg t.raw && u.2.status.isNone &&
    decide (u.2.ord < t.ord)
/-- A phase source sends: it has light, and light hold does not stop it (R142, R167). -/
def State.srcOpen (s : State) (src : Nat) : Bool := !s.lightHold && !(s.sw (s.partOfPair (src / 16))).on
/-- A segment leaves in frames of its own (R163, R274). -/
def State.segFrames (s : State) (src : Nat) (outs : List Nat) (h : Flit) (chunks : List (List Byte)) : State :=
  s.sendFrames (phaseAt src).1 (phaseAt src).2 (rateOf outs.length) (s.activeLanes src outs) (leBytes 64 h.toNat ++ chunks.flatten)
/-- One segment of a circuit stream: chunks to resend first, then new ones (R274 to R276). Sources are blanked during a
switch (R142). -/
def State.segOne (s : State) (p i : Nat) : Bool × State :=
  match s.stream? p i with
  | none => (false, s)
  | some t =>
    if colOp t.raw ≠ 1 ∨ cPath t.raw ≠ 1 ∨ t.status.isSome ∨ s.wgTaken p t ∨ !s.srcOpen (16 * p + cWg t.raw) then (false, s)
    else
      let top := min (s.circUpto p t) (cChunks t.raw)
      let new := ((List.range (top - t.next)).map (t.next + ·)).takeWhile fun c => s.gateOpen p t.raw c
      let cs := if t.resend = [] then new else t.resend
      let cs := cs.take (runOf 64 cs)
      match cSource p t.raw, cs with
      | some e, first :: _ =>
        match s.readChunks p e t.bound cs with
        | (.wait, s) => (false, s)
        | (.bad st, s) => (false, s.streamEnd p i st 0)
        | (.ok l, s) =>
          let cs := cs.take l.length
          let u := { t with next := if t.resend = [] then t.next + cs.length else t.next,
                            resend := t.resend.filter fun c => !cs.contains c,
                            tries := cs.foldl (fun m c => Tab.set 0 m c (Tab.get 0 m c + 1)) t.tries }
          let src := 16 * p + cWg t.raw
          let h := segHeader t.raw first cs.length false
          (true, { s.putStream p i (some u) with segOut := s.segOut ++ [(src, h, l)] }.segFrames src (s.txDests p (cWg t.raw)) h l)
      | _, _ => (false, s)
def State.segN (s : State) (p i : Nat) : Nat → State
  | 0 => s
  | n + 1 => match s.segOne p i with
    | (true, s) => s.segN p i n
    | (false, s) => s
/-- A stream sends all that its bounds allow. -/
def State.pump (s : State) (p i : Nat) : State :=
  match s.stream? p i with
  | none => s
  | some t => if cPath t.raw = 1 then s.segN p i (cChunks t.raw + 1) else s.pumpN p i (cChunks t.raw + 1)

/-- LOW and UPTO of a circuit receiver reach its source (R264, R271); at LOW = CHUNKS of every destination the CSEND ends. -/
def State.circGrant (s : State) (p : Nat) (t : Stream) : State :=
  let o := 16 * p + cWg t.raw
  match s.rxSource p (cWg t.raw) with
  | none => s
  | some src =>
    if src % 16 ≥ 8 ∨ t.zero ≠ [] then s
    else
      let s := s.overlapEnd (src / 16)
      match s.circStream (src / 16) 1 (src % 16) (cColid t.raw) (cAttempt t.raw) with
      | none => s
      | some (j, u) =>
        let dst := (o, t.low, t.upto) :: u.dst.filter fun e => e.1 ≠ o
        let ds := s.txDests (src / 16) (src % 16)
        let low := ds.foldl (fun m x => min m (match dst.find? (fun e => e.1 = x) with | some e => e.2.1 | none => 0)) (2 ^ 32)
        let s := s.putStream (src / 16) j (some { u with dst := dst, low := low })
        if low = cChunks u.raw then s.streamEnd (src / 16) j stOK 0 else s.pump (src / 16) j
/-- The grant of a stream that has just moved, where it is a circuit receiver. -/
def State.circNote (s : State) (p i : Nat) : State :=
  match s.stream? p i with
  | some t => if colOp t.raw = 2 ∧ cPath t.raw = 1 then s.circGrant p t else s
  | none => s

/-! ## Acceptance (R265, R268, R269, R272) -/

/-- Entries of a list; `none` where a read is uncorrectable. -/
def State.readList (s : State) (p : Nat) (r : BitVec 512) : Option (List Nat) × State :=
  if cHasList r then
    match epOf p (cList r) (listLines r) with
    | some (.pool cl l) =>
      match s.poolRead cl (128 * l) (4 * cNin r) with
      | (some bs, s) => (some ((chunksOf 4 (cNin r) bs).map leNat), s)
      | (none, s) => (none, s)
    | _ => (some [], s)
  else (some [], s)
/-- The pool port can read the list now (R107). -/
def State.listCan (s : State) (p : Nat) (r : BitVec 512) : Bool :=
  !cHasList r || match epOf p (cList r) (listLines r) with
    | some (.pool cl l) => s.portCan cl (128 * l) (4 * cNin r) false
    | _ => true
/-- A list entry has a reserved bit or a site that its operation does not allow (R268). -/
def entryBad (r : BitVec 512) (e : Nat) : Bool :=
  nbits e 14 2 != 0 || e / 2 ^ 21 != 0 || (if colOp r = 1 then decide (nbits e 16 5 ≥ 8) else !siteConsumer (nbits e 16 5))

inductive ColRes | taken | refused (st : Nat) | later
deriving DecidableEq, Repr

/-- Chunk `c` of a CRECV with ZERO is set to 0; `wait` where its zone is closed or a bank is taken (R277). -/
def State.zeroChunk (s : State) (p c : Nat) (r : BitVec 512) : EpRes Unit × State :=
  match cDest p r with
  | some (.slot ix) =>
    let w := if isTally (cFmt r) then (if specWide (cTspec r) then 2 else 1) else 0
    (.ok (), (s.slotReplace p (ix + 2 * c) [] w).slotReplace p (ix + 2 * c + 1) [] w)
  | some e => s.epWrite p e c (cFmt r) (List.replicate 256 0)
  | none => (.ok (), s)
/-- The first grant of a CRECV (R271), once its region has been zeroed. -/
def State.firstGrant (s : State) (p i : Nat) : State :=
  match s.stream? p i with
  | none => s
  | some t =>
    if t.zero ≠ [] ∨ t.status.isSome then s
    else if cPath t.raw = 2 then s.grantAll p t.raw (s.domain t.part) t.inputs 0 (cWindow t.raw)
    else s.circGrant p t
/-- What is still to be zeroed is zeroed where it can be, and the first grant follows. -/
def State.zeroStep (s : State) (p i : Nat) : State :=
  match s.stream? p i with
  | none => s
  | some t =>
    (t.zero.foldl (fun s c =>
      match s.zeroChunk p c t.raw with
      | (.wait, s) => s
      | (.bad st, s) => s.streamEnd p i st 0
      | (.ok _, s) => s.updStream p i fun t => { t with zero := t.zero.erase c }) s).firstGrant p i

/-- What an accepted stream does first: it zeroes, reserves, installs, grants or sends. -/
def State.streamStart (s : State) (p i : Nat) : State :=
  match s.stream? p i with
  | none => s
  | some t =>
    let r := t.raw
    match colOp r with
    | 2 => s.zeroStep p i
    | 3 =>
      let x := cXsite r
      match (List.range 64).find? (fun j => (Tab.get none s.combs (x * 64 + j)).isNone) with
      | none => s
      | some j =>
        let c : Comb := { pair := p, ix := i, raw := r, part := t.part, inputs := t.inputs, opened := [], clamped := [], sent := [],
                          low := 0, upto := 0 }
        let a := LM_COMB (x - 16)
        let s := { s with combs := Tab.set none s.combs (x * 64 + j) (some c) }
        (s.wf a LM_COMB_ENTRIES (s.rf a LM_COMB_ENTRIES + 1)).wf a LM_COMB_BUFS (s.rf a LM_COMB_BUFS + cWindow r)
    | _ =>
      let s :=
        if cPath r = 3 then
          match (List.range 64).find? (fun j => (Tab.get none s.repls (cRsite r * 64 + j)).isNone) with
          | none => s
          | some j =>
            let e : Repl := { pair := p, ix := i, colid := cColid r, attempt := cAttempt r, targets := t.inputs }
            let a := LM_COMB (cRsite r - 16)
            { s with repls := Tab.set none s.repls (cRsite r * 64 + j) (some e) }.wf a LM_COMB_REPL (s.rf a LM_COMB_REPL + 1)
        else if cPath r = 1 then
          (s.txDests p (cWg r)).foldl (fun s o =>
            if o % 16 ≥ 8 then s
            else
              match s.circStream (o / 16) 2 (o % 16) (cColid r) (cAttempt r) with
              | some (_, u) => if u.zero = [] then s.updStream p i fun t => { t with dst := (o, u.low, u.upto) :: t.dst } else s
              | none => s) s
        else s
      s.pump p i

/-- The engine takes a descriptor that its checks let through, once it has room and its slot is in force. -/
def State.colTake (s : State) (p core ch slot : Nat) (r : BitVec 512) : ColRes × State :=
  let s := s.overlapEnd p
  let st := s.colCheck p r
  let ws := Tab.get [] s.colWait p
  let free := (List.range 16).find? fun i => (s.stream? p i).isNone
  if st ≠ stOK then (.refused st, s)
  else if cPath r = 1 ∧ colOp r ≠ 3 ∧ (ws ≠ [] ∨ cSlot r ≠ s.rf (LM_WEFT_GSTAT p) LM_WEFT_GSTAT_CUR) then
    if ws.all (fun w => cSlot w.raw == cSlot r) ∧ !ws.any (fun w => w.core == core && w.ch == ch) then
      (.later, { s with colWait := Tab.set [] s.colWait p (ws ++ [{ raw := r, core := core, ch := ch }]) })
    else (.later, s)
  else
    match free, s.listCan p r with
    | none, _ | _, false => (.later, s)
    | some i, true =>
      match s.readList p r with
      | (none, s) => (.refused stMemUe, s)
      | (some es, s) =>
        if es.any (entryBad r) then (.refused stOpInvalid, s)
        else
          let t : Stream :=
            { raw := r, core := core, ch := ch, slot := slot, part := s.partOfPair p, ctx := s.ctx (s.partOfPair p),
              inputs := es.map fun e => (e % 2 ^ 14, nbits e 16 5), low := 0,
              upto := if colOp r = 2 then cWindow r else 0, next := 0, dst := [], resend := [], tries := [], got := [], rej := [],
              pend := [], sat := false, status := none, failmap := 0, ord := s.streamSeq, wn := (s.shch_ core ch).headW,
              gateW := [], zero := if colOp r = 2 ∧ cFlag r 1 then List.range (cChunks r) else [], fill := [] }
          (.taken, ({ s with streamSeq := s.streamSeq + 1 }.putStream p i (some t)).streamStart p i)

/-- A descriptor refused or failed before it became a stream: started and written back (R269, R272). -/
def State.colRefuse (s : State) (core ch : Nat) (r : BitVec 512) (st : Nat) : State :=
  let h := s.rf (SH_CH_STAT core ch) SH_CH_STAT_HEAD
  let p := pairOf core
  (s.chStart core ch (newDesc h r true)).colWrite p core ch h r (s.ctx (s.partOfPair p)) st false 0 0
/-- The descriptor at the head of a channel is offered to the pair's engine (R265, R317). -/
def State.colStart (s : State) (core ch : Nat) (r : BitVec 512) : State :=
  let h := s.rf (SH_CH_STAT core ch) SH_CH_STAT_HEAD
  let p := pairOf core
  match s.colTake p core ch h r with
  | (.refused st, s) => s.colRefuse core ch r st
  | (.later, s) => s
  | (.taken, s) => (s.chStart core ch (newDesc h r true)).showEng p
/-- CSEND, CRECV or CCOMB of a channel that may start (R314, R317). -/
def State.colCmd (s : State) (d : ColDesc) (op : Nat) : State :=
  if colOp d.raw = op ∧ s.chReady d.core d.ch then s.colStart d.core d.ch d.raw else s

/-- CSEND (R269, R270). -/
def execCsend (d : ColDesc) (s : State) : Host.Outcome State Fault Refusal := .next (s.colCmd d 1)
/-- CRECV (R269, R271, R277). -/
def execCrecv (d : ColDesc) (s : State) : Host.Outcome State Fault Refusal := .next (s.colCmd d 2)
/-- CCOMB (R269, R279). -/
def execCcomb (d : ColDesc) (s : State) : Host.Outcome State Fault Refusal := .next (s.colCmd d 3)

/-! ## Arrivals -/

/-- A packet or segment dropped at a site: counted by the pair's engine or the port site (R279, R280). -/
def State.colDrop (s : State) (site : Nat) : State :=
  if site < 8 then s.bump (LM_COL_ENG site) LM_COL_ENG_DROPS 1
  else if 16 ≤ site then s.bump (LM_COMB (site - 16)) LM_COMB_DUP_DROP 1
  else s
/-- A DOMAIN mismatch is recorded (R280). -/
def State.colDenied (s : State) (site part : Nat) (p : Pkt) : State :=
  (s.colDrop site).event 0x04 0x06 (unitOf 4 site) (s.ctx part) stAccessDenied 0 0
    (p.snode.toNat + kDomain p * 2 ^ 16 + kVal1 p * 2 ^ 32)
/-- Index of a (node, site) in a list. -/
def indexIn (l : List (Nat × Nat)) (node site : Nat) : Option Nat :=
  (List.range l.length).find? fun i => l[i]? == some (node, site)
/-- The receiving stream of a COL DATA at a pair site. -/
def State.colRecv (s : State) (site : Nat) (p : Pkt) : Option (Nat × Stream) :=
  (s.streamsOf site).find? fun t => colOp t.2.raw == 2 && cPath t.2.raw == 2 && kFor p t.2.raw && t.2.status.isNone

/-- A multicast copy at a target (R281): delivered and acknowledged, acknowledged again, rejected, or dropped. -/
def State.mcCopy (s : State) (site : Nat) (p : Pkt) (t : Option (Nat × Stream)) : State :=
  let answer (s : State) (ty : Nat) : State :=
    let txn := ty + 2 * 2 ^ 8 + kColid p * 2 ^ 16 + kAttempt p * 2 ^ 32 + kDomain p * 2 ^ 48 + kVal0 p * 2 ^ 64 +
      kVal1 p * 2 ^ 96 + s.sepoch * 2 ^ 128 + site * 2 ^ 144 + kOsite p * 2 ^ 152 + p.t 0x14 1 * 2 ^ 160 + p.t 0x16 2 * 2 ^ 176
    s.inject site 7 0 true (mkPkt 3 txn [] s.ownNode p.snode.toNat)
  let n := p.snode.toNat
  let (d, e) := filterDecide (Tab.get none s.mcFilter (n * 8 + site)) (kEpoch p) (kVal1 p)
  match d with
  | .stale => s.bump LM_MS_STAT0 LM_MS_STAT0_STALE_DROP 1
  | .dup _ => answer s 3
  | .new =>
    match t with
    | none => answer s 4
    | some (i, t) =>
      match indexIn t.inputs n (kOsite p) with
      | none => answer s 4
      | some x =>
        if kVal0 p ≥ t.upto then answer s 4
        else
          let s := { s with mcFilter := Tab.set none s.mcFilter (n * 8 + site) e }
          let s := if t.wants (kVal0 p) x then
              s.chunkIn site i (kVal0 p) x (fitBytes 256 (flitBytes p.data)) (kFlags p % 2 == 1) else s
          answer s 3

/-- The combiner's step (R279): the elements of a chunk, and whether one clamped. -/
def combAdd (wide : Bool) (a b : BitVec 2048) : BitVec 2048 × Bool :=
  let w := tallyBits wide
  let rs := (List.range (2048 / w)).map fun i =>
    accumulate wide (decodeTally wide (unpackNat w i a.toNat)) [decodeTally wide (unpackNat w i b.toNat)]
  (BitVec.ofNat 2048 (packNat w (rs.map fun r => encodeTally wide r.val)), rs.any fun r => r.flags ≠ 0)
/-- LOW of a combiner moves over the chunks it has sent. -/
def Comb.advance (c : Comb) : Nat → Comb
  | 0 => c
  | n + 1 =>
    if c.sent.contains c.low then Comb.advance { c with low := c.low + 1, sent := c.sent.filter (· ≠ c.low) } n else c
/-- The grant a combiner relays (R271). -/
def State.combGrant (s : State) (site : Nat) (c : Comb) : State :=
  s.grantAll site c.raw (s.domain c.part) c.inputs c.low (min c.upto (c.low + cWindow c.raw))
/-- A contribution to a combiner entry (R279). -/
def State.combIn (s : State) (site j : Nat) (c : Comb) (x : Nat) (p : Pkt) : State :=
  let k := kVal0 p
  let wide := specWide (cTspec c.raw)
  let (m, v, sat) := match c.opened.find? (fun e => e.1 = k) with
    | some e => e.2
    | none => (0, 0, false)
  if k < c.low ∨ c.sent.contains k ∨ m.testBit x ∨ k ≥ min c.upto (c.low + cWindow c.raw) then s.colDrop site
  else
    let (v, cl) := combAdd wide v (BitVec.ofNat 2048 (leNat (fitBytes 256 (flitBytes p.data))))
    let sat := sat || cl || kFlags p % 2 == 1
    let s := if cl && !c.clamped.contains k then s.bump (LM_COMB (site - 16)) LM_COMB_SAT 1 else s
    let c := { c with clamped := if cl && !c.clamped.contains k then k :: c.clamped else c.clamped }
    let m := m ||| 2 ^ x
    let rest := c.opened.filter fun e => e.1 ≠ k
    if m = 2 ^ c.inputs.length - 1 then
      let s := s.lmEvc site 0 0x0E 1
      let s := s.inject site 7 0 true (s.colPkt 1 sat.toNat c.raw (s.domain c.part) k 0 site (cDnode c.raw) (cCsite c.raw) 0 0
        (leBytes 256 v.toNat))
      let c' := Comb.advance { c with opened := rest, clamped := c.clamped.erase k, sent := k :: c.sent } (c.sent.length + 1)
      let s := { s with combs := Tab.set none s.combs (site * 64 + j) (some c') }
      let s := s.updStream c.pair c.ix fun t => { t with low := c'.low, sat := t.sat || sat }
      let s := if c'.low = c.low then s else s.combGrant site c'
      if c'.low = cChunks c.raw then s.streamEnd c.pair c.ix stOK 0 else s
    else
      { s with combs := Tab.set none s.combs (site * 64 + j) (some { c with opened := (k, m, v, sat) :: rest }) }

/-- The entry of a site that satisfies a test. -/
def State.combAt (s : State) (site : Nat) (f : Comb → Bool) : Option (Nat × Comb) :=
  (List.range 64).findSome? fun j => match Tab.get none s.combs (site * 64 + j) with
    | some c => if f c then some (j, c) else none
    | none => none
def State.replAt (s : State) (site : Nat) (p : Pkt) : Option Repl :=
  (List.range 64).findSome? fun j => match Tab.get none s.repls (site * 64 + j) with
    | some c => if c.colid == kColid p && c.attempt == kAttempt p && c.pair == kOsite p then some c else none
    | none => none

/-- DATA (R279 to R281). -/
def execData (site : SiteIx) (pk : Pkt) (s : State) : Host.Outcome State Fault Refusal :=
  let s := s.takeEp site 7 pk
  if pk.cls ≠ 3 then .next s
  else if kBad pk then .next (s.bump LM_MS_STAT2 LM_MS_STAT2_MALFORMED_TXN 1)
  else if kType pk ≠ 1 then .next s
  else if site.val < 8 then
    let s := s.overlapEnd site
    let part := s.partOfPair site
    if kDomain pk ≠ s.domain part then .next (s.colDenied site part pk)
    else
      let t := s.colRecv site pk
      if kFlags pk / 2 % 2 = 1 then .next (s.mcCopy site pk t)
      else
        match t with
        | none => .next (s.colDrop site)
        | some (i, t) =>
          match indexIn t.inputs pk.snode.toNat (kOsite pk) with
          | none => .next (s.colDrop site)
          | some x =>
            if t.wants (kVal0 pk) x && decide (kVal0 pk < t.upto) then
              .next (s.chunkIn site i (kVal0 pk) x (fitBytes 256 (flitBytes pk.data)) (kFlags pk % 2 == 1))
            else .next (s.colDrop site)
  else if kFlags pk / 2 % 2 = 1 ∧ kMask pk ≠ 0 then
    match s.replAt site pk with
    | none => .next (s.colDrop site)
    | some r =>
      if kDomain pk ≠ s.siteDomain r.pair then .next (s.colDenied site (s.partOfPair r.pair) pk)
      else
        let ts := ((List.range r.targets.length).zip r.targets).filter fun e => (kMask pk).testBit e.1
        .next (ts.foldl (fun s (i, n, x) =>
          s.inject site 7 0 true { ((pk.setT 0x13 1 x).setT 0x15 1 i).setT 0x18 8 0 with dnode := BitVec.ofNat 14 n }) s)
  else
    match s.combAt site (fun c => kFor pk c.raw) with
    | none => .next (s.colDrop site)
    | some (j, c) =>
      if kDomain pk ≠ s.domain c.part then .next (s.colDenied site c.part pk)
      else
        match indexIn c.inputs pk.snode.toNat (kOsite pk) with
        | none => .next (s.colDrop site)
        | some x => .next (s.combIn site j c x pk)

/-- GRANT (R271): UPTO of a sender, or of a combiner, which relays it. -/
def execGrant (site : SiteIx) (pk : Pkt) (s : State) : Host.Outcome State Fault Refusal :=
  let s := s.takeEp site 7 pk
  if pk.cls ≠ 3 ∨ (!kBad pk && kType pk ≠ 2) then .next s
  else if kBad pk then .next (s.bump LM_MS_STAT2 LM_MS_STAT2_MALFORMED_TXN 1)
  else if site.val < 8 then
    let s := s.overlapEnd site
    let part := s.partOfPair site
    if kDomain pk ≠ s.domain part then .next (s.colDenied site part pk)
    else
      match (s.streamsOf site).find? (fun t => colOp t.2.raw == 1 && cPath t.2.raw == 2 && kFor pk t.2.raw && t.2.status.isNone &&
          cDnode t.2.raw == pk.snode.toNat && cCsite t.2.raw == kOsite pk) with
      | none => .next (s.colDrop site)
      | some (i, t) =>
        let s := s.putStream site i (some { t with low := max t.low (kVal0 pk), upto := max t.upto (kVal1 pk) })
        if kVal0 pk = cChunks t.raw then .next (s.streamEnd site i stOK 0) else .next (s.pump site i)
  else
    match s.combAt site (fun c => kFor pk c.raw && cDnode c.raw == pk.snode.toNat && cCsite c.raw == kOsite pk) with
    | none => .next (s.colDrop site)
    | some (j, c) =>
      if kDomain pk ≠ s.domain c.part then .next (s.colDenied site c.part pk)
      else
        let c := { c with upto := max c.upto (kVal1 pk) }
        .next ({ s with combs := Tab.set none s.combs (site * 64 + j) (some c) }.combGrant site c)

/-- A multicast stream whose remaining targets are all served or dead ends (R281). -/
def State.mcEnd (s : State) (p i : Nat) : State :=
  match s.stream? p i with
  | none => s
  | some t =>
    let dead := s.deadMask t
    let got := t.got.map fun e => (e.1, e.2 ||| dead)
    let got := if dead = t.full then (List.range (t.next - t.low)).map (fun k => (t.low + k, dead)) else got
    let u := { t with got := got }.advance (got.length + 1)
    let s := s.putStream p i (some { u with failmap := dead })
    if u.low = cChunks u.raw then s.streamEnd p i (if dead = 0 then stOK else stTargetDead) dead else s
/-- The multicast stream that an ACK or REJ answers, and the index of its target. -/
def State.mcStream (s : State) (site : Nat) (pk : Pkt) : Option (Nat × Stream × Nat) :=
  match (s.streamsOf site).find? (fun t => colOp t.2.raw == 1 && cPath t.2.raw == 3 && kFor pk t.2.raw && t.2.status.isNone) with
  | none => none
  | some (i, t) => (indexIn t.inputs pk.snode.toNat (kOsite pk)).map fun x => (i, t, x)
/-- ACK and REJ (R281). -/
def State.mcAnswer (s : State) (site : Nat) (pk : Pkt) (ack : Bool) : State :=
  let s := s.takeEp site 7 pk
  if pk.cls ≠ 3 ∨ (!kBad pk && kType pk ≠ (if ack then 3 else 4)) then s
  else if kBad pk then s.bump LM_MS_STAT2 LM_MS_STAT2_MALFORMED_TXN 1
  else if site ≥ 8 then s.colDrop site
  else
    let s := s.overlapEnd site
    let part := s.partOfPair site
    if kDomain pk ≠ s.domain part then s.colDenied site part pk
    else
      match s.mcStream site pk with
      | none => s.colDrop site
      | some (i, t, x) =>
        let c := kVal0 pk
        if c ≥ t.next then s.colDrop site
        else if ack then
          if t.has c then s
          else
            ((s.putStream site i (some { t with got := Tab.set 0 t.got c (Tab.get 0 t.got c ||| 2 ^ x) })).mcEnd site i).pump site i
        else
          let s := s.bump (LM_COL_DONE site) LM_COL_DONE_REJ 1
          if t.has c ∨ (Tab.get 0 t.got c).testBit x then s
          else s.putStream site i (some { t with rej := Tab.set 0 t.rej c (Tab.get 0 t.rej c ||| 2 ^ x) })
/-- ACK (R281). -/
def execAck (site : SiteIx) (pk : Pkt) (s : State) : Host.Outcome State Fault Refusal := .next (s.mcAnswer site pk true)
/-- REJ (R281). -/
def execRej (site : SiteIx) (pk : Pkt) (s : State) : Host.Outcome State Fault Refusal := .next (s.mcAnswer site pk false)

/-- MCAST_RETRY (R281): unacknowledged chunks go again to the targets that rejected them, and at T/2 (`half`) also to
those that have not answered. -/
def execMcastRetry (p : PairIx) (i : Fin 16) (half : Bool) (s : State) : Host.Outcome State Fault Refusal :=
  let s := (s.overlapEnd p).mcEnd p i
  match s.stream? p i with
  | none => .next s
  | some t =>
    if colOp t.raw ≠ 1 ∨ cPath t.raw ≠ 3 ∨ t.status.isSome then .next s
    else
      let dead := s.deadMask t
      let mask (c : Nat) : Nat :=
        let r := Tab.get 0 t.rej c
        let open_ := (t.full ^^^ (Tab.get 0 t.got c ||| dead))
        (if half then t.full else r) &&& open_
      let cs := ((List.range (t.next - t.low)).map (t.low + ·)).filter fun c => !t.has c && mask c != 0
      let s := s.putStream p i (some { t with rej := t.rej.filter fun e => !cs.contains e.1 })
      let s := match cSource p t.raw with
        | none => s
        | some e => cs.foldl (fun s c =>
            match s.epRead p e c (t.bound c) with
            | (.ok bs, s) => (s.mcSend p t c (mask c) bs).bump (LM_COL_ENG p) LM_COL_ENG_RESENDS 1
            | (.wait, s) => s
            | (.bad st, s) => s.streamEnd p i st 0) s
      .next (s.pump p i)

/-! ## Circuits (R272, R274, R275) -/

/-- Frames of a segment of `n` chunks whose frames carry `w` bytes (R274). -/
def segLen (n w : Nat) : Nat := if w = 0 then 0 else (64 + 256 * n + w - 1) / w
/-- Chunk `i` of a segment in its frames, none where a frame it has a byte in is lost (R275). -/
def segChunk (fs : List (Option (List Byte))) (w i : Nat) : Option (List Byte) :=
  let a := 64 + 256 * i
  let mine := (List.range ((a + 255) / w - a / w + 1)).map fun k => (fs.getD (a / w + k) none)
  if mine.all Option.isSome then some (((mine.flatMap fun x => x.getD []).drop (a % w)).take 256) else none
/-- The frames up to and including the next run of idle frames, and what follows; `none` where no such run has come. -/
def pastIdle : List (Option (List Byte)) → Option (List (Option (List Byte)))
  | [] => none
  | some [] :: r => some r
  | _ :: r => pastIdle r
/-- A resend request to the source of a receive waveguide (R275). -/
def State.askResend (s : State) (p wg : Nat) (t : Stream) (cs : List Nat) : State :=
  match s.rxSource p wg with
  | some x => if cs = [] then s else { s with resendOut := s.resendOut ++ [(x, cColid t.raw, cAttempt t.raw, cs)] }
  | none => s
/-- The chunks below UPTO that a circuit receiver lacks. -/
def Stream.lacking (t : Stream) : List Nat :=
  ((List.range (min t.upto (cChunks t.raw) - t.low)).map (t.low + ·)).filter fun c => t.wants c 0
/-- A segment whose header is lost names no chunks: the receivers on the waveguide ask for all they lack (log entry 84). -/
def State.headLost (s : State) (p wg : Nat) : State :=
  ((s.streamsOf p).filter fun t => colOp t.2.raw == 2 && cPath t.2.raw == 1 && cWg t.2.raw == wg && t.2.status.isNone).foldl
    (fun s t => s.askResend p wg t.2 t.2.lacking) s
/-- The chunks of a segment reach their stream; those that lost a frame are asked for again (R275). -/
def State.segIn (s : State) (p wg i first n : Nat) (sat : Bool) (fs : List (Option (List Byte))) (w : Nat) : State :=
  let cs := (List.range n).map fun k => (first + k, segChunk fs w k)
  let s := cs.foldl (fun s e =>
    match e.2, s.stream? p i with
    | some bs, some t => if t.wants e.1 0 then s.chunkIn p i e.1 0 bs sat else s
    | _, _ => s) s
  match s.stream? p i with
  | some t => (s.askResend p wg t ((cs.filter fun e => e.2.isNone).map Prod.fst)).circNote p i
  | none => s

/-- SEGMENT_RECEIVE (R274, R275): the segment at the head of what a phase receiver has got, once it is there whole. -/
def execSegmentReceive (p : PairIx) (wg : Fin 8) (s : State) : Host.Outcome State Fault Refusal :=
  let s := s.overlapEnd p
  let key := p.val * 16 + 8 + wg.val
  let fs := Tab.get [] s.weftIn key
  let left (s : State) (r : List (Option (List Byte))) : State := { s with weftIn := Tab.set [] s.weftIn key r }
  match fs with
  | [] => .next s
  | some [] :: r => .next (left s r)
  | none :: _ =>
    match pastIdle fs with
    | some r => .next ((left s r).headLost p wg)
    | none => .next s
  | some h :: _ =>
    let v := leNat (h.take 64)
    let n := nbits v 64 16
    let k := segLen n h.length
    if n = 0 ∨ 64 < n then
      match pastIdle fs with
      | some r => .next ((left s r).colDrop p)
      | none => .next s
    else if fs.length < k then .next s
    else
      let s := left s (fs.drop k)
      match s.circStream p 2 wg (nbits v 0 16) (nbits v 16 16) with
      | none => .next (s.colDrop p)
      | some (i, _) =>
        if nbits v 80 8 / 2 ≠ 0 ∨ v / 2 ^ 88 ≠ 0 then .next (s.colDrop p)
        else .next (s.segIn p wg i (nbits v 32 32) n (v.testBit 80) (fs.take k) h.length)

/-- RESEND_REQUEST (R275): the oldest one for a waveguide reaches its sender, which resends the chunks; a fifth sending ends
both ends. -/
def execResendRequest (p : PairIx) (wg : Fin 8) (s : State) : Host.Outcome State Fault Refusal :=
  match s.resendOut.find? (fun e => e.1 = 16 * p.val + wg.val) with
  | none => .next s
  | some (x, colid, attempt, chunks) =>
    let s := { s with resendOut := s.resendOut.erase (x, colid, attempt, chunks) }.overlapEnd p
    match s.circStream p 1 wg colid attempt with
    | none => .next s
    | some (i, t) =>
      let cs := chunks.filter fun c => decide (c < t.next)
      if cs.any fun c => decide (Tab.get 0 t.tries c ≥ 4) then
        let s := (s.txDests p wg).foldl (fun s o =>
          match s.circStream (o / 16) 2 (o % 16) (cColid t.raw) (cAttempt t.raw) with
          | some (j, _) => (s.overlapEnd (o / 16)).streamEnd (o / 16) j stColCircuit 0
          | none => s) s
        .next (s.streamEnd p i stColCircuit 0)
      else
        let s := s.putStream p i (some { t with resend := t.resend ++ cs.filter fun c => !t.resend.contains c })
        .next ((s.bump (LM_COL_ENG p) LM_COL_ENG_RESENDS cs.length).pump p i)

/-- The waiting descriptors of a partition's engines that satisfy a test complete with COL_SLOT_FAILED (R272). -/
def State.failWaits (s : State) (q : Part) (f : Nat → Bool) : State :=
  q.groupIx.foldl (fun s p =>
    let ws := Tab.get [] s.colWait p
    let s := { s with colWait := Tab.set [] s.colWait p (ws.filter fun w => !f (cSlot w.raw)) }
    (ws.filter fun w => f (cSlot w.raw)).foldl (fun s w => s.colRefuse w.core w.ch w.raw stColSlotFailed) s) s
/-- RVALID of the engines that named one of the slots is answered. -/
def State.clearReady (s : State) (q : Part) (f : Nat → Bool) : State :=
  q.groupIx.foldl (fun s p =>
    if f (s.rf (LM_COL_ENG p) LM_COL_ENG_RSLOT) then (s.wf (LM_COL_ENG p) LM_COL_ENG_RVALID 0).wf (LM_COL_ENG p) LM_COL_ENG_RSLOT 0
    else s) s

/-- READY (R272): an engine whose circuit streams have completed asks for the slot its next ones name. -/
def execReady (p : PairIx) (slot : BitVec 4) (s : State) : Host.Outcome State Fault Refusal :=
  let n := s.partOfPair p
  match s.part? n with
  | none => .next s
  | some q =>
    let ws := Tab.get [] s.colWait p
    let busy := (s.streamsOf p).any fun t => cPath t.2.raw == 1 && colOp t.2.raw != 3 && t.2.status.isNone
    if ws = [] ∨ ws.any (fun w => cSlot w.raw ≠ slot.toNat) ∨ busy ∨ s.rb (LM_COL_ENG p) LM_COL_ENG_RVALID then .next s
    else
      let s := (s.wf (LM_COL_ENG p) LM_COL_ENG_RVALID 1).wf (LM_COL_ENG p) LM_COL_ENG_RSLOT slot.toNat
      let rs := (q.groupIx.filter fun x => s.rb (LM_COL_ENG x) LM_COL_ENG_RVALID).map fun x => s.rf (LM_COL_ENG x) LM_COL_ENG_RSLOT
      if rs.any (· ≠ slot.toNat) then .next ((s.failWaits q rs.contains).clearReady q rs.contains)
      else if rs.length = q.pairs then .next (s.swRequest n q slot.toNat false)
      else .next s

/-- SWITCH_OUTCOME (R272): the oldest outcome of a slot the leader asked for reaches the engines; waiting descriptors of
the slot start, or complete with COL_SLOT_FAILED. -/
def execSwitchOutcome (part : PartNo) (slot : BitVec 4) (s : State) : Host.Outcome State Fault Refusal :=
  match s.part? part, s.switchOut.find? (fun e => e.1 = part.val && e.2.1 = slot.toNat && !e.2.2.1) with
  | some q, some e =>
    let s := { s with switchOut := s.switchOut.erase e }.clearReady q (· == slot.toNat)
    if e.2.2.2 = 1 then
      .next (q.groupIx.foldl (fun s p =>
        let ws := Tab.get [] s.colWait p
        let s := { s with colWait := Tab.set [] s.colWait p (ws.filter fun w => cSlot w.raw ≠ slot.toNat) }
        (ws.filter fun w => cSlot w.raw = slot.toNat).foldl (fun s w => s.colStart w.core w.ch w.raw) s) s)
    else .next (s.failWaits q (· == slot.toNat))
  | _, _ => .next s

/-- READY_TIMEOUT (R272): the leader, which holds a READY but not yet all of them, has waited T. -/
def execReadyTimeout (part : PartNo) (s : State) : Host.Outcome State Fault Refusal :=
  match s.part? part with
  | none => .next s
  | some q =>
    let n := (q.groupIx.filter fun p => s.rb (LM_COL_ENG p) LM_COL_ENG_RVALID).length
    if n = 0 ∨ n = q.pairs then .next s
    else .next ((s.failWaits q fun _ => true).clearReady q fun _ => true)

/-! ## Timeouts and completion (R270, R279, R282) -/

/-- STREAM_TIMEOUT (R281, R282). -/
def execStreamTimeout (p : PairIx) (i : Fin 16) (s : State) : Host.Outcome State Fault Refusal :=
  let s := s.overlapEnd p
  match s.stream? p i with
  | none => .next s
  | some t =>
    if colOp t.raw = 1 ∧ cPath t.raw = 3 then
      let lack := (List.range (cChunks t.raw)).foldl (fun m c =>
        if t.has c then m else m ||| (t.full ^^^ (Tab.get 0 t.got c &&& t.full))) 0
      .next (s.streamEnd p i stColPartial (lack ||| s.deadMask t))
    else if colOp t.raw = 3 then .next s
    else .next (s.streamEnd p i stTimeout (if colOp t.raw = 2 then t.missing else 0))

/-- COMB_TIMEOUT (R279). -/
def execCombTimeout (site : SiteIx) (i : Fin 64) (s : State) : Host.Outcome State Fault Refusal :=
  match Tab.get none s.combs (site.val * 64 + i.val) with
  | none => .next s
  | some c =>
    let k := (c.opened.map fun e => e.1).foldl min (if c.opened = [] then c.low else 2 ^ 32)
    let m := match c.opened.find? (fun e => e.1 = k) with | some e => e.2.1 | none => 0
    let s := s.bump (LM_COMB (site - 16)) LM_COMB_TIMEOUTS 1
    .next (s.streamEnd c.pair c.ix stTimeout ((2 ^ c.inputs.length - 1) ^^^ m))

/-- STREAM_COMPLETE (R270, R283, R284): the write-back, once the error values are in place; the stream and its slot lines
are free. -/
def execStreamComplete (p : PairIx) (i : Fin 16) (s : State) : Host.Outcome State Fault Refusal :=
  let s := s.overlapEnd p
  match s.stream? p i with
  | none => .next s
  | some t =>
    match t.status with
    | none => .next s
    | some st =>
      if t.fill ≠ [] then .next s
      else
      let s := s.colWrite p t.core t.ch t.slot t.raw t.ctx st t.sat t.done t.failmap
      .next (((s.putStream p i none).showEng p).lmEvc p 0 0x0D (if st = stOK then cChunks t.raw else 0))

/-- A static contribution arrives at a slot in this slot beat, or one that has come waits for its SLOT_BEAT (R277). -/
def State.slotTaken (s : State) (p k : Nat) : Bool :=
  ((s.pair p).slotIn.any fun i => i.slot == k) ||
    (s.pair p).xfers.any fun x => match x.dest with
      | .slot j _ _ _ => j == k && decide ((x.claims.getLastD (0, 0)).1 ≤ s.coreBeat x.core)
      | _ => false
/-- Lines the Loom inputs have taken in this wall beat. -/
def State.loomUsed (s : State) (p : Nat) : List Nat :=
  if (s.pair p).loomBeat = s.pb p + 1 then (s.pair p).loomLines else []
/-- The Loom inputs can take two lines now: at most two of a slot in a wall beat, one contribution to a line, and none in a
slot beat with a static contribution (R277). -/
def State.loomCan (s : State) (p ix : Nat) : Bool :=
  let l := [ix, ix + 1]
  let u := s.loomUsed p
  l.all fun x => !u.contains x && !s.slotTaken p (x / 16) &&
    decide (((u ++ l).filter fun y => y / 16 = x / 16).length ≤ 2)
def State.loomTake (s : State) (p ix : Nat) : State :=
  s.setPair p { s.pair p with loomBeat := s.pb p + 1, loomLines := s.loomUsed p ++ [ix, ix + 1] }

/-- LOOM_INPUT_WRITE (R277): a contribution that waits is written, where the Loom input of its slot is free in this wall
beat; a circuit receiver's grant follows. -/
def execLoomInputWrite (p : PairIx) (i : Fin 16) (chunk : Nat) (s : State) : Host.Outcome State Fault Refusal :=
  let s := s.overlapEnd p
  match s.stream? p i with
  | none => .next s
  | some t =>
    match t.pend.find? (fun x => x.1 = chunk), cDest p t.raw with
    | some x, some (.slot ix) =>
      if s.loomCan p (ix + 2 * chunk) then
        .next ((((s.loomTake p (ix + 2 * chunk)).pendWrite p i x).circNote p i).pump p i)
      else .next s
    | some x, _ => .next (((s.pendWrite p i x).circNote p i).pump p i)
    | none, _ => .next s

/-- A stream goes on with what waited for a zone, a bank or light (R107, R142, R266): zeros, the error value, contributions
outside edge slots, chunks to send; a multicast target marked dead fails (R281). -/
def State.streamGoOn (s : State) (p i : Nat) : State :=
  match s.stream? p i with
  | none => s
  | some t =>
    if t.status.isSome then s.fillErr p i
    else
      let s := if t.zero = [] then s else s.zeroStep p i
      let s := if isSlot (cDest p t.raw) || t.pend.isEmpty then s
        else (t.pend.foldl (fun s x => s.pendWrite p i x) s).circNote p i
      let s := if colOp t.raw = 1 ∧ cPath t.raw = 3 then s.mcEnd p i else s
      s.pump p i
/-- Every stream of the package goes on. -/
def State.streamsGoOn (s : State) : State := s.streams.foldl (fun s e => s.streamGoOn (e.1 / 16) (e.1 % 16)) s

/-- The streams of a partition end: with COL_ABORTED when it enters FAULTED; with no write-back otherwise (R284). -/
def State.colAbort (s : State) (q : Part) : State :=
  q.groupIx.foldl (fun s p =>
    let s := { s with colWait := Tab.set [] s.colWait p [] }
    (List.range 16).foldl (fun s i => s.streamEnd p i stColAborted 0) s) s
def State.colDiscard (s : State) (q : Part) : State :=
  let s := q.groupIx.foldl (fun s p =>
    let s := { s with colWait := Tab.set [] s.colWait p [] }
    ((List.range 16).foldl (fun s i => (s.freeEntries p i).putStream p i none) s).showEng p) s
  s.clearReady q fun _ => true

/-! ## Knots that open gates (R73, R270, R329) -/

/-- The streams of a pair whose GATE is a knot send what it now lets go: the chunks from count `old` to `new`, which a KSIG
of beat count `w` − 1 opens (R270). -/
def State.gateTurn (s : State) (cl k old new w : Nat) : State :=
  let p := cl / 32
  (s.streamsOf p).foldl (fun s t =>
    if cFlag t.2.raw 3 ∧ cf t.2.raw 0x22 2 % 32 = cl % 32 ∧ cf t.2.raw 0x22 2 / 32 % 64 = k then
      let cs := if w = 0 then [] else (List.range (min new (cChunks t.2.raw) - old)).map (old + ·)
      (s.updStream p t.1 fun t => { t with gateW := cs.foldl (fun m c => Tab.set 0 m c w) t.gateW }).pump p t.1
    else s) s

/-- KNOT_UPDATE (R73, R329): the knot takes its new count; a clamp sets OVF and faults the KSIG's core, or is reported. -/
def execKnotUpdate (cl : ClusterIx) (k : Fin 64) (s : State) : Host.Outcome State Fault Refusal :=
  let key := knotKey cl k
  let q := s.kp key
  let old := s.knotCount cl k
  let (n, clamp) := knotNew old q
  let s := (s.wf (KN_COUNT cl k) KN_COUNT_COUNT n).setKp key KnotPend.none
  let s :=
    if clamp then
      let s := s.raise (KN_COUNT cl k) KN_COUNT_OVF 1
      match clampCore q with
      | some c => s.coreFault c 0x12 5 false 0 (s.bc c)
      | none => s.event 0x03 0x05 (unitOf 2 cl) (s.ctx (s.partOfPair (cl / 32))) 0 k 0 0
    else s
  .next (s.gateTurn cl k old n q.sigBeat)

end Sys2Proof.Machine
end

