-- ==== Sys2Proof/Machine/Shuttle.lean ====
section
/-! DEFINITION. Shuttle channels (R307 to R331): ring configuration, the start of a descriptor and its checks, the turns,
frees and landing buffers, bus errors, stops, and host writes to knots. -/
namespace Sys2Proof.Machine

/-! ## Rings (R307) -/

/-- First pool line and number of slots of a ring that has been configured. -/
def State.ringSpan (s : State) (c ch : Nat) : Option (Nat × Nat) :=
  let a := SH_RING c ch
  if s.rf a SH_RING_BASE = 0 ∧ s.rf a SH_RING_SIZE = 0 ∧ s.rf a SH_RING_OWNER = 0 then none
  else some (s.rf a SH_RING_BASE, s.ringSlots c ch)
/-- A write to SH_RING_c (R307): accepted, or refused with CFGERR and unchanged. An accepted
write clears CRSAT where it writes 1 there. -/
def State.ringWrite (s : State) (c ch : Nat) (val : Reg64) : State :=
  let a := SH_RING c ch
  let base := SH_RING_BASE.get val
  let size := SH_RING_SIZE.get val
  let n := 16 * 2 ^ size
  let others := (coresOf (gclusterOf c)).flatMap fun x => (List.range 4).filterMap fun i =>
    if x = c ∧ i = ch then none else s.ringSpan x i
  let clash := others.any fun o => decide (base < o.1 + o.2) && decide (o.1 < base + n)
  let st := s.chState c ch
  if size > 8 ∨ base % n ≠ 0 ∨ base + n > 65536 ∨ clash ∨ (st ≠ 0 ∧ st ≠ 3) then s.wf a SH_RING_CFGERR 1
  else
    let s := if SH_RING_CRSAT.get val = 1 then s.wf a SH_RING_CRSAT 0 else s
    (((s.wf a SH_RING_BASE base).wf a SH_RING_SIZE size).wf a SH_RING_OWNER (SH_RING_OWNER.get val)).wf a SH_RING_CFGERR 0
/-- SH_RING_WRITE (R307). -/
def execShRingWrite (c : CoreIx) (ch : ChIx) (val : BitVec 64) (s : State) : Host.Outcome State Fault Refusal :=
  .next (s.ringWrite c ch val)

/-- Context ID a function writes with (R324, R334): PF0 carries partition 0. -/
def State.fnCtx (s : State) (fn : Nat) : BitVec 16 := s.ctx fn
/-- KICK (R310). -/
def execKick (c : CoreIx) (ch : ChIx) (fn : FnIx) (count : BitVec 13) (s : State) : Host.Outcome State Fault Refusal :=
  .next (s.kick c ch count.toNat (s.fnCtx fn) 0)

/-! ## Frees (R324, R325) -/

/-- The slot at FREEIX of a ring is freed by a context, or refused. -/
def State.freeSlot (s : State) (c ring ix gen : Nat) (ctx : BitVec 16) : Bool × State :=
  let a := SH_CH_STAT c ring
  let fx := s.rf a SH_CH_STAT_FREEIX
  let g := s.slotByte c ring ix + 64
  let done := (s.byte (g + 4)).getLsbD 1
  if ctx.toNat ≠ s.rf (SH_RING c ring) SH_RING_OWNER ∨ ix ≠ fx ∨ s.rf a SH_CH_STAT_INUSE = 0 ∨ !done ∨
      leNat (s.bytes (g + 2) 2) ≠ gen then (false, s)
  else
    let s := s.putBytes (g + 4) [0]
    (true, (s.wf a SH_CH_STAT_FREEIX ((fx + 1) % s.ringSlots c ring)).wf a SH_CH_STAT_INUSE (s.rf a SH_CH_STAT_INUSE - 1))
/-- A landing buffer is freed by a context, or refused (R325). -/
def State.freeBuf (s : State) (c i gen : Nat) (ctx : BitVec 16) : Bool × State :=
  let a := SH_LB c i
  if s.rf a SH_LB_OWNER ≠ ctx.toNat ∨ s.rf a SH_LB_HELD = 0 ∨ s.rf a SH_LB_GEN ≠ gen then (false, s)
  else (true, s.wf a SH_LB_HELD 0)

/-- A host FREE (R324). -/
def State.hostFree (s : State) (c ch gen : Nat) (ctx : BitVec 16) : State :=
  let fx := s.rf (SH_CH_STAT c ch) SH_CH_STAT_FREEIX
  match s.freeSlot c ch fx gen ctx with
  | (true, s) => s
  | (false, s) => (s.raise (SH_CH_STAT c ch) SH_CH_STAT_FREE_ERR 1).shEvent c ch 0x03 fx ctx stBufRefused
/-- HOST_FREE (R324). -/
def execHostFree (c : CoreIx) (ch : ChIx) (fn : FnIx) (gen : BitVec 12) (s : State) : Host.Outcome State Fault Refusal :=
  .next (s.hostFree c ch gen.toNat (s.fnCtx fn))

/-! ## Checks at start (R312, R313) -/

/-- A field that the operation does not use is not 0, or a value is out of range (R312). -/
def descBad (d : Desc) : Bool :=
  let op := d.op
  let at_ := decide (4 ≤ op) && decide (op ≤ 8)
  let req := decide (1 ≤ op) && decide (op ≤ 8)
  let move := op == 0x12
  !(req || (decide (0x10 ≤ op) && decide (op ≤ 0x15))) || d.flag 7 || d.fld 3 1 / 16 != 0 || decide (d.fmt > 9) ||
    d.fld 0x2A 1 / 64 != 0 || d.fld 0x2B 1 / 64 != 0 || d.fld 0x34 8 != 0 || d.fld 0x3C 4 != 0 ||
    (!req && d.fld 1 1 != 0) || (d.flag 1 && !(req && op != 1)) || (d.flag 2 && op != 1) || (d.flag 5 && op != 0x10) ||
    (d.flag 6 && !move) || (d.fmt != 0 && !(op == 1 || move)) || (d.lcl != 0 && !(op == 1 || op == 2 || move)) ||
    (d.addr != 0 && !(req || op == 0x11 || move || op == 0x13 || op == 0x14)) || (op == 0x13 && decide (d.addr ≥ 16)) ||
    (op == 0x14 && decide (d.addr ≥ 2 ^ 27)) || (op == 0x14 && d.addr % 2 == 1 && (nbits d.addr 1 2 != 0 || nbits d.addr 7 8 != 0)) ||
    (d.fld 0x10 8 != 0 && !at_) || (d.fld 0x18 8 != 0 && op != 7) || (d.fld 0x20 8 != 0 && op != 3) ||
    (d.fld 0x28 2 != 0 && !d.flag 1) || decide (d.fld 0x28 2 ≥ 2 ^ 15) ||
    (if op == 0x11 || move then d.len == 0 || decide (d.len > 65536) else d.len != 0)
/-- Bytes of local storage a descriptor names. -/
def Desc.span (d : Desc) : Nat := if d.op = 0x12 then 512 * d.len else d.bytes
def Desc.usesLocal (d : Desc) : Bool := d.op == 1 || d.op == 2 || d.op == 0x12
/-- The first local check that fails (R313), 0 for none. -/
def State.localCheck (s : State) (c : Nat) (d : Desc) : Nat :=
  if !d.usesLocal then stOK
  else
    match localOf c d.lcl with
    | none => stAddrInvalid
    | some a =>
      if !a.inStore d.span then stAddrInvalid
      else if !a.aligned ∨ (d.op = 0x12 ∧ d.addr % 512 ≠ 0) then stAlign
      else if d.op = 0x12 ∧ d.addr + 512 * d.len > bulkTop then stAddrInvalid
      else if !s.localZone a d.span then stNoZone
      else stOK
/-- NODE is marked, or no route leads to it (R238, R249), 0 for neither. -/
def State.nodeCheck (s : State) (d : Desc) : Nat :=
  let n := nodeOf d.addr
  if !(decide (1 ≤ d.op) && decide (d.op ≤ 8)) then stOK
  else if s.nodeDead n then stTargetDead
  else if n = s.ownNode then stOK
  else
    match s.route (mkPkt 0 d.addr [] s.ownNode n) true with
    | .send _ _ => stOK
    | _ => stNoRoute

/-! ## Starting a descriptor (R314) -/

/-- The request packet of a descriptor (R218), but for its TAG and SEQ; a READ the cache cannot serve goes uncached. -/
def State.reqPkt (s : State) (c : Nat) (d : Desc) (data : List Byte) : Pkt :=
  let cached : Nat := if d.flag 2 && cacheable s.ownNode d.addr then 1 else 0
  let notify : Nat := if d.flag 1 then d.fld 0x28 2 % 2 ^ 14 + 2 ^ 14 else 0
  let txn := d.addr + d.op * 2 ^ 64 + d.fld 1 1 * 2 ^ 72 + s.sepoch * 2 ^ 128 + s.domain (s.partOfCore c) * 2 ^ 144 +
    notify * 2 ^ 160 + cached * 2 ^ 176 + d.fld 0x10 8 * 2 ^ 192 + d.fld 0x18 8 * 2 ^ 256 + d.fld 0x20 8 * 2 ^ 320
  mkPkt 0 txn (bytesFlits data) s.ownNode (nodeOf d.addr)
/-- A tag held by a descriptor whose request has not been sent. -/
def State.holdTag (s : State) (c ch slot k : Nat) (d : Desc) (pk : Pkt) (move : Bool) : State :=
  let n := if move then s.ownNode else nodeOf d.addr
  let site := if n = s.ownNode ∧ !move then some (endpointOf (offOf d.addr)).1 else none
  let pk := pk.setT 0x0A 2 (c + k * 2 ^ 11)
  let t : Tag :=
    { ch := ch, slot := slot, node := n, seq := 2 ^ 32, t0 := s.tick, pk := pk, site := site, reissued := false,
      quar := false, move := move, nofill := [] }
  s.setTag (c * 32 + k) (some t)

/-- TAKE (R325): status, XGEN, VALUE. -/
def State.take (s : State) (c ch i : Nat) : Nat × Nat × Nat × State :=
  let a := SH_LB c i
  let first := s.rf a SH_LB_FIRST
  match s.accessZone c (128 * first) (128 * (s.rf a SH_LB_LINES + 1)) with
  | none => (stNoZone, 0, 0, s)
  | some _ =>
    if s.rf a SH_LB_HELD = 1 then (stBufBusy, 0, 0, s)
    else
      let g := (s.rf a SH_LB_GEN + 1) % 4096
      let s := ((s.wf a SH_LB_HELD 1).wf a SH_LB_OWNER (s.rf (SH_RING c ch) SH_RING_OWNER)).wf a SH_LB_GEN g
      (stOK, g, s.ownNode * 2 ^ 50 + spBase c + 128 * first, s)
/-- FREE (R324, R325): the context is the OWNER of the ring that holds the descriptor. -/
def State.freeDesc (s : State) (c ch slot w : Nat) : Nat × State :=
  let ctx := BitVec.ofNat 16 (s.rf (SH_RING c ch) SH_RING_OWNER)
  let (ok, s1) :=
    if w % 2 = 0 then s.freeSlot c (nbits w 1 2) (nbits w 3 12) (nbits w 15 12) ctx
    else s.freeBuf c (nbits w 3 4) (nbits w 15 12) ctx
  if ok then (stOK, s1)
  else if w % 2 = 0 then
    (stBufRefused, s1.shEvent c (nbits w 1 2) 0x03 (s.rf (SH_CH_STAT c (nbits w 1 2)) SH_CH_STAT_FREEIX) ctx stBufRefused)
  else (stBufRefused, s1.shEvent c ch 0x03 slot ctx stBufRefused)
/-- Lines that an INV covers. -/
def invHit (addr len l : Nat) : Bool := decide (addr / 64 ≤ l) && decide (l < addr / 64 + len)

/-- The gate of a descriptor lets it start (R314, R327). -/
def State.gatePass (s : State) (c : Nat) (d : Desc) : Bool :=
  !d.flag 3 || decide (s.knotLeft (gclusterOf c) (d.fld 0x2B 1 % 64) ≥ d.fld 0x2C 4)
/-- A gate that passes with CONSUME takes GATEN from the knot (R327). -/
def State.gateTake (s : State) (c : Nat) (d : Desc) : State :=
  if d.flag 3 && d.flag 4 then
    let key := knotKey (gclusterOf c) (d.fld 0x2B 1 % 64)
    let q := s.kp key
    s.setKp key { q with consumed := q.consumed + d.fld 0x2C 4 }
  else s

/-- A descriptor that sends: OP 0x01 to 0x08 and MOVE (R314). -/
def Desc.sends (d : Desc) : Bool := (decide (1 ≤ d.op) && decide (d.op ≤ 8)) || d.op == 0x12
/-- A tag is free and the bounds of R211 allow issue (R314). -/
def State.tagReady (s : State) (c : Nat) (d : Desc) : Bool :=
  (s.freeTag c).isSome && (d.op == 0x12 || decide (s.chanLoad (nodeOf d.addr) < 256))

/-- The effect of a descriptor that has passed its checks, in slot `h` of its ring. -/
def State.descRun (s : State) (c ch h : Nat) (d : Desc) : State :=
  let op := d.op
  if op = 0x10 then (s.chStart c ch d).settle c ch
  else if op = 0x11 then
    ((s.chStart c ch d).rrcDrop (s.partOfCore c) (invHit d.addr d.len)).descDone c ch h stOK 0 0
  else if op = 0x13 then
    let (st, g, v, s) := (s.chStart c ch d).take c ch (d.addr % 16)
    s.descDone c ch h st (BitVec.ofNat 64 v) g
  else if op = 0x14 then
    let (st, s) := (s.chStart c ch d).freeDesc c ch h d.addr
    s.descDone c ch h st 0 0
  else if op = 0x15 then (s.chStart c ch d).descDone c ch h stOK 0 0
  else
    match s.freeTag c with
    | none => s
    | some k =>
      if op = 0x12 then (s.holdTag c ch h k d (mkPkt 0 0 [] 0 0) true).chStart c ch { d with tag := some k }
      else if op = 2 then
        match localOf c d.lcl with
        | none => s
        | some a =>
          match s.localRead a d.bytes with
          | (none, s) => ((s.chStart c ch d).descDone c ch h stMemUe 0 0).busError c ch stMemUe
          | (some bs, s) =>
            let pk := (s.reqPkt c d bs).setT 0x0A 2 (c + k * 2 ^ 11)
            (s.holdTag c ch h k d pk false).chStart c ch { d with tag := some k, packet := some pk }
      else
        let pk := (s.reqPkt c d []).setT 0x0A 2 (c + k * 2 ^ 11)
        (s.holdTag c ch h k d pk false).chStart c ch { d with tag := some k, packet := some pk }
/-- The source of a WRITE must wait: it is read when its zone opens, or its banks are free (R82, R107, R311). -/
def State.sourceShut (s : State) (c : Nat) (d : Desc) : Bool :=
  d.op == 2 && match localOf c d.lcl with | some a => s.localShut a d.bytes | none => false
/-- A descriptor that has started and fails a check with a status other than a bus error: a READ leaves the error value,
where its LOCAL and FMT name one, and an atomic its own (R237, R313, R320). -/
def State.descFail (s : State) (c ch : Nat) (d : Desc) (st : Nat) : State :=
  if d.op = 1 ∧ (decide (d.fmt > 9) || s.localCheck c d != stOK) then s.descDone c ch d.slot st 0 0
  else s.finish c ch d.slot st 0 []
/-- The wall beat is the channel's turn (R315). -/
def State.turn (s : State) (c ch : Nat) : Bool := s.pb (pairOf c) % 32 == 4 * (c % 8) + ch
/-- A memory descriptor at HEAD of a channel that may start (R313, R314). -/
def State.memStart (s : State) (c ch : Nat) (raw : BitVec 512) : State :=
  let h := s.rf (SH_CH_STAT c ch) SH_CH_STAT_HEAD
  let d := newDesc h raw false
  if !s.gatePass c d || d.sends && !s.turn c ch then s
  else if d.sends && !s.tagReady c d then s.cdEvc c 0x11 1
  else if descBad d then ((s.gateTake c d).chStart c ch d).descFail c ch d stOpInvalid
  else
    let lc := s.localCheck c d
    if lc ≠ stOK then (((s.gateTake c d).chStart c ch d).descDone c ch h lc 0 0).busError c ch lc
    else
      let nc := s.nodeCheck d
      if nc ≠ stOK then ((s.gateTake c d).chStart c ch d).descFail c ch d nc
      else if s.sourceShut c d then s
      else (s.gateTake c d).descRun c ch h d

/-- DESCRIPTOR_START (R107, R314, R317, R321, R322): the slot is fetched through the pool port once its bank is free, its
control granule compared, its descriptor started. -/
def execDescriptorStart (c : CoreIx) (ch : ChIx) (s : State) : Host.Outcome State Fault Refusal :=
  if !s.chReady c ch ∨
      !s.portCan (gclusterOf c) (128 * s.slotLine c ch (s.rf (SH_CH_STAT c ch) SH_CH_STAT_HEAD)) 128 false then .next s
  else
    let h := s.rf (SH_CH_STAT c ch) SH_CH_STAT_HEAD
    match s.poolRead (gclusterOf c) (128 * s.slotLine c ch h) 128 with
    | (none, s) => .next (s.busError c ch stMemUe)
    | (some bs, s) =>
      let g := leNat (bs.drop 64)
      let owner := nbits g 0 16
      let fl := nbits g 32 8
      if fl % 4 ≠ 1 ∨ owner ≠ s.rf (SH_RING c ch) SH_RING_OWNER ∨ nbits g 16 16 ≠ s.rf (SH_RING c ch) SH_RING_PGEN then
        .next ((s.wf (SH_CH_STAT c ch) SH_CH_STAT_STATE 5).shEvent c ch 0x02 h (BitVec.ofNat 16 owner) 0)
      else
        let raw := BitVec.ofNat 512 (leNat (bs.take 64))
        .next (if fl.testBit 2 then s.colStart c ch raw else s.memStart c ch raw)

/-- A descriptor of the row's operation at the head of a channel that may start. -/
def State.opStart (s : State) (c ch : Nat) (raw : Nat) : State :=
  if s.chReady c ch then s.memStart c ch (BitVec.ofNat 512 raw) else s
/-- FENCE (R224). -/
def execFence (c : CoreIx) (ch : ChIx) (acq : Bool) (s : State) : Host.Outcome State Fault Refusal :=
  .next (s.opStart c ch (0x10 + acq.toNat * 2 ^ 21))
/-- INV (R226, R227). -/
def execInv (c : CoreIx) (ch : ChIx) (addr : BitVec 64) (len : Nat) (s : State) : Host.Outcome State Fault Refusal :=
  .next (s.opStart c ch (0x11 + addr.toNat * 2 ^ 64 + len % 2 ^ 32 * 2 ^ 384))
/-- MOVE (R318). -/
def execMove (c : CoreIx) (ch : ChIx) (m : MoveDesc) (s : State) : Host.Outcome State Fault Refusal :=
  .next (s.opStart c ch (0x12 + m.toBulk.toNat * 2 ^ 22 + m.lcl.toNat * 2 ^ 32 + m.addr.toNat * 2 ^ 64 + m.len.toNat * 2 ^ 384))
/-- TAKE (R325). -/
def execTake (c : CoreIx) (ch : ChIx) (buf : Fin 16) (s : State) : Host.Outcome State Fault Refusal :=
  .next (s.opStart c ch (0x13 + buf.val * 2 ^ 64))
/-- FREE (R324, R325). -/
def execFree (c : CoreIx) (ch : ChIx) (tgt : BitVec 64) (s : State) : Host.Outcome State Fault Refusal :=
  .next (s.opStart c ch (0x14 + tgt.toNat * 2 ^ 64))
/-- NOP (R312). -/
def execNop (c : CoreIx) (ch : ChIx) (s : State) : Host.Outcome State Fault Refusal := .next (s.opStart c ch 0x15)

/-! ## Turns (R315, R318) -/

/-- All lines of a READ are in the cache of the core's pair site (R225). -/
def State.rrcHit (s : State) (c : Nat) (p : Pkt) : Option (List RLine) :=
  let ls := (List.range (p.size % 4 + 1)).map fun i => s.rrcFind (pairOf c) (s.partOfCore c) (p.addr / 64 + i)
  if p.op = 1 ∧ p.rfl % 2 = 1 ∧ ls.all Option.isSome then some (ls.filterMap id) else none
/-- Lines a request invalidates before it leaves (R226). -/
def writesLine (p : Pkt) (l : Nat) : Bool :=
  let a := if p.op = 3 then p.dest else p.addr
  p.op != 1 && decide (a / 64 ≤ l) && decide (l ≤ (a + reqBytes p - 1) / 64)
/-- The first routing decision for a request of this package (R238, R249): OK, TARGET_DEAD or NO_ROUTE. -/
def State.issueCheck (s : State) (pk : Pkt) : Nat :=
  let n := pk.dnode.toNat
  if s.nodeDead n then stTargetDead
  else if n = s.ownNode then stOK
  else match s.route pk true with | .send _ _ => stOK | _ => stNoRoute
/-- A request packet is handed over: answered by the cache, ended where its node is dead or no route leads to it, or
numbered and sent (R212, R225, R226, R238, R241, R249). -/
def State.sendReq (s : State) (c ch slot k : Nat) (pk : Pkt) : State :=
  let s := s.updDesc c ch slot fun d => { d with packet := none }
  match s.rrcHit c pk with
  | some ls =>
    let s := ls.foldl (fun s r => s.rrcPut (pairOf c) r) s
    let s := (s.bump (LM_RRC_STAT (pairOf c)) LM_RRC_STAT_HITS 1).lmEvc (pairOf c) 0 0x0B 1
    (s.cdEvc c 0x14 ls.length).tagDone (c * 32 + k) stOK 0 (flitBytes (ls.map RLine.data)) false
  | none =>
    if s.issueCheck pk ≠ stOK then s.tagDone (c * 32 + k) (s.issueCheck pk) 0 [] false
    else
      let s := if pk.op = 1 ∧ pk.rfl % 2 = 1 then s.bump (LM_RRC_STAT (pairOf c)) LM_RRC_STAT_MISSES 1 else s
      match s.tag? (c * 32 + k) with
      | none => s
      | some t =>
        let (q, s) := s.takeSeq t.key
        let pk := pk.setT 0x0C 4 q
        let s := s.setTag (c * 32 + k) (some { t with seq := q, t0 := s.tick, pk := pk })
        let s := if pk.op = 1 then s else s.rrcDrop (s.partOfCore c) (writesLine pk)
        let s := if t.site.isSome then s else s.cdEvc c 0x10 1
        (s.cdEvc c 0x15 pk.flits).inject (pairOf c) (dieOf c) (clusterOf c) true pk
/-- Unit `i` of a MOVE handed over to its edge port (R257, R298): `false` where it has no credit or no data yet (R318). -/
def State.sendUnitOf (s : State) (c ch : Nat) (d : Desc) (i : Nat) : Bool × State :=
  let line := d.addr / 512 + i
  let k := line % 8
  let p := pairOf c
  let key := circKey p k
  let mark (s : State) : State := s.updDesc c ch d.slot fun d => { d with sent := i + 1 }
  if s.circDown p k then (true, (mark s).moveUnit c ch d.slot i stPathDown)
  else
    let e := s.end_ true key
    let tag := c + (d.tag.getD 0) * 2 ^ 11
    let part := s.partOfCore c
    if 32 + e.got ≤ e.spent then (false, s)
    else
      let put (s : State) (u : StandUnit) (gran : List Flit) : State :=
        let e := s.end_ true key
        ((s.setEnd true key { e with spent := e.spent + 1 }).cdEvc c 0x15 (1 + gran.length)).edgePut
          (egressKey p (2 * k + line / 8 % 2) true) (16 * dieOf c + clusterOf c) (.unitOut key u gran)
      if !d.flag 6 then (true, put (mark s) (mkUnit 1 part 255 0 (line / 8) tag) [])
      else
        match localOf c d.lcl with
        | none => (false, s)
        | some a =>
          let a := a.plus (512 * i)
          if s.localShut a 512 then (false, s)
          else
            match s.localRead a 512 with
            | (some bs, s) => (true, put (mark s) (mkUnit 2 part 255 0 (line / 8) tag) (bytesFlits bs))
            | (none, s) =>
              let s := match d.tag with | some t => s.setTag (c * 32 + t) none | none => s
              (false, (s.descDone c ch d.slot stMemUe 0 0).busError c ch stMemUe)
/-- Up to `n` units of a MOVE. -/
def State.sendUnits (s : State) (c ch slot : Nat) : Nat → State
  | 0 => s
  | n + 1 =>
    match s.desc? c ch slot with
    | none => s
    | some d =>
      if d.sent ≥ d.len then s
      else match s.sendUnitOf c ch d d.sent with
        | (true, s) => s.sendUnits c ch slot n
        | (false, s) => s
/-- The channel has its turn and has handed nothing over in it (R315). -/
def State.turnOpen (s : State) (c ch : Nat) : Bool := s.turn c ch && (s.shch_ c ch).turnPb != some (s.pb (pairOf c))
/-- SHUTTLE_TURN (R315): in its turn the channel hands the express path one packet, one WR unit or up to 16 RD units. -/
def execShuttleTurn (c : CoreIx) (ch : ChIx) (room : Bool) (s : State) : Host.Outcome State Fault Refusal :=
  if !room ∨ !s.turnOpen c ch then .next s
  else
    match (s.shch_ c ch).inflight.find? (fun d => d.status.isNone && !d.coll &&
        (d.packet.isSome || (d.op == 0x12 && decide (d.sent < d.len)))) with
    | none => .next s
    | some d =>
      let s := s.setShch c ch { s.shch_ c ch with turnPb := some (s.pb (pairOf c)) }
      match d.packet, d.tag with
      | some pk, some k => .next (s.sendReq c ch d.slot k pk)
      | _, _ => .next (s.sendUnits c ch d.slot (if d.flag 6 then 1 else 16))

/-! ## Stops (R321 to R323) -/

/-- ENABLE written (R322, R323). -/
def State.enable (s : State) (c ch : Nat) (on : Bool) : State :=
  let a := SH_CH_STAT c ch
  let st := s.chState c ch
  let s := s.wb (SH_CH_CTL c ch) SH_CH_CTL_ENABLE on
  if on then
    if st = 3 ∨ st = 5 then
      let k := s.shch_ c ch
      (s.wf a SH_CH_STAT_STATE 1).setShch c ch { k with started := none }
    else s
  else if st = 1 ∨ st = 5 then s.wf a SH_CH_STAT_STATE 2
  else s
/-- CHANNEL_ENABLE (R322, R323). -/
def execChannelEnable (c : CoreIx) (ch : ChIx) (on : Bool) (s : State) : Host.Outcome State Fault Refusal :=
  .next (s.enable c ch on)
/-- CHANNEL_STOPPED (R321, R323): once its descriptors are written back a stopping channel is STOPPED, or in BUSERR. -/
def execChannelStopped (c : CoreIx) (ch : ChIx) (s : State) : Host.Outcome State Fault Refusal :=
  if s.chState c ch = 2 ∧ (s.shch_ c ch).inflight = [] then
    .next (s.wf (SH_CH_STAT c ch) SH_CH_STAT_STATE (if s.rb (SH_BUS c) SH_BUS_BUSERR then 4 else 3))
  else .next s
/-- RESUME (R321). -/
def State.resumeBus (s : State) (c : Nat) : State :=
  if s.rb (SH_BUS c) SH_BUS_BUSERR then
    (List.range 4).foldl (fun s i =>
      if s.chState c i = 4 then s.wf (SH_CH_STAT c i) SH_CH_STAT_STATE (if s.rb (SH_CH_CTL c i) SH_CH_CTL_ENABLE then 1 else 3)
      else s) (s.wf (SH_BUS c) SH_BUS_BUSERR 0)
  else s
/-- RESUME (R321). -/
def execResume (c : CoreIx) (s : State) : Host.Outcome State Fault Refusal := .next (s.resumeBus c)
/-- The channels of a core stop at a descriptor boundary (R323). -/
def State.stopChannels (s : State) (c : Nat) : State :=
  (List.range 4).foldl (fun s i =>
    if s.chState c i = 1 ∨ s.chState c i = 5 then s.wf (SH_CH_STAT c i) SH_CH_STAT_STATE 2 else s) s

/-! ## Host writes to knots (R326, R328) -/

/-- A host KSET, ranked after every core's (R328). -/
def State.knSet (s : State) (cl k val : Nat) : State :=
  let key := knotKey cl k
  let q := s.kp key
  s.setKp key { q with sets := q.sets ++ [(4096, val)] }
/-- KN_COUNT_WRITE (R328). -/
def execKnCountWrite (cl : ClusterIx) (k : Fin 64) (val : BitVec 32) (s : State) : Host.Outcome State Fault Refusal :=
  .next (s.knSet cl k val.toNat)
/-- KN_ADD_WRITE (R326). -/
def execKnAddWrite (cl : ClusterIx) (k : Fin 64) (n : BitVec 16) (s : State) : Host.Outcome State Fault Refusal :=
  .next ((s.knotAdd cl k n.toNat).clEvc cl 0x12 (if n = 0 then 0 else 1))

end Sys2Proof.Machine
end

