-- ==== Sys2Proof/Machine/Stops.lean ====
section
/-! DEFINITION. The stop of a partition and its entry to FAULTED (R88, R384, R390), and crossing slips (R118). -/
namespace Sys2Proof.Machine

/-- Cores of a partition: partition core number to global core number. -/
def Part.coreIx (p : Part) : List Nat := (List.range (256 * p.pairs)).map (256 * p.first + ·)
/-- The cores of a faulted group record GROUP_STOP; every other core of the partition that runs or has halted records
PART_STOP at the first count it did not issue; pending waits are discarded and the shuttle channels stop (R88). -/
def State.stopCores (s : State) (n : Nat) (p : Part) : State :=
  let mine := ((s.cores.filter fun e => decide (e.2.bundles ≠ 0)).map Prod.fst).filter fun c => p.hasPair (pairOf c)
  let s := ((s.groups.filter fun e => e.2.part = n).map Prod.fst).foldl (fun s g => s.groupStop g) s
  let s := mine.foldl (fun s c =>
    if s.seqState c = 1 ∨ s.seqState c = 2 then s.coreStops c 0x16 0 false 0 (s.bc c) else s) s
  let s := p.coreIx.foldl (fun s c => s.stopChannels c) s
  let s : State := { s with groups := s.groups.map fun e => if e.2.part = n then (e.1, { e.2 with waits := [] }) else e }
  mine.foldl (fun s c => s.showWaits c) s
/-- The fault record of a core (R378). -/
def State.coreRec (s : State) (n c : Nat) (flags : Nat) : FaultRec :=
  let r := s.mkRec 0x01 (s.rf (CD_CORE_FAULT c) CD_CORE_FAULT_CAUSE) (unitOf 1 c) (s.ctx n) 0 0 (s.rget (CD_CORE_FAULT c)).toNat
    (packNat 64 [(s.rget (CD_BOUND c)).toNat, (s.rget (CD_BEAT_COUNT c)).toNat, (s.rget (CD_CORE_FLAGS c)).toNat])
  { r with flags := r.flags ||| BitVec.ofNat 8 flags }
/-- The partition enters FAULTED: its streams abort, and a dump of it is due (R284, R390). -/
def State.enterFaulted (s : State) (n level : Nat) (r : FaultRec) (core : Option Nat) : State :=
  match s.part? n with
  | none => s
  | some p =>
    let r := { r with seq := BitVec.ofNat 32 s.recSeq, flags := r.flags ||| 4 }
    ((s.setPart n { p with state := .faulted, level := level, origins := [], stopping := false, dump := some (r, core) }).colAbort p).lateDone n stHwFault []
/-- A partition is stopped as a whole for an event with a record of its own. -/
def State.stopWhole (s : State) (n level : Nat) (r : FaultRec) : State :=
  match s.part? n with
  | none => s
  | some p =>
    let s := (s.stopCores n p).enterFaulted n level r none
    s.report { r with flags := r.flags ||| 4 }
/-- The same for a RUNNING partition only. -/
def State.stopPart (s : State) (n level : Nat) (r : FaultRec) : State :=
  match s.part? n with
  | none => s
  | some p => if p.state ≠ .running then s else s.stopWhole n level r

/-- The other groups of a partition one of whose cores has faulted stop, one CORE record is written for each originating
fault, and the partition enters FAULTED (R88). -/
def State.partStop (s : State) (n : Nat) : State :=
  match s.part? n with
  | none => s
  | some p =>
    match p.origins with
    | [] => s
    | c :: rest =>
      let s := s.stopCores n p
      let r := s.coreRec n c 4
      let s := (s.enterFaulted n 0 r (some c)).report r
      rest.foldl (fun s c => s.report (s.coreRec n c 0)) s
/-- PART_STOP (R88). -/
def execPartStop (part : PartNo) (s : State) : Host.Outcome State Fault Refusal := .next (s.partStop part)

/-- CROSSING_SLIP (R118): the SLIPPED bit, and the partition that uses the pair stops and enters FAULTED, whatever its draft
state was, with one record; a partition that is FAULTED already needs DIE at least. -/
def execCrossingSlip (cl : ClusterIx) (port : Fin 6) (s : State) : Host.Outcome State Fault Refusal :=
  let a := CD_XING_STAT cl
  let s := s.wf a CD_XING_STAT_SLIPPED (s.rf a CD_XING_STAT_SLIPPED ||| 2 ^ port.val)
  let bits := s.rf a CD_XING_STAT_SLIPPED
  let n := s.partOfPair (cl.val / 32)
  match s.part? n with
  | some p =>
    let r := s.mkRec 0x02 0x01 (unitOf 2 cl) (s.ctx n) 0 bits 0 0
    if p.state = .faulted then .next ((s.setPart n { p with level := max 1 p.level }).report r)
    else .next (s.stopWhole n 1 r)
  | none => .next (s.event 0x02 0x01 (unitOf 2 cl) 0 0 bits 0 0)

end Sys2Proof.Machine
end

