-- ==== Sys2Proof/Machine/Optics.lean ====
section
/-! DEFINITION. Meanings of the rows of the optics: laser inputs, ring tracking, census, the Bobbin, light hold, DAC mode,
recalibration (R149 to R173), and of the frames and lanes of the weft plane (R155, R162, R163). -/
namespace Sys2Proof.Machine

/-! ## Rings and the light that feeds them (R149 to R151) -/

/-- Transmit rings fed by a laser input. -/
def fedRings (n : Nat) : List Nat :=
  let rings (site plane wgs wls : Nat) : List Nat :=
    (List.range wgs).flatMap fun w => (List.range wls).map fun l => ringKey site (selOf plane 0 w l)
  if n < 8 then (List.range 4).flatMap fun i => rings (4 * n + i) 0 16 32
  else if n < 16 then
    let k := n - 8
    rings k 1 16 32 ++ rings (8 + k) 1 8 32 ++ rings (16 + 2 * k) 1 4 32 ++ rings (17 + 2 * k) 1 4 32
  else rings (16 + 2 * (n - 16)) 2 8 8 ++ rings (17 + 2 * (n - 16)) 2 8 8
/-- Laser input of a transmit ring, or of the transmit ring of a warp lane. -/
def laserOf (k : Nat) : Option Nat :=
  let site := k / 4096
  let sel := k % 4096
  if sel % 4 = 0 then some (laneKey k / 4096 / 4)
  else if sel / 4 % 2 = 1 then none
  else if sel % 4 = 1 then some (8 + (if site < 16 then site % 8 else (site - 16) / 2))
  else if sel % 4 = 2 then some (16 + (site - 16) / 2)
  else none
def State.dark (s : State) (k : Nat) : Bool :=
  match laserOf k with | some n => s.rb (LM_LASER_IN n) LM_LASER_IN_DARK | none => false

/-- Transmit waveguide, at site × 16 + waveguide, of the circuit a weft ring belongs to. -/
def State.circuitOf (s : State) (k : Nat) : Option Nat :=
  let site := k / 4096
  let wg := k % 4096 / 8 % 16
  if k % 4096 / 4 % 2 = 0 then some (site * 16 + wg)
  else match s.standFrom site wg with
    | some (_, _, _, tx) => some tx
    | none => (s.phaseFrom site wg).map fun x => let (a, w) := phaseAt x.1; a * 16 + w
/-- The Loom names the frame of a weft lane's step, 64 frames ahead at the circuit's source; a ring of no circuit steps at
once (R155). -/
def State.nameStep (s : State) (k : Nat) : State :=
  match s.circuitOf k with
  | some t => s.setLane k { s.lane k with stepAt := some (((s.weftT t).fseq + 64) % 4096) }
  | none => s.laneStep k
/-- A lane leaves service, by plane; a warp lane taken out stays unmasked (R151, R154, R172). -/
def State.anyLaneOut (s : State) (k : Nat) (why : BitVec 8) : State :=
  if k % 4 = 2 then s.portLaneOut k why else if k % 4 = 1 then (s.laneOut k why).nameStep k else s.laneOut (laneKey k) why
def State.anyLaneBack (s : State) (k : Nat) (why : BitVec 8) : State :=
  if k % 4 = 2 then s.portLaneBack k why else if k % 4 = 1 then (s.laneBack k why).nameStep k else s.laneBack (laneKey k) why
/-- A ring locks at a code; its monitor is STALE until the next iteration (R154, R170). -/
def State.ringLocks (s : State) (k h : Nat) : State :=
  s.setRing k { s.ring k with heater := h, lock := 1, stale := true, low := 0 }
/-- A ring fails: its lane stays out, and the failure is recorded (R154). -/
def State.ringFails (s : State) (k : Nat) : State :=
  let s := (s.setRing k { s.ring k with lock := 3 }).anyLaneOut k whyUnlocked
  let site := k / 4096
  let sel := k % 4096
  let peer := if sel % 4 = 0 then (if sel / 4 % 2 = 1 then laneKey k / 4096 else (site + sel / 128) % 32) else site
  s.event 0x06 0x01 (unitOf 4 site) 0 0 sel peer (s.loomDetail site)
/-- A locked ring loses its line: its lane leaves service and the Loom searches (R154). -/
def State.ringUnlocks (s : State) (k : Nat) : State :=
  let s := s.setRing k { s.ring k with lock := 2, low := 0 }
  let s := s.bump (LM_OPT_STAT (k / 4096)) LM_OPT_STAT_UNLOCKS 1
  if k % 4 = 2 then s.portLaneLost k whyUnlocked else s.anyLaneOut k whyUnlocked

/-! ## Laser inputs (R151, R166) -/

def darkLimit : Int := 500
def overLimit : Int := 2100
def lowLimit (n : Nat) : Int := if n < 16 then 1510 else 1500

/-- An input goes DARK: its rings freeze, STALE, and their lanes leave service. -/
def State.goDark (s : State) (n : Nat) : State :=
  (fedRings n).foldl (fun s k => (s.setRing k { s.ring k with stale := true }).anyLaneOut k whyDark) s
/-- An input leaves DARK: its locked rings search their lines again, and their lanes wait for the outcome; a failed ring
stays failed. -/
def State.leaveDark (s : State) (n : Nat) : State :=
  (fedRings n).foldl (fun s k =>
    if (s.ring k).lock = 1 then s.setRing k { s.ring k with lock := 2 }
    else if (s.ring k).lock = 2 then s
    else s.anyLaneBack k whyDark) s

def execLaserTapSample (n : LaserIx) (cdbm : BitVec 16) (s : State) : Host.Outcome State Fault Refusal :=
  let a := LM_LASER_IN n
  let p := cdbm.toInt
  let was := s.rb a LM_LASER_IN_DARK
  let is_ : Bool := decide (p < darkLimit)
  let s := (s.wf a LM_LASER_IN_POWER cdbm.toNat).wb a LM_LASER_IN_LOW (decide (p < lowLimit n))
  let s := (s.wb a LM_LASER_IN_DARK is_).wb a LM_LASER_IN_OVER (decide (p > overLimit))
  .next (if is_ && !was then s.goDark n else if was && !is_ then s.leaveDark n else s)

/-- An input has been OVER for 10 ms: LASER_EN goes low. -/
def execLaserOverTimeout (n : LaserIx) (s : State) : Host.Outcome State Fault Refusal :=
  if s.rb (LM_LASER_IN n) LM_LASER_IN_OVER then .next ({ s with laserUp := 3 }.wf LM_BOBBIN LM_BOBBIN_LASER_EN 0) else .next s

/-! ## Tracking and relocking (R153 to R156) -/

def heaterMax : Nat := 2 ^ 20 - 1

/-- One iteration of the tracking loop: the correction it asks for, and the monitor power in 0.01 dBm (log entry 86). A
drop ring's loop also probes its peak, 2 LSB to either side on alternate iterations. A lane under recalibration holds its
monitors (R170). -/
def execRingTrackIteration (r : RingRef) (step : Int) (mon : BitVec 16) (s : State) : Host.Outcome State Fault Refusal :=
  let k := r.key
  let g := s.ring k
  let l := s.lane (laneKey k)
  if !r.isRing || g.lock != 1 || s.lightHold || s.dark k || l.out &&& whyRecal != 0 then .next s
  else
    let lim : Int := if l.insv then 8 else 96
    let step := if r.rx then step + (if g.probe then 2 else -2) else step
    let h := (min (heaterMax : Int) (max 0 ((g.heater : Int) + max (-lim) (min lim step)))).toNat
    let m := mon.toInt
    let ref := if g.stale then m else g.ref
    let low := if m < ref - 301 then g.low + 1 else 0
    let s := s.setRing k { g with heater := h, mon := m, ref := ref, stale := false, low := low, probe := r.rx && !g.probe }
    if low ≥ 4 then .next (s.ringUnlocks k)
    else if h < 16384 ∨ h > heaterMax - 16384 then
      (match g.second with
      | some _ => if l.insv then .next ((s.setRing k { s.ring k with lock := 2 }).anyLaneOut k whyUnlocked) else .next s
      | none => if h = 0 ∨ h = heaterMax then .next (s.ringFails k) else .next s)
    else .next s

/-- The search of a ring ends: it relocks where its line was found, within 0.2 THz of its last code or at the census's
second occurrence, or it fails. A ring whose input is DARK, or in light hold, is frozen (R151, R167). -/
def execRingSearchEnd (r : RingRef) (found : Option (BitVec 20)) (s : State) : Host.Outcome State Fault Refusal :=
  let k := r.key
  let g := s.ring k
  if !r.isRing || g.lock != 2 || s.dark k || s.lightHold then .next s
  else
    let near (a b : Nat) : Bool := decide (a ≤ b + 25600) && decide (b ≤ a + 25600)
    match found with
    | none => .next (s.ringFails k)
    | some h =>
      let at2 : Bool := match g.second with | some x => near h.toNat x | none => false
      let s1 := s.ringLocks k h.toNat
      if near h.toNat g.heater then .next (s1.anyLaneBack k (whyUnlocked ||| whyDark))
      else if at2 then .next ((s1.setRing k { s1.ring k with second := some g.heater }).anyLaneBack k (whyUnlocked ||| whyDark))
      else .next (s.ringFails k)

/-! ## Census (R157, R158) -/

/-- The codes at which a ring's target line occurs, in rising order, where the ring passes: one marker, every gap 200 GHz
(800 GHz for a port ring) ± 10 %, but one order gap of 800 ± 80 GHz (1.4 ± 0.14 THz). -/
def censusLines (port : Bool) (target : Nat) (xs : List Crossing) : Option (List Nat) :=
  let hs := xs.map fun x => x.heater.toNat
  let unit := if port then 102400 else 25600
  let order := if port then 179200 else 102400
  let n := if port then 8 else 32
  let gaps := List.zipWith (fun a b => (b : Int) - a) (hs.map Int.ofNat) ((hs.drop 1).map Int.ofNat)
  let within (u : Nat) (g : Int) : Bool := decide ((9 * u : Int) ≤ 10 * g) && decide (10 * g ≤ (11 * u : Int))
  let odd := gaps.filter fun g => !within unit g
  match xs.findIdx? (·.marker) with
  | none => none
  | some i =>
    let good := (xs.filter (·.marker)).length == 1 && odd.length == 1 && odd.all (within order)
    let occ := ((List.range xs.length).filter fun j => (j + n * xs.length - i) % n == target).map fun j => hs.getD j 0
    if good && !occ.isEmpty then some occ else none
/-- Rings of the package (R149). -/
def ringCount : Nat := 51200

/-- A ring's place in the census: its waveguide and direction. -/
def censusKey (k : Nat) : Nat := k / 4096 * 4096 + k % 128
/-- The running census sweeps this ring: the rings of a waveguide take their turns by rising wavelength index (R157). -/
def State.censusTurn (s : State) (k : Nat) : Bool :=
  s.rf LM_CENSUS LM_CENSUS_STATE == 1 && Tab.get 0 s.censusAt (censusKey k) == k % 4096 / 128
/-- A ring's driver is in DAC mode: by LM_DAC_CTL, at its mid level in census while a ring of its lane is swept, or for a
recalibration's staircase (R157, R159, R170). -/
def State.inDac (s : State) (k : Nat) : Bool :=
  (s.ring k).dac || (k % 4096 / 4 % 2 == 0 &&
    ((s.lane (laneKey k)).out &&& whyRecal != 0 || (ringsOf (laneKey k)).any s.censusTurn))
/-- CENSUS_RING_DONE (R157, R158): the ring whose turn it is has been swept. -/
def execCensusRingDone (r : RingRef) (xs : List Crossing) (s : State) : Host.Outcome State Fault Refusal :=
  if !r.isRing || !s.censusTurn r.key then .next s
  else
    let k := r.key
    let port : Bool := r.plane == 2
    let t := laneKey k
    let s : State := match censusLines port r.wl xs with
      | some (h :: occ) =>
        let s := s.setRing k { s.ring k with heater := h, lock := 1, stale := true, low := 0, second := occ.head? }
        (s.anyLaneBack k (whyUnlocked ||| whyDark ||| whyCheck))
      | _ =>
        let s := (s.setRing k { Ring.reset with lock := 3 }).bump LM_CENSUS LM_CENSUS_RINGS_FAILED 1
        if r.plane = 0 then
          (s.laneOut t whyUnlocked).maskLane (t / 4096) ((t / 4096 + t % 4096 / 128) % 32) (t % 4096 / 8 % 16)
        else s.anyLaneOut k whyUnlocked
    let s := if r.plane = 1 then s.laneStep k else s
    let s := { s with censusDone := s.censusDone + 1, censusAt := Tab.set 0 s.censusAt (censusKey k) (r.wl + 1) }
    if s.censusDone = ringCount then
      .next ((s.wf LM_CENSUS LM_CENSUS_STATE 2).wf LM_CENSUS LM_CENSUS_DURATION_MS (min 65535 ((s.tick - s.censusFrom) / ticksMs)))
    else .next s

/-- Census begins, from the first ring with every ring at code 0 (R157). -/
def State.censusBegin (s : State) : State :=
  let s := (s.wf LM_CENSUS LM_CENSUS_STATE 1).wf LM_CENSUS LM_CENSUS_RINGS_FAILED 0
  { s with censusDone := 0, censusAt := [], censusFrom := s.tick }
/-- Every ring at code 0 and unlocked; the monitors stay STALE where they are. -/
def State.ringsZero (s : State) : State :=
  s.rings.foldl (fun s e => s.setRing e.1 { Ring.reset with stale := e.2.stale }) s

/-- BOBBIN_OK_N has been low for 10 ms after it stopped a census. -/
def execCensusRestart (s : State) : Host.Outcome State Fault Refusal :=
  if s.rf LM_CENSUS LM_CENSUS_STATE = 3 then .next ((s.bump LM_CENSUS LM_CENSUS_ABORTS 1).censusBegin) else .next s

/-! ## DAC mode (R159, R173) -/

/-- The ring LM_RING_SEL selects at a site, where there is one. -/
def State.selRing (s : State) (site : SiteIx) : Option RingRef :=
  let r : RingRef := ⟨site, BitVec.ofNat 12 (s.rget (LM_RING_SEL site)).toNat⟩
  if r.isRing then some r else none
/-- A write of LM_DAC_CTL. -/
def State.dacWrite (s : State) (site : SiteIx) (v : BitVec 64) : State :=
  let a := LM_DAC_CTL site
  let refuse := s.wf a LM_DAC_CTL_REFUSED 1
  match s.selRing site with
  | none => refuse
  | some r =>
    let en : Bool := LM_DAC_CTL_ENABLE.get v == 1
    if r.rx || (en && (s.lane (laneKey r.key)).insv) then refuse
    else
      let b := LM_DAC_CTL_BITS.get v
      let b := if b < 4 then 4 else if b > 8 then 8 else b
      let pat := LM_DAC_CTL_PATTERN.get v
      let w := LM_DAC_CTL_BITS.put (LM_DAC_CTL_ENABLE.put (LM_DAC_CTL_PATTERN.put (LM_DAC_CTL_LEVEL.put 0 (LM_DAC_CTL_LEVEL.get v))
        (if pat = 3 then 0 else pat)) en.toNat) b
      let s := (s.rset a w).setRing r.key { s.ring r.key with dac := en }
      if en then s.anyLaneOut r.key whyDac else s.anyLaneBack r.key whyDac

def execLmDacCtlWrite (site : SiteIx) (val : BitVec 64) (s : State) : Host.Outcome State Fault Refusal := .next (s.dacWrite site val)

/-! ## The Bobbin and light hold (R165 to R167) -/

/-- A transfer is acknowledged at one of its four attempts, or sets I2C_ERR (R165). -/
def State.i2c (s : State) (acks : List Bool) : Bool × State :=
  if (acks.take 4).any id then (true, s) else (false, s.raise LM_BOBBIN LM_BOBBIN_I2C_ERR 1)
/-- A poll of the Bobbin: one acknowledgement or none for each of up to four attempts (R165). -/
def execBobbinPoll (acks : List Bool) (regs : BobbinRegs) (s : State) : Host.Outcome State Fault Refusal :=
  match s.i2c acks with
  | (true, s) => .next { s with bobbin := { regs with marker := s.bobbin.marker } }
  | (false, s) => .next s

/-- BOBBIN_OK_N goes low, outside light hold. -/
def execBobbinOkLow (s : State) : Host.Outcome State Fault Refusal := .next (s.wf LM_BOBBIN LM_BOBBIN_BOBBIN_OK 1)
/-- BOBBIN_OK_N is not low 100 ms after LASER_EN rose (R166). -/
def execBobbinTimeout (s : State) : Host.Outcome State Fault Refusal :=
  if s.rb LM_BOBBIN LM_BOBBIN_LASER_EN && !s.rb LM_BOBBIN LM_BOBBIN_BOBBIN_OK then
    .next (({ s with laserUp := 2 }.raise LM_BOBBIN LM_BOBBIN_TIMEOUT 1).wf LM_BOBBIN LM_BOBBIN_LASER_EN 0)
  else .next s
/-- LASER_EN rises again 1 s after a TIMEOUT, while the bring-up stage runs. -/
def execLaserEnRetry (s : State) : Host.Outcome State Fault Refusal :=
  if s.laserUp == 2 && s.rf HD_BRINGUP HD_BRINGUP_STAGE == 5 && s.rf HD_BRINGUP HD_BRINGUP_OUTCOME == 0 then
    .next ({ s with laserUp := 1 }.wf LM_BOBBIN LM_BOBBIN_LASER_EN 1)
  else .next s

/-- BOBBIN_OK_N goes high while LASER_EN is high (R167, R193): rings freeze, ports go down; a running census stops. -/
def execLightHoldEnter (s : State) : Host.Outcome State Fault Refusal :=
  let s := s.wf LM_BOBBIN LM_BOBBIN_BOBBIN_OK 0
  if !s.rb LM_BOBBIN LM_BOBBIN_LASER_EN || s.lightHold then .next s
  else
    let s := (s.wf LM_BOBBIN LM_BOBBIN_LIGHT_HOLD 1).bump LM_BOBBIN LM_BOBBIN_HOLDS 1
    let s : State := { s with rings := s.rings.map fun e => (e.1, { e.2 with stale := true }) }
    let s := if s.rf LM_CENSUS LM_CENSUS_STATE = 1 then s.ringsZero.wf LM_CENSUS LM_CENSUS_STATE 3 else s
    .next ((List.range 32).foldl (fun s p => s.portDown p rsLight) s)

/-- A check of the standing circuits (R162, R164): the inputs send pilots; a circuit that fails goes out, with a record. -/
def State.standCheck (s : State) (meas : List (Bool × OutMeas)) : State :=
  (s.badStand meas).foldl (fun s e =>
    let (p, c) := e
    let s := if s.circDown p c then s else s.circFail p c
    s.event 0x06 0x04 (unitOf 4 (siteOfStack c)) 0 0 (selOf 1 1 p 0) p (s.loomDetail (siteOfStack c))) s.standPilots
/-- BOBBIN_OK_N returns low within 10 ms; `lost`: the rings that do not relock; `meas`: what the receivers of the standing
circuits measure (R167, R193). -/
def execLightHoldExit (lost : List RingRef) (meas : List (Bool × OutMeas)) (s : State) : Host.Outcome State Fault Refusal :=
  let s := s.wf LM_BOBBIN LM_BOBBIN_BOBBIN_OK 1
  if !s.lightHold then .next s
  else
    let s := s.wf LM_BOBBIN LM_BOBBIN_LIGHT_HOLD 0
    let s := (lost.filter fun r => r.isRing && (s.ring r.key).lock == 1).foldl (fun s r => s.ringFails r.key) s
    let s := s.parts.foldl (fun s e => (s.swReverify e.1 e.2).pilots e.2 ((s.swReverify e.1 e.2).sw e.1).target) s
    let s := s.standCheck meas
    .next ((List.range 32).foldl (fun s p =>
      if s.portState p = 1 then
        ((s.wf (XP_PORT_STAT p) XP_PORT_STAT_BEXP 0).setPort p { s.port p with failed := false, notice := false }).attempt p
      else s) s)

/-- Light hold has lasted 10 ms: the Heddle ends it (R167). -/
def execLightHoldTimeout (s : State) : Host.Outcome State Fault Refusal :=
  if !s.lightHold then .next s
  else
    let s := s.wf LM_BOBBIN LM_BOBBIN_LIGHT_HOLD 0
    let s : State := { s with warpTx := s.warpTx.map fun e => (e.1, { e.2 with offer := [], queue := [], sent := [] }) }
    let out := s.bobbin.outFault.toNat
    let input := ((List.range 24).find? fun i => out.testBit i).getD 0
    let run := s.parts.filter fun e => decide (e.2.state = DState.running)
    let rec_ (s : State) (ctx : BitVec 16) : FaultRec := s.mkRec 0x06 0x05 (unitOf 8 input) ctx 0 0 0 (s.loomDetail 0)
    if run.isEmpty then .next (s.report (rec_ s 0))
    else .next (run.foldl (fun s e => s.stopPart e.1 2 (rec_ s (s.ctx e.1))) s)

/-! ## Recalibration (R169 to R172) -/

/-- Lanes that may not be under recalibration beside a lane: those of its site and plane, for a port of its fibre (R170). -/
def sameTurn (k x : Nat) : Bool :=
  k != x && k / 4096 == x / 4096 && k % 4 == x % 4 && (k % 4 != 2 || k % 128 == x % 128)
/-- The scheduler reaches a lane: it is deferred in DAC mode, in light hold, without input light, or, for a port, where its fibre has a
lane out; else it leaves service for the work, one lane of a plane at a time (R170, R172). -/
def execRecalStart (l : RingRef) (s : State) : Host.Outcome State Fault Refusal :=
  let k := laneKey l.key
  if !l.isRing || s.lanes.any (fun e => sameTurn k e.1 && e.2.out &&& whyRecal != 0) then .next s
  else
    let defer := s.lightHold || s.dark k || (ringsOf k).any (fun r => (s.ring r).dac) ||
      (l.plane == 2 && (fibreOf k).any fun x => x != k && (s.lane x).out != 0)
    if defer then .next (s.bump (LM_OPT_STAT l.site) LM_OPT_STAT_DEFERRED 1)
    else
      let s := { s with calFront := s.calFront.erase k }
      let s := (ringsOf k).foldl (fun s r => s.setRing r { s.ring r with stale := true }) s
      .next (s.anyLaneOut k whyRecal)

/-- Recalibration ends; `pass`: every check; `testFlits`: consecutive test flits that reached the far site (R170). -/
def execRecalDone (l : RingRef) (pass : Bool) (testFlits : Nat) (s : State) : Host.Outcome State Fault Refusal :=
  let k := laneKey l.key
  if !l.isRing || (s.lane k).out &&& whyRecal == 0 then .next s
  else if !pass then .next ((s.anyLaneOut k whyCheck).anyLaneBack k whyRecal)
  else
    let s := (ringsOf k).foldl (fun s r => if (s.ring r).lock = 3 then s.ringLocks r (s.ring r).heater else s) s
    let why := whyRecal ||| whyCheck ||| whyFlood ||| whyUnlocked ||| whyBer
    let a := k / 4096
    let d := (a + k % 4096 / 128) % 32
    let w := k % 4096 / 8 % 16
    if l.plane = 0 ∧ (s.maskOf a d).testBit w then
      if testFlits ≥ 65536 then .next (((s.laneBack k why).unmaskLane a d w).pairRestart a d)
      else .next (s.laneBack k whyRecal)
    else .next (s.anyLaneBack k why)

/-- A port lane's corrected-symbol estimate stays above 10⁻⁶ for 1 s, or above 10⁻⁴ for 1 ms (R169). -/
def execPortLaneBerLimit (p : PortIx) (f : Fin 4) (m : Fin 8) (severe : Bool) (s : State) : Host.Outcome State Fault Refusal :=
  let k := portLane p 1 (8 * f.val + m.val)
  if severe then
    let s := s.bump (LM_OPT_STAT (k / 4096)) LM_OPT_STAT_FLOODS 1
    .next ((s.setRing k { s.ring k with stale := true }).portLaneLost k whyBer)
  else .next { s with calFront := k :: s.calFront.erase k }

/-! ## Weft frames and lanes (R155, R162, R163) -/

/-- Partition whose phase circuits end at a receive waveguide. -/
def State.phasePart (s : State) (site wg : Nat) : Nat :=
  match phaseOut site wg with | some o => s.partOfPair (o / 16) | none => 0
/-- The blocks of a frame, each lane descrambled, and the scramblers' states after it (R163). -/
def State.unscramble (s : State) (site wg : Nat) (lanes : List Nat) (raw : List (BitVec 544)) : List LaneBlock × Tab Nat :=
  let out := (lanes.zip raw).map fun x =>
    let k := ringKey site (selOf 1 1 wg x.1)
    let (v, st) := descramble (Tab.get 0 s.weftScr k) x.2.toNat 16
    (k, LaneBlock.ofBits v, st)
  (out.map fun x => x.2.1, out.foldl (fun m x => Tab.set 0 m x.1 x.2.2) s.weftScr)
/-- A frame is good (R163): a block on every active lane with its CRC, no mark, no reserved bit, no TYPE 3, one FSEQ. -/
def frameOk (n : Nat) (marked : Bool) (bs : List LaneBlock) : Bool :=
  let t0 := (bs.headD ⟨0, 0⟩).tail
  !marked && bs.length == n && t0.extractLsb' 12 2 != 3 && bs.all fun b =>
    LaneBlock.crcOk b && b.tail.extractLsb' 0 12 == t0.extractLsb' 0 12 && b.tail.extractLsb' 14 2 == 0 &&
      b.tail.extractLsb' 12 2 != 3
/-- What a phase waveguide received, the last entry of a run of idle frames once (R163, R275). -/
def State.weftPut (s : State) (key : Nat) (e : Option (List Byte)) : State :=
  let q := Tab.get [] s.weftIn key
  if e = some [] ∧ q.getLast? = some (some []) then s else { s with weftIn := Tab.set [] s.weftIn key (q ++ [e]) }

/-- WEFT_FRAME_RECEIVE (R161, R163): a receiver checks a frame, its lanes in the order of their ranks; a discarded one is
reported to the endpoint. A gated receiver takes none (R142). -/
def execWeftFrameReceive (f : WeftRx) (lanes : List (BitVec 544)) (marked : Bool) (s : State) : Host.Outcome State Fault Refusal :=
  let site := f.site.val
  let wg := f.wg.val
  let key := site * 16 + wg
  let n := s.phasePart site wg
  if s.lightHold || lanes.isEmpty || (n != 0 && (s.sw n).on) then .next s
  else
    let s := if marked then s.bump (LM_OPT_STAT site) LM_OPT_STAT_SAT_MARKS 1 else s
    let act := s.rxLanes site wg
    let (bs, scr) := s.unscramble site wg act lanes
    let s := { s with weftScr := scr }
    let stand := s.standAt site wg
    let setDrop (s : State) (b : Bool) : State := match stand with
      | some (pr, p, k) => s.setEnd pr (circKey p k) { s.end_ pr (circKey p k) with drop := b }
      | none => s
    let put (s : State) (e : Option (List Byte)) : State := if stand.isSome then s else s.weftPut key e
    if !frameOk act.length marked bs || lanes.length != act.length then
      let s := { s with weftBad := Tab.set 0 s.weftBad key (Tab.get 0 s.weftBad key + 1) }
      let s := match stand with | some (false, _, k) => s.bump (BM_CIRC_STAT k) BM_CIRC_STAT_DISCARDS 1 | _ => s
      .next (put (setDrop s true) none)
    else
      match ((bs.headD ⟨0, 0⟩).tail.extractLsb' 12 2).toNat with
      | 0 => .next (put (setDrop s false) (some []))
      | 1 => .next (put s (some (bs.flatMap fun b => leBytes 64 b.payload.toNat)))
      | _ => .next s

/-- LANE_FLOOD (R162): a lane is declared flooded; `meas`: what the receivers of the standing circuits measure in the check
of the default map that follows. -/
def execLaneFlood (l : RingRef) (meas : List (Bool × OutMeas)) (s : State) : Host.Outcome State Fault Refusal :=
  let k := l.key
  if !l.isRing then .next s
  else
    let gated := l.plane == 1 && s.phasePart l.site l.wg != 0 && (s.sw (s.phasePart l.site l.wg)).on
    if gated || s.lightHold then .next s
    else
      let s := s.bump (LM_OPT_STAT l.site) LM_OPT_STAT_FLOODS 1
      let s := s.setRing k { s.ring k with stale := true }
      match l.plane with
      | 0 =>
        let t := laneKey k
        .next ((s.laneOut t whyFlood).maskLane (t / 4096) ((t / 4096 + t % 4096 / 128) % 32) (t % 4096 / 8 % 16))
      | 1 =>
        let s := (s.laneOut k whyFlood).laneStep k
        if (s.standAt l.site l.wg).isSome then
          let s := if s.standMap.isSome then s.standDefault else s
          .next (s.standCheck meas)
        else
          let n := s.phasePart l.site l.wg
          match s.part? n with
          | some p => .next ((s.swReverify n p).pilots p ((s.swReverify n p).sw n).target)
          | none => .next s
      | _ => .next (s.portLaneLost k whyFlood)

/-- LANE_MAP_STEP (R155): at the frame named, a lane that is in service enters traffic or a lane leaves it, or a locked ring
serves another line. A port lane follows its direction's lane map (R188). -/
def execLaneMapStep (l : RingRef) (step : LaneStep) (s : State) : Host.Outcome State Fault Refusal :=
  let k := laneKey l.key
  let t := s.lane k
  if !l.isRing then .next s
  else
    match step with
    | .line wl =>
      let g := s.ring l.key
      if g.lock = 1 then .next (s.setRing l.key { g with line := if wl.toNat = l.wl then none else some wl.toNat }) else .next s
    | .carry on =>
      if l.plane = 2 then .next s
      else if on then .next (if l.plane = 0 then s.laneBack k 0 else s.laneStep k)
      else .next (s.setLane k { t with insv := false, late := l.plane == 1 && t.out == 0, stepAt := none })

end Sys2Proof.Machine
end

