-- ==== Sys2Proof/Machine/HdBase.lean ====
section
/-! DEFINITION. The Heddle's shared operations: fabric time (R413 to R420), metering epochs (R434 to R438), dumps (R390,
R391), the end of a partition's tags, and the way a mailbox command is checked and answered (R339 to R352, R360). -/
namespace Sys2Proof

/-- A header that breaks R339 (R340). -/
def MbHdr.bad (h : MbHdr) : Bool :=
  h.flags.toNat ≥ 2 || h.rsv != 0 || h.target.getLsbD 14 || h.length.toNat > 4064 ||
    (h.flags.getLsbD 0 && h.haddr.toNat % 64 != 0)
def MbHdr.hostbuf (h : MbHdr) : Bool := h.flags.getLsbD 0
def MbHdr.tvalid (h : MbHdr) : Bool := h.target.getLsbD 15
def MbHdr.node (h : MbHdr) : Nat := h.target.toNat % 2 ^ 14
/-- The mailbox is that of PF1 to PF8. -/
def Mail.fromPart (m : Mail) : Bool := 1 ≤ m.src.val && m.src.val ≤ 8
/-- Number in a payload, at an offset. -/
def Mail.n (m : Mail) (off len : Nat) : Nat := Machine.leNat ((m.payload.drop off).take len)
def Mail.part (m : Mail) : Nat := m.hdr.part.toNat

end Sys2Proof

namespace Sys2Proof.Machine

/-! ## Fabric time (R413 to R416) -/

def State.timeState (s : State) : Nat := s.rf HD_TIME_STAT HD_TIME_STAT_STATE
/-- The count. -/
def State.now (s : State) : Nat := (s.rget HD_TIME_NOW).toNat
/-- TIME is a holdover time: in UNSET, HOLDOVER and SLEWING (R414). -/
def State.holdover (s : State) : Bool := s.timeState != 1
/-- BOUND_NS (R414), rounded up; 10 ppm of the time since the last accepted edge or step. -/
def State.boundNs (s : State) : Nat :=
  match s.timeState with
  | 0 => 0xFFFFFFFF
  | 1 => 100
  | 2 =>
    let age := ((s.tick - s.clock.since) + 149999) / 150000
    min 0xFFFFFFFF (2000 + age + if s.clock.slewed then s.clock.r.natAbs else 0)
  | _ => min 0xFFFFFFFF (s.clock.r.natAbs + 2000)
/-- The count at a value; the next control tick goes on from it. -/
def State.setNow (s : State) (v : Nat) : State := s.rset HD_TIME_NOW (BitVec.ofNat 64 v)

/-! ## Life cycle (R410) and firmware (R399) -/

/-- The partition is confidential (R409). -/
def State.confidential (s : State) (n : Nat) : Bool :=
  s.lc.state == 2 && match s.part? n with | some p => p.enc && p.state != .empty | none => false
def Fw.bank (f : Fw) (b : Bool) : FwBank := if b then f.bank1 else f.bank0
def Fw.setBank (f : Fw) (b : Bool) (k : FwBank) : Fw := if b then { f with bank1 := k } else { f with bank0 := k }
/-- First 8 bytes of the SHA-384 of a public key (R398). -/
def keyId (pub : List Byte) : List Byte := fitBytes 8 (sha384 pub)
/-- The device draft key (R398), derived from the UDS, LCEPOCH and OWNER_HASH, and its public key. -/
def draftSecret (epoch : Nat) (owner : List Byte) : Nat := Config.privateKey 1 (leBytes 4 epoch ++ fitBytes 16 (ownerHashOf owner))
def State.draftPrivate (s : State) : Nat := draftSecret s.lc.epoch s.lc.owner
def State.draftKey (s : State) : List Byte := ecPublic s.draftPrivate
/-- CDI: HMAC-SHA-384 of the UDS and measurement 2, the booted image's digest and SVN (R398, R401). -/
def State.cdi (s : State) : List Byte :=
  let b := s.fw.bank s.fw.active
  hmac Config.uds (b.digest ++ leBytes 1 b.svn)
/-- Public key of the Alias key, derived from CDI, and a signature by it (R398). -/
def State.aliasKey (s : State) : List Byte := ecPublic (Config.privateKey 2 s.cdi)
def State.aliasSign (s : State) (digest : List Byte) : List Byte := engineSign 2 s.cdi digest
/-- Public key of the Holnilet evaluation key, and the serial number. -/
def evalKey : List Byte := fitBytes 97 (Config.crypto 13 [])
def serial : List Byte := fitBytes 16 (Config.crypto 14 [])

/-! ## Metering (R434 to R438) -/

def spillSize : Nat := 32768
def State.meter (s : State) (n : Nat) : Meter := Tab.get Meter.reset s.meters n
def State.setMeter (s : State) (n : Nat) (m : Meter) : State := { s with meters := Tab.set Meter.reset s.meters n m }
/-- HD_METER_STAT follows the spill. -/
def State.showMeter (s : State) : State :=
  let a := HD_METER_STAT
  ((s.wf a HD_METER_STAT_NEXT_SEQ s.meterSeq).wf a HD_METER_STAT_UNREAD s.spill.length).wb a HD_METER_STAT_FULL
    (decide (spillSize ≤ s.spill.length))
/-- The 208 bytes of a metering record (R434). -/
def State.meterBytes (s : State) (n : Nat) (m : Meter) (flags endT : Nat) : List Byte :=
  let b := leBytes 4 0x524D4B4E ++ leBytes 2 1 ++ leBytes 2 flags ++ leBytes 8 s.meterSeq ++ leBytes 1 n ++ leBytes 1 0 ++
    leBytes 2 m.ctx.toNat ++ leBytes 2 m.domain.toNat ++ leBytes 2 0 ++ leBytes 8 m.start.toNat ++ leBytes 8 endT ++
    leBytes 8 (m.run / 1500) ++ leBytes 8 (m.energy / 10) ++ leBytes 8 m.tx ++ leBytes 8 m.rx ++
    leBytes 8 (m.gib / 1500000000) ++ leBytes 8 m.draft.toNat ++ fitBytes 16 s.meterPrev ++ keyId s.aliasKey
  b ++ s.aliasSign (sha384 b)
/-- An epoch opens now; `m` is the epoch before, whose parts of a unit it takes over. -/
def State.openMeter (s : State) (n : Nat) (m : Meter) : State :=
  let m' : Meter :=
    { Meter.reset with start := s.rget HD_TIME_NOW, hold := s.holdover, from_ := s.tick, run := m.run % 1500,
                       energy := m.energy % 10, gib := m.gib % 1500000000, ctx := s.ctx n,
                       domain := BitVec.ofNat 16 (s.domain n) }
  s.setMeter n m'
/-- An epoch closes (R435, R436): its record goes to the spill and the next epoch opens; with the spill full the close is
deferred. `extra` holds POWER_LOSS, `endT` and `endHold` the closing time. -/
def State.closeMeterAt (s : State) (n extra endT : Nat) (endHold : Bool) : State :=
  let m := s.meter n
  if spillSize ≤ s.spill.length then
    let s := (s.setMeter n { m with deferred := true }).raise HD_METER_STAT HD_METER_STAT_DEFERRED 1
    (s.showMeter).event 0x0B 0x0D 0 0 0 0 s.meterSeq s.spill.length
  else
    let flags := (decide (endT < m.start.toNat)).toNat + 2 * m.hold.toNat + 4 * endHold.toNat + extra + 16 * m.deferred.toNat
    let b := s.meterBytes n m flags endT
    let rec_ : MeterRec := { seq := s.meterSeq, part := n, bytes := b }
    let s := { s with spill := s.spill ++ [rec_], meterSeq := s.meterSeq + 1,
                      meterPrev := fitBytes 16 (sha384 b) }
    let s := if n = 0 ∨ (s.part? n).isSome then s.openMeter n m else s.setMeter n Meter.reset
    s.showMeter
def State.closeMeter (s : State) (n : Nat) : State := s.closeMeterAt n 0 s.now s.holdover
/-- Partitions with an open epoch. -/
def State.metered (s : State) : List Nat :=
  (List.range 9).filter fun n => n ≠ 0 && ((s.part? n).isSome || s.meters.any fun e => e.1 == n)
/-- Every open epoch closes, the package's last. -/
def State.closeAllMeters (s : State) : State := ((s.metered).foldl (fun s n => s.closeMeter n) s).closeMeter 0

/-- The generation of a partition number steps, and its epoch closes (R343, R435). -/
def State.genStep (s : State) (n : Nat) : State :=
  { s with gens := Tab.set 0 s.gens n ((s.gen n + 1) % 4096) }.closeMeter n

/-! ## Dumps (R390, R391) -/

/-- Place of dump offset `d`: dump line d / 512 of the reserved lines r = 32,768 to 1,081,343 of the stacks, taken in
package order (R289, log entry 14). -/
def dumpBase : Nat := 4096 * (reservedLine + 32768)
def dumpAddr (n d : Nat) : Nat := dumpBase + (n - 1) * 0x20000000 + d
/-- A core's image: the registers of R391, in order, and zeros. -/
def State.coreImage (s : State) (c : Nat) : List Byte :=
  fitBytes 128 (([CD_SEQ_STATUS c, CD_BEAT_COUNT c, CD_HOLD c, CD_BOUND c, CD_CORE_FLAGS c, CD_CORE_FAULT c, CD_SP_ECC c,
    SH_CH_STAT c 0, SH_CH_STAT c 1, SH_CH_STAT c 2, SH_CH_STAT c 3].map fun a => leBytes 8 (s.rget a).toNat).flatten)
/-- Core images written one after another. -/
def State.putImages (s : State) (a : Nat) : List Nat → State
  | [] => s
  | c :: r => (s.putBytes a (s.coreImage c)).putImages (a + 128) r
/-- The dump of a partition that has entered FAULTED is written: header, record, core images, and the sample of the core
whose fault began it, unless the partition is confidential (R390, R391, R409). -/
def State.dumpWrite (s : State) (n : Nat) : State :=
  match s.part? n with
  | none => s
  | some p =>
    match p.dump with
    | none => s
    | some (r, core) =>
      let core := if s.confidential n then none else core
      let line := match core with
        | some c => min (s.rf (CD_CORE_FAULT c) CD_CORE_FAULT_LINE - 16) 24544
        | none => 0
      let score := match core with | some c => c - 256 * p.first | none => 0xFFFF
      let hdr := leBytes 4 0x50444B4E ++ leBytes 2 1 ++ leBytes 2 (s.ctx n).toNat ++ leBytes 4 r.seq.toNat ++
        leBytes 2 score ++ leBytes 2 line ++ leBytes 1 1 ++ List.replicate 47 0 ++ recBytes r
      let a := dumpAddr n 0
      let s := { s with mem := Tab.drop s.mem a (a + 0x42000) }
      let s := (s.putBytes a hdr).putImages (a + 0x1000) p.coreIx
      let s := match core with
        | some c => s.putBytes (a + 0x41000) (s.bytes (spBase c + 128 * line) 4096)
        | none => s
      s.setPart n { p with dump := none }

/-! ## The end of a partition's requests (R233, R383) -/

/-- A tag whose request has no reply completes with TIMEOUT; at the end of its quarantine it is free. -/
def State.drainTag (s : State) (k : Nat) : State :=
  match s.tag? k with
  | none => s
  | some t =>
    let s :=
      if t.quar ∨ t.move ∨ t.unsent then s
      else
        let s := s.bump LM_MS_STAT0 LM_MS_STAT0_TIMEOUTS 1
        let s := s.event 0x04 0x01 (unitOf 1 (k / 32)) (s.ctx (s.partOfCore (k / 32))) stTimeout (k % 32) t.pk.addr t.pk.detail
        let s := s.tagDone k stTimeout 0 [] true
        if t.site.isSome then s else s.peerTimeout (pairOf (k / 32)) t.node
    s.setTag k none
/-- Every tag of the partition's cores is free. -/
def State.drainTags (s : State) (p : Part) : State :=
  ((s.tags.map Prod.fst).filter fun k => p.hasPair (pairOf (k / 32))).foldl (fun s k => s.drainTag k) s

/-! ## Mailboxes (R339 to R342, R360) -/

/-- Who may send a command (R342). -/
inductive Who | all | pf0 | own
deriving DecidableEq, Repr

/-- A bring-up has ended with an outcome other than FAILED (R360). -/
def State.outcomeOf (s : State) : Nat := s.rf HD_BRINGUP HD_BRINGUP_OUTCOME
def State.ready (s : State) : Bool := s.outcomeOf != 0 && s.outcomeOf != 4
def State.shutdown (s : State) : Bool := s.rb HD_THERM HD_THERM_SHUTDOWN
/-- The ROM's recovery loader runs: S0 has failed with REASON BOOT (R399). -/
def State.recovery (s : State) : Bool :=
  match s.stages with | r :: _ => r.result == 4 && r.reason == 2 | [] => false
/-- The opcode is served in the package's present state (R360, R399, R411, R429). -/
def State.served (s : State) (op : Nat) : Bool :=
  (s.lc.state != 4 || [0x01, 0x02, 0xA1].contains op) &&
  (s.outcomeOf != 4 || [0x01, 0x02, 0xA1, 0x60, 0x61, 0x70, 0x80, 0x51].contains op) &&
  (!s.recovery || [0x01, 0x02, 0x60, 0x61, 0x51].contains op) &&
  (!s.shutdown || [0x01, 0x02, 0x80].contains op)

/-- The function may not send the command (R342, R349, R403). -/
def State.mbDenied (s : State) (m : Mail) (who : Who) : Bool :=
  m.fromPart && (m.hdr.tvalid || (s.lc.ide && !s.ide) ||
    match who with | .all => false | .pf0 => true | .own => m.hdr.part.toNat != m.src.val)
/-- Where a command runs (R349): here, on a tethered package, or nowhere. -/
inductive MbAt | here | there (node : Nat) | nowhere (st : Nat)
deriving DecidableEq, Repr
def State.mbAt (s : State) (m : Mail) : MbAt :=
  if !m.hdr.tvalid ∨ m.hdr.node = s.ownNode then .here
  else
    match s.tethers.find? (fun t => t.node = m.hdr.node) with
    | some t => if t.live then .there m.hdr.node else .nowhere stTetherLost
    | none => .nowhere (if s.nodeDead m.hdr.node then stTargetDead else stBadArgument)
/-- The first reason to refuse a command that runs here (R340, R360): its payload's length, the package's state, and a
PARTITION that a command of its kind does not take. -/
def State.mbRefuse (s : State) (m : Mail) (op : Nat) (part : Bool) (len : Nat) : Option Nat :=
  if m.hdr.length.toNat ≠ len ∨ m.payload.length ≠ len then some stBadArgument
  else if !s.served op || (s.shutdown && m.fromPart) then some stWrongState
  else if part && (m.hdr.part.toNat = 0 || m.hdr.part.toNat > 8) then some stBadArgument
  else none

/-- The queue entry of a command: the one its mailbox holds, or one made for it. -/
def State.mbEnt (s : State) (m : Mail) : MbEnt :=
  match s.mbQueue.find? (fun e => e.src = m.src.val) with
  | some e => { e with hdr := m.hdr, payload := m.payload }
  | none => { src := m.src.val, tick := s.tick, hdr := m.hdr, payload := m.payload, drop := false, smbSeq := 0 }
/-- What a command's own rules give: status, response payload, and the state it leaves. -/
structure MbRes where
  st : Nat
  pl : List Byte
  s : State
/-- A refusal leaves no partial change (R345). -/
def State.refuse (s : State) (st : Nat) : MbRes := ⟨st, [], s⟩
def State.okay (s : State) : MbRes := ⟨stOK, [], s⟩
/-- A command joins the queue; of doorbells in one tick the lower function goes first, then the SMBus, then the tether
(R341; log entry 74). -/
def mbInsert (e : MbEnt) : List MbEnt → List MbEnt
  | [] => [e]
  | x :: r => if x.tick = e.tick ∧ e.src < x.src then e :: x :: r else x :: mbInsert e r
def State.mbPut (s : State) (e : MbEnt) : State := { s with mbQueue := mbInsert e s.mbQueue }
/-- A command's bytes and, for HOSTBUF, its host buffer go to a tethered package (R349). -/
def State.forward (s : State) (m : Mail) (node : Nat) (img : List Byte) : State :=
  let h := m.hdr
  let bs := leBytes 2 h.opcode.toNat ++ leBytes 1 h.flags.toNat ++ leBytes 1 h.part.toNat ++ leBytes 2 h.target.toNat ++
    leBytes 2 h.seq.toNat ++ leBytes 4 h.length.toNat ++ leBytes 4 0 ++ leBytes 8 h.haddr.toNat ++ leBytes 8 h.hlen.toNat ++ m.payload
  let data : List (Nat × Nat × List Byte) :=
    if h.hostbuf then (ctlWrites node 0 img).map fun w => (w.1, 0x6000 + w.2.1 % 0x1000, w.2.2) else []
  { s with forwarded := s.forwarded ++ [(node, h, false)] }.sendCtl (ctlWrites node 0 bs ++ data ++ [(node, 0x1000, leBytes 8 1)])

/-- What becomes of a mailbox command before its own rules apply: it is answered or has no effect, or it runs. -/
inductive Admit
  | stop (s : State)
  | run (e : MbEnt) (s : State)
/-- A command of another mailbox is the next to run (R341). -/
def State.mbBehind (s : State) (src : Nat) : Bool := match s.mbQueue with | e :: _ => e.src != src | [] => false
/-- A mailbox command with opcode `op` is taken from its queue and checked (R340 to R345, R349, R360). Commands run one at
a time, in the order of their doorbells: while one runs on, or another is ahead, none starts (R341). -/
def State.mbStart (s : State) (m : Mail) (op : Nat) (who : Who) (part : Bool) (len : Nat) (img : List Byte) : Admit :=
  if m.hdr.opcode.toNat ≠ op ∨ s.inReset ∨ s.late ≠ [] ∨ s.mbBehind m.src.val then .stop s
  else
    let e := s.mbEnt m
    let s := { s with mbQueue := s.mbQueue.filter fun x => x.src ≠ m.src.val }.hdEvc 0x02 1
    if m.hdr.bad then .stop (s.complete e stBadCommand [])
    else if s.mbDenied m who then .stop (s.complete e stAccessDenied [])
    else
      match s.mbAt m with
      | .nowhere st => .stop (s.complete e st [])
      | .there node => .stop (s.forward m node img)
      | .here =>
        match s.mbRefuse m op part len with
        | some st => .stop (s.complete e st [])
        | none => .run e s
/-- A mailbox command that ends in one go. -/
def State.runCmd (s : State) (m : Mail) (op : Nat) (who : Who) (part : Bool) (len : Nat) (img : List Byte) (body : State → MbRes) :
    Host.Outcome State Fault Refusal :=
  match s.mbStart m op who part len img with
  | .stop s => .next s
  | .run e s =>
    let r := body s
    .next (r.s.complete e r.st r.pl)
/-- The queued command of a partition's mailbox ends with ABORTED (R341). -/
def State.abortQueued (s : State) (n : Nat) : State :=
  match s.mbQueue.find? (fun e => e.src = n) with
  | none => s
  | some e => { s with mbQueue := s.mbQueue.filter fun x => x.src ≠ n }.complete e stAborted []

/-- Some partition is RUNNING. -/
def State.anyRunning (s : State) : Bool := s.parts.any fun e => e.2.state == .running

end Sys2Proof.Machine
end

