-- ==== Sys2Proof/Machine/Partitions.lean ====
section
/-! DEFINITION. Creation, deletion and reset of partitions, and the reset levels of the package (R343, R381 to R384). -/
namespace Sys2Proof.Machine

/-! ## Pairs -/

def State.excluded (s : State) (p : Nat) : Bool := (s.rf HD_BRINGUP HD_BRINGUP_EXCLUDED).testBit p
/-- Bits of HD_PWR_DOM0 that a pair's compute dies hold (R421). -/
def pairDomains (p : Nat) : Nat := 255 * 2 ^ (8 * p)
def State.domainsOff (s : State) (dom0 dom1 : Nat) : State :=
  let s := s.rset HD_PWR_DOM0 (s.rget HD_PWR_DOM0 &&& ~~~BitVec.ofNat 64 dom0)
  s.rset HD_PWR_DOM1 (s.rget HD_PWR_DOM1 &&& ~~~BitVec.ofNat 64 dom1)
def State.domainsOn (s : State) (dom0 dom1 : Nat) : State :=
  let s := s.rset HD_PWR_DOM0 (s.rget HD_PWR_DOM0 ||| BitVec.ofNat 64 dom0)
  s.rset HD_PWR_DOM1 (s.rget HD_PWR_DOM1 ||| BitVec.ofNat 64 dom1)
/-- A pair is excluded and its compute dies lose power (R361). -/
def State.exclude (s : State) (p : Nat) : State :=
  (s.wf HD_BRINGUP HD_BRINGUP_EXCLUDED (s.rf HD_BRINGUP HD_BRINGUP_EXCLUDED ||| 2 ^ p)).domainsOff (pairDomains p) 0
/-- CAP_REQ of a pair returns to its reset value, and the capping loop goes on from there (R10, R123, R425). -/
def State.dropCap (s : State) (p : Nat) : State :=
  { s with capping := { s.capping with req := Tab.set 0 s.capping.req p 0, braked := s.capping.braked.filter (· ≠ p) } }.setCap p 0
/-- The gear release (R362): the voltage of G0 confirmed, and the pair at the gear of its requests. -/
def State.gearRelease (s : State) (p : Nat) : State :=
  let a := CD_GEAR_CTL p
  let t := s.gearTarget p
  let s := if s.rf a CD_GEAR_CTL_CUR = t then s else s.bump (CD_GEAR_STAT p) CD_GEAR_STAT_CHANGES 1
  let s := (s.askVolt p 0).wf a CD_GEAR_CTL_VOLT_OK 0
  ((s.wf a CD_GEAR_CTL_CUR t).wf a CD_GEAR_CTL_NEXT t).wf a CD_GEAR_CTL_VPEND 0

/-! ## What a partition's levels reset (R382) -/

/-- The keys of a core's registers that CONTEXT resets: all of its block but CD_SP_ECC and CD_HOLD_LIMIT. -/
def coreKeep (a : Nat) : Bool := a % 0x1000 == 0x50 || a % 0x1000 == 0x18
/-- Core state, knots, streams and cached lines of the partition's cores (CONTEXT). -/
def State.resetCores (s : State) (n : Nat) (p : Part) : State :=
  let mine (c : Nat) : Bool := p.hasPair (pairOf c)
  let keep : Tab Core := s.cores.map fun e => if mine e.1 then (e.1, { Core.reset with bundles := e.2.bundles }) else e
  let ps : Tab Pair := s.pairs.map fun e => if p.hasPair e.1 then (e.1, { e.2 with xfers := [], slotIn := [], overlaps := [] }) else e
  let s := { s with
    cores := keep.filter fun e => decide (e.2 ≠ Core.reset)
    regs := s.regs.filter fun e => !(decide (e.1 < 0x800000) && mine (e.1 / 0x1000) && !coreKeep e.1)
    shch := Tab.dropIf s.shch fun k => mine (k / 4)
    kpend := Tab.dropIf s.kpend fun k => p.hasPair (k / 64 / 32)
    poolOps := s.poolOps.filter fun o => !mine o.core
    groups := s.groups.filter fun e => e.2.part ≠ n
    pairs := ps.filter fun e => decide (e.2 ≠ Pair.reset) }
  let s := { s with
    regs := s.regs.filter fun e =>
      !(decide (0x800000 ≤ e.1) && decide (e.1 < 0x900000) && p.hasPair (e.1 % 0x800000 / 0x1000 / 32) &&
        decide (0x400 ≤ e.1 % 0x1000) && decide (e.1 % 0x1000 < 0x600)) }
  ((s.colDiscard p).rrcDrop n (fun _ => true)).swZero n p
/-- A resource of the edge arbiters belongs to the partition. -/
def Part.hasEdge (p : Part) (k : Nat) : Bool := p.hasPair (if k < 1024 then k / 32 else (k - 1024) / 128)
/-- What waits at the edge arbiters of the partition's pairs is lost; the space a packet held at an express input lane is
free again (R252, R257). -/
def State.dropEdge (s : State) (p : Part) : State :=
  let s := (s.edge.filter fun e => p.hasEdge e.1 && decide (1024 ≤ e.1)).foldl (fun s e => e.2.foldl (fun s l =>
    match l.2 with | .packet q => s.creditBack q.dsite q | _ => s) s) s
  { s with edge := Tab.dropIf s.edge p.hasEdge }
/-- SRAM, draft stores, and the cluster and pair blocks of the partition's pairs (DIE and above). -/
def State.resetDies (s : State) (p : Part) : State :=
  let s := s.dropEdge p
  let mine (c : Nat) : Bool := p.hasPair (pairOf c)
  let f := 256 * p.first; let l := 256 * (p.first + p.pairs)
  let s := { s with
    cores := s.cores.filter fun e => !mine e.1
    dstore := Tab.drop s.dstore (f * 2048) (l * 2048)
    mem := Tab.drop (Tab.drop s.mem (spBase f) (spBase l)) (poolBase (f / 8)) (poolBase (l / 8))
    ecc := Tab.drop (Tab.drop (Tab.drop s.ecc (spBase f / 8) (spBase l / 8)) (poolBase (f / 8) / 8) (poolBase (l / 8) / 8))
      (dsWord f 0) (dsWord l 0)
    pairs := s.pairs.filter fun e => !p.hasPair e.1
    scrub := Tab.drop (Tab.drop s.scrub (f * 8) (l * 8)) (16384 + f / 8 * 16) (16384 + l / 8 * 16)
    pools := Tab.drop s.pools (f / 8) (l / 8)
    arbs := Tab.drop (Tab.drop s.arbs (p.first * 32) ((p.first + p.pairs) * 32)) (1024 + f / 8 * 4) (1024 + l / 8 * 4)
    beatPhase := Tab.drop s.beatPhase p.first (p.first + p.pairs)
    thermCalm := Tab.drop s.thermCalm p.first (p.first + p.pairs) }
  let s := ((s.regsReset (0x1000 * f) (0x1000 * l)).regsReset (0x800000 + 0x1000 * (f / 8)) (0x800000 + 0x1000 * (l / 8))).regsReset
    (0x900000 + 0x1000 * p.first) (0x900000 + 0x1000 * (p.first + p.pairs))
  p.groupIx.foldl (fun s p => s.dropCap p) s
/-- The draft of a partition is discarded. -/
def Part.noDraft (p : Part) : Part :=
  { p with state := .empty, cores := [], groups := [], knots := [], origins := [], level := 0, bounded := false,
           stopping := false, enc := false, draftId := 0, dump := none }

/-! ## Creation and deletion (R343, R145) -/

/-- The group records of a partition's groups, slot 0 apart, are invalid and slot 0 is applied (R145). -/
def State.weftFresh (s : State) (n : Nat) (p : Part) : State :=
  let s := { s with slotRecs := Tab.drop s.slotRecs (16 * p.first) (16 * (p.first + p.pairs))
                    slotEls := Tab.drop s.slotEls (16 * p.first) (16 * (p.first + p.pairs)) }
  (p.groupIx.foldl (fun s g => s.rset (LM_WEFT_SLOTVALID g) 1) s).swZero n p
/-- Free run of GiB at a start. -/
def State.gibFree (s : State) (b n : Nat) : Bool :=
  b + n ≤ 448 && s.parts.all fun e =>
    e.2.bulkGib == 0 || decide (b * 2 ^ 30 + n * 2 ^ 30 ≤ e.2.bulkBase) || decide (e.2.bulkBase + e.2.bulkGib * 2 ^ 30 ≤ b * 2 ^ 30)
/-- The lowest free run of GiB (R343). A stack that is unusable leaves no bulk region (R287). -/
def State.gibRun (s : State) (n : Nat) : Option Nat :=
  if n = 0 then some 0
  else if (List.range 8).any fun k => s.rf (BM_STAT k) BM_STAT_STATE = 0 then none
  else (List.range 449).find? fun b => s.gibFree b n
/-- The first epoch of a new partition opens; an epoch whose close was deferred closes first (R435, R436). -/
def State.firstMeter (s : State) (n : Nat) : State :=
  if s.meters.any fun e => e.1 == n then s.closeMeter n else s.openMeter n Meter.reset
/-- A random bulk key is drawn for a partition, 9 the package reserve (R398). -/
def State.drawKey (s : State) (n : Nat) : State :=
  { s with bulkKeys := Tab.set 0 s.bulkKeys n (s.keySeq + 1), keySeq := s.keySeq + 1 }
/-- A partition is entered (R343): its bulk key is drawn (R398), its groups are at slot 0, and its dump header is zero (R390). -/
def State.createPart (s : State) (n : Nat) (p : Part) : State :=
  let s := { s with parts := Tab.put s.parts n p }.drawKey n
  let s := s.firstMeter n
  let s := (s.weftFresh n p).rrcDrop n (fun _ => true)
  (s.wf (LM_COL_ENG p.first) LM_COL_ENG_LEADER 1).putBytes (dumpAddr n 0) (List.replicate 128 0)
/-- A partition ceases to exist; its epoch closes (R435). -/
def State.deletePart (s : State) (n : Nat) : State :=
  match s.part? n with
  | none => s
  | some p =>
    let s := ((s.abortQueued n).dumpWrite n).drainTags p
    let s := ((s.colDiscard p).rrcDrop n (fun _ => true)).weftFresh n p
    let cs : Tab Core := s.cores.map fun e => if p.hasPair (pairOf e.1) then (e.1, { e.2 with bundles := 0 }) else e
    let s := { s with
      cores := cs.filter fun e => decide (e.2 ≠ Core.reset)
      groups := s.groups.filter fun e => e.2.part ≠ n
      parts := s.parts.filter fun e => e.1 ≠ n
      bulkKeys := Tab.set 0 s.bulkKeys n 0
      draftMeas := Tab.set [] s.draftMeas n [] }
    let s := s.wf (LM_COL_ENG p.first) LM_COL_ENG_LEADER 0
    s.closeMeter n

/-! ## PARTITION_RESET (R383, R384) -/

/-- The level a partition's state lets PARTITION_RESET take (R384). -/
def Part.resetOk (p : Part) (level : Nat) : Bool := p.state != .faulted || decide (p.level ≤ level)
/-- An access that waits is refused; a reply that waits is dropped (R383). -/
def State.refuseWait (s : State) : LandEnt → State
  | .req a => s.answer a stTargetFaulted 0 0 []
  | .dup a => s.reply a stTargetFaulted 0 0 []
  | _ => s
/-- The endpoint a waiting request is for lies in the partition's scratchpads or pools. -/
def LandEnt.within (p : Part) : LandEnt → Bool
  | .req a | .dup a =>
    let o := offOf a.pk.addr
    (spaceOf o == 1 && p.hasPair (pairOf (coreAt o))) || (spaceOf o == 2 && p.hasPair (o % 2 ^ 48 / 2 ^ 23 / 32))
  | _ => false
/-- What is held at the partition's endpoints is refused, and replies that wait there are dropped; atomics that have read
their element write it (R215, R383). -/
def State.closeLanding (s : State) (p : Part) : State :=
  let s := (s.cores.filter fun e => p.hasPair (pairOf e.1)).foldl (fun s e =>
    e.2.lbuf.foldl (fun s x => s.refuseWait x) (s.setCore e.1 { s.core e.1 with lbuf := [] })) s
  let s := (s.stalled.filter (LandEnt.within p)).foldl (fun s x => s.refuseWait x)
    { s with stalled := s.stalled.filter fun x => !x.within p }
  (s.pools.filter fun e => p.hasPair (e.1 / 32)).foldl (fun s e =>
    e.2.atoms.foldl (fun s x => s.atomWrite x.1 x.2) (s.setPool e.1 { s.pool e.1 with wait := [], reps := [], atoms := [] })) s
/-- Steps 1 to 4 of R383, up to the sample of CD_BOUND. -/
def State.resetStop (s : State) (n : Nat) : State :=
  let s := (s.partStop n).abortQueued n
  match s.part? n with
  | none => s
  | some p => if p.state = .running then s.stopCores n p else s
/-- BC_MAX and the INDEX of the core that holds it, the lowest core winning (R343). -/
def State.bounds (s : State) (p : Part) : Nat × Nat :=
  p.coreIx.foldl (fun m c => if m.1 < s.rf (CD_BOUND c) CD_BOUND_BC then
    (s.rf (CD_BOUND c) CD_BOUND_BC, s.rf (CD_BOUND c) CD_BOUND_INDEX) else m)
    (0, s.rf (CD_BOUND (256 * p.first)) CD_BOUND_INDEX)
/-- The drain and the wait: held accesses are refused, tags end, a dump in progress is complete. -/
def State.resetDrain (s : State) (n : Nat) (p : Part) : State :=
  ((s.closeLanding p).drainTags p).dumpWrite n
/-- A RESET record of a partition, naming its old context. -/
def State.resetRecord (s : State) (n : Nat) (ctx : BitVec 16) (level : Nat) : State :=
  s.event 0x0A 0x01 (unitOf 9 n) ctx 0 level 0 (s.rget HD_RESET_STAT).toNat
/-- Step 5 at CONTEXT. -/
def State.applyContext (s : State) (n : Nat) (p : Part) : State :=
  let s := s.resetCores n p
  let q : Part := { p with state := if p.state = .empty then .empty else .loaded, origins := [], level := 0, stopping := false, dump := none }
  (s.setPart n q).genStep n
/-- Step 5 at DIE: also SRAM and dies, and the gears released. -/
def State.applyDie (s : State) (n : Nat) (p : Part) : State :=
  let s := ((s.resetCores n p).resetDies p).setPart n p.noDraft
  (p.groupIx.foldl (fun s g => s.gearRelease g) s).genStep n

/-! ## Package levels (R381, R382) -/

/-- Registers of the newt domain that no level below POWER-ON resets (R420, R425), the domain state, the epoch length
(flash) and what R397 and R429 keep. -/
def newtKeep (a : Nat) : Bool :=
  a == HD_TIME_STAT || a == HD_TIME_NOW || a == HD_ENERGY || a == HD_PWR_DOM0 || a == HD_PWR_DOM1 || a == HD_METER_CTL ||
    a == HD_RESET_STAT || a == HD_METER_STAT || a == LM_BOBBIN
/-- Fields of the kept registers that a level below POWER-ON resets, and those that show flash. -/
def State.showFlash (s : State) : State :=
  let s := s.wf LM_MS_NODE LM_MS_NODE_SEPOCH s.sepochFlash
  let s := (s.wf HD_METER_STAT HD_METER_STAT_DEFERRED 0).showMeter
  let s := s.wb HD_THERM HD_THERM_WAS_SHUTDOWN s.wasShut
  let recent := (s.shutLog.filter fun t => decide (s.tick < t + 5400000000000)).length
  s.wf HD_THERM HD_THERM_SHUTDOWNS_1H (min 255 recent)
/-- LASER_EN goes low until the Heddle raises it in bring-up; a Bobbin that gives no light drives BOBBIN_OK_N high (R166;
log entry 17). -/
def State.laserOff (s : State) : State :=
  ({ s with laserUp := 0 }.wf LM_BOBBIN LM_BOBBIN_LASER_EN 0).wf LM_BOBBIN LM_BOBBIN_BOBBIN_OK 0
/-- The compute, Loom and bulk domains lose everything but bulk contents and flash: what WARM and every level above it
reset there (R382), and what an opened domain switch ends (R423, R429). The Heddle block and BAR0 stay. -/
def State.unitsOff (s : State) : State :=
  { s with
    regs := s.regs.filter fun e => decide (0x970000 ≤ e.1) || newtKeep e.1
    mem := Tab.drop s.mem (2 ^ 48) (4 * 2 ^ 48), ecc := Tab.drop s.ecc (2 ^ 45) (2 ^ 61)
    cores := [], dstore := [], scrub := [], pools := [], kpend := [], poolOps := [], pairs := [], groups := []
    beatPhase := [], warpTx := [], warpRx := [], edge := [], epIn := [], rings := [], lanes := []
    slotRecs := [], slotEls := [], standMap := none, phaseEls := 0, fanEls := 0, stuEls := standEls defaultStand
    stdEls := standEls defaultStand, standSince := none, switches := [], weftIn := [], weftBad := [], weftTx := [], weftScr := []
    censusDone := 0, censusAt := [], calFront := []
    badSpares := [], lastCorr := [], remapQual := [], writeBuf := [], scrubLine := [], scrubFrom := [], selfRun := [], pairEnd := [], ctlEnd := []
    bulkCtl := [], ctlOut := [], hdReqs := [], stalled := []
    tags := [], chans := [], orderHeld := [], localHeld := [], filter := [], filterHot := [], coldHeld := [], dupHeld := []
    atomRes := [], rrc := [], shch := [], arbs := [], peerMiss := [], streams := [], colWait := [], combs := [], repls := []
    mseq := 0, mcFilter := [], ports := [], links := [], thermCalm := [] }
/-- What WARM and every level above it reset in the package (R382): everything but the newt domain, flash, bulk contents
and partition definitions. -/
def State.warmState (s : State) : State :=
  let sd := s.shutdown
  let bob := s.rget LM_BOBBIN
  let parts : Tab Part := s.parts.map fun e => (e.1, e.2.noDraft)
  let s := s.unitsOff
  let s := { s with
    regs := s.regs.filter fun e => newtKeep e.1
    parts := parts, capping := { s.capping with req := [], braked := [] }
    laserUp := (LM_BOBBIN_LASER_EN.get bob)
    evPend := 0, tetherLead := none, mbQueue := [], late := [], tethers := [], forwarded := []
    upCfg := none, runCfg := none, ide := false, spdm := [], resetDue := none }
  let s := s.rset LM_BOBBIN (bob &&& 3)
  let s := (s.wb HD_THERM HD_THERM_SHUTDOWN sd).wb HD_PWR_STAT HD_PWR_STAT_BRAKE s.brake
  let s := parts.foldl (fun s e => s.wf (LM_COL_ENG e.2.first) LM_COL_ENG_LEADER 1) s
  s.showFlash
/-- The bring-up of a kind starts: 0 POWER-ON, 1 COLD, 2 WARM (R358, R373, R375). -/
def State.bringupStart (s : State) (kind : Nat) : State :=
  let s := s.rset HD_BRINGUP 0
  let s := (s.wf HD_BRINGUP HD_BRINGUP_KIND kind).wb HD_BRINGUP HD_BRINGUP_STORED s.storedCfg.isSome
  let auto := match s.storedCfg with | some (f :: _) => f.getLsbD 1 | _ => false
  let first : StageRec := { StageRec.none with result := 1 }
  { s.wb HD_BRINGUP HD_BRINGUP_AUTO auto with
    stages := first :: List.replicate 10 StageRec.none, nextStage := 0, stageTick := s.tick, upTick := s.tick }
/-- Bytes 0x04 to 0x1B of a stage record (R373, R378). -/
def StageRec.detail24 (r : StageRec) : Nat := packNat 32 [r.start, r.dur, r.a, r.b, 0, r.detail % 2 ^ 32]
/-- A stage runs (R373, R375). -/
def State.stageRuns (s : State) (n : Nat) : State :=
  { s with stages := s.stages.set n { s.stages.getD n StageRec.none with result := 1 } }.wf HD_BRINGUP HD_BRINGUP_STAGE n
/-- A bring-up that has not ended is abandoned with a record that names the stage it had reached (R372). -/
def State.abandon (s : State) : State :=
  if s.inReset ∨ s.outcomeOf ≠ 0 then s
  else
    let st := s.rf HD_BRINGUP HD_BRINGUP_STAGE
    let r := s.stages.getD st StageRec.none
    s.event 0x09 0x03 0 0 0 st r.reason r.detail24
/-- WARM (R382): epochs close as generations step, kept partitions are EMPTY, and a bring-up starts. -/
def State.doWarm (s : State) (cause : Nat) : State :=
  let s := s.abandon.warmState
  let s : State := (s.parts.map Prod.fst).foldl (fun s n => s.genStep n) s
  let s := (s.wf HD_RESET_STAT HD_RESET_STAT_LAST 2).wf HD_RESET_STAT HD_RESET_STAT_CAUSE cause
  let s := s.wf HD_RESET_STAT HD_RESET_STAT_HELD 0
  ((s.event 0x0A 0x01 0 0 0 2 0 (s.rget HD_RESET_STAT).toNat)).bringupStart 2
/-- COLD: also partitions, generations and bulk contents, with every epoch closed; LASER_EN goes low (R382, R435). -/
def State.doCold (s : State) (cause : Nat) : State :=
  let s := s.abandon
  let s := { s with parts := [] }.closeAllMeters
  let s := s.warmState
  let s := { s with gens := [], rrcGen := [], filled := false, draftMeas := [],
                    bulkKeys := s.bulkKeys.filter fun e => e.1 == 9 }.laserOff
  let s := (s.wf HD_RESET_STAT HD_RESET_STAT_LAST 1).wf HD_RESET_STAT HD_RESET_STAT_CAUSE cause
  let s := s.wf HD_RESET_STAT HD_RESET_STAT_HELD 0
  ((s.event 0x0A 0x01 0 0 0 3 0 (s.rget HD_RESET_STAT).toNat)).bringupStart 1

end Sys2Proof.Machine
end

