-- ==== Sys2Proof/Machine/Loader.lean ====
section
/-! DEFINITION. The loader of draft images (R90 to R98): header, signature and keys (L2, L3), every load rule (L4), and the
commit (L5). -/
namespace Sys2Proof.Machine

/-! ## The image (R90 to R92) -/

/-- `n` bytes at an offset, and their number. -/
def cut (img : List Byte) (off n : Nat) : List Byte := (img.drop off).take n
def fld (img : List Byte) (off n : Nat) : Nat := leNat (cut img off n)
def allZero (bs : List Byte) : Bool := bs.all (· == 0)

/-- A section table entry (R91). -/
structure Sec where
  ix : Nat
  ty : Nat
  flags : Nat
  target : Nat
  off : Nat
  len : Nat
  dest : Nat
deriving DecidableEq, Repr
def Sec.enc (x : Sec) : Bool := x.flags % 2 == 1
def sectabOfs (img : List Byte) : Nat := fld img 0x20 8
def keyOfs (img : List Byte) : Nat := fld img 0x28 8
def sigOfs (img : List Byte) : Nat := fld img 0x30 8
def encrypted (img : List Byte) : Bool := fld img 0x1D 1 % 2 == 1
def sections (img : List Byte) : List Sec :=
  (List.range (fld img 0x1E 2)).map fun i =>
    let b := sectabOfs img + 32 * i
    { ix := i, ty := fld img b 2, flags := fld img (b + 2) 2, target := fld img (b + 4) 4, off := fld img (b + 8) 8,
      len := fld img (b + 16) 8, dest := fld img (b + 24) 8 }
/-- A section with its content, decrypted where it is encrypted. -/
abbrev SecData := Sec × List Byte

/-- Two byte ranges share a byte. -/
def meet (a n b m : Nat) : Bool := decide (a < b + m) && decide (b < a + n) && n != 0 && m != 0

/-! ## The load report (R98) -/

/-- An offence: reason, core, bundle, slot (0 M0, 1 M1, 2 E, 3 V, 4 S, 5 C), section; 0xFFFF and 0xFF for none. -/
structure Offence where
  reason : LoadReason
  core : Nat
  bundle : Nat
  slot : Nat
  sec : Nat
deriving DecidableEq, Repr
def offSec (r : LoadReason) (sec : Nat) : Offence := ⟨r, 0xFFFF, 0xFFFF, 0xFF, sec⟩
/-- The report's 16 bytes: the first offence and their number. -/
def reportOf : List Offence → List Byte
  | [] => leBytes 2 0 ++ leBytes 2 0xFFFF ++ leBytes 2 0xFFFF ++ [0xFF, 0] ++ leBytes 2 0xFFFF ++ [0, 0] ++ leBytes 4 0
  | o :: r =>
    leBytes 2 o.reason.code ++ leBytes 2 o.core ++ leBytes 2 o.bundle ++ leBytes 1 o.slot ++ [0] ++ leBytes 2 o.sec ++
      [0, 0] ++ leBytes 4 (min 0xFFFFFFFF (r.length + 1))

/-! ## L2 and L3 (R90, R93, R94, R408) -/

/-- The header is well formed for an image of HLEN bytes. -/
def headerOk (img : List Byte) : Bool :=
  let n := img.length
  let tabEnd := sectabOfs img + 32 * fld img 0x1E 2
  decide (256 ≤ n) && fld img 0 4 == 0x52444B4E && fld img 4 2 == 1 && fld img 6 2 == 256 && fld img 8 8 == n &&
    decide (fld img 0x1D 1 < 2) && decide (1 ≤ fld img 0x1E 2) && decide (fld img 0x1E 2 ≤ 4096) &&
    sectabOfs img % 64 == 0 && decide (256 ≤ sectabOfs img) && decide (tabEnd ≤ sigOfs img) && sigOfs img + 104 == n &&
    (if encrypted img then
      decide (256 ≤ keyOfs img) && decide (keyOfs img + 152 ≤ sigOfs img) && !meet (keyOfs img) 152 (sectabOfs img) (tabEnd - sectabOfs img)
     else keyOfs img == 0) && allZero (cut img 0x38 200)
/-- Public keys whose draft signatures the life-cycle state accepts (R408). -/
def State.draftKeys (s : State) : List (List Byte) :=
  match s.lc.state with
  | 0 => [evalKey]
  | 1 => s.lc.keys ++ [evalKey]
  | 2 => s.lc.keys
  | _ => []
def State.signatureOk (s : State) (img : List Byte) : Bool :=
  let b := sigOfs img
  match s.draftKeys.find? (fun k => keyId k = cut img b 8) with
  | none => false
  | some k => ecdsaVerify k (sha384 (img.take b)) (cut img (b + 8) 96)
/-- L2 in its order: HEADER, SHAPE, SIGNATURE, ROLLBACK. -/
def State.loadAuth (s : State) (n : Nat) (p : Part) (img : List Byte) (hlen : Nat) : Option LoadReason :=
  if img.length ≠ hlen ∨ !headerOk img then some .header
  else if fld img 0x1C 1 ≠ p.pairs then some .shape
  else if !s.signatureOk img then some .signature
  else if fld img 0x18 4 < Tab.get 0 s.lc.floors n then some .rollback
  else none
/-- The content key of an encrypted image (R93). -/
def State.contentKey (s : State) (img : List Byte) : Option (List Byte) :=
  let kb := cut img (keyOfs img) 152
  if kb.take 8 ≠ keyId s.draftKey ∨ !allZero (cut kb 0x69 7) then none
  else
    (ecdh s.draftPrivate (cut kb 8 97)).bind fun z =>
      unwrapKey (hkdfExpand (hmac (cut img 0x10 8) z) (leBytes 7 0x4B45432D384B4E) 32) (cut kb 0x70 40)
/-- Content of one section; `none` where its tag does not verify. -/
def secContent (img key : List Byte) (x : Sec) : Option (List Byte) :=
  let stored := cut img x.off x.len
  if x.enc then
    gcmOpen key (leBytes 4 x.ix ++ List.replicate 8 0) (cut img (sectabOfs img + 32 * x.ix) 32)
      (stored.take (x.len - 16)) (stored.drop (x.len - 16))
  else some stored
/-- L3: the sections in index order, up to the first whose tag fails. -/
def decryptAll (img key : List Byte) : List Sec → List SecData × Option Nat
  | [] => ([], none)
  | x :: r =>
    match secContent img key x with
    | none => ([], some x.ix)
    | some d => let (l, f) := decryptAll img key r; ((x, d) :: l, f)

/-! ## L4: the section table and the sections (R91, R92) -/

/-- Offences of a section table entry: type, flags, stored bytes, and fields that its type leaves 0. -/
def entryOffences (img : List Byte) (x : Sec) : List Offence :=
  let bad : List Bool := [
    x.ty == 0 || decide (x.ty > 8),
    decide (x.flags > 1) || (x.enc && !encrypted img),
    x.off % 64 != 0 || decide (x.off < sectabOfs img + 32 * fld img 0x1E 2) || decide (sigOfs img < x.off + x.len) ||
      (encrypted img && meet x.off x.len (keyOfs img) 152),
    ([1, 2, 3, 6, 7, 8].contains x.ty && x.target != 0) || ([1, 2, 3, 6, 8].contains x.ty && x.dest != 0)]
  (bad.filter id).map fun _ => offSec .section_ x.ix
/-- Pairs of sections of which this one is the later: overlaps of stored bytes, and of SRAM or POOL storage (R91). -/
def overlapOffences (l : List SecData) (x : SecData) : List Offence :=
  ((l.filter fun y => decide (y.1.ix < x.1.ix)).flatMap fun y =>
    (if meet x.1.off x.1.len y.1.off y.1.len then [offSec .section_ x.1.ix] else []) ++
    (if x.1.ty = y.1.ty ∧ (x.1.ty = 4 ∨ x.1.ty = 5) ∧ x.1.target = y.1.target ∧ meet x.1.dest x.2.length y.1.dest y.2.length
      then [offSec .section_ x.1.ix] else []))

/-- Group `g` of a 264-byte group record. -/
def groupOf (rec_ : List Byte) (g : Nat) : BitVec 32 × BitVec 32 :=
  (BitVec.ofNat 32 (fld rec_ (8 + 8 * g) 4), BitVec.ofNat 32 (fld rec_ (12 + 8 * g) 4))
/-- Group records of a GROUPS section, by pair of the partition. -/
def groupRecs (pairs : Nat) (d : List Byte) : List (List Byte) := (List.range pairs).map fun i => cut d (264 * i) 264
def groupsOf (rec_ : List Byte) : List (BitVec 32 × BitVec 32) := (List.range (min 32 (fld rec_ 0 1))).map (groupOf rec_)
/-- Breaches of R75 and R92 in one pair's record; `used` tells whether the pair holds a core record. -/
def groupOffences (sec : Nat) (used : Bool) (rec_ : List Byte) : List Offence :=
  let n := fld rec_ 0 1
  let gs := groupsOf rec_
  let twice (f : BitVec 32 × BitVec 32 → BitVec 32) : Bool :=
    (List.range 32).any fun i => decide ((gs.filter fun g => (f g).getLsbD i).length > 1)
  let bad : List (Bool × LoadReason) := [
    (!allZero (cut rec_ 1 7), .section_), (decide (n > 32), .group), (n == 0 && used, .group),
    (decide (n ≤ 32) && !allZero (rec_.drop (8 + 8 * n)), .group), (gs.any fun g => g.1 == 0, .group),
    (twice Prod.fst, .group), (twice Prod.snd, .group)]
  (bad.filter Prod.fst).map fun b => offSec b.2 sec

/-- A core record (R92). -/
structure CoreRaw where
  core : Nat
  code : Nat
  entry : Nat
  zones : List (BitVec 32)
  zopen : BitVec 8
  rsv : Bool
  sec : Nat
deriving DecidableEq, Repr
def coreRaws (l : List SecData) : List CoreRaw :=
  (l.filter fun x => x.1.ty = 2).flatMap fun x =>
    (List.range (x.2.length / 64)).map fun i =>
      let r := cut x.2 (64 * i) 64
      { core := fld r 0 2, code := fld r 2 2, entry := fld r 4 2,
        zones := (List.range 8).map fun z => BitVec.ofNat 32 (fld r (8 + 4 * z) 4),
        zopen := BitVec.ofNat 8 (fld r 0x28 1), rsv := !allZero (cut r 6 2) || !allZero (cut r 0x29 23), sec := x.1.ix }
/-- Records in ascending core number, those of one core in their order. -/
def insertRaw (r : CoreRaw) : List CoreRaw → List CoreRaw
  | [] => [r]
  | x :: l => if r.core < x.core then r :: x :: l else x :: insertRaw r l
def sortedRaws (l : List SecData) : List CoreRaw := (coreRaws l).foldl (fun acc r => insertRaw r acc) []

/-- Offences of a section's own content (R91, R92, R97): lengths, targets, bounds and records. `room` is the bytes of the
bulk region below the staging area. -/
def contentOffences (pairs room : Nat) (raws : List CoreRaw) (groups : List Nat) (x : SecData) : List Offence :=
  let i := x.1.ix
  let n := x.2.length
  let one (bad : Bool) (r : LoadReason) : List Offence := if bad then [offSec r i] else []
  match x.1.ty with
  | 1 => one (n % 32 != 0 || n == 0) .section_ ++ one (decide (n > 65536)) .size
  | 2 => one (n % 64 != 0) .section_
  | 3 =>
    one (groups.head? != some i) .section_ ++ one (n != 264 * pairs) .section_ ++
      ((List.range pairs).zip (groupRecs pairs x.2)).flatMap fun g =>
        if n = 264 * pairs then groupOffences i (raws.any fun r => r.core / 256 == g.1) g.2 else []
  | 4 =>
    one (decide (x.1.target ≥ 256 * pairs)) .section_ ++ one (x.1.dest % 128 != 0 || n % 128 != 0) .section_ ++
      one (decide (x.1.dest + n > 0x300000)) .size
  | 5 =>
    one (decide (x.1.target ≥ 32 * pairs)) .section_ ++ one (x.1.dest % 128 != 0) .section_ ++
      one (decide (x.1.dest + n > 2 ^ 23)) .size
  | 6 =>
    one (n % 8 != 0) .section_ ++ (List.range (n / 8)).flatMap fun k =>
      one (decide (fld x.2 (8 * k) 2 ≥ 32 * pairs) || decide (fld x.2 (8 * k + 2) 1 > 63) || fld x.2 (8 * k + 3) 1 != 0) .section_
  | 7 => one (x.1.dest % 512 != 0) .section_ ++ one (decide (x.1.dest + n > room)) .size
  | 8 =>
    one (n % 16 != 0) .section_ ++ (List.range (n / 16)).flatMap fun k =>
      let f := fld x.2 (16 * k) 1
      let t := BitVec.ofNat 16 (fld x.2 (16 * k + 2) 2)
      one (decide (f > 15) || fld x.2 (16 * k + 1) 1 != 0 || !allZero (cut x.2 (16 * k + 4) 4)) .section_ ++
        one (decide (f % 16 > 9) || (if f % 16 = 8 ∨ f % 16 = 9 then !specOk t else t != 0)) .format
  | _ => []

/-! ## L4: core records (R80, R92, R75) -/

def zoneBanks (z : BitVec 32) : BitVec 8 := z.extractLsb' 0 8
def zoneFirst (z : BitVec 32) : Nat := bitsOf z 8 12
def zoneRows (z : BitVec 32) : Nat := bitsOf z 20 12
def zoneOk (z : BitVec 32) : Bool :=
  if zoneRows z = 0 then z == 0 else zoneBanks z != 0 && decide (zoneFirst z + zoneRows z ≤ 3072)
/-- The declared zones, bit z of zone z. -/
def CoreRaw.declared (r : CoreRaw) : BitVec 8 :=
  (List.range 8).foldl (fun m z => if zoneRows (r.zones.getD z 0) = 0 then m else m ||| BitVec.ofNat 8 (2 ^ z)) 0
def CoreRaw.zonesMeet (r : CoreRaw) : Bool :=
  (List.range 8).any fun i => (List.range i).any fun j =>
    zoneBanks (r.zones.getD i 0) &&& zoneBanks (r.zones.getD j 0) != 0
/-- The group, with its slots, that holds the cluster of a partition core. -/
def coreGroup (groups : List (List (BitVec 32 × BitVec 32))) (core : Nat) : Option (BitVec 32 × BitVec 32) :=
  (groups.getD (core / 256) []).find? fun g => g.1.getLsbD (core / 8 % 32)
/-- Bundles of the CODE sections. -/
abbrev Codes := List (Nat × List (BitVec 256))
def codesOf (l : List SecData) : Codes :=
  (l.filter fun x => x.1.ty = 1).map fun x =>
    (x.1.ix, (List.range (x.2.length / 32)).map fun i => BitVec.ofNat 256 (fld x.2 (32 * i) 32))
def Codes.get? (c : Codes) (i : Nat) : Option (List (BitVec 256)) := (c.find? fun e => e.1 = i).map Prod.snd
/-- Offences of a core record. A reserved byte that is not 0 gives CORE_MAP, which R98 gives for a record that breaks R92,
rather than SECTION, which it gives for a reserved byte of a table record (DESIGN CHOICE, log entry 76). -/
def rawOffences (pairs : Nat) (groups : List (List (BitVec 32 × BitVec 32))) (codes : Codes) (before : List CoreRaw) (r : CoreRaw) :
    List Offence :=
  let at_ (x : LoadReason) : Offence := ⟨x, r.core, 0xFFFF, 0xFF, r.sec⟩
  let bad : List (Bool × LoadReason) := [
    (decide (r.core ≥ 256 * pairs), .coreMap), (before.any fun q => q.core == r.core, .coreMap),
    (match codes.get? r.code with | some bs => decide (r.entry ≥ bs.length) | none => true, .coreMap),
    (r.rsv, .coreMap), (!r.zones.all zoneOk, .coreMap), (r.zonesMeet, .coreMap), (r.zopen &&& ~~~r.declared != 0, .coreMap),
    (decide (r.core < 256 * pairs) && (coreGroup groups r.core).isNone, .group)]
  (bad.filter Prod.fst).map fun b => at_ b.2
def rawsOffences (pairs : Nat) (groups : List (List (BitVec 32 × BitVec 32))) (codes : Codes) : List CoreRaw → List CoreRaw → List Offence
  | _, [] => []
  | before, r :: l => rawOffences pairs groups codes before r ++ rawsOffences pairs groups codes (r :: before) l

/-! ## L4: bundles (R64, R66, R70, R71, R75, R80, R81, R83, R85, R109, R110) -/

/-- The control operation of a bundle, NOP where its code is illegal. -/
def copOf (w : BitVec 256) : COp := (decodeBundle w).c
/-- Encoding and format offences of the slots of a bundle, by slot. -/
def encodingOffences (w : BitVec 256) : List (Nat × LoadReason) :=
  let m (slot lo : Nat) : List (Nat × LoadReason) :=
    match decodeM (w.extractLsb' lo 40) with
    | none => [(slot, .opcode)]
    | some o => match checkM o with | some r => [(slot, r)] | none => []
  (if (decodeC (w.extractLsb' 0 56)).isNone then [(5, .opcode)] else []) ++ m 0 56 ++ m 1 96 ++
  (match decodeE (w.extractLsb' 136 40) with
    | none => [(2, .opcode)]
    | some o => match checkE o with | some r => [(2, r)] | none => []) ++
  (match decodeV (w.extractLsb' 176 56) with
    | none => [(3, .opcode)]
    | some (.op c f) => (match checkV c f with | some r => [(3, r)] | none => [])
    | some .nop => []) ++
  (if (decodeS (w.extractLsb' 232 24)).isNone then [(4, .opcode)] else [])

/-- LOOP bundles of a section: index and END. -/
def loopsOf (bs : List (BitVec 256)) : List (Nat × Nat) :=
  ((List.range bs.length).zip bs).filterMap fun x => match copOf x.2 with | .loop e _ => some (x.1, e.toNat) | _ => none
/-- The innermost loop whose body contains a bundle. -/
def innermost (loops : List (Nat × Nat)) (i : Nat) : Option (Nat × Nat) :=
  (loops.filter fun l => decide (l.1 < i) && decide (i ≤ l.2)).foldl
    (fun m l => match m with | none => some l | some x => if x.1 < l.1 then some l else some x) none
/-- Breaches of R70 at bundle `i`. A last bundle that is neither JMP nor HALT is refused whether or not a path reaches it
(DESIGN CHOICE, log entry 76: R70 speaks of any path that can fall through). -/
def controlOffences (n : Nat) (loops : List (Nat × Nat)) (i : Nat) (op : COp) : List (Nat × LoadReason) :=
  let bad : List Bool :=
    match op with
    | .jmp t =>
      [decide (t.toNat ≥ n), loops.any fun l => l.2 == i,
       match innermost loops i with | some l => !(decide (l.1 < t.toNat) && decide (t.toNat ≤ l.2)) | none => false]
    | .loop e _ =>
      let out := loops.filter fun l => decide (l.1 < i) && decide (i ≤ l.2)
      [decide (e.toNat ≥ n), decide (e.toNat ≤ i), out.any (fun l => decide (l.2 < e.toNat)), decide (out.length ≥ 4)]
    | _ => []
  let falls : Bool := i + 1 == n && match op with | .jmp _ => false | .halt => false | _ => true
  ((bad ++ [falls]).filter id).map fun _ => (5, .control)
/-- A bundle with SCRUB = 1 whose M0 or M1 slot is not NOP, an illegal word included (R83). -/
def scrubOffences (w : BitVec 256) : List (Nat × LoadReason) :=
  if w.getLsbD 6 then
    (if w.extractLsb' 56 40 = 0 then [] else [(0, .scrub)]) ++ (if w.extractLsb' 96 40 = 0 then [] else [(1, .scrub)])
  else []

/-- The routers of a route: the clusters (die × 16 + cluster) its hops leave, and its last one. -/
def routeIn (g : BitVec 32) (d1 c1 d2 c2 : Nat) : Bool :=
  ((route d1 c1 d2 c2).all fun l => g.getLsbD (l / 8)) && g.getLsbD (d1 * 16 + c1) && g.getLsbD (d2 * 16 + c2)
/-- What a bundle's operations break for one core that names its section: zones, the PST length, static routes and
slots (R75, R81, R110, R113). The route of an ESA ends at its port's cluster on die L; one from die U takes the vertical
link there as its final hop. -/
def coreOffences (groups : List (List (BitVec 32 × BitVec 32))) (b : Bundle) (r : CoreRaw) : List (Nat × LoadReason) :=
  let d := r.core / 128 % 2; let c := r.core / 8 % 16
  let z (m : BitVec 8) : List (Nat × LoadReason) := if m &&& ~~~r.declared = 0 then [] else [(5, .zone)]
  let mop (slot : Nat) (o : MOp) : List (Nat × LoadReason) :=
    (match checkPst c o with | some x => [(slot, x)] | none => []) ++
    match coreGroup groups r.core with
    | none => []
    | some g =>
      match o with
      | .pst _ _ _ dcl ddie _ => if routeIn g.1 d c ddie.toNat dcl.toNat then [] else [(slot, .group)]
      | .esa _ sl _ _ _ =>
        if g.2.getLsbD sl.toNat && routeIn g.1 d c 0 (edgeCluster (sl.toNat / 2)) then [] else [(slot, .group)]
      | _ => []
  (match b.c with | .lzopen m => z m | .lzclose m => z m | _ => []) ++ mop 0 b.m0 ++ mop 1 b.m1

/-- Vector registers a bundle writes: slot, latency, registers (R56, R58, R63, R85). -/
def vregWrites (b : Bundle) : List (Nat × Nat × List Nat) :=
  let m (slot : Nat) (o : MOp) : List (Nat × Nat × List Nat) :=
    match o with
    | .vld a v => [(slot, 4, (List.range ((a.len.toNat + 2) / 2)).map fun k => (v.toNat + k) % 32)]
    | _ => []
  (match b.c with | .flagmv vd => [(5, 1, [vd.toNat])] | _ => []) ++ m 0 b.m0 ++ m 1 b.m1 ++
  (match b.v with
    | .op c f => [(3, vLatency c, if c = .tpack then [f.vd.toNat, f.vb.toNat] else [f.vd.toNat])]
    | .nop => []) ++
  (match b.s with | .op _ vd _ _ => [(4, sLatency, [vd.toNat])] | .nop => [])
/-- Accumulator sets a bundle uses: slot, kind (0 MMV, 1 TLA, 2 TST, 3 SPEC or ZERO), engine × 8 + set. -/
def setUses (b : Bundle) : List (Nat × Nat × Nat) :=
  let m (slot : Nat) (o : MOp) : List (Nat × Nat × Nat) :=
    match o with
    | .tst _ st e => [(slot, 2, e.toNat * 8 + st.toNat)]
    | .tla _ st e => [(slot, 1, e.toNat * 8 + st.toNat)]
    | _ => []
  let engs (k : BitVec 4) : List Nat := (List.range 4).filter k.getLsbD
  m 0 b.m0 ++ m 1 b.m1 ++
  match b.e with
  | .mmv f => (engs f.mask).map fun e => (2, 0, e * 8 + f.set.toNat)
  | .spec k st _ => (engs k).map fun e => (2, 3, e * 8 + st.toNat)
  | .zero k sets => (engs k).flatMap fun e => ((List.range 8).filter sets.getLsbD).map fun j => (2, 3, e * 8 + j)
  | .nop => []
/-- An earlier use of a set that forbids a later one within 3 beats (R64). -/
def setHazard (a b : Nat) : Bool := a == 1 || (a == 0 && b != 0)
/-- Hazards between a bundle and one issued `d` beats later on a path: the later slot and the earlier one (R64, R85). -/
def pairHazards (d : Nat) (a b : Bundle) : List (Nat × Nat) :=
  let sets := (setUses a).flatMap fun x => (setUses b).filterMap fun y =>
    if x.2.2 = y.2.2 ∧ d ≤ 3 ∧ (if d = 0 then decide (x.1 < y.1) && (setHazard x.2.1 y.2.1 || setHazard y.2.1 x.2.1) else setHazard x.2.1 y.2.1)
    then some (y.1, x.1) else none
  let regs := (vregWrites a).flatMap fun x => (vregWrites b).filterMap fun y =>
    let first : Bool := d ≠ 0 || decide ((if x.1 = 5 then 0 else x.1 + 1) < (if y.1 = 5 then 0 else y.1 + 1))
    if first && x.2.1 == d + y.2.1 && x.2.2.any y.2.2.contains then some (y.1, x.1) else none
  let lats : List (Nat × Nat) :=
    match a.v, b.v with
    | .op c _, .op e _ => if d ≠ 0 ∧ vLatency c = d + vLatency e then [(3, 3)] else []
    | _, _ => []
  sets ++ regs ++ lats
/-- Hazards inside a bundle between its M slots: an AR both increment, or that one uses and the other sets; one pool
register set twice. -/
def slotHazards (b : Bundle) : List (Nat × Nat) :=
  let ar (o : MOp) : Option (BitVec 4 × Bool) :=
    match o with
    | .vld a _ => some (a.ar, a.inc) | .vst a _ => some (a.ar, a.inc) | .tld a _ _ _ => some (a.ar, a.inc)
    | .ald a _ _ => some (a.ar, a.inc) | .tst a _ _ => some (a.ar, a.inc) | .tla a _ _ => some (a.ar, a.inc)
    | .pld a _ _ _ => some (a.ar, a.inc) | .pst a _ _ _ _ _ => some (a.ar, a.inc) | .esa a _ _ _ _ => some (a.ar, a.inc)
    | _ => none
  let sets (o : MOp) : Option (BitVec 4) := match o with | .arset r _ => some r | _ => none
  let bad : Bool :=
    (match ar b.m0, ar b.m1 with | some x, some y => x.1 == y.1 && x.2 && y.2 | _, _ => false) ||
    (match ar b.m0, sets b.m1 with | some x, some y => x.1 == y | _, _ => false) ||
    (match sets b.m0, ar b.m1 with | some x, some y => x == y.1 | _, _ => false) ||
    (match b.m0, b.m1 with | .prset x _, .prset y _ => x == y | _, _ => false)
  if bad then [(1, 0)] else []

/-! ## Paths (R70, R98) -/

/-- A place on a path: the bundle to issue, and the loop records with their iterations still to come, 16 standing for 16
or more. -/
abbrev PathAt := Nat × List (Nat × Nat × Nat)
/-- Where the loops that END at a bundle lead. -/
def pathLoops (i : Nat) (next : Nat) : List (Nat × Nat × Nat) → List PathAt
  | [] => [(next, [])]
  | (st, e, left) :: r =>
    if e ≠ i then [(next, (st, e, left) :: r)]
    else if left ≤ 1 then pathLoops i (i + 1) r
    else if left = 16 then [(st + 1, (st, e, 16) :: r), (st + 1, (st, e, 15) :: r)]
    else [(st + 1, (st, e, left - 1) :: r)]
/-- The places after one. -/
def nextPlaces (bs : List (BitVec 256)) (p : PathAt) : List PathAt :=
  match bs[p.1]? with
  | none => []
  | some w =>
    match copOf w with
    | .halt => []
    | .jmp t => [(t.toNat, p.2)]
    | .loop e c => [(p.1 + 1, ((p.1, e.toNat, min 16 (c.toNat + 1)) :: p.2).take 8)]
    | _ => pathLoops p.1 (p.1 + 1) p.2
/-- Every place reached from a work list; `fuel` bounds the number of places there can be. -/
def reach (bs : List (BitVec 256)) : Nat → List PathAt → List PathAt → List PathAt
  | 0, _, seen => seen
  | _ + 1, [], seen => seen
  | fuel + 1, p :: work, seen =>
    if seen.contains p then reach bs fuel work seen else reach bs fuel (nextPlaces bs p ++ work) (p :: seen)
/-- Places `d` beats after a place. -/
def placesAfter (bs : List (BitVec 256)) (p : PathAt) : Nat → List PathAt
  | 0 => [p]
  | d + 1 => ((placesAfter bs p d).flatMap (nextPlaces bs)).eraseDups
/-- Hazards on the paths from a list of entries: later bundle and slot, earlier bundle and slot, each once. -/
def pathHazards (bs : List (BitVec 256)) (entries : List Nat) : List (Nat × Nat × Nat × Nat) :=
  let places := reach bs (2 ^ 40) (entries.map fun e => (e, [])) []
  let at_ (i : Nat) : Bundle := decodeBundle (bs.getD i 0)
  (places.flatMap fun p =>
    (List.range 12).flatMap fun d =>
      (placesAfter bs p d).flatMap fun q =>
        (pairHazards d (at_ p.1) (at_ q.1) ++ if d = 0 then slotHazards (at_ p.1) else []).map fun h => (q.1, h.1, p.1, h.2)).eraseDups

/-- Offences of one CODE section, in bundle and slot order. -/
def codeOffences (groups : List (List (BitVec 32 × BitVec 32))) (raws : List CoreRaw) (sec : Nat) (bs : List (BitVec 256)) : List Offence :=
  let mine := raws.filter fun r => r.code = sec
  let entries := if mine = [] then [0] else (mine.map (·.entry)).eraseDups
  let hz := pathHazards bs entries
  let loops := loopsOf bs
  ((List.range bs.length).zip bs).flatMap fun x =>
    let b := decodeBundle x.2
    let l := encodingOffences x.2 ++ controlOffences bs.length loops x.1 b.c ++ scrubOffences x.2 ++
      (mine.flatMap (coreOffences groups b)).eraseDups ++
      ((hz.filter fun h => h.1 = x.1).map fun h => (h.2.1, LoadReason.hazard))
    ([5, 0, 1, 2, 3, 4] : List Nat).flatMap fun slot =>
      (l.filter fun o => o.1 = slot).map fun o => ⟨o.2, 0xFFFF, x.1, slot, sec⟩

/-- L4: every offence, in the order in which the first is named (R98). -/
def loadCheck (img : List Byte) (pairs room : Nat) (l : List SecData) : List Offence :=
  let raws := sortedRaws l
  let codes := codesOf l
  let gsecs := (l.filter fun x => x.1.ty = 3).map fun x => x.1.ix
  let groups := match l.find? (fun x => x.1.ty = 3) with
    | some x => (groupRecs pairs x.2).map groupsOf
    | none => []
  (l.flatMap fun x => entryOffences img x.1) ++ (if gsecs = [] then [offSec .section_ 0xFFFF] else []) ++
    (l.flatMap fun x => overlapOffences l x ++ contentOffences pairs room raws gsecs x) ++
    rawsOffences pairs groups codes [] raws ++ codes.flatMap fun c => codeOffences groups raws c.1 c.2

/-! ## L5 (R96) -/

/-- One write of the commit: a section's content in its store, or a core's bundles. -/
def State.commitSec (s : State) (p : Part) (x : SecData) : State :=
  match x.1.ty with
  | 4 => s.putBytes (spBase (256 * p.first + x.1.target) + x.1.dest) x.2
  | 5 => s.putBytes (poolBase (32 * p.first + x.1.target) + x.1.dest) x.2
  | 6 =>
    (List.range (x.2.length / 8)).foldl (fun s k =>
      s.rset (KN_COUNT (32 * p.first + fld x.2 (8 * k) 2) (fld x.2 (8 * k + 2) 1)) (BitVec.ofNat 64 (fld x.2 (8 * k + 4) 4))) s
  | 7 => s.putBytes (p.bulkBase + x.1.dest) x.2
  | _ => s
/-- Bundles put into a core's draft store from an index on. -/
def State.putBundles (s : State) (c ix : Nat) : List (BitVec 256) → State
  | [] => s
  | w :: r =>
    { s with dstore := Tab.set 0 s.dstore (c * 2048 + ix) w, ecc := eccClear s.ecc (dsWord c ix) 4 }.putBundles c (ix + 1) r
/-- Zones of a core (R80). -/
def State.putZones (s : State) (c : Nat) (zs : List (BitVec 32)) : State :=
  (List.range 8).foldl (fun s z => s.rset (CD_ZONE c z) ((zs.getD z 0).setWidth 64)) s
/-- A core record committed: draft store and zones. -/
def State.commitRaw (s : State) (p : Part) (codes : Codes) (r : CoreRaw) : State :=
  let c := 256 * p.first + r.core
  let bs := (codes.get? r.code).getD []
  let s := s.setCore c { s.core c with bundles := bs.length }
  (s.putBundles c 0 bs).putZones c r.zones
/-- The writes of L5, in order. -/
def commits (p : Part) (l : List SecData) : List (State → State) :=
  let codes := codesOf l
  (sortedRaws l).map (fun r => fun s => s.commitRaw p codes r) ++ l.map fun x => fun s => s.commitSec p x
/-- The records the Heddle keeps with the loaded draft (R99). -/
def Part.withDraft (p : Part) (img : List Byte) (l : List SecData) : Part :=
  let codes := codesOf l
  { p with
    state := .loaded
    cores := (sortedRaws l).map fun r =>
      { core := 256 * p.first + r.core, bundles := ((codes.get? r.code).getD []).length, entry := r.entry, zones := r.zones, zopen := r.zopen }
    groups := match l.find? (fun x => x.1.ty = 3) with | some x => (groupRecs p.pairs x.2).map groupsOf | none => []
    knots := (l.filter fun x => x.1.ty = 6).flatMap fun x => (List.range (x.2.length / 8)).map fun k =>
      (32 * p.first + fld x.2 (8 * k) 2, fld x.2 (8 * k + 2) 1, fld x.2 (8 * k + 4) 4)
    origins := [], level := 0, bounded := false, stopping := false, enc := encrypted img
    draftId := BitVec.ofNat 64 (fld img 0x10 8) }
/-- No core of the partition holds a draft. -/
def State.unload (s : State) (p : Part) : State :=
  let cs : Tab Core := s.cores.map fun e => if p.hasPair (pairOf e.1) then (e.1, { e.2 with bundles := 0 }) else e
  let s := { s with cores := cs.filter fun e => decide (e.2 ≠ Core.reset) }
  p.coreIx.foldl (fun s c => s.putZones c []) s

/-- Bytes of the staging area (R97). -/
def stagingSize (hlen : Nat) : Nat := (hlen + 2 ^ 30 - 1) / 2 ^ 30 * 2 ^ 30
/-- A refusal of L2 or L3 with DRAFT_AUTH writes a SECURITY record (R408, R412). -/
def State.draftAuth (s : State) (n : Nat) (img : List Byte) (o : Offence) : MbRes :=
  let r := reportOf [o]
  ⟨stDraftAuth, r, s.event 0x0C 0x03 (unitOf 9 n) (s.ctx n) stDraftAuth 0 (fld img 0x10 8) (leNat r)⟩
/-- Sections decrypted in place in the staging area. -/
def State.stageAll (s : State) (base : Nat) : List SecData → State
  | [] => s
  | x :: r => (if x.1.enc then s.putBytes (base + x.1.off) x.2 else s).stageAll base r
/-- L5 (R96): the whole commit, or a unit's fault after some of its writes (log entry 15). -/
def State.commit (s : State) (n : Nat) (p : Part) (img : List Byte) (l : List SecData) (fault : Bool) : MbRes :=
  let s := (if s.standMap.isSome then s.standDefault else s).unload p
  let ws := commits p l
  if fault then
    let s := (ws.take (s.open_.toNat % (ws.length + 1))).foldl (fun s f => f s) s
    ⟨stHwFault, [], (s.used.unload p).setPart n p.noDraft⟩
  else
    let s := ws.foldl (fun s f => f s) s
    let s := s.setPart n (p.withDraft img l)
    let m := s.meter n
    let s := s.setMeter n { m with draft := BitVec.ofNat 64 (fld img 0x10 8) }
    ⟨stOK, reportOf [], { s with draftMeas := Tab.set [] s.draftMeas n (cut img 0x10 8 ++ sha384 img) }⟩
/-- DRAFT_LOAD after the checks of R342 (R95 to R98). -/
def State.load (s : State) (n hlen : Nat) (hostbuf : Bool) (img : List Byte) (fault : Bool) : MbRes :=
  match s.part? n with
  | none => s.refuse stWrongState
  | some p =>
    let st := stagingSize hlen
    let base := p.bulkBase + p.bulkGib * 2 ^ 30 - st
    if !(p.state = .empty ∨ p.state = .loaded ∨ p.state = .halted) then s.refuse stWrongState
    else if !hostbuf then s.refuse stBadArgument
    else if p.bulkGib * 2 ^ 30 < st ∨ st = 0 then ⟨stDraftRefused, reportOf [offSec .size 0xFFFF], s⟩
    else if img.length ≠ hlen then s.refuse stHostIo
    else
      let s := s.putBytes base img
      match s.loadAuth n p img hlen with
      | some r => s.draftAuth n img (offSec r 0xFFFF)
      | none =>
        match (if encrypted img then s.contentKey img else some []) with
        | none => s.draftAuth n img (offSec .keyblock 0xFFFF)
        | some key =>
          let (l, bad) := decryptAll img key (sections img)
          let s := s.stageAll base l
          match bad with
          | some i => s.draftAuth n img (offSec .gcm i)
          | none =>
            let os := loadCheck img p.pairs (p.bulkGib * 2 ^ 30 - st) l
            if os ≠ [] then ⟨stDraftRefused, reportOf os, s⟩ else s.commit n p img l fault

end Sys2Proof.Machine
end

