-- ==== Sys2Proof/Machine/Routes.lean ====
section
/-! DEFINITION. The checks and the loading of the routing tables, of T and HMAX, and of a fabric configuration (R205, R232,
R244, R251, R366, R367). -/
namespace Sys2Proof.Machine

/-! ## Dimensions (R244) -/

/-- Coordinates a and b of a member. -/
def coordA (abits m : Nat) : Nat := m % 128 % 2 ^ abits
def coordB (abits m : Nat) : Nat := m % 128 / 2 ^ abits
/-- DIM of a link from the own node and the expected partner, `none` where the partner fits no dimension. -/
def dimOf (abits own p : Nat) : Option Nat :=
  if p = own then some 0
  else if p / 128 ≠ own / 128 then some 3
  else if coordB abits p = coordB abits own then some 1
  else if coordA abits p = coordA abits own then some 2
  else none

/-! ## The ROUTE_TABLE_SET payload (R344) -/

def rtAbits (pl : List Byte) : Nat := fld pl 0 1
def rtExp (pl : List Byte) (l : Nat) : Nat := fld pl (8 + 2 * l) 2
def rtLocal (pl : List Byte) (m : Nat) : Nat := fld pl (0x68 + m) 1
def rtGlobal (pl : List Byte) (p : Nat) : Nat := fld pl (0xE8 + 8 * p) 8
/-- Link and valid bit of LINKi. -/
def rtLinkOf (g i : Nat) : Nat × Bool := (nbits g (8 * i) 6, g.testBit (8 * i + 6))
def linkReserved (l : Nat) : Bool := decide (48 ≤ l) && decide (l ≤ 62)
/-- No reserved bit is set, and no reserved link number appears. -/
def rtForm (pl : List Byte) : Bool :=
  decide (rtAbits pl ≤ 7) && allZero (cut pl 1 7) && (List.range 48).all (fun l => decide (rtExp pl l < 2 ^ 14)) &&
    (List.range 128).all (fun m => decide (rtLocal pl m < 128) && !linkReserved (rtLocal pl m % 64)) &&
    (List.range 128).all fun p =>
      let g := rtGlobal pl p
      decide (g < 2 ^ 40) && (List.range 4).all fun i => !g.testBit (8 * i + 7) && !linkReserved (rtLinkOf g i).1
/-- Every expected partner fits a dimension, and the ports of a site agree. -/
def rtDims (own : Nat) (pl : List Byte) : Bool :=
  let d (l : Nat) : Option Nat := dimOf (rtAbits pl) own (rtExp pl l)
  (List.range 48).all (fun l => (d l).isSome) &&
    (List.range 16).all fun i => d (2 * i) == d (2 * i + 1) || d (2 * i) == some 0 || d (2 * i + 1) == some 0
/-- The dimension rule for a valid LOCAL entry (R251). -/
def rtLocalOk (own : Nat) (pl : List Byte) (m : Nat) : Bool :=
  let e := rtLocal pl m
  let l := e % 64
  let p := rtExp pl l
  let k := rtAbits pl
  if e < 64 then true
  else if m = own % 128 then false
  else if l = 63 then true
  else if p / 128 ≠ own / 128 then false
  else if coordA k own ≠ coordA k m then coordB k p == coordB k own && coordA k p == coordA k m
  else coordA k p == coordA k own && coordB k p == coordB k m
/-- The rules for a GLOBAL entry. -/
def rtGlobalOk (own : Nat) (pl : List Byte) (pod : Nat) : Bool :=
  let g := rtGlobal pl pod
  let ls := ((List.range 4).map (rtLinkOf g)).filter Prod.snd
  let gw := nbits g 32 7
  (ls == [] || pod != own / 128) && ls.all (fun l => l.1 == 63 || rtExp pl l.1 / 128 == pod) &&
    (!g.testBit 39 || (if gw = own % 128 then ls.any (fun l => l.1 != 63) else decide (64 ≤ rtLocal pl gw)))
/-- The checks of R251 for an own node and the ports of the enabled logical links. -/
def routeOk (own : Nat) (sel : Nat → Option (Nat × Nat)) (pl : List Byte) : Bool :=
  rtForm pl && rtDims own pl &&
    (List.range 16).all (fun n =>
      match sel n with
      | some (a, b) => rtExp pl a == rtExp pl (32 + n) && rtExp pl b == rtExp pl (32 + n)
      | none => true) &&
    (List.range 128).all (rtLocalOk own pl) && (List.range 128).all (rtGlobalOk own pl)
/-- Ports of an enabled logical link (R205). -/
def State.selPorts (s : State) (n : Nat) : Option (Nat × Nat) :=
  if s.rb (XP_SEL_CTL n) XP_SEL_CTL_ENABLE then
    some (s.rf (XP_SEL_CTL n) XP_SEL_CTL_PRIMARY, s.rf (XP_SEL_CTL n) XP_SEL_CTL_ALTERNATE)
  else none
/-- The tables replaced (R251, R262). -/
def State.loadRoutes (s : State) (own : Nat) (pl : List Byte) : State :=
  let s := (s.wf LM_RT_CTL LM_RT_CTL_ABITS (rtAbits pl)).wf LM_RT_CTL LM_RT_CTL_TVALID 1
  let s : State := (List.range 48).foldl (fun s l =>
    s.rset (LM_RT_LINK l) (BitVec.ofNat 64 (rtExp pl l + ((dimOf (rtAbits pl) own (rtExp pl l)).getD 0) * 2 ^ 14))) s
  let s : State := (List.range 128).foldl (fun s m => s.rset (LM_RT_LOCAL m) (BitVec.ofNat 64 (rtLocal pl m))) s
  let s : State := (List.range 128).foldl (fun s p => s.rset (LM_RT_GLOBAL p) (BitVec.ofNat 64 (rtGlobal pl p))) s
  s.showLive

/-! ## T and HMAX (R232) -/

/-- HMAX lies in 1–5 and T is at least 4 × HMAX × 3.2 µs. -/
def timeoutOk (t h : Nat) : Bool := decide (1 ≤ h) && decide (h ≤ 5) && decide (128 * h ≤ 10 * t)
def State.setTimeout (s : State) (t h : Nat) : State :=
  (s.wf LM_MS_TIME LM_MS_TIME_TIMEOUT_US t).wf LM_MS_TIME LM_MS_TIME_HMAX h

/-! ## A fabric configuration (R366, R367) -/

def cfFlag (c : List Byte) (i : Nat) : Bool := (fld c 0 1).testBit i
def cfNode (c : List Byte) : Nat := fld c 2 2
def cfT (c : List Byte) : Nat := fld c 4 2
def cfHmax (c : List Byte) : Nat := fld c 6 1
def cfCalMode (c : List Byte) : Nat := fld c 7 1
def cfRequired (c : List Byte) : Nat := fld c 8 8
def cfMinLinks (c : List Byte) : Nat := fld c 0x10 1
def cfSel (c : List Byte) (n : Nat) : Nat := fld c (0x20 + 2 * n) 2
def cfRoute (c : List Byte) : List Byte := cut c 0x40 1256
/-- Ports of a logical link the configuration enables. -/
def cfPorts (c : List Byte) (n : Nat) : Option (Nat × Nat) :=
  let v := cfSel c n
  if v.testBit 11 then some (v % 32, v / 32 % 32) else none
/-- DIM of a link. -/
def cfDim (c : List Byte) (l : Nat) : Nat := (dimOf (rtAbits (cfRoute c)) (cfNode c) (rtExp (cfRoute c) l)).getD 0
/-- Links with a DIM other than 0. -/
def cfLinks (c : List Byte) : List Nat := (List.range 48).filter fun l => cfDim c l != 0
/-- The enabled logical links bind two ports of different sites, and no port twice (R205). -/
def cfSelOk (c : List Byte) : Bool :=
  let ps := (List.range 16).filterMap (cfPorts c)
  let all : List Nat := ps.flatMap fun p => [p.1, p.2]
  ps.all (fun p => p.1 / 2 != p.2 / 2) && decide all.Nodup
/-- The configuration itself keeps the rules of R367. -/
def configOk (c : List Byte) : Bool :=
  decide (cfNode c < 2 ^ 14) && fld c 1 1 == 0 && decide (cfCalMode c < 2) && decide (cfRequired c < 2 ^ 48) && fld c 0x11 1 == 0 &&
    allZero (cut c 0x14 12) && (List.range 16).all (fun n => decide (cfSel c n < 2 ^ 12)) && timeoutOk (cfT c) (cfHmax c) &&
    cfSelOk c && routeOk (cfNode c) (cfPorts c) (cfRoute c) &&
    (List.range 48).all (fun l => !(cfRequired c).testBit l || cfDim c l != 0) && decide (cfMinLinks c ≤ (cfLinks c).length)

end Sys2Proof.Machine
end

