-- ==== Sys2Proof/Machine/Mailbox.lean ====
section
/-! DEFINITION. The mailbox commands about partitions, drafts and weft slots (R95 to R100, R137 to R140, R342 to R344,
R380, R383). -/
namespace Sys2Proof.Machine

/-! ## INFO and LOG_READ -/

/-- Pairs in no partition, but for the excluded ones (R344, R361). -/
def State.pairsFree (s : State) : Nat :=
  ((List.range 8).filter fun p => decide (s.partOfPair p = 0) && !s.excluded p).foldl (fun m p => m + 2 ^ p) 0
/-- Bytes of the INFO response. -/
def State.infoBytes (s : State) : List Byte :=
  leBytes 2 0x0800 ++ leBytes 1 0xA1 ++ leBytes 1 s.lc.state ++ leBytes 4 (s.fw.bank s.fw.active).version ++
    leBytes 2 s.nodeWord.toNat ++ leBytes 2 (s.rf LM_MS_NODE LM_MS_NODE_SEPOCH) ++ leBytes 1 s.pairsFree ++
    leBytes 1 (if s.tetherLead.isSome then 2 else if s.tethers = [] then 0 else 1)
/-- INFO (R344). -/
def execInfo (m : Mail) (s : State) : Host.Outcome State Fault Refusal :=
  s.runCmd m 0x01 .all false 0 [] fun s => ⟨stOK, s.infoBytes, s⟩

/-- Up to 62 records of the log from a SEQ on (R344, R380). -/
def State.logBytes (s : State) (ix : Nat) : List Byte :=
  let rs := (s.log.filter fun r => decide (ix ≤ r.seq.toNat)).take 62
  let next := match rs.getLast? with | some r => r.seq.toNat + 1 | none => ix
  leBytes 4 next ++ leBytes 4 rs.length ++ List.replicate 56 0 ++ rs.flatMap recBytes
/-- LOG_READ (R344, R380). -/
def execLogRead (m : Mail) (s : State) : Host.Outcome State Fault Refusal :=
  s.runCmd m 0x02 .pf0 false 4 [] fun s => ⟨stOK, s.logBytes (m.n 0 4), s⟩

/-! ## Partitions (R343) -/

/-- The shape of R23. -/
def shapeOk (first pairs : Nat) : Bool := [1, 2, 4, 8].contains pairs && first % pairs == 0 && decide (first + pairs ≤ 8)
/-- The partition of a PARTITION_CREATE, or the status that refuses it. -/
def State.createCheck (s : State) (n first pairs domain gib : Nat) : Except Nat Part :=
  if !shapeOk first pairs || n = 0 || n > 8 || domain = 0 || domain = 0xFFFF || gib > 448 then .error stBadArgument
  else if !s.ready || s.lc.state ≥ 3 || (s.part? n).isSome ||
      (List.range pairs).any fun i => s.partOfPair (first + i) ≠ 0 || s.excluded (first + i) then .error stWrongState
  else
    match s.gibRun gib with
    | none => .error stNoResource
    | some b =>
      .ok { first := first, pairs := pairs, domain := BitVec.ofNat 16 domain, bulkBase := b * 2 ^ 30, bulkGib := gib,
            state := .empty, cores := [], groups := [], knots := [], origins := [], level := 0, bounded := false,
            stopping := false, enc := false, draftId := 0, dump := none }
/-- Response of PARTITION_CREATE. -/
def State.createBytes (s : State) (n : Nat) (p : Part) : List Byte :=
  leBytes 2 (s.ctx n).toNat ++ List.replicate 6 0 ++ leBytes 8 p.bulkBase
/-- The region is zero data, and the partition is entered (R302, R343). -/
def State.fillDone (s : State) (n : Nat) : State :=
  match s.late.find? (fun e => e.1 = n && e.2.2.isSome) with
  | some (_, _, some p) =>
    let s := (s.zero p.bulkBase (p.bulkBase + p.bulkGib * 2 ^ 30)).createPart n p
    s.lateDone n stOK (s.createBytes n p)
  | _ => s
/-- PARTITION_CREATE (R343, R302): the region fill ends with REGION_FILL_DONE; no region needs none. -/
def execPartitionCreate (m : Mail) (s : State) : Host.Outcome State Fault Refusal :=
  match s.mbStart m 0x10 .pf0 false 8 [] with
  | .stop s => .next s
  | .run e s =>
    match s.createCheck m.part (m.n 0 1) (m.n 1 1) (m.n 2 2) (m.n 4 4) with
    | .error st => .next (s.complete e st [])
    | .ok p =>
      let s := { s with late := [(m.part, e, some p)], gens := Tab.set 0 s.gens m.part ((s.gen m.part + 1) % 4096) }
      .next (if p.bulkGib = 0 then s.fillDone m.part else s)
/-- REGION_FILL_DONE (R302, R343). -/
def execRegionFillDone (part : PartNo) (s : State) : Host.Outcome State Fault Refusal := .next (s.fillDone part)

/-- PARTITION_DELETE (R342, R384). -/
def execPartitionDelete (m : Mail) (s : State) : Host.Outcome State Fault Refusal :=
  s.runCmd m 0x11 .pf0 true 0 [] fun s =>
    match s.part? m.part with
    | none => s.refuse stWrongState
    | some p => if p.state = .running then s.refuse stWrongState else (s.deletePart m.part).okay

/-- Response of PARTITION_RESET (R343). -/
def resetBytes (ctx : BitVec 16) (bounded : Bool) (b : Nat × Nat) : List Byte :=
  leBytes 2 ctx.toNat ++ leBytes 1 bounded.toNat ++ List.replicate 5 0 ++ leBytes 8 b.1 ++ leBytes 2 b.2 ++ List.replicate 6 0
/-- Steps 5 and 6 of R383 at DIE with pairs that fail: they are excluded and the partition is deleted. -/
def State.resetFails (s : State) (n : Nat) (bad : List Nat) : State := (bad.foldl (fun s p => s.exclude p) s).deletePart n
/-- PARTITION_RESET after its checks (R383). -/
def State.partReset (s : State) (n level : Nat) (failed : BitVec 8) : MbRes :=
  let s := s.resetStop n
  match s.part? n with
  | none => s.refuse stWrongState
  | some p =>
    let bc := s.bounds p
    let s := s.resetDrain n p
    let old := s.ctx n
    let p := (s.part? n).getD p
    let bad := p.groupIx.filter failed.getLsbD
    let s := if level = 0 then s.applyContext n p else s.applyDie n p
    if level = 1 ∧ bad ≠ [] then ⟨stHwFault, [], s.resetFails n bad⟩
    else ⟨stOK, resetBytes (s.ctx n) p.bounded bc, s.resetRecord n old level⟩
/-- PARTITION_RESET (R343, R383, R384); `failed` names the pairs that fail a DIE reset. -/
def execPartitionReset (m : Mail) (failed : BitVec 8) (s : State) : Host.Outcome State Fault Refusal :=
  s.runCmd m 0x12 .own true 1 [] fun s =>
    match s.part? m.part with
    | none => if m.n 0 1 > 1 then s.refuse stBadArgument else s.refuse stWrongState
    | some p =>
      if m.n 0 1 > 1 then s.refuse stBadArgument
      else if !p.resetOk (m.n 0 1) then s.refuse stWrongState
      else s.partReset m.part (m.n 0 1) failed

/-- STATE of PARTITION_QUERY. -/
def DState.code : DState → Nat
  | .empty => 1 | .loaded => 2 | .running => 3 | .halted => 4 | .faulted => 5
/-- Response of PARTITION_QUERY (R343). -/
def State.queryBytes (s : State) (n : Nat) : List Byte :=
  match s.part? n with
  | none => List.replicate 20 0
  | some p =>
    leBytes 1 p.state.code ++ leBytes 1 p.first ++ leBytes 1 p.pairs ++ [0] ++ leBytes 2 p.domain.toNat ++
      leBytes 2 (s.ctx n).toNat ++ leBytes 8 p.bulkBase ++ leBytes 4 p.bulkGib
/-- PARTITION_QUERY (R343). -/
def execPartitionQuery (m : Mail) (s : State) : Host.Outcome State Fault Refusal :=
  s.runCmd m 0x13 .own true 0 [] fun s => ⟨stOK, s.queryBytes m.part, s⟩

/-! ## Drafts (R95 to R100) -/

/-- DRAFT_LOAD (R95 to R98); `img` is what the DMA of the host buffer delivers, `fault` a unit's fault in L5. -/
def execDraftLoad (m : Mail) (img : List (BitVec 8)) (fault : Bool) (s : State) : Host.Outcome State Fault Refusal :=
  s.runCmd m 0x20 .own true 0 img fun s =>
    if !s.ready then s.refuse stWrongState
    else s.load m.part m.hdr.hlen.toNat m.hdr.hostbuf img fault

/-- Group of a pair a cluster of it belongs to, 0 where none holds it. -/
def groupIndex (gs : List (BitVec 32 × BitVec 32)) (cl : Nat) : Nat := (gs.findIdx? fun g => g.1.getLsbD cl).getD 0
/-- The weave groups of a partition at beat count 0 (R75). -/
def Part.freshGroups (p : Part) (n : Nat) : List (Nat × Grp) :=
  ((List.range p.pairs).zip p.groups).flatMap fun x =>
    ((List.range x.2.length).zip x.2).map fun g =>
      ((p.first + x.1) * 32 + g.1, { Grp.none with clusters := g.2.1, slots := g.2.2, part := n })
/-- A core at the start of a draft (R48, R99, R323). -/
def State.startCore (s : State) (p : Part) (c : Nat) : State :=
  let k := s.core c
  let s := s.setCore c { Core.reset with bundles := k.bundles, lbuf := k.lbuf }
  let r := p.cores.find? fun r => r.core = c
  let gs := p.groups.getD (pairOf c - p.first) []
  let a := CD_SEQ_STATUS c
  let s := s.rset a 0
  let s := match r with
    | some r => (((s.wf a CD_SEQ_STATUS_STATE 1).wf a CD_SEQ_STATUS_PC r.entry).wf a CD_SEQ_STATUS_ZOPEN r.zopen.toNat).wf a
        CD_SEQ_STATUS_GROUP (groupIndex gs (gclusterOf c % 32))
    | none => s
  let s := (((s.rset (CD_BEAT_COUNT c) 0).rset (CD_HOLD c) 0).rset (CD_BOUND c) 0).rset (CD_CORE_FLAGS c) 0
  let s := s.putZones c (match r with | some r => r.zones | none => [])
  (List.range 4).foldl (fun s i =>
    let en := s.rb (SH_CH_CTL c i) SH_CH_CTL_ENABLE
    let b := SH_CH_STAT c i
    let s := ((((s.wf b SH_CH_STAT_HEAD 0).wf b SH_CH_STAT_FREEIX 0).wf b SH_CH_STAT_READY 0).wf b SH_CH_STAT_INUSE 0).wf b
      SH_CH_STAT_INFLIGHT 0
    let s := (s.wf (SH_RING c i) SH_RING_PGEN 0).wf (SH_RING c i) SH_RING_CREDITS 0
    (s.wf b SH_CH_STAT_STATE en.toNat).setShch c i ShCh.none) s
/-- Knots of the partition's clusters at their KNOTS values, or 0 (R99). -/
def State.startKnots (s : State) (p : Part) : State :=
  let cls := (List.range (32 * p.pairs)).map (32 * p.first + ·)
  let s := cls.foldl (fun s cl => s.regsReset (KN_COUNT cl 0) (KN_COUNT cl 0 + 512)) s
  let s := { s with kpend := Tab.dropIf s.kpend fun k => p.hasPair (k / 64 / 32) }
  p.knots.foldl (fun s k => s.wf (KN_COUNT k.1 k.2.1) KN_COUNT_COUNT k.2.2) s
/-- DRAFT_START on every core of the partition (R99). -/
def State.startDraft (s : State) (n : Nat) (p : Part) : State :=
  let s := p.coreIx.foldl (fun s c => s.startCore p c) s
  let s := s.startKnots p
  let gs := (s.groups.filter fun e => e.2.part ≠ n) ++ p.freshGroups n
  let gs : Tab Grp := gs.foldl (fun t e => Tab.set Grp.none t e.1 e.2) []
  let s := { s with groups := gs }
  s.setPart n { p with state := .running, origins := [], level := 0, bounded := false, stopping := false }
/-- DRAFT_START (R95, R99). -/
def execDraftStart (m : Mail) (s : State) : Host.Outcome State Fault Refusal :=
  s.runCmd m 0x21 .own true 0 [] fun s =>
    match s.part? m.part with
    | none => s.refuse stWrongState
    | some p =>
      if !s.ready || !(p.state = .loaded ∨ p.state = .halted) then s.refuse stWrongState
      else (s.startDraft m.part p).okay

/-- A group is to stop at the first count H beats of notice reach; its pending waits are discarded (R100). -/
def Grp.notice (g : Grp) : Grp :=
  if g.halted ∨ g.stop.isSome then { g with waits := [] } else { g with waits := [], stop := some g.count, draining := true }
/-- DRAFT_STOP (R95, R100): the response follows when every group has drained. -/
def execDraftStop (m : Mail) (s : State) : Host.Outcome State Fault Refusal :=
  match s.mbStart m 0x22 .own true 0 [] with
  | .stop s => .next s
  | .run e s =>
    match s.part? m.part with
    | none => .next (s.complete e stWrongState [])
    | some p =>
      if p.state ≠ .running then .next (s.complete e stWrongState [])
      else
        let gs : Tab Grp := s.groups.map fun x => if x.2.part = m.part then (x.1, x.2.notice) else x
        let s := { s with groups := gs, late := [(m.part, e, none)] }.setPart m.part { p with stopping := true }
        let s := ((s.cores.map Prod.fst).filter fun c => p.hasPair (pairOf c)).foldl (fun s c =>
          (s.stopChannels c).showWaits c) s
        .next (s.haltPart m.part)

/-! ## Weft slots and the standing map (R137 to R140) -/

/-- OUT byte of an output of the partition in the payload. -/
def slotOut (p : Part) (pl : List Byte) (o : Nat) : Nat := fld pl (32 + 32 * (o / 16 - p.first) + o % 16) 1
/-- Outputs that name an input. -/
def slotNamed (p : Part) (pl : List Byte) (src : Nat) : List Nat := p.outs.filter fun o => slotOut p pl o == 128 + src
/-- Inputs displaced by the fan-out of a multicast source with `c` outputs (R140). -/
def fanOut (src c : Nat) : List Nat :=
  let k := splitOf c
  let base := if src % 16 = 0 then src + 8 else src - 8
  (List.range k).map (base + ·)
/-- The payload keeps the BAD_ARGUMENT rules of R139. -/
def slotOk (p : Part) (pl : List Byte) : Bool :=
  let ins := (List.range (16 * p.pairs)).map (16 * p.first + ·)
  let multi (i : Nat) : Bool := decide ((slotNamed p pl i).length ≥ 2)
  decide (1 ≤ fld pl 0 1) && decide (fld pl 0 1 ≤ 15) && allZero (cut pl 1 31) &&
    (List.range p.pairs).all (fun g => allZero (cut pl (32 + 32 * g + 16) 16)) &&
    p.outs.all (fun o => decide (slotOut p pl o < 128) || ins.contains (slotOut p pl o - 128)) &&
    ins.all fun i =>
      let c := (slotNamed p pl i).length
      decide (c < 2) || (i % 8 == 0 && decide (c ≤ 8) &&
        (fanOut i c).all fun d => slotNamed p pl d == [] || (d % 8 == 0 && multi d))
/-- The slot is in force or is named by a queued switch (R139). -/
def State.slotBusy (s : State) (n : Nat) (p : Part) (slot : Nat) : Bool :=
  let w := s.sw n
  slot == s.gget p LM_WEFT_GSTAT_CUR ||
    match w.queue with | some q => q.1 == slot | none => false
/-- The sources of a partition's outputs in a payload, counted from the partition's first port. -/
def slotSrcs (p : Part) (pl : List Byte) : List (Option Nat) :=
  p.outs.map fun o => let b := slotOut p pl o; if b < 128 then none else some (b - 128 - 16 * p.first)
/-- A slot's records stored, with the element states computed from them (R138, R139). -/
def State.storeSlot (s : State) (p : Part) (pl : List Byte) : State :=
  let slot := fld pl 0 1
  let src := slotSrcs p pl
  let els := (phaseElsOf p.log2 (16 * p.first) src, fanElsOf p.first src)
  let s : State := { s with slotEls := Tab.set (0, 0) s.slotEls (16 * p.first + slot) els }
  p.groupIx.foldl (fun s g =>
    let rec_ := BitVec.ofNat 128 (fld pl (32 + 32 * (g - p.first)) 16)
    let s := { s with slotRecs := Tab.set 0 s.slotRecs (16 * g + slot) rec_ }
    s.wf (LM_WEFT_SLOTVALID g) LM_WEFT_SLOTVALID_VALID (s.rf (LM_WEFT_SLOTVALID g) LM_WEFT_SLOTVALID_VALID ||| 2 ^ slot)) s
/-- WEFT_SLOT_WRITE (R138 to R140). -/
def execWeftSlotWrite (m : Mail) (s : State) : Host.Outcome State Fault Refusal :=
  s.runCmd m 0x30 .own true m.hdr.length.toNat [] fun s =>
    match s.part? m.part with
    | none => s.refuse stWrongState
    | some p =>
      if m.payload.length ≠ 32 + 32 * p.pairs then s.refuse stBadArgument
      else if !s.ready then s.refuse stWrongState
      else if !slotOk p m.payload then s.refuse stBadArgument
      else if s.slotBusy m.part p (m.n 0 1) then s.refuse stWrongState
      else (s.storeSlot p m.payload).okay

/-- A list of outputs is a permutation of 0 to 63. -/
def isPerm (l : List Nat) : Bool := decide (l.length = 64) && (List.range 64).all l.contains
/-- WEFT_STANDING_SET (R137): for diagnosis, while every partition is EMPTY. -/
def execWeftStandingSet (m : Mail) (s : State) : Host.Outcome State Fault Refusal :=
  s.runCmd m 0x31 .pf0 false 129 [] fun s =>
    let stu := (m.payload.take 64).map BitVec.toNat
    let std := ((m.payload.drop 64).take 64).map BitVec.toNat
    if !s.ready || s.parts.any (fun e => e.2.state != .empty) then s.refuse stWrongState
    else if m.n 128 1 = 1 then
      if allZero (m.payload.take 128) then s.standDefault.okay else s.refuse stBadArgument
    else if m.n 128 1 ≠ 0 || !isPerm stu || !isPerm std then s.refuse stBadArgument
    else if stu = defaultStand ∧ std = defaultStand then s.standDefault.okay
    else (s.driveStand (some (stu, std))).okay

end Sys2Proof.Machine
end

