-- ==== Sys2Proof/Machine/Package.lean ====
section
/-! DEFINITION. The mailbox commands about the package: routes, timeouts, gears, resets, firmware, time, metering, bring-up
and tethers (R232, R238, R251, R344, R350 to R352, R366, R367, R374, R386, R400, R418, R437). -/
namespace Sys2Proof.Machine

/-! ## Fabric -/

/-- ROUTE_TABLE_SET (R251). -/
def execRouteTableSet (m : Mail) (s : State) : Host.Outcome State Fault Refusal :=
  s.runCmd m 0x40 .pf0 false 1256 [] fun s =>
    let own := s.ownNode
    if s.anyRunning then s.refuse stWrongState
    else if !routeOk own s.selPorts m.payload then s.refuse stBadArgument
    else ((s.loadRoutes own m.payload).bump LM_RT_CTL LM_RT_CTL_LOADS 1).okay
/-- FABRIC_TIMEOUT_SET (R232). -/
def execFabricTimeoutSet (m : Mail) (s : State) : Host.Outcome State Fault Refusal :=
  s.runCmd m 0x41 .pf0 false 3 [] fun s =>
    if s.anyRunning then s.refuse stWrongState
    else if !timeoutOk (m.n 0 2) (m.n 2 1) then s.refuse stBadArgument
    else (s.setTimeout (m.n 0 2) (m.n 2 1)).okay
/-- NODE_DEAD_SET (R238). -/
def execNodeDeadSet (m : Mail) (s : State) : Host.Outcome State Fault Refusal :=
  s.runCmd m 0x42 .pf0 false 3 [] fun s =>
    if m.n 0 2 ≥ 2 ^ 14 ∨ m.n 2 1 > 1 then s.refuse stBadArgument
    else (s.markDead (m.n 0 2) (m.n 2 1 == 1)).okay

/-! ## Gears and resets -/

/-- GEAR_SET (R344). -/
def execGearSet (m : Mail) (s : State) : Host.Outcome State Fault Refusal :=
  s.runCmd m 0x50 .own true 2 [] fun s =>
    let ps := (List.range 8).filter (m.n 0 1).testBit
    if m.n 1 1 > 24 then s.refuse stBadArgument
    else if ps.any fun p => s.partOfPair p ≠ m.part then s.refuse stAccessDenied
    else (ps.foldl (fun s p => s.wf (CD_GEAR_CTL p) CD_GEAR_CTL_HOST_REQ (m.n 1 1)) s).okay
/-- PACKAGE_RESET (R344, R386): the level starts 100 µs after the response, as WARM_RESET or COLD_RESET. -/
def execPackageReset (m : Mail) (s : State) : Host.Outcome State Fault Refusal :=
  s.runCmd m 0x51 .pf0 false 1 [] fun s =>
    if m.n 0 1 > 1 then s.refuse stBadArgument
    else { s with resetDue := some (if m.n 0 1 = 0 then 2 else 3, 2) }.okay

/-! ## Firmware (R400) -/

/-- FW_WRITE (R399, R400); `img` is what the DMA of the host buffer delivers. -/
def execFwWrite (m : Mail) (img : List (BitVec 8)) (s : State) : Host.Outcome State Fault Refusal :=
  s.runCmd m 0x60 .pf0 false 0 img fun s =>
    let bank := !s.fw.active
    let no (r : Nat) : MbRes := ⟨stBadArgument, [BitVec.ofNat 8 r], { s with fw := s.fw.setBank bank ⟨false, 0, 0, []⟩ }⟩
    if !m.hdr.hostbuf then s.refuse stBadArgument
    else if img.length ≠ m.hdr.hlen.toNat then s.refuse stHostIo
    else
      match Config.fwImage img with
      | none => no 1
      | some (version, svn, size, signed) =>
        if size ≠ img.length ∨ svn > 64 then no 1
        else if !signed then no 2
        else if svn < s.fw.floor then no 3
        else { s with fw := s.fw.setBank bank ⟨true, svn, version, sha384 img⟩ }.okay
/-- FW_ACTIVATE (R400). -/
def execFwActivate (m : Mail) (s : State) : Host.Outcome State Fault Refusal :=
  s.runCmd m 0x61 .pf0 false 2 [] fun s =>
    let bank := m.n 0 1 == 1
    let b := s.fw.bank bank
    if m.n 0 1 > 1 ∨ m.n 1 1 > 1 then ⟨stBadArgument, [0], s⟩
    else if !b.valid then s.refuse stWrongState
    else if b.svn < s.fw.floor then ⟨stBadArgument, [3], s⟩
    else { s with fw := { s.fw with next := bank, commit := m.n 1 1 == 1 } }.okay
/-- DRAFT_KEY_GET (R344, R398). -/
def execDraftKeyGet (m : Mail) (s : State) : Host.Outcome State Fault Refusal :=
  s.runCmd m 0x71 .all false 0 [] fun s => ⟨stOK, keyId s.draftKey ++ s.draftKey, s⟩

/-! ## Time (R418) -/

/-- Bytes of a signed 32-bit number. -/
def intBytes (v : Int) : List Byte := leBytes 4 (v % 2 ^ 32).toNat
/-- Response of TIME_GET. -/
def State.timeBytes (s : State) : List Byte :=
  let flags := s.holdover.toNat + 2 * s.rf HD_TIME_STAT HD_TIME_STAT_PENDING + 4 * s.rf HD_TIME_STAT HD_TIME_STAT_AMBIG
  leBytes 8 s.now ++ leBytes 1 s.timeState ++ leBytes 1 flags ++ [0, 0] ++ leBytes 4 s.boundNs ++ leBytes 8 s.clock.last ++
    intBytes s.clock.ppb ++ [0, 0, 0, 0]
/-- TIME_GET (R418). -/
def execTimeGet (m : Mail) (s : State) : Host.Outcome State Fault Refusal :=
  s.runCmd m 0x80 .all false 0 [] fun s => ⟨stOK, s.timeBytes, s⟩
/-- TIME_STEP is for another MODE. -/
def otherMode (m : Mail) (mode : Nat) : Bool := m.n 0 1 != mode && decide (m.n 0 1 ≤ 2)
/-- TIME_STEP with one MODE (R418): malformed payloads are refused whatever the MODE. -/
def State.timeStep (s : State) (m : Mail) (mode : Nat) (body : State → MbRes) : Host.Outcome State Fault Refusal :=
  if otherMode m mode then .next s
  else
    s.runCmd m 0x81 .pf0 false 16 [] fun s =>
      if m.n 0 1 > 2 ∨ m.n 1 7 ≠ 0 then s.refuse stBadArgument else body s
/-- A TIME_STEP has changed the count (R431). -/
def State.stepRecord (s : State) (mode old : Nat) : State := s.event 0x0B 0x05 0 0 0 mode old s.now
/-- TIME_STEP_ARM (R418): MODE 0. -/
def execTimeStepArm (m : Mail) (s : State) : Host.Outcome State Fault Refusal :=
  s.timeStep m 0 fun s =>
    let v := m.n 8 8
    if v % 1000000000 ≠ 0 ∨ (s.timeState ≠ 0 ∧ v ≤ s.now) then s.refuse stBadArgument
    else if s.clock.step.isSome then s.refuse stWrongState
    else ({ s with clock := { s.clock with step := some v } }.wf HD_TIME_STAT HD_TIME_STAT_PENDING 1).okay
/-- TIME_STEP_DELTA (R418): MODE 1. -/
def execTimeStepDelta (m : Mail) (s : State) : Host.Outcome State Fault Refusal :=
  s.timeStep m 1 fun s =>
    let d := m.n 8 8
    if d = 0 ∨ d ≥ 2 ^ 62 then s.refuse stBadArgument
    else if s.timeState = 1 ∨ s.timeState = 3 ∨ s.clock.step.isSome then s.refuse stWrongState
    else
      let old := s.now
      let s : State := { s.setNow (old + d) with clock := { s.clock with since := s.tick, slewed := false, edge := none, run := 0 } }
      let s := if s.timeState = 0 then
          (s.wf HD_TIME_STAT HD_TIME_STAT_STATE 2).event 0x0B 0x01 0 0 0 0 s.clock.last 2000 else s
      (s.stepRecord 1 old).okay
/-- TIME_STEP_CANCEL (R418): MODE 2. -/
def execTimeStepCancel (m : Mail) (s : State) : Host.Outcome State Fault Refusal :=
  s.timeStep m 2 fun s =>
    if m.n 8 8 ≠ 0 then s.refuse stBadArgument
    else ({ s with clock := { s.clock with step := none } }.wf HD_TIME_STAT HD_TIME_STAT_PENDING 0).okay

/-! ## Metering (R437) -/

/-- Response of METER_READ: records of partition `n`, or every record. -/
def State.meterReadBytes (s : State) (all : Bool) (n from_ : Nat) : List Byte :=
  let rs := (s.spill.filter fun r => decide (from_ ≤ r.seq) && (all || r.part == n)).take 19
  leBytes 8 s.meterSeq ++ leBytes 1 rs.length ++ List.replicate 7 0 ++ rs.flatMap (·.bytes)
/-- METER_READ (R437). -/
def execMeterRead (m : Mail) (s : State) : Host.Outcome State Fault Refusal :=
  s.runCmd m 0x90 .own false 24 [] fun s =>
    let full := !m.fromPart
    let ack := m.n 8 8
    if m.part > 8 ∨ m.n 16 1 > 1 ∨ m.n 17 7 ≠ 0 ∨ (ack ≠ 0 ∧ !full) then s.refuse stBadArgument
    else
      let s := if m.n 16 1 = 1 then
          (if m.part = 0 then s.closeAllMeters else if (s.metered).contains m.part then s.closeMeter m.part else s) else s
      let bytes := s.meterReadBytes (m.part == 0) m.part (m.n 0 8)
      let s := if ack ≠ 0 then { s with spill := s.spill.filter fun r => decide (ack < r.seq) }.showMeter else s
      ⟨stOK, bytes, s⟩

/-! ## Bring-up (R366, R367, R374) -/

/-- The payload breaks R367. -/
def upBad (c : List Byte) : Bool :=
  decide (fld c 0 1 ≥ 16) || (cfFlag c 1 && !cfFlag c 0 && !cfFlag c 3) || (cfFlag c 2 && (cfFlag c 0 || cfFlag c 3)) ||
    (if cfFlag c 2 then !allZero (c.drop 1) else !configOk c)
/-- STORED and AUTO follow the stored configuration (R375). -/
def State.showStored (s : State) : State :=
  let auto := match s.storedCfg with | some c => cfFlag c 1 | none => false
  (s.wb HD_BRINGUP HD_BRINGUP_STORED s.storedCfg.isSome).wb HD_BRINGUP HD_BRINGUP_AUTO auto
/-- S8 of the bring-up has begun (R367). -/
def State.configBegun (s : State) : Bool := decide (s.nextStage > 8) || (s.stages.getD 8 StageRec.none).result != 0
/-- BRINGUP_START (R366, R367). -/
def execBringupStart (m : Mail) (s : State) : Host.Outcome State Fault Refusal :=
  s.runCmd m 0xA0 .pf0 false 1320 [] fun s =>
    let c := m.payload
    if upBad c then s.refuse stBadArgument
    else if (cfFlag c 2 && s.storedCfg.isNone) || (!cfFlag c 3 && s.configBegun) then s.refuse stWrongState
    else
      let s := if cfFlag c 0 || cfFlag c 3 then { s with storedCfg := some c }.showStored else s
      let s := if cfFlag c 3 then s
        else
          let s := { s with upCfg := if cfFlag c 2 then s.storedCfg else some c }
          if s.rb HD_BRINGUP HD_BRINGUP_WAITING then
            ({ s with stageTick := s.tick }.wf HD_BRINGUP HD_BRINGUP_WAITING 0).stageRuns 8
          else s
      s.okay
/-- Bytes of a stage record (R373). -/
def stageBytes (i : Nat) (r : StageRec) : List Byte :=
  leBytes 1 i ++ leBytes 1 r.result ++ leBytes 2 r.reason ++ leBytes 4 r.start ++ leBytes 4 r.dur ++ leBytes 4 r.a ++
    leBytes 4 r.b ++ leBytes 4 0 ++ leBytes 8 r.detail
/-- Response of BRINGUP_REPORT (R374). -/
def State.reportBytes (s : State) : List Byte :=
  let a := HD_BRINGUP
  let flags := s.rf a HD_BRINGUP_WAITING + 2 * s.rf a HD_BRINGUP_STORED + 4 * s.rf a HD_BRINGUP_AUTO
  leBytes 1 (s.rf a HD_BRINGUP_STAGE) ++ leBytes 1 s.outcomeOf ++ leBytes 1 (s.rf a HD_BRINGUP_KIND) ++ leBytes 1 flags ++
    leBytes 1 (s.rf a HD_BRINGUP_EXCLUDED) ++ leBytes 1 (s.rf a HD_BRINGUP_LIVE) ++ [0, 0] ++
    leBytes 4 (s.rf a HD_BRINGUP_ELAPSED_MS) ++ [0, 0, 0, 0] ++
    ((List.range 11).zip s.stages).flatMap fun x => stageBytes x.1 x.2
/-- BRINGUP_REPORT (R374). -/
def execBringupReport (m : Mail) (s : State) : Host.Outcome State Fault Refusal :=
  s.runCmd m 0xA1 .pf0 false 0 [] fun s => ⟨stOK, s.reportBytes, s⟩

/-! ## Tethers (R350 to R352) -/

/-- The 64 bytes of a tether control message: 1 OPEN, 2 CLOSE, 3 HEARTBEAT; their layout is not stated (log entry 16). -/
def tetherMsg (kind : Nat) : List Byte := fitBytes 64 (Config.crypto 21 [BitVec.ofNat 8 kind])
def State.sendTether (s : State) (node kind : Nat) : State := s.sendCtl [(node, 0x5000, tetherMsg kind)]
/-- The commands on their way to a node end with TETHER_LOST (R350, R352). -/
def State.dropForwarded (s : State) (node : Nat) : State :=
  let mine := s.forwarded.filter fun f => f.1 = node
  mine.foldl (fun s f => s.complete { src := 0, tick := s.tick, hdr := f.2.1, payload := [], drop := f.2.2, smbSeq := 0 } stTetherLost [])
    { s with forwarded := s.forwarded.filter fun f => f.1 ≠ node }
/-- A node accepts OPEN: it takes the lowest free index, or its old one. -/
def State.tetherOpen (s : State) (node : Nat) : MbRes :=
  match s.tethers.find? (fun t => t.node = node) with
  | some t => ⟨stOK, leBytes 1 t.index, { s with tethers := s.tethers.map fun x => if x.node = node then { x with live := true } else x }⟩
  | none =>
    let i := (((List.range 127).map (· + 1)).find? fun i => s.tethers.all fun t => t.index ≠ i).getD 0
    ⟨stOK, leBytes 1 i, { s with tethers := s.tethers ++ [{ node := node, index := i, live := true }] }⟩
/-- TETHER_ADD (R350); `answer` is the node's answer to OPEN, none within 4T. -/
def execTetherAdd (m : Mail) (answer : Option Bool) (s : State) : Host.Outcome State Fault Refusal :=
  s.runCmd m 0xB0 .pf0 false 2 [] fun s =>
    let node := m.n 0 2
    let known := s.tethers.find? fun t => t.node = node
    if node ≥ 2 ^ 14 ∨ node = s.ownNode then s.refuse stBadArgument
    else if known.any (·.live) then s.refuse stWrongState
    else if known.isNone ∧ s.tethers.length ≥ 127 then s.refuse stNoResource
    else
      let s := s.sendTether node 1
      match answer with
      | none => s.refuse stTimeout
      | some false => s.refuse stAccessDenied
      | some true => s.tetherOpen node
/-- TETHER_REMOVE (R350). -/
def execTetherRemove (m : Mail) (s : State) : Host.Outcome State Fault Refusal :=
  s.runCmd m 0xB1 .pf0 false 2 [] fun s =>
    let node := m.n 0 2
    if s.tethers.all fun t => t.node ≠ node then s.refuse stBadArgument
    else
      let s := (s.sendTether node 2).dropForwarded node
      { s with tethers := s.tethers.filter fun t => t.node ≠ node }.okay
/-- TETHER_POLICY_SET (R351). -/
def execTetherPolicySet (m : Mail) (s : State) : Host.Outcome State Fault Refusal :=
  s.runCmd m 0xB2 .pf0 false 3 [] fun s =>
    if m.n 0 1 > 2 ∨ m.n 1 2 ≥ 2 ^ 14 then s.refuse stBadArgument
    else { s with tetherPolicy := (m.n 0 1, m.n 1 2) }.okay
/-- Response of TETHER_LIST (R350). -/
def State.tetherBytes (s : State) : List Byte :=
  leBytes 1 s.tethers.length ++ List.replicate 7 0 ++ s.tethers.flatMap fun t =>
    leBytes 2 t.node ++ leBytes 1 t.index ++ leBytes 1 (if t.live then 1 else 2) ++ [0, 0, 0, 0]
/-- TETHER_LIST (R350). -/
def execTetherList (m : Mail) (s : State) : Host.Outcome State Fault Refusal :=
  s.runCmd m 0xB3 .pf0 false 0 [] fun s => ⟨stOK, s.tetherBytes, s⟩

end Sys2Proof.Machine
end

