-- ==== Sys2Proof/Machine/Newt.lean ====
section
/-! DEFINITION. The newt domain: fabric time, power capping, temperature, thermal shutdown, event counters and metering
(R413 to R438). -/
namespace Sys2Proof.Machine

/-! ## Fabric time (R413 to R419) -/

/-- The whole second nearest to a count. -/
def nearSecond (v : Nat) : Nat := (v + 500000000) / 1000000000 * 1000000000
/-- The edges lie 1 s ± 50 µs apart, as the count measures it (R415). -/
def secondApart (a b : Nat) : Bool := decide (a + 999950000 ≤ b) && decide (b ≤ a + 1000050000)
/-- A rate correction that the manual leaves to the loop (R414, R416; log entry 1): not below −50,000 ppb. -/
def State.freePpb (s : State) : Int := ((s.open_.toNat % 2 ^ 31 : Nat) : Int) - 50000
/-- STATE after an accepted edge outside UNSET (R414, R416). -/
def lockState (r : Int) : Nat := if r.natAbs < 1000 then 1 else 3
/-- An accepted edge at count `n` with the rate correction it leads to: a pending step is taken (R418), the residual
measured and the state follows (R414 to R416). -/
def State.acceptEdge (s : State) (n : Nat) (ppb : Int) : State :=
  let st := s.timeState
  let s := s.hdEvc 0x08 1
  match s.clock.step with
  | some v =>
    let s := { s.setNow v with clock := { s.clock with step := none, edge := some v, first := v - 1000000000, last := v, r := 0, slewed := false,
                                                       since := s.tick, ppb := ppb } }
    ((s.wf HD_TIME_STAT HD_TIME_STAT_STATE 1).wf HD_TIME_STAT HD_TIME_STAT_PENDING 0).stepRecord 0 n
  | none =>
    let r : Int := (n : Int) - (nearSecond n : Int)
    let st' := if st = 0 then 0 else lockState r
    let s : State := { s with clock := { s.clock with edge := some n, first := s.clock.edge.getD 0, last := n, r := r,
                                                      slewed := st == 3 || st' == 3, since := s.tick, ppb := ppb } }
    s.wf HD_TIME_STAT HD_TIME_STAT_STATE st'
/-- An edge in LOCKED or SLEWING (R415): the rate is disciplined in LOCKED. -/
def State.edgeLocked (s : State) (n : Nat) : State :=
  if secondApart (s.clock.edge.getD 0) n then
    if s.timeState = 1 then (s.acceptEdge n s.freePpb).used else s.acceptEdge n s.clock.ppb
  else (s.bump HD_TIME_STAT HD_TIME_STAT_PPS_REJ 1).hdEvc 0x09 1
/-- The third of three consecutive edges (R415): the rate is corrected by the error of the two intervals. -/
def State.ppsQualify (s : State) (n : Nat) : State :=
  let err : Int := (n : Int) - (s.clock.first : Int) - 2000000000
  let ambig := decide (s.boundNs > 400000000)
  let s := s.acceptEdge n (max (-50000) (s.clock.ppb - Int.tdiv err 2))
  let s := if ambig then s.raise HD_TIME_STAT HD_TIME_STAT_AMBIG 1 else s
  s.event 0x0B 0x02 0 0 0 s.timeState (s.clock.r % 2 ^ 64).toNat ambig.toNat
/-- An edge in UNSET or HOLDOVER (R415): consecutive edges are counted; in UNSET an edge after the third is accepted too,
and corrects the rate only. -/
def State.edgeFree (s : State) (n : Nat) : State :=
  let go : Bool := match s.clock.edge with | some e => secondApart e n | none => false
  let run := if go then s.clock.run + 1 else 1
  let was := s.clock.edge.getD 0
  let s : State := { s with clock := { s.clock with run := run } }
  if run < 3 then { s with clock := { s.clock with edge := some n, first := was } }
  else if run = 3 then s.ppsQualify n
  else (s.acceptEdge n s.freePpb).used
/-- PPS_IN_EDGE (R415). -/
def execPpsInEdge (s : State) : Host.Outcome State Fault Refusal :=
  if s.timeState = 1 ∨ s.timeState = 3 then .next (s.edgeLocked s.now) else .next (s.edgeFree s.now)
/-- PPS_IN_MISSING (R414): HOLDOVER. -/
def execPpsInMissing (s : State) : Host.Outcome State Fault Refusal :=
  if s.timeState = 1 ∨ s.timeState = 3 then
    let s := { s with clock := { s.clock with edge := none, run := 0 } }.wf HD_TIME_STAT HD_TIME_STAT_STATE 2
    .next (s.event 0x0B 0x01 0 0 0 0 s.clock.last s.boundNs)
  else .next s
/-- SLEW_END (R416): the predicted residual is 0. -/
def execSlewEnd (s : State) : Host.Outcome State Fault Refusal :=
  if s.timeState = 3 then .next { s with clock := { s.clock with r := 0 } } else .next s
/-- PPS_OUT_RISE (R417). -/
def execPpsOutRise (s : State) : Host.Outcome State Fault Refusal :=
  if s.timeState = 0 then .next s else .next { s with clock := { s.clock with out := true } }
/-- PPS_OUT_FALL (R417). -/
def execPpsOutFall (s : State) : Host.Outcome State Fault Refusal := .next { s with clock := { s.clock with out := false } }
/-- REFCLK_LOST (R419). -/
def execRefclkLost (s : State) : Host.Outcome State Fault Refusal :=
  if s.rb HD_TIME_STAT HD_TIME_STAT_REFCLK_LOST then .next s
  else
    let s := { s with clock := { s.clock with lostAt := s.tick } }.wf HD_TIME_STAT HD_TIME_STAT_REFCLK_LOST 1
    .next (s.event 0x0B 0x03 0 0 0 0 0 0)
/-- REFCLK_RETURN (R419). -/
def execRefclkReturn (s : State) : Host.Outcome State Fault Refusal :=
  if s.rb HD_TIME_STAT HD_TIME_STAT_REFCLK_LOST then
    let s := s.wf HD_TIME_STAT HD_TIME_STAT_REFCLK_LOST 0
    .next (s.event 0x0B 0x04 0 0 0 0 ((s.tick - s.clock.lostAt) / 1500) 0)
  else .next s

/-! ## Power capping (R425, R426) -/

/-- The element of a list of pairs with the highest value, the lower pair winning a tie. -/
def highest (v : Nat → Nat) : List Nat → Option Nat
  | [] => none
  | p :: r =>
    match highest v r with
    | none => some p
    | some q => if v q > v p then some q else some p
def State.capReq (s : State) (p : Nat) : Nat := Tab.get 0 s.capping.req p
def State.setCapReq (s : State) (p v : Nat) : State :=
  let s : State := { s with capping := { s.capping with req := Tab.set 0 s.capping.req p v } }
  if s.capping.braked.contains p then s else s.setCap p v
/-- The loop engages on one more pair's gear, or is at its limit; each rise has its record (log entry 96). -/
def State.capEngage (s : State) (w : Nat) (pw : List Nat) : State :=
  let cap := s.rf HD_PWR_CTL HD_PWR_CTL_CAP_W
  match highest (fun p => pw.getD p 0) ((List.range 8).filter fun p => decide (s.capReq p < 24)) with
  | some p =>
    let s := (s.setCapReq p (s.capReq p + 1)).pairEvc p 0x05 1
    s.event 0x0B 0x06 (unitOf 3 p) 0 0 (s.capReq p) w cap
  | none =>
    if s.rb HD_PWR_STAT HD_PWR_STAT_CAP_LIMIT then s
    else (s.raise HD_PWR_STAT HD_PWR_STAT_CAP_LIMIT 1).event 0x0B 0x07 0 0 0 0 w cap
/-- The loop releases one step of the pair with the highest request. -/
def State.capRelease (s : State) : State :=
  match highest s.capReq ((List.range 8).filter fun p => decide (s.capReq p > 0)) with
  | some p => s.setCapReq p (s.capReq p - 1)
  | none => s
/-- Energy of a sample of 100 µs: tenths of a mJ, in HD_ENERGY and in the open epochs (R425, R434). -/
def State.addEnergy (s : State) (w : Nat) (pw : List Nat) : State :=
  let t := s.energyTenths + w
  let s := { s with energyTenths := t % 10 }
  let s := (s.rset HD_ENERGY (s.rget HD_ENERGY + BitVec.ofNat 64 (t / 10))).hdEvc 0x0A (t / 10)
  let s := (s.parts.map fun e => (e.1, (e.2.groupIx.map fun p => pw.getD p 0).sum)).foldl (fun s e =>
    s.setMeter e.1 { s.meter e.1 with energy := (s.meter e.1).energy + e.2 }) s
  s.setMeter 0 { s.meter 0 with energy := (s.meter 0).energy + w }
/-- CAP_SAMPLE (R425): P100 in W, and the power of each pair. -/
def execCapSample (w : BitVec 12) (pairs : List Nat) (s : State) : Host.Outcome State Fault Refusal :=
  let p := w.toNat
  let s := (s.wf HD_PWR_STAT HD_PWR_STAT_P100_W p).addEnergy p pairs
  let cap := s.rf HD_PWR_CTL HD_PWR_CTL_CAP_W
  let overs : Nat := if p > cap then s.capping.overs + 1 else 0
  let unders : Nat := if p + 50 < cap then s.capping.unders + 1 else 0
  let s := { s with capping := { s.capping with overs := overs, unders := unders } }
  if overs ≥ 10 then .next (s.capEngage p pairs)
  else if unders ≥ 10 ∧ unders % 10 = 0 then .next s.capRelease
  else .next s
/-- PWR_BRAKE_ASSERT (R426): every pair's CAP_REQ is 24 from its next latch beat. -/
def execPwrBrakeAssert (s : State) : Host.Outcome State Fault Refusal :=
  if s.brake then .next s
  else .next (({ s with brake := true }.wf HD_PWR_STAT HD_PWR_STAT_BRAKE 1).event 0x0B 0x0F 0 0 0 0 0 0)
/-- PWR_BRAKE_RELEASE (R426): CAP_REQ returns at the next latch beat. -/
def execPwrBrakeRelease (s : State) : Host.Outcome State Fault Refusal :=
  .next ({ s with brake := false }.wf HD_PWR_STAT HD_PWR_STAT_BRAKE 0)

/-! ## Temperature (R427 to R430) -/

/-- A sensor's latest sample in 0.125 K; none where it has failed. -/
def State.sensor (s : State) (i : Nat) : Option Int := let x := Tab.get (0, false) s.sensors i
  if x.2 then none else some x.1.toInt
/-- The hottest working sensor of a list and its sample, the lowest index winning a tie. -/
def State.hottest (s : State) : List Nat → Option (Nat × Int)
  | [] => none
  | i :: r =>
    match s.sensor i, s.hottest r with
    | none, h => h
    | some t, none => some (i, t)
    | some t, some (j, u) => if u > t then some (j, u) else some (i, t)
/-- Sensors of a pair's dies and edge ports (R427). -/
def pairSensors (p : Nat) : List Nat := (List.range 128).map (128 * p + ·) ++ (List.range 16).map (1024 + 16 * p + ·)
/-- A temperature in two's complement of 16 bits. -/
def temp16 (t : Int) : Nat := (t % 65536).toNat
/-- TMAX and HOT_SENSOR of HD_THERM follow the samples. -/
def State.showHot (s : State) : State :=
  match s.hottest (List.range 1192) with
  | some (j, u) => (s.wf HD_THERM HD_THERM_TMAX (temp16 u)).wf HD_THERM HD_THERM_HOT_SENSOR j
  | none => s
/-- TEMP and FAILED of HD_TSENS show the sensor that SEL selects (R427). -/
def State.showSens (s : State) : State :=
  let a := HD_TSENS
  let i := s.rf a HD_TSENS_SEL
  let x := if i < 1192 then Tab.get (0, false) s.sensors i else (0, true)
  (s.wf a HD_TSENS_TEMP x.1.toNat).wb a HD_TSENS_FAILED x.2
/-- Pair of a sensor. -/
def sensorPair (i : Nat) : Option Nat := if i < 1024 then some (i / 128) else if i < 1152 then some ((i - 1024) / 16) else none
/-- UNIT of a sensor's record (R431). -/
def sensorUnit (i : Nat) : BitVec 16 :=
  if i < 1024 then unitOf 2 (i / 4) else if i < 1152 then unitOf 3 ((i - 1024) / 16)
  else if i < 1184 then unitOf 4 (i - 1152) else 0
/-- THERM_REQ of a temperature in 0.125 K (R428). -/
def thermReq (t : Int) : Nat := min 24 ((t - 760 + 4) / 5).toNat
/-- The formula of R428 for a pair: 24 while a cluster has all four sensors failed. -/
def State.pairFormula (s : State) (p : Nat) : Nat :=
  if (List.range 32).any fun cl => (List.range 4).all fun k => (s.sensor (128 * p + 4 * cl + k)).isNone then 24
  else
    match s.hottest (pairSensors p) with
    | some (_, t) => thermReq t
    | none => 0
def State.setThermReq (s : State) (p v : Nat) : State :=
  (s.wf (CD_GEAR_CTL p) CD_GEAR_CTL_THERM_REQ v).wf (CD_THERM p) CD_THERM_THERM_REQ v
/-- A pair's TMAX and THERM_REQ after a sample of sensor `i` (R428): the request rises at once, each rise with its record
(log entry 96). -/
def State.pairThermal (s : State) (p i : Nat) : State :=
  let t := match s.hottest (pairSensors p) with | some x => x.2 | none => 0
  let s := s.wf (CD_THERM p) CD_THERM_TMAX (temp16 t)
  let f := s.pairFormula p
  let q := s.rf (CD_THERM p) CD_THERM_THERM_REQ
  if f > q then
    let s := ({ s with thermCalm := Tab.set 0 s.thermCalm p 0 }.setThermReq p f).pairEvc p 0x06 1
    s.event 0x0B 0x09 (unitOf 3 p) 0 0 f i (temp16 t)
  else
    let calm := if f < q then (if Tab.get 0 s.thermCalm p = 0 then 1 + s.tick else Tab.get 0 s.thermCalm p) else 0
    { s with thermCalm := Tab.set 0 s.thermCalm p calm }
/-- THERM_REQ_FALL (R428): after 1 ms below, the request falls by 1. -/
def execThermReqFall (p : PairIx) (s : State) : Host.Outcome State Fault Refusal :=
  let q := s.rf (CD_THERM p) CD_THERM_THERM_REQ
  if Tab.get 0 s.thermCalm p ≠ 0 ∧ s.pairFormula p < q then
    let s := s.setThermReq p (q - 1)
    let calm := if s.pairFormula p < q - 1 then 1 + s.tick else 0
    .next { s with thermCalm := Tab.set 0 s.thermCalm p calm }
  else .next s

/-- Shutdowns of the last hour, in HD_THERM. -/
def State.showShut (s : State) : State :=
  let n := (s.shutLog.filter fun t => decide (s.tick < t + 5400000000000)).length
  s.wf HD_THERM HD_THERM_SHUTDOWNS_1H (min 255 n)
/-- Thermal shutdown (R429): LASER_EN low, every domain but newt, management processor and PCIe endpoint off, partitions,
bulk contents and links at an end, and a record of the sensor and its temperature. -/
def State.thermalShutdown (s : State) (sensor temp : Nat) : State :=
  if s.shutdown ∨ s.powerOff then s
  else
    let ts := (List.range 8).map fun p => leBytes 2 (s.rf (CD_THERM p) CD_THERM_TMAX)
    let ks := (List.range 8).map fun k => leBytes 1 ((Tab.get 0 s.stackTemp k % 256).toNat)
    let s := s.abandon.laserOff
    let s := (s.parts.map Prod.fst).foldl (fun s n => s.deletePart n) s
    let node := s.rget LM_MS_NODE
    let s := { s.unitsOff.rset LM_MS_NODE node with mem := [], ecc := [], testLines := [], filled := false, circOut := [] }
    let s := s.domainsOff (2 ^ 64 - 1) 0x8FFFFFFF
    let s := { s with shutTick := s.tick, shutLog := s.shutLog ++ [s.tick], wasShut := true }
    let s := ((s.wf HD_THERM HD_THERM_SHUTDOWN 1).raise HD_THERM HD_THERM_WAS_SHUTDOWN 1).showShut
    s.event 0x0B 0x0A 0 0 0 sensor temp (leNat (ts.flatten ++ ks.flatten))
/-- TEMP_SAMPLE (R427 to R429): a sensor's sample in 0.125 K, or its failure. -/
def execTempSample (i : Fin 1192) (t : Option (BitVec 16)) (s : State) : Host.Outcome State Fault Refusal :=
  let worked := (s.sensor i).isSome
  let x : BitVec 16 × Bool := match t with | some v => (v, false) | none => ((Tab.get (0, false) s.sensors i).1, true)
  let s := { s with sensors := Tab.set (0, false) s.sensors i x }
  let s := if worked && t.isNone then s.event 0x0B 0x0C (sensorUnit i) 0 0 i 0 0 else s
  let s := if s.rf HD_TSENS HD_TSENS_SEL = i.val then s.showHot.showSens else s.showHot
  let s := match sensorPair i with | some p => s.pairThermal p i | none => s
  let run := match t with | some x => if x.toInt ≥ 880 then min 3 (Tab.get 0 s.hotRun i + 1) else 0 | none => 0
  let s := { s with hotRun := Tab.set 0 s.hotRun i run }
  if run = 3 then .next (s.thermalShutdown i (t.getD 0).toNat) else .next s
/-- STACK_TEMP_READ (R427, R429): the record of a shutdown that a stack starts names a sensor that the manual does not
state (log entry 1). -/
def execStackTempRead (k : StackIx) (degC : Int) (s : State) : Host.Outcome State Fault Refusal :=
  let s := { s with stackTemp := Tab.set 0 s.stackTemp k degC }
  if degC ≥ 105 ∧ !s.shutdown then .next (s.used.thermalShutdown (s.open_.toNat % 65536) (temp16 (8 * degC))) else .next s
/-- A shutdown ends (R430, R431): 0 CLEAR, 1 HARD_RESET_N, 2 POWER-ON. -/
def State.endShutdown (s : State) (how : Nat) : State :=
  if s.shutdown then
    let ms := (s.tick - s.shutTick) / 1500000
    (s.wf HD_THERM HD_THERM_SHUTDOWN 0).event 0x0B 0x0B 0 0 0 how ms 0
  else s
/-- A write of CLEAR (R430): 10 s have passed, every working Heddle sensor reads below 70 °C and fewer than 3 shutdowns
are logged in the last hour; else it is refused. -/
def State.thermClear (s : State) : State :=
  let cool := (List.range 8).all fun k => match s.sensor (1184 + k) with | some t => decide (t < 560) | none => true
  let s := s.showShut
  if s.shutdown && decide (s.tick ≥ s.shutTick + 15000000000) && cool && decide (s.rf HD_THERM HD_THERM_SHUTDOWNS_1H < 3) then
    (s.endShutdown 0).doCold 4
  else s.raise HD_THERM HD_THERM_CLR_REFUSED 1
/-- CLEAR (R430). -/
def execClear (s : State) : Host.Outcome State Fault Refusal := .next s.thermClear

/-! ## Event counters (R432) -/

/-- The address is an event counter's. -/
def isEvc (a : Nat) : Bool :=
  (decide (0x800000 ≤ a) && decide (a < 0x900000) && decide (0x800 ≤ a % 0x1000) && decide (a % 0x1000 < 0x840)) ||
  (decide (0x910000 ≤ a) && decide (a < 0x930000) && decide (0x300 ≤ a % 0x1000) && decide (a % 0x1000 < 0x340)) ||
  (decide (0x970800 ≤ a) && decide (a < 0x970900))
/-- Every COUNT at 0. -/
def State.evcClear (s : State) : State :=
  let rs : List (Nat × Reg64) := s.regs.map fun e => if isEvc e.1 then (e.1, HD_EVC_COUNT.put e.2 0) else e
  { s with regs := rs.filter fun e => decide (e.2 ≠ regReset e.1) }
/-- EVC_CLEAR (R432). -/
def execEvcClear (s : State) : Host.Outcome State Fault Refusal := .next s.evcClear

/-! ## Metering (R435, R438) -/

/-- EPOCH_CLOSE (R435): the epoch of a partition, 0 the package, reaches EPOCH_S. -/
def execEpochClose (part : PartNo) (s : State) : Host.Outcome State Fault Refusal :=
  if part.val = 0 ∨ (s.metered).contains part.val then .next (s.closeMeter part) else .next s
/-- METER_CHECKPOINT (R438). -/
def execMeterCheckpoint (s : State) : Host.Outcome State Fault Refusal :=
  .next { s with meterChk := some (s.meters, s.now, s.holdover) }

end Sys2Proof.Machine
end

