-- ==== Sys2Proof/Machine/Resets.lean ====
section
/-! DEFINITION. Reset levels of the package, the watchdog, hang detection, dumps and the record log (R376 to R397, R423). -/
namespace Sys2Proof.Machine

/-! ## WARM and COLD (R381, R382, R386) -/

/-- The package runs: neither held in reset nor shut down. -/
def State.awake (s : State) : Bool := !s.inReset && !s.shutdown
/-- CAUSE of a reset at a level: that of the reset that is due, else PACKAGE_RESET. -/
def State.dueCause (s : State) (level : Nat) : Nat :=
  match s.resetDue with | some (l, c) => if l = level then c else 2 | none => 2
/-- WARM_RESET (R382, R386). -/
def execWarmReset (s : State) : Host.Outcome State Fault Refusal :=
  if s.awake then .next (s.doWarm (s.dueCause 2)) else .next s
/-- COLD_RESET (R382, R386, R411). -/
def execColdReset (s : State) : Host.Outcome State Fault Refusal :=
  if s.awake then .next (s.doCold (s.dueCause 3)) else .next s
/-- WATCHDOG (R386): a WARM reset, then the record and the count. -/
def execWatchdog (s : State) : Host.Outcome State Fault Refusal :=
  if s.inReset then .next s
  else
    let s := (s.doWarm 3).bump HD_RESET_STAT HD_RESET_STAT_WATCHDOGS 1
    .next (s.event 0x0A 0x04 0 0 0 2 0 (s.rget HD_RESET_STAT).toNat)

/-! ## POWER-ON and power-good (R381, R423) -/

/-- What POWER-ON keeps: flash and fuses (R382), the newt domain's record buffer, and the model's own histories of what
has been sent. Everything else stands as `State.reset` has it. -/
def State.powerKeep (s : State) : State :=
  let r := State.reset
  { r with
    pending := s.pending, free := s.free, tick := s.tick, recSeq := s.recSeq, recBuf := s.recBuf, log := s.log
    msi := s.msi, pmbus := s.pmbus, warpOut := s.warpOut, switchOut := s.switchOut
    circOut := s.circOut, segOut := s.segOut, resendOut := s.resendOut, sfOut := s.sfOut, smbOut := s.smbOut
    spdmOut := s.spdmOut, bobbin := s.bobbin, erasedDie := s.erasedDie, remapFlash := s.remapFlash
    sepochFlash := s.sepochFlash, tetherPolicy := s.tetherPolicy, storedCfg := s.storedCfg, fw := s.fw, lc := s.lc
    weftOut := s.weftOut, keySeq := s.keySeq, brake := s.brake, shutLog := s.shutLog, wasShut := s.wasShut, meterSeq := s.meterSeq
    spill := s.spill, meterChk := s.meterChk, meterPrev := s.meterPrev
    regs := s.regs.filter fun e => e.1 == HD_METER_CTL }
/-- POWER_ON (R381, R420, R430): the whole package is reset and its bring-up starts. -/
def execPowerOn (s : State) : Host.Outcome State Fault Refusal :=
  let s := (s.endShutdown 2).powerKeep.showFlash
  let s := s.wb HD_PWR_STAT HD_PWR_STAT_BRAKE s.brake
  .next ((s.event 0x0A 0x01 0 0 0 4 0 (s.rget HD_RESET_STAT).toNat).bringupStart 0)
/-- POWER_GOOD_FALL (R423): every domain but newt is switched off and the package is held in reset; the inputs are in the
order of R422, and a fall of PG_NEWT leaves no record. -/
def execPowerGoodFall (input : Fin 13) (s : State) : Host.Outcome State Fault Refusal :=
  if s.powerOff then .next s
  else
    let s := if input.val = 0 then s else s.abandon.event 0x0B 0x08 0 0 0 input 0 0
    let s := { s.unitsOff.laserOff with powerOff := true, inReset := true, parts := [], mem := [], ecc := [], mbQueue := [], late := [] }
    .next (s.domainsOff (2 ^ 64 - 1) 0xEFFFFFFF)

/-! ## HARD_RESET_N (R387) -/

/-- HARD_RESET_N_FALL (R387): a low level of `ns`; between 0.9 and 1.0 µs `starts` says which of the two outcomes it has. -/
def execHardResetNFall (ns : Nat) (starts : Bool) (s : State) : Host.Outcome State Fault Refusal :=
  if s.inReset then .next s
  else if ns < 900 ∨ (ns < 1000 ∧ !starts) then .next (s.bump HD_RESET_STAT HD_RESET_STAT_GLITCHES 1)
  else .next { (s.endShutdown 1).doCold 1 with inReset := true }
/-- HARD_RESET_N_HELD (R387). -/
def execHardResetNHeld (s : State) : Host.Outcome State Fault Refusal :=
  if s.inReset && !s.powerOff && !s.rb HD_RESET_STAT HD_RESET_STAT_HOLDING then
    let s := s.wf HD_RESET_STAT HD_RESET_STAT_HOLDING 1
    .next (s.event 0x0A 0x02 0 0 0 3 0 (s.rget HD_RESET_STAT).toNat)
  else .next s
/-- HARD_RESET_N_RELEASE (R387). -/
def execHardResetNRelease (s : State) : Host.Outcome State Fault Refusal :=
  if s.inReset && !s.powerOff then
    let a := HD_RESET_STAT
    let s := (s.wf a HD_RESET_STAT_HELD (s.rf a HD_RESET_STAT_HOLDING)).wf a HD_RESET_STAT_HOLDING 0
    .next ({ s with inReset := false }.bringupStart 1)
  else .next s

/-! ## Hangs and dumps (R388 to R392) -/

/-- HANG (R388). -/
def execHang (part : PartNo) (s : State) : Host.Outcome State Fault Refusal :=
  let a := HD_HANG part
  match s.part? part with
  | none => .next s
  | some p =>
    if p.state ≠ .running ∨ s.rf a HD_HANG_LIMIT_US = 0 then .next s
    else
      let r := s.mkRec 0x0A 0x03 (unitOf 9 part) (s.ctx part) 0 0 0 (s.rget HD_RESET_STAT).toNat
      .next ((s.stopPart part 0 r).bump a HD_HANG_HANGS 1)
/-- DUMP_WRITE (R390). -/
def execDumpWrite (part : PartNo) (s : State) : Host.Outcome State Fault Refusal := .next (s.dumpWrite part)
/-- A window of a dump area stands in HD_DUMP_DATA, zeros where PART names no area (R392); BUSY does not show, for the
fetch is part of the write (log entry 2). -/
def State.dumpSel (s : State) (val : Reg64) : State :=
  let n := HD_DUMP_SEL_PART.get val
  let w := HD_DUMP_SEL_WIN.get val
  let s := (s.wf HD_DUMP_SEL HD_DUMP_SEL_PART n).wf HD_DUMP_SEL HD_DUMP_SEL_WIN w
  let bs := if 1 ≤ n ∧ n ≤ 8 then s.bytes (dumpAddr n (512 * w)) 512 else List.replicate 512 0
  s.putWords (HD_DUMP_DATA 0) ((chunksOf 8 64 bs).map leNat)
/-- HD_DUMP_SEL_WRITE (R392, R397). -/
def execHdDumpSelWrite (val : BitVec 64) (s : State) : Host.Outcome State Fault Refusal :=
  if s.awake && s.lc.state != 4 then .next (s.dumpSel val) else .next s

/-! ## Records (R379, R380) -/

/-- SUMMARY_WINDOW_END (R379): the oldest window ends; with suppressed events a summary record is made and begins a window
of its own. -/
def execSummaryWindowEnd (s : State) : Host.Outcome State Fault Refusal :=
  match s.windows.reverse with
  | [] => .next s
  | (k, w) :: rest =>
    let s := { s with windows := rest.reverse }
    match w.last with
    | none => .next s
    | some r =>
      let ws := (k, { begin_ := s.tick, count := 0, last := none }) :: s.windows
      .next ({ s with windows := ws }.emit { r with flags := r.flags ||| 8, suppressed := BitVec.ofNat 32 w.count })
/-- LOG_FLASH_WRITE (R380): the log holds the latest 65,536 records. -/
def execLogFlashWrite (s : State) : Host.Outcome State Fault Refusal :=
  match s.recBuf with
  | [] => .next s
  | r :: rest =>
    let l := s.log ++ [r]
    .next { s with recBuf := rest, log := l.drop (l.length - 65536) }

end Sys2Proof.Machine
end

