-- ==== Sys2Proof/Machine/Bringup.lean ====
section
/-! DEFINITION. The bring-up: its stages, their records and its outcome (R358 to R375, R399, R411). -/
namespace Sys2Proof.Machine

/-! ## Stages -/

/-- The bring-up stands at a stage: the package is awake, no configuration is waited for, and no light hold stops S5 to S7
(R358, R372). -/
def State.stageOn (s : State) (n : Nat) : Bool :=
  s.awake && s.nextStage == n && !s.rb HD_BRINGUP HD_BRINGUP_WAITING && !(decide (5 ≤ n) && decide (n ≤ 7) && s.lightHold)
/-- A stage ends with its record; a degraded or failed one writes a fault record (R373). -/
def State.endStage (s : State) (n result reason a b detail : Nat) : State :=
  let r : StageRec :=
    { result := result, reason := reason, start := (s.stageTick - s.upTick) / 1500000,
      dur := min (2 ^ 32 - 1) ((s.tick - s.stageTick) / 1500), a := a, b := b, detail := detail }
  let s := { s with stages := s.stages.set n r, nextStage := n + 1, stageTick := s.tick }
  if result = 3 then s.event 0x09 0x01 0 0 0 n reason r.detail24
  else if result = 4 then s.event 0x09 0x02 0 0 0 n reason r.detail24
  else s
/-- The outcome stands in HD_BRINGUP, and an event record carries it to PF0; its CODE is not stated (R371; log entry 1). -/
def State.setOutcome (s : State) (o : Nat) : State :=
  let d := { s.stages.getD 10 StageRec.none with a := o }.detail24
  ({ s.used.wf HD_BRINGUP HD_BRINGUP_OUTCOME o with nextStage := 11 }).event 0x09 (s.open_.toNat % 256) 0 0 0 10 0 d
/-- Bring-up stops with outcome FAILED. -/
def State.stopUp (s : State) : State := s.setOutcome 4
/-- A stage ends and the next one runs. -/
def State.passStage (s : State) (n result reason a b detail : Nat) : State :=
  (s.endStage n result reason a b detail).stageRuns (n + 1)
/-- RESULT of a stage that has lost something, or nothing. -/
def lossResult (lost : Bool) : Nat := if lost then 3 else 2
def lossReason (lost : Bool) (r : Nat) : Nat := if lost then r else 0
/-- Number whose set bits are the members of a list. -/
def maskOfList (l : List Nat) : Nat := l.eraseDups.foldl (fun m i => m + 2 ^ i) 0
def State.livePairs (s : State) : List Nat := (List.range 8).filter fun p => !s.excluded p
/-- The pairs of a list that are not excluded yet. -/
def State.newLosses (s : State) (ps : List Nat) : List Nat := s.livePairs.filter ps.contains
def State.excludeAll (s : State) (ps : List Nat) : State := ps.foldl (fun s p => s.exclude p) s

/-! ## S0: boot (R399, R400), SEPOCH, metering after a power loss (R438) -/

/-- A bank's image is valid; `bad`: the banks whose verification fails. -/
def State.bootOk (s : State) (bad : BitVec 2) (b : Bool) : Bool :=
  (s.fw.bank b).valid && decide (s.fw.floor ≤ (s.fw.bank b).svn) && !bad.getLsbD b.toNat
/-- REASON of a bank that does not boot: 3 where its SVN is below the floor, else not determined (log entry 1). -/
def State.bootReason (s : State) (b : Bool) : Nat :=
  if (s.fw.bank b).valid && decide ((s.fw.bank b).svn < s.fw.floor) then 3 else s.open_.toNat % 256
/-- The booted bank is active; the first boot after an activation with COMMIT raises FW_FLOOR. -/
def State.booted (s : State) (b : Bool) : State :=
  let f := s.fw
  let floor := if f.commit && b == f.next then max f.floor (f.bank b).svn else f.floor
  { s with fw := { f with active := b, next := b, commit := if b == f.next then false else f.commit, floor := floor } }
/-- The bank S0 boots: the active one, else the other with a SECURITY record; `none` where both are invalid. -/
def State.boot (s : State) (bad : BitVec 2) : Option Bool × State :=
  let b := s.fw.next
  if s.bootOk bad b then (some b, s.booted b)
  else if s.bootOk bad (!b) then
    let r := s.bootReason b
    (some (!b), (s.used.booted (!b)).event 0x0C 0x01 0 0 0 (!b).toNat 0 (b.toNat + 256 * r))
  else
    let r0 := s.bootReason false
    let s := s.used
    let r1 := s.bootReason true
    (none, s.used.event 0x0C 0x02 0 0 0 0 0 (r0 + 256 * r1))
/-- After POWER-ON every epoch open at the power loss closes with its last checkpoint's counts (R438). -/
def State.lossClose (s : State) : State :=
  match s.meterChk with
  | none => s
  | some (ms, t, hold) =>
    if s.rf HD_BRINGUP HD_BRINGUP_KIND ≠ 0 then s
    else
      let first := s.meterSeq
      let s := { s with meters := ms, meterChk := none }
      let s := ((ms.map Prod.fst).filter (· ≠ 0)).foldl (fun s n => s.closeMeterAt n 8 t hold) s
      (s.closeMeterAt 0 8 t hold).event 0x0B 0x0E 0 0 0 0 first t
/-- S0_NEWT (R358, R399, R400, R424). -/
def execS0Newt (r : BootRes) (s : State) : Host.Outcome State Fault Refusal :=
  if s.stageOn 0 then
    let s := s.domainsOn 0 0xF00FFFFF
    let s := (List.range 8).foldl (fun s p => s.askVolt p 24) s
    let s := { s with sepochFlash := (s.sepochFlash + 1) % 65536, bootLc := (s.lc.epoch, s.lc.owner) }
    let s := (s.wf LM_MS_NODE LM_MS_NODE_SEPOCH s.sepochFlash).lossClose
    match s.boot r.bad with
    | (none, s) => .next (s.endStage 0 4 2 0 s.sepochFlash 0).stopUp
    | (some b, s) => .next (s.passStage 0 2 0 b.toNat s.sepochFlash 0)
  else .next s

/-! ## S1 to S3 -/

/-- S1_HOST (R358, R411): a RETIRED package stops here, but for the bring-up whose fill ends its change. -/
def execS1Host (rate width : Nat) (ok : Bool) (s : State) : Host.Outcome State Fault Refusal :=
  if s.stageOn 1 then
    let res := if ok then 2 else 3
    let why := if ok then 0 else 3
    if s.lc.state = 4 ∧ s.lc.change.isNone then .next (s.endStage 1 res why rate width 0).stopUp
    else .next (s.passStage 1 res why rate width 0)
  else .next s
/-- S2 with a locked PLL: the pairs of clusters whose crossings fail are excluded. -/
def State.clocksDone (s : State) (ps : List Nat) (count reason : Nat) : State :=
  let bad := s.newLosses ps
  let lost := decide (bad ≠ []) || reason == 1
  (s.excludeAll bad).passStage 2 (lossResult lost) (lossReason lost reason) count 0 (maskOfList bad)
/-- S2_CLOCKS (R358, R361): `failed` names the clusters whose crossings fail to train. -/
def execS2Clocks (pll : Bool) (failed : List ClusterIx) (s : State) : Host.Outcome State Fault Refusal :=
  if s.stageOn 2 then
    if pll then
      let cls := (failed.map fun c => c.val).eraseDups
      .next (s.clocksDone (cls.map (· / 32)) cls.length 5)
    else .next (s.endStage 2 4 4 0 0 0).stopUp
  else .next s
/-- S3: compute dies powered, those of failing pairs off again. -/
def State.diesDone (s : State) (ps : List Nat) (count reason : Nat) : State :=
  let s := s.domainsOn (s.livePairs.foldl (fun m p => m + pairDomains p) 0) 0
  let bad := s.newLosses ps
  let lost := decide (bad ≠ []) || reason == 1
  (s.excludeAll bad).passStage 3 (lossResult lost) (lossReason lost reason) count 0 (maskOfList bad)
/-- S3_DIES (R358, R361): bit 2p + u of `failed` is die u of pair p. -/
def execS3Dies (failed : BitVec 16) (s : State) : Host.Outcome State Fault Refusal :=
  if s.stageOn 3 then
    let ds := (List.range 16).filter failed.getLsbD
    .next (s.diesDone (ds.map (· / 2)) ds.length 6)
  else .next s

/-! ## S4: bulk memory (R287, R293, R301, R302, R359) -/

/-- The stages' kind runs the package fill. -/
def State.fillDue (s : State) : Bool :=
  s.rf HD_BRINGUP HD_BRINGUP_KIND != 2 || s.lc.change.isSome || !s.filled
/-- A stack attached, with its erasure and remap entries from flash. -/
def State.attach (s : State) (k : Nat) (fill : Bool) : State :=
  let die := Tab.get 0 s.erasedDie k
  let a := BM_STAT k
  let s := s.wf a BM_STAT_STATE (if fill then 1 else if die = 0 then 2 else 3)
  let s := (s.wb a BM_STAT_ERASED (decide (die ≠ 0))).wf a BM_STAT_EDIE (die - 1)
  let s := (List.range 16).foldl (fun s r => s.rset (BM_REMAP k r) (Tab.get 0 s.remapFlash (16 * k + r))) s
  s.wf a BM_STAT_REMAPS ((List.range 16).filter fun r => s.rb (BM_REMAP k r) BM_REMAP_VALID).length
/-- The life-cycle change that waits for the fill is done (R411, R412). -/
def State.lifeDone (s : State) : State :=
  match s.lc.change with
  | none => s
  | some (act, old) =>
    { s with lc := { s.lc with change := none } }.event 0x0C 0x05 0 0 0 act s.lc.epoch (old + 256 * s.lc.state)
/-- S4 ends. -/
def State.bulkDone (s : State) (fill : Bool) (reason : Nat) : State :=
  let st (k : Nat) : Nat := s.rf (BM_STAT k) BM_STAT_STATE
  let off := (List.range 8).filter fun k => st k == 0
  let deg := (List.range 8).filter fun k => st k == 3
  let er := ((List.range 8).filter fun k => st k != 0 && s.rb (BM_STAT k) BM_STAT_ERASED).length
  let lost := decide (off ≠ []) || reason == 1
  let d := maskOfList off + 2 ^ 8 * maskOfList deg + 2 ^ 16 * fill.toNat
  let retired := s.lc.state == 4
  let s := if fill then s.lifeDone else s
  let s := s.endStage 4 (lossResult lost) (lossReason lost reason) (8 - off.length) er d
  if retired then s.stopUp else s.stageRuns 5
/-- S4 once the stacks are identified; the fill goes on until PACKAGE_FILL_DONE. -/
def State.bulkStart (s : State) (ident : Nat) (reason : Nat) : State :=
  let s := s.domainsOn 0 0x0FF00000
  let fill := s.fillDue
  let ks := (List.range 8).filter ident.testBit
  let s := ks.foldl (fun s k => s.attach k fill) s
  if fill ∧ ks ≠ [] then s else s.bulkDone fill reason
/-- The physical pseudo-channel of each logical one, q = 16u + D (R287); none where the stack reports anything but sixteen
dies with four pseudo-channels each. -/
def stackMap (i : StackIdent) : Option (List Nat) :=
  let l := (List.range 64).filterMap fun q => i.pcs.idxOf? (q % 16, q / 16)
  if i.pcs.length = 64 ∧ l.length = 64 then some l else none
/-- The controller uses the stack (R287): its PHY trains, and its data reports the dies, the bytes and the mode asked for. -/
def stackOk (i : StackIdent) : Bool :=
  i.trained && i.dies == 16 && i.bytes == 2 ^ 30 && i.pcMode && (stackMap i).isSome
/-- S4_BULK (R287, R358): what each stack reports; the controllers of the usable ones keep their maps. -/
def execS4Bulk (ids : List StackIdent) (s : State) : Host.Outcome State Fault Refusal :=
  if s.stageOn 4 ∧ (List.range 8).all fun k => s.rf (BM_STAT k) BM_STAT_STATE = 0 then
    let good := ((List.range 8).zip ids).filter fun e => stackOk e.2
    let s := good.foldl (fun s e => s.setCtl e.1 { s.ctl e.1 with pcMap := (stackMap e.2).getD [] }) s
    .next (s.bulkStart (maskOfList (good.map Prod.fst)) 7)
  else .next s
/-- PACKAGE_FILL_DONE (R302): S4 ends with it. -/
def execPackageFillDone (s : State) : Host.Outcome State Fault Refusal :=
  if s.stageOn 4 ∧ (List.range 8).any fun k => s.rf (BM_STAT k) BM_STAT_STATE = 1 then .next (s.packageFill.bulkDone true 7)
  else .next s

/-! ## S5 and S6: light and the weave (R157, R164, R166, R361) -/

/-- Inputs that are DARK. -/
def State.darkInputs (s : State) : List Nat := (List.range 24).filter fun i => s.rb (LM_LASER_IN i) LM_LASER_IN_DARK
/-- S5 ends. -/
def State.lightDone (s : State) (limit : Bool) : State :=
  let dk := s.darkInputs
  let noLight := (List.range 16).all dk.contains
  let bad := s.rf LM_CENSUS LM_CENSUS_RINGS_FAILED
  let res := if limit || noLight then 4 else if bad ≠ 0 then 3 else 2
  let why := if limit then 1 else if noLight then 8 else if bad ≠ 0 then 9 else 0
  s.passStage 5 res why bad (s.rf LM_CENSUS LM_CENSUS_ABORTS) (maskOfList dk)
/-- S5_LIGHT (R157, R165, R166): LASER_EN rises; with BOBBIN_OK_N low the marker tone is turned on and, once that write is
acknowledged, census begins; with census done the stage ends. -/
def execS5Light (acks : List Bool) (s : State) : Host.Outcome State Fault Refusal :=
  if s.stageOn 5 then
    if s.rf LM_CENSUS LM_CENSUS_STATE = 2 then .next (s.lightDone false)
    else if s.rf LM_CENSUS LM_CENSUS_STATE ≠ 0 then .next s
    else if !s.rb LM_BOBBIN LM_BOBBIN_LASER_EN then
      .next (if s.laserUp = 0 then { s with laserUp := 1 }.wf LM_BOBBIN LM_BOBBIN_LASER_EN 1 else s)
    else if s.rb LM_BOBBIN LM_BOBBIN_BOBBIN_OK then
      (match s.i2c acks with
      | (true, s) => .next { s.censusBegin with bobbin := { s.bobbin with marker := 1 } }
      | (false, s) => .next s)
    else .next s
  else .next s
/-- S6: every group at slot 0 and the default map hold from the reset on; lost lanes are masked, failed standing circuits
go out, and a pair without a warp path to or from MS0 is excluded. -/
def State.weaveDone (s : State) (lanes : List RingRef) (meas : List (Bool × OutMeas)) (ps : List Nat) (reason : Nat) : State :=
  let s := lanes.foldl (fun s l =>
    let t := laneKey l.key
    if l.isRing && l.plane == 0 then
      (s.laneOut t whyCheck).maskLane (t / 4096) ((t / 4096 + t % 4096 / 128) % 32) (t % 4096 / 8 % 16)
    else s) s
  let circs := s.badStand meas
  let s := s.standCheck meas
  let bad := s.newLosses (ps ++ (List.range 8).filter fun p => s.isDown p 8 || s.isDown 8 p)
  let masked := ((List.range 32).map fun i => s.rf (LM_WARP_STAT i) LM_WARP_STAT_MASKED).sum
  let down := (List.range 32).filter fun i => decide (s.rget (LM_WARP_DOWN i) ≠ 0)
  let lost := decide (bad ≠ []) || decide (masked ≠ 0) || decide (circs ≠ []) || reason == 1
  let why := if reason ≠ 0 then reason else if bad ≠ [] ∨ masked ≠ 0 then 10 else 11
  (s.excludeAll bad).passStage 6 (lossResult lost) (lossReason lost why) masked circs.length
    (maskOfList down + 2 ^ 32 * maskOfList bad)
/-- S6_WEAVE (R358, R361): the warp lanes that fail their test and the standing circuits that fail their check. -/
def execS6Weave (lanes : List RingRef) (meas : List (Bool × OutMeas)) (s : State) : Host.Outcome State Fault Refusal :=
  if s.stageOn 6 then .next (s.weaveDone lanes meas [] 0) else .next s

/-! ## S7 and the hold (R362 to R365) -/

/-- After S7: a configuration supplied in this bring-up, or a stored one with AUTO, lets S8 run; else it is waited for. -/
def State.afterCores (s : State) : State :=
  match s.upCfg, s.storedCfg with
  | some _, _ => s.stageRuns 8
  | none, some c => if cfFlag c 1 then { s with upCfg := some c }.stageRuns 8 else s.wf HD_BRINGUP HD_BRINGUP_WAITING 1
  | none, none => s.wf HD_BRINGUP HD_BRINGUP_WAITING 1
/-- S7: gears released, pairs whose broadcast or self-test fails excluded. -/
def State.coresDone (s : State) (ps : List Nat) (count reason : Nat) : State :=
  let s := s.livePairs.foldl (fun s p => s.gearRelease p) s
  let top := s.livePairs.foldl (fun m p => max m (s.rf (CD_GEAR_CTL p) CD_GEAR_CTL_CUR)) 0
  let bad := s.newLosses ps
  let lost := decide (bad ≠ []) || reason == 1
  ((s.excludeAll bad).endStage 7 (lossResult lost) (lossReason lost reason) count top (maskOfList bad)).afterCores
/-- S7_CORES (R362 to R364): pairs whose firmware broadcast fails, and cores that fail the self-test. -/
def execS7Cores (bcast : BitVec 8) (cores : List CoreIx) (s : State) : Host.Outcome State Fault Refusal :=
  if s.stageOn 7 then
    let bp := (List.range 8).filter bcast.getLsbD
    let cs := (cores.map fun c => c.val).eraseDups
    let why := if s.newLosses bp ≠ [] then 12 else 13
    .next (s.coresDone (bp ++ cs.map pairOf) cs.length why)
  else .next s

/-! ## S8 and S9 (R368 to R370) -/

/-- Ports whose link, or whose logical link, has a DIM other than 0. -/
def cfOpen (c : List Byte) : List Nat :=
  (List.range 32).filter fun x => (cfLinks c).contains x || (List.range 16).any fun n =>
    (cfLinks c).contains (32 + n) && match cfPorts c n with | some (a, b) => a == x || b == x | none => false
/-- The configuration applied, in the order of R368. -/
def State.applyConfig (s : State) (c : List Byte) : State :=
  let s := (s.wf LM_MS_NODE LM_MS_NODE_NODE (cfNode c)).wf LM_MS_NODE LM_MS_NODE_NVALID 1
  let s := (s.loadRoutes (cfNode c) (cfRoute c)).setTimeout (cfT c) (cfHmax c)
  let s := (if s.rb LM_CAL_CTL LM_CAL_CTL_LOCK then s else s.wf LM_CAL_CTL LM_CAL_CTL_MODE (cfCalMode c)).wf LM_CAL_CTL LM_CAL_CTL_LOCK 1
  let s := (List.range 16).foldl (fun s n => s.selWrite n (BitVec.ofNat 64 (cfSel c n))) s
  let s := { s with runCfg := some c, nextStage := 9 }
  (List.range 32).foldl (fun s x => s.portEnable x ((cfOpen c).contains x)) s
/-- S9 skipped after a failed S8. -/
def State.skipPorts (s : State) : State :=
  { s with stages := s.stages.set 9 { StageRec.none with result := 5 }, nextStage := 10 }.stageRuns 10
/-- S8_CONFIG (R368). -/
def execS8Config (s : State) : Host.Outcome State Fault Refusal :=
  if s.stageOn 8 then
    match s.upCfg with
    | none => .next s
    | some c =>
      if configOk c then
        let sels := (List.range 16).filter fun n => (cfPorts c n).isSome
        .next ((s.applyConfig c).passStage 8 2 0 (cfNode c) (cfOpen c).length (maskOfList (cfOpen c) + 2 ^ 32 * maskOfList sels))
      else .next (s.endStage 8 4 14 0 0 0).skipPorts
  else .next s
/-- S9_PORTS (R370); `waited`: PORT_WAIT_MS has passed. -/
def execS9Ports (waited : Bool) (s : State) : Host.Outcome State Fault Refusal :=
  match s.stageOn 9, s.runCfg with
  | true, some c =>
    let ls := cfLinks c
    let live := ls.filter fun l => s.rb (LM_RT_LINK l) LM_RT_LINK_LIVE
    let dead := ls.filter fun l => !s.rb (LM_RT_LINK l) LM_RT_LINK_LIVE
    let need := (List.range 48).filter (cfRequired c).testBit
    if dead = [] then .next (s.passStage 9 2 0 live.length ls.length 0)
    else if !waited then .next s
    else
      let ok := need.all live.contains && decide (cfMinLinks c ≤ live.length)
      .next (s.passStage 9 (if ok then 3 else 4) (if ok then 0 else 15) live.length ls.length (maskOfList dead))
  | _, _ => .next s

/-! ## S10 (R371, R382) -/

/-- Kept partitions with an excluded pair are deleted, each with a RESET record (R382). -/
def State.dropKept (s : State) : State :=
  (s.parts.filter fun e => e.2.groupIx.any s.excluded).foldl (fun s e =>
    let ctx := s.ctx e.1
    (s.deletePart e.1).event 0x0A 0x01 0 ctx 0 2 0 (s.rget HD_RESET_STAT).toNat) s
/-- The outcome (R371). -/
def State.outcomeCode (s : State) : Nat :=
  let res (n : Nat) : Nat := (s.stages.getD n StageRec.none).result
  if res 0 = 4 ∨ res 2 = 4 ∨ res 5 = 4 ∨ s.livePairs = [] then 4
  else if res 8 = 4 ∨ res 9 = 4 then 3
  else if s.stages.any fun r => r.result = 3 then 2
  else 1
/-- S10_READY (R371). -/
def execS10Ready (s : State) : Host.Outcome State Fault Refusal :=
  if s.stageOn 10 then
    let o := s.outcomeCode
    let s := s.dropKept
    .next ((s.endStage 10 2 0 o 0 (maskOfList s.livePairs)).setOutcome o)
  else .next s

/-! ## TIME_LIMIT (R358) -/

/-- Pairs whose work is not done at the limit: the manual leaves them to the event (log entry 1). -/
def State.freePairs (s : State) : List Nat := (List.range 8).filter fun i => s.open_.getLsbD i
/-- TIME_LIMIT (R358): the stage ends with REASON TIME_LIMIT and what its failure brings. -/
def execTimeLimit (s : State) : Host.Outcome State Fault Refusal :=
  if !s.stageOn s.nextStage then .next s
  else
    let ps := s.freePairs
    match s.nextStage with
    | 0 => .next (s.endStage 0 4 1 0 s.sepochFlash 0).stopUp
    | 1 =>
      if s.lc.state = 4 ∧ s.lc.change.isNone then .next (s.endStage 1 3 1 0 0 0).stopUp
      else .next (s.passStage 1 3 1 0 0 0)
    | 2 => if s.open_.getLsbD 8 then .next (s.used.endStage 2 4 1 0 0 0).stopUp else .next (s.used.clocksDone ps ps.length 1)
    | 3 => .next (s.used.diesDone ps ps.length 1)
    | 4 =>
      if (List.range 8).any fun k => s.rf (BM_STAT k) BM_STAT_STATE = 1 then
        let s := (List.range 8).foldl (fun s k =>
          if s.rf (BM_STAT k) BM_STAT_STATE = 1 then s.wf (BM_STAT k) BM_STAT_STATE 0 else s) s
        .next (s.bulkDone false 1)
      else .next (s.bulkDone false 1)
    | 5 => .next (s.lightDone true)
    | 6 => .next (s.used.weaveDone [] [] ps 1)
    | 7 => .next (s.used.coresDone ps (256 * ps.length) 1)
    | 8 => .next (s.endStage 8 4 1 0 0 0).skipPorts
    | _ => .next s

end Sys2Proof.Machine
end

