-- ==== Sys2Proof/Machine/CoreOps.lean ====
section
/-! DEFINITION. Meanings of the memory and engine slot operations (R49 to R53, R63, R66, R109 to R111). Each acts as the
operation does in a bundle issued at the core's present beat count; an encoding that no loaded draft holds is refused. -/
namespace Sys2Proof.Machine

/-- An M-slot operation issues in its slot, beside NOP, or faults the core with RANGE (R60, R109). -/
def State.mIssue (s : State) (c : Nat) (sl : MSlot) (op : MOp) : State :=
  let slot := match sl with | .m0 => 0 | .m1 => 1
  match rangeFault (s.core c) op with
  | some l => s.coreFault c 0x02 slot false l (s.bc c)
  | none =>
    match sl with
    | .m0 => s.issueMs c (s.bc c) op .nop
    | .m1 => s.issueMs c (s.bc c) .nop op

/-- A single M-slot operation in the given slot: it is refused where the loader would refuse it (R66, R98), faults the
core with RANGE where its lines run past a store (R60, R109), and is issued otherwise. -/
def State.mOp (s : State) (c : CoreIx) (sl : MSlot) (op : MOp) : Host.Outcome State Fault Refusal :=
  if (checkM op).isSome || (checkPst (clusterOf c) op).isSome then .refused .illegalEncoding
  else .next (s.slotOp c fun s => s.mIssue c sl op)

/-- VLD (R63). -/
def execVld (c : CoreIx) (sl : MSlot) (a : MAddr) (v : BitVec 5) (s : State) : Host.Outcome State Fault Refusal :=
  s.mOp c sl (.vld a v)
/-- VST (R63). -/
def execVst (c : CoreIx) (sl : MSlot) (a : MAddr) (v : BitVec 5) (s : State) : Host.Outcome State Fault Refusal :=
  s.mOp c sl (.vst a v)
/-- TLD (R63). -/
def execTld (c : CoreIx) (sl : MSlot) (a : MAddr) (bline : BitVec 5) (mask : BitVec 4) (buf : Bool) (s : State) :
    Host.Outcome State Fault Refusal :=
  s.mOp c sl (.tld a bline mask buf)
/-- ALD (R63). -/
def execAld (c : CoreIx) (sl : MSlot) (a : MAddr) (aline : BitVec 7) (mask : BitVec 4) (s : State) :
    Host.Outcome State Fault Refusal :=
  s.mOp c sl (.ald a aline mask)
/-- TST (R53, R63). -/
def execTst (c : CoreIx) (sl : MSlot) (a : MAddr) (set : BitVec 3) (eng : BitVec 2) (s : State) :
    Host.Outcome State Fault Refusal :=
  s.mOp c sl (.tst a set eng)
/-- TLA (R53, R63). -/
def execTla (c : CoreIx) (sl : MSlot) (a : MAddr) (set : BitVec 3) (eng : BitVec 2) (s : State) :
    Host.Outcome State Fault Refusal :=
  s.mOp c sl (.tla a set eng)
/-- ARSET (R66). -/
def execArset (c : CoreIx) (sl : MSlot) (ar : BitVec 4) (val : BitVec 15) (s : State) :
    Host.Outcome State Fault Refusal :=
  s.mOp c sl (.arset ar val)
/-- PLD (R110, R111). -/
def execPld (c : CoreIx) (sl : MSlot) (a : MAddr) (pr : BitVec 2) (pinc : Bool) (pofs : BitVec 12) (s : State) :
    Host.Outcome State Fault Refusal :=
  s.mOp c sl (.pld a pr pinc pofs)
/-- PST (R110, R111). -/
def execPst (c : CoreIx) (sl : MSlot) (a : MAddr) (pr : BitVec 2) (pinc : Bool) (dcl : BitVec 4) (ddie : Bool)
    (pofs : BitVec 7) (s : State) : Host.Outcome State Fault Refusal :=
  s.mOp c sl (.pst a pr pinc dcl ddie pofs)
/-- ESA (R110, R111, R113). -/
def execEsa (c : CoreIx) (sl : MSlot) (a : MAddr) (slot : BitVec 5) (first wide : Bool) (sofs : BitVec 4) (s : State) :
    Host.Outcome State Fault Refusal :=
  s.mOp c sl (.esa a slot first wide sofs)
/-- PRSET (R109). -/
def execPrset (c : CoreIx) (sl : MSlot) (pr : BitVec 2) (val : BitVec 16) (s : State) :
    Host.Outcome State Fault Refusal :=
  s.mOp c sl (.prset pr val)

/-- A single E-slot operation. -/
def State.eOp (s : State) (c : CoreIx) (op : EOp) : Host.Outcome State Fault Refusal :=
  if (checkE op).isSome then .refused .illegalEncoding
  else .next (s.slotOp c fun s => (s.setCore c (issueE (s.core c) (s.bc c) op)).opEvents c (isMmv op) false false)

/-- MMV (R51). -/
def execMmv (c : CoreIx) (f : MmvF) (s : State) : Host.Outcome State Fault Refusal := s.eOp c (.mmv f)
/-- SPEC (R52). -/
def execSpec (c : CoreIx) (mask : BitVec 4) (set : BitVec 3) (tspec : BitVec 16) (s : State) :
    Host.Outcome State Fault Refusal :=
  s.eOp c (.spec mask set tspec)
/-- ZERO (R52). -/
def execZero (c : CoreIx) (mask : BitVec 4) (sets : BitVec 8) (s : State) : Host.Outcome State Fault Refusal :=
  s.eOp c (.zero mask sets)

end Sys2Proof.Machine
end

