-- ==== Sys2Proof/Machine/RegIo.lean ====
section
/-! DEFINITION. Host accesses to registers: windows, sizes, access types and the registers whose writes act (R9 to R12,
R334 to R340, R356, R392, R409, R432). -/
namespace Sys2Proof.Machine

/-! ## Where an access goes (R334 to R336, R338) -/

/-- Address of the register an access reaches. -/
def accAddr (x : HostAcc) : Nat :=
  let o := x.offset.toNat / 8 * 8
  if x.bar2 then o else 0x1000000 * (x.fn.val + 1) + o
/-- The access lies in its BAR (R332). -/
def accInBar (x : HostAcc) : Bool := decide (x.offset.toNat < if x.bar2 then 0x1000000 else 0x10000)
/-- Naturally aligned, of 4 or 8 bytes (R336). -/
def accSized (x : HostAcc) : Bool := (x.size == 4 || x.size == 8) && x.offset.toNat % x.size == 0
/-- The bits an access covers, and its value in place. -/
def accMask (x : HostAcc) : Reg64 :=
  if x.size = 8 then BitVec.allOnes 64 else if x.offset.toNat % 8 = 0 then 0xFFFFFFFF else 0xFFFFFFFF00000000
def accVal (x : HostAcc) (v : BitVec 64) : Reg64 :=
  if x.size = 8 then v else if x.offset.toNat % 8 = 0 then v &&& 0xFFFFFFFF else v <<< 32
/-- Pair of a core, cluster or pair block. -/
def pairOfAddr (a : Nat) : Option Nat :=
  if a < 0x800000 then some (a / 0x1000 / 256)
  else if a < 0x900000 then some ((a - 0x800000) / 0x1000 / 32)
  else if a < 0x908000 then some ((a - 0x900000) / 0x1000)
  else none
/-- The function's window reaches the address (R335). -/
def State.inWindow (s : State) (fn a : Nat) : Bool :=
  fn == 0 || match pairOfAddr a with | some p => s.partOfPair p == fn | none => false
/-- A write by PF0 to a block of a confidential partition (R409). -/
def State.hidden (s : State) (fn a : Nat) : Bool :=
  fn == 0 && match pairOfAddr a with | some p => s.confidential (s.partOfPair p) | none => false
/-- An access outside a window is counted, and an event record is queued for PF0; the manual gives that record no CLASS,
CODE, SUB, ADDR or DETAIL (R335; log entry 1). -/
def State.violate (s : State) (fn : Nat) : State :=
  let v (i : Nat) : Nat := (Config.freeValue (s.free + i)).toNat
  let s := (s.bump HD_FN_STAT HD_FN_STAT_VIOL 1).wf HD_FN_STAT HD_FN_STAT_LAST_FN fn
  { s with free := s.free + 5 }.event (v 0 % 256) (v 1 % 256) 0 (s.ctx fn) 0 (v 2 % 65536) (v 3) (v 4)
/-- An access of another size or alignment is counted (R336). -/
def State.misalign (s : State) (fn : Nat) : State :=
  (s.bump HD_FN_STAT HD_FN_STAT_MISALIGN 1).wf HD_FN_STAT HD_FN_STAT_LAST_FN fn
/-- Registers served during thermal shutdown: those of chapter 18, and PF0's mailbox (R429). -/
def shutServes (fn a : Nat) : Bool :=
  fn == 0 && ((decide (0x970400 ≤ a) && decide (a < 0x970480)) || isEvc a || (pairOfAddr a).any (fun p => a == CD_THERM p) ||
    decide (0x1000000 ≤ a))

/-! ## Doorbells (R340, R342) -/

/-- Opcodes of the catalogue. -/
def opcodes : List Nat :=
  [0x01, 0x02, 0x10, 0x11, 0x12, 0x13, 0x20, 0x21, 0x22, 0x30, 0x31, 0x40, 0x41, 0x42, 0x50, 0x51, 0x60, 0x61, 0x70, 0x71,
   0x80, 0x81, 0x90, 0xA0, 0xA1, 0xB0, 0xB1, 0xB2, 0xB3]
/-- A request header from its bytes (R339). -/
def hdrOf (b : List Byte) : MbHdr :=
  let f (o n : Nat) : Nat := leNat ((b.drop o).take n)
  { opcode := BitVec.ofNat 16 (f 0 2), flags := BitVec.ofNat 8 (f 2 1), part := BitVec.ofNat 8 (f 3 1),
    target := BitVec.ofNat 16 (f 4 2), seq := BitVec.ofNat 16 (f 6 2), length := BitVec.ofNat 32 (f 8 4),
    rsv := BitVec.ofNat 32 (f 12 4), haddr := BitVec.ofNat 64 (f 16 8), hlen := BitVec.ofNat 64 (f 24 8) }
/-- A request taken from its buffer: queued, or completed at once where its header or opcode is bad (R340). -/
def State.take1 (s : State) (src : Nat) (smbSeq : BitVec 8) (b : List Byte) : State :=
  let h := hdrOf b
  let e : MbEnt := { src := src, tick := s.tick, hdr := h, payload := (b.drop 0x20).take h.length.toNat, drop := false, smbSeq := smbSeq }
  if h.bad || !opcodes.contains h.opcode.toNat then s.complete e stBadCommand []
  else s.mbPut e
/-- Request buffer of a function (R338). -/
def reqBase (fn : Nat) : Nat := 0x1000000 * (fn + 1) + 0x1000
def State.reqBytes (s : State) (fn : Nat) : List Byte :=
  (List.range 512).flatMap fun i => leBytes 8 (s.rget (reqBase fn + 8 * i)).toNat
/-- A doorbell (R340). -/
def State.doorbell (s : State) (fn : Nat) : State :=
  if s.rb (HD_MB_STAT fn) HD_MB_STAT_BUSY then s.raise (HD_MB_STAT fn) HD_MB_STAT_DB_IGNORED 1
  else (s.wf (HD_MB_STAT fn) HD_MB_STAT_BUSY 1).take1 fn 0 (s.reqBytes fn)

/-! ## Knot watches (R356, R409) -/

/-- Watches of a function (R338). -/
def watchCount (fn : Nat) : Nat := if fn = 0 then 62 else 246
/-- The function may watch knots of the cluster. -/
def State.watchOk (s : State) (fn cl : Nat) : Bool :=
  let n := s.partOfPair (cl / 32)
  if fn = 0 then !s.confidential n else n == fn
/-- A write of HD_KWATCH_v: `w` is the register after the write, `fired` the FIRED bits it clears. -/
def State.kwatchWrite (s : State) (fn v : Nat) (w : Reg64) : State :=
  let bad := HD_KWATCH_ARM.get w == 1 && !s.watchOk fn (HD_KWATCH_CLUSTER.get w)
  let w := if bad then HD_KWATCH_CFGERR.put (HD_KWATCH_ARM.put w 0) 1 else HD_KWATCH_CFGERR.put w 0
  s.rset (HD_KWATCH fn v) w

/-! ## Writes by access type (R9, R12) -/

/-- The fields of a register that a write sets: RW, and RWL until the lock of LM_CAL_CTL is set. -/
def State.setBitsOf (s : State) (a : Nat) (r : RegRow) : Reg64 :=
  if a = LM_CAL_CTL ∧ s.rb LM_CAL_CTL LM_CAL_CTL_LOCK then r.bits .rw else r.bits .rw ||| r.bits .rwl
/-- The W1C bits of a register that a write may clear: not those the hardware has set in the same tick (R13). -/
def State.clearBits (s : State) (a : Nat) (r : RegRow) : Reg64 := r.bits .w1c &&& ~~~Tab.get 0 s.hwSet a
/-- The register after a write of the bits in `mask`: RW fields set, W1C bits written 1 cleared, the others unchanged. -/
def plainWord (old rw w1c mask v : Reg64) : Reg64 := ((old &&& ~~~(rw &&& mask)) ||| (v &&& rw &&& mask)) &&& ~~~(v &&& w1c &&& mask)
/-- What a write brings to a register that acts on its value: RW bits not written keep their value, WO and W1C bits not
written are 0. -/
def effWord (old rw w1c wo mask v : Reg64) : Reg64 := (old &&& rw &&& ~~~mask) ||| (v &&& mask &&& (rw ||| w1c ||| wo))
/-- An event counter's register after a write (R432, R433): reserved codes store 0; a cluster's SCOPE 9 to 15 stores 8. -/
def evcFix (a : Nat) (w : Reg64) : Reg64 :=
  let top := if a < 0x900000 then 0x15 else if a < 0x930000 then 0x12 else 0x0B
  let w := if HD_EVC_EVENT.get w > top then HD_EVC_EVENT.put w 0 else w
  if a < 0x900000 ∧ HD_EVC_SCOPE.get w > 8 then HD_EVC_SCOPE.put w 8 else w
/-- A host writes an event counter: what it counts in the same tick does not add to the written value (R432). -/
def State.evcWrite (s : State) (a : Nat) (p : Reg64) : State := { s with evcSet := a :: s.evcSet }.rset a (evcFix a p)
/-- A value held to a range. -/
def clampTo (lo hi v : Nat) : Nat := max lo (min hi v)

/-! ## The registers whose writes act -/

/-- A write to a core block at offset `o`: `p` the register after a plain write, `e` the value that acts, `low` whether the
lower half is written. -/
def State.coreWrite (s : State) (fn c o : Nat) (p e : Reg64) (low : Bool) : State :=
  let a := 0x1000 * c + o
  if 0x100 ≤ o ∧ o < 0x180 then
    let ch := (o - 0x100) / 32
    match (o - 0x100) % 32 with
    | 0 => s.ringWrite c ch e
    | 8 =>
      let p := if SH_CH_CTL_PACE.get p = 3 then SH_CH_CTL_PACE.put p 0 else p
      let on := SH_CH_CTL_ENABLE.get p == 1
      if low then (s.rset a (SH_CH_CTL_ENABLE.put p (s.rf a SH_CH_CTL_ENABLE))).enable c ch on else s
    | 24 =>
      if low then
        let s := if SH_CMD_FREE.get e = 1 then s.hostFree c ch (SH_CMD_GEN.get e) (s.fnCtx fn) else s
        s.kick c ch (SH_CMD_KICK.get e) (s.fnCtx fn) 0
      else s
    | _ => s.rset a p
  else if o = 0x180 then (if SH_BUS_RESUME.get e = 1 then s.resumeBus c else s)
  else if 0x200 ≤ o ∧ o < 0x280 then (if s.rb a SH_LB_HELD then s else s.rset a p)
  else s.rset a p
/-- A write to a cluster block. -/
def State.clusterWrite (s : State) (cl o : Nat) (p e : Reg64) (low : Bool) : State :=
  let a := 0x800000 + 0x1000 * cl + o
  if 0x400 ≤ o ∧ o < 0x600 then
    let s := if KN_COUNT_OVF.get e = 1 then s.wf a KN_COUNT_OVF 0 else s
    if low then s.knSet cl ((o - 0x400) / 8) (KN_COUNT_COUNT.get e) else s
  else if 0x600 ≤ o ∧ o < 0x800 then
    let n := KN_ADD_N.get e
    (s.knotAdd cl ((o - 0x600) / 8) n).clEvc cl 0x12 (if n = 0 then 0 else 1)
  else if isEvc a then s.evcWrite a p
  else s.rset a p
/-- A checker operation (R305). -/
def State.chkWrite (s : State) (k : Nat) (p e : Reg64) : State :=
  let s := s.rset (BM_CHK_CTL k) p
  let t := BM_CHK_CTL_TLINE.get p
  let op := BM_CHK_CTL_OP.get e
  if op = 0 then s
  else if op = 7 || s.rb (BM_CHK_RES k) BM_CHK_RES_BUSY then s.raise (BM_CHK_RES k) BM_CHK_RES_IGNORED 1
  else
    match op with
    | 1 => s.chkWriteLine k t
    | 2 => s.chkWriteData k t
    | 3 => s.chkWriteCheck k t
    | 4 => s.chkWriteRaw k t
    | 5 => s.chkReadRaw k t
    | _ => s.chkReadDecode k t ⟨[], [], 0⟩
/-- A write of HD_THERM. -/
def State.thermWrite (s : State) (p e : Reg64) : State :=
  let s := s.rset HD_THERM p
  let s := if HD_THERM_WAS_SHUTDOWN.get e = 1 then { s with wasShut := false } else s
  if HD_THERM_CLEAR.get e = 1 then s.thermClear else s
/-- A write to the Heddle block at offset `o`. -/
def State.heddleWrite (s : State) (o : Nat) (p e : Reg64) : State :=
  let a := 0x970000 + o
  if o = 0x100 then s.dumpSel e
  else if o = 0x420 then s.rset a (HD_PWR_CTL_CAP_W.put p (clampTo 1500 2500 (HD_PWR_CTL_CAP_W.get p)))
  else if o = 0x448 then s.thermWrite p e
  else if o = 0x450 then (s.rset a p).showSens
  else if o = 0x460 then
    let s := s.rset a p
    if HD_EVC_CTL_CLEAR.get e = 1 then s.evcClear else s
  else if o = 0x468 then s.rset a (HD_METER_CTL_EPOCH_S.put p (clampTo 1 3600 (HD_METER_CTL_EPOCH_S.get p)))
  else if isEvc a then s.evcWrite a p
  else s.rset a p
/-- A write to a port's XP_PORT_CTL (R204). -/
def State.portWrite (s : State) (x : Nat) (e : Reg64) : State :=
  let s := s.portEnable x (XP_PORT_CTL_ENABLE.get e == 1)
  let s := if XP_PORT_CTL_RESTART.get e = 1 then s.portRestart x else s
  if XP_PORT_CTL_REKEY.get e = 1 then s.rekeyStart x else s
/-- A write to BAR0 of a function. -/
def State.bar0Write (s : State) (fn o : Nat) (p e : Reg64) : State :=
  let a := 0x1000000 * (fn + 1) + o
  if o = 0 then
    let s := s.rset a p
    if HD_MB_CTL_DOORBELL.get e = 1 then s.doorbell fn else s
  else if 0x8000 ≤ o then (if (o - 0x8000) / 16 < watchCount fn then s.kwatchWrite fn ((o - 0x8000) / 16) p else s)
  else s.rset a p
/-- A write to the request buffer (R340). -/
def State.bufWrite (s : State) (fn a : Nat) (mask v : Reg64) : State :=
  if s.rb (HD_MB_STAT fn) HD_MB_STAT_BUSY then s.raise (HD_MB_STAT fn) HD_MB_STAT_WR_DISCARD 1
  else s.rset a ((s.rget a &&& ~~~mask) ||| (v &&& mask))
/-- A write of the bits in `mask` to the register at an address, by a function (R9). -/
def State.regWrite (s : State) (fn a : Nat) (mask v : Reg64) : State :=
  let b := blkOf a
  match regRow? a with
  | none =>
    if b.1 = .bar0 ∧ 0x1000 ≤ b.2 ∧ b.2 < 0x2000 then s.bufWrite (a / 0x1000000 - 1) a mask v else s
  | some r =>
    let rw := s.setBitsOf a r
    let w1c := s.clearBits a r
    let p := plainWord (s.rget a) rw w1c mask v
    let e := effWord (s.rget a) rw w1c (r.bits .wo) mask v
    let low := mask.getLsbD 0
    match b.1 with
    | .core => s.coreWrite fn (a / 0x1000) b.2 p e low
    | .cluster => s.clusterWrite ((a - 0x800000) / 0x1000) b.2 p e low
    | .pair =>
      if b.2 = 0 then s.rset a (CD_GEAR_CTL_HOST_REQ.put p (min 24 (CD_GEAR_CTL_HOST_REQ.get p))) else s.rset a p
    | .site =>
      if b.2 = 0x118 then (if h : (a - 0x910000) / 0x1000 < 32 then (if low then s.dacWrite ⟨_, h⟩ e else s) else s)
      else if isEvc a then s.evcWrite a p
      else s.rset a p
    | .optical =>
      if a = LM_CAL_CTL then s.rset a (LM_CAL_CTL_PERIOD.put p (max 1 (LM_CAL_CTL_PERIOD.get p))) else s.rset a p
    | .selvedge => if b.2 % 32 = 0 then (if low then s.selWrite (b.2 / 32) e else s) else s.rset a p
    | .port => if b.2 = 0 then (if low then s.portWrite ((a - 0x940000) / 0x1000) e else s) else s.rset a p
    | .bulk =>
      if b.2 = 0x18 then s.rset a (BM_SCRUB_INTERVAL_US.put p (max 1 (BM_SCRUB_INTERVAL_US.get p)))
      else if b.2 = 0x30 then s.chkWrite ((a - 0x960000) / 0x1000) p e
      else s.rset a p
    | .heddle => s.heddleWrite b.2 p e
    | .bar0 => s.bar0Write (a / 0x1000000 - 1) b.2 p e
    | _ => s.rset a p

/-! ## Reads -/

/-- LM_RING_DATA of the ring a site's LM_RING_SEL selects (R173). -/
def State.ringData (s : State) (site : SiteIx) : Reg64 :=
  match s.selRing site with
  | none => LM_RING_DATA_NONE.put 0 1
  | some r =>
    let k := s.ring r.key
    let w := LM_RING_DATA_LOCK.put (LM_RING_DATA_HEATER.put 0 k.heater) k.lock
    let w := LM_RING_DATA_INSERVICE.put (LM_RING_DATA_STALE.put w (k.stale || s.lightHold).toNat) (s.lane (laneKey r.key)).insv.toNat
    LM_RING_DATA_MON.put (LM_RING_DATA_DACMODE.put w (s.inDac r.key).toNat) (k.mon % 65536).toNat
/-- What a read of a register returns: WO fields and places without a register read 0 (R9, R11, R334). -/
def State.regRead (s : State) (a : Nat) : Reg64 :=
  if a = HD_TIME_STAT then HD_TIME_STAT_BOUND_NS.put (s.rget a) s.boundNs
  else if h : 0x910000 ≤ a ∧ a < 0x930000 ∧ a % 0x1000 = 0x110 then s.ringData ⟨(a - 0x910000) / 0x1000, by omega⟩
  else
    match regRow? a with
    | some r => s.rget a &&& ~~~r.bits .wo
    | none => s.rget a

end Sys2Proof.Machine
end

