-- ==== Sys2Proof/Machine/Host.lean ====
section
/-! DEFINITION. The host interface: register accesses, doorbells, function resets, knot watches, events and tethers
(R333 to R357, R385). -/
namespace Sys2Proof.Machine

/-! ## Register accesses (R334 to R336, R340) -/

/-- The Heddle answers the function's access at an address. -/
def State.serves (s : State) (fn a : Nat) : Bool := !s.inReset && (!s.shutdown || shutServes fn a)
/-- REGISTER_WRITE (R9, R335, R336, R409). -/
def execRegisterWrite (x : HostAcc) (val : BitVec 64) (s : State) : Host.Outcome State Fault Refusal :=
  let a := accAddr x
  if !accInBar x || !s.serves x.fn a then .next s
  else if !accSized x then .next (s.misalign x.fn)
  else if x.bar2 && (!s.inWindow x.fn a || s.hidden x.fn a) then .next (s.violate x.fn)
  else .next (s.regWrite x.fn a (accMask x) (accVal x val))
/-- REGISTER_READ (R335, R336): the data stands in `readOut`. -/
def execRegisterRead (x : HostAcc) (s : State) : Host.Outcome State Fault Refusal :=
  let a := accAddr x
  let none_ := { s with readOut := 0 }
  if !accInBar x || !s.serves x.fn a then .next none_
  else if !accSized x then .next (none_.misalign x.fn)
  else if x.bar2 && !s.inWindow x.fn a then .next (none_.violate x.fn)
  else
    let w := s.regRead a
    .next { s with readOut := if x.size = 8 then w else (if x.offset.toNat % 8 = 0 then w &&& 0xFFFFFFFF else w >>> 32) }
/-- DOORBELL (R340). -/
def execDoorbell (fn : FnIx) (s : State) : Host.Outcome State Fault Refusal :=
  if s.inReset then .next s else .next (s.doorbell fn)

/-! ## Knot watches and events (R354 to R356) -/

/-- HD_KWATCH_WRITE (R356, R409): a write of a whole watch register. -/
def execHdKwatchWrite (fn : FnIx) (v : Fin 246) (val : BitVec 64) (s : State) : Host.Outcome State Fault Refusal :=
  let a := HD_KWATCH fn v
  if !s.serves fn a ∨ v.val ≥ watchCount fn then .next s else .next (s.regWrite fn a (BitVec.allOnes 64) val)
/-- KNOT_WATCH_FIRE (R355, R356). -/
def execKnotWatchFire (fn : FnIx) (v : Fin 246) (s : State) : Host.Outcome State Fault Refusal :=
  let a := HD_KWATCH fn v
  if s.rb a HD_KWATCH_ARM ∧ s.knotCount (s.rf a HD_KWATCH_CLUSTER) (s.rf a HD_KWATCH_KNOT) ≥ s.rf a HD_KWATCH_THRESH then
    .next (((s.raise a HD_KWATCH_FIRED 1).wf a HD_KWATCH_ARM 0).sendMsi fn (2 + v))
  else .next s
/-- EVENT_IRQ (R354, R355). -/
def execEventIrq (fn : FnIx) (s : State) : Host.Outcome State Fault Refusal :=
  if s.evPend.getLsbD fn then .next ({ s with evPend := s.evPend &&& ~~~BitVec.ofNat 9 (2 ^ fn.val) }.sendMsi fn 1) else .next s

/-! ## Function resets (R333, R385, R403) -/

/-- The responses of a function's commands will be discarded. -/
def State.dropAnswers (s : State) (fn : Nat) : State :=
  { s with
    mbQueue := s.mbQueue.map fun e => if e.src = fn then { e with drop := true } else e
    late := s.late.map fun e => if e.2.1.src = fn then (e.1, { e.2.1 with drop := true }, e.2.2) else e
    forwarded := if fn = 0 then s.forwarded.map fun f => (f.1, f.2.1, true) else s.forwarded }
/-- A Function Level Reset of one function (R333). -/
def State.flr (s : State) (fn : Nat) : State :=
  let b := 0x1000000 * (fn + 1)
  { (s.dropAnswers fn).regsReset b (b + 0x10000) with evPend := s.evPend &&& ~~~BitVec.ofNat 9 (2 ^ fn) }
/-- FUNCTION_LEVEL_RESET (R333, R403): that of PF0 ends the SPDM sessions of the DOE. -/
def execFunctionLevelReset (fn : FnIx) (s : State) : Host.Outcome State Fault Refusal :=
  let s := s.flr fn
  .next (if fn.val = 0 then { s with spdm := s.spdm.filter fun x => x.1 } else s)
/-- PERST_N (R385, R403). -/
def execPerstN (s : State) : Host.Outcome State Fault Refusal :=
  .next { (List.range 9).foldl (fun s fn => s.flr fn) s with ide := false, spdm := [] }

/-! ## Tethers (R347 to R353) -/

/-- Control-space bytes (R348). -/
def ctlBase : Nat := 3 * 2 ^ 48
/-- TETHER_DOORBELL (R349): the tethered package takes the forwarded request. -/
def execTetherDoorbell (src : BitVec 14) (s : State) : Host.Outcome State Fault Refusal :=
  if s.tetherLead ≠ some src.toNat ∨ !s.awake then .next s
  else
    let s := s.hdEvc 0x0B 1
    if s.mbQueue.any (fun e => e.src == 10) || s.late.any (fun e => e.2.1.src == 10) then .next s
    else .next (s.take1 10 0 (s.bytes ctlBase 4096))
/-- RETURN_DOORBELL (R349): the lead copies the response into PF0's mailbox. -/
def execReturnDoorbell (src : BitVec 14) (s : State) : Host.Outcome State Fault Refusal :=
  match s.forwarded.find? (fun f => f.1 = src.toNat) with
  | none => .next s
  | some f =>
    let s := { s with forwarded := s.forwarded.erase f }.hdEvc 0x0B 1
    let b := s.bytes (ctlBase + 0x2000) 4096
    let len := leNat ((b.drop 8).take 4)
    .next (if f.2.2 then s else s.putResponse 0 (leNat ((b.drop 6).take 2)) (leNat ((b.drop 2).take 1)) (b.take (32 + len)))
/-- TETHER_EVENT (R353): a tethered package's record, in PF0's queue. -/
def execTetherEvent (src : BitVec 14) (rec_ : FaultRec) (s : State) : Host.Outcome State Fault Refusal :=
  if s.tethers.any fun t => t.node = src.toNat then
    .next ((s.hdEvc 0x0B 1).queueEvent 0 { rec_ with flags := rec_.flags ||| 2 })
  else .next s
/-- The tether to the lead ends; queued tether commands do not run, and the answer of a running one goes nowhere. -/
def State.endTether (s : State) : State :=
  { s.dropAnswers 10 with tetherLead := none, mbQueue := s.mbQueue.filter fun e => e.src ≠ 10 }
/-- The policy accepts a lead (R351). -/
def State.policyTakes (s : State) (node : Nat) : Bool :=
  match s.tetherPolicy with
  | (0, _) => true
  | (2, l) => l == node
  | _ => false
/-- OPEN (R350 to R352): a node answers a lead under its policy; an OPEN from a node of the lead's table is that node's
acceptance. The answers are an OPEN or a CLOSE (log entry 16). -/
def execOpenMsg (src : BitVec 14) (s : State) : Host.Outcome State Fault Refusal :=
  let n := src.toNat
  if !s.awake ∨ !s.ready then .next s
  else
    let s := s.hdEvc 0x0B 1
    if s.tethers.any fun t => t.node = n then
      let ts : List Tether := s.tethers.map fun t => if t.node = n then { t with live := true } else t
      .next { s with tethers := ts }
    else if s.policyTakes n && (s.tetherLead.isNone || s.tetherLead == some n) then
      .next ({ s with tetherLead := some n }.sendTether n 1)
    else .next (s.sendTether n 2)
/-- CLOSE (R350). -/
def execCloseMsg (src : BitVec 14) (s : State) : Host.Outcome State Fault Refusal :=
  if s.tetherLead = some src.toNat then .next (s.hdEvc 0x0B 1).endTether else .next s
/-- HEARTBEAT (R352): the 350 ms run again; TETHER_LOST comes when they have passed. -/
def execHeartbeat (src : BitVec 14) (s : State) : Host.Outcome State Fault Refusal :=
  if s.tetherLead = some src.toNat ∨ (s.tethers.any fun t => t.node = src.toNat) then .next (s.hdEvc 0x0B 1) else .next s
/-- TETHER_HEARTBEAT_SEND (R352): every end of a tether sends one. -/
def execTetherHeartbeatSend (s : State) : Host.Outcome State Fault Refusal :=
  if !s.awake then .next s
  else
    let ns := ((s.tethers.filter fun t => t.live).map fun t => t.node) ++ s.tetherLead.toList
    .next (ns.foldl (fun s n => s.sendTether n 3) s)
/-- TETHER_LOST (R352), at the lead and at the tethered package. -/
def execTetherLost (node : BitVec 14) (s : State) : Host.Outcome State Fault Refusal :=
  let n := node.toNat
  let s := if s.tetherLead = some n then s.endTether else s
  if s.tethers.any fun t => t.node = n ∧ t.live then
    let ts : List Tether := s.tethers.map fun t => if t.node = n then { t with live := false } else t
    let s : State := { s with tethers := ts }
    .next (s.dropForwarded n)
  else .next s
/-- TETHER_REOPEN (R352): the lead sends OPEN again. -/
def execTetherReopen (node : BitVec 14) (s : State) : Host.Outcome State Fault Refusal :=
  if s.awake && s.tethers.any fun t => t.node = node.toNat ∧ !t.live then .next (s.sendTether node.toNat 1) else .next s

end Sys2Proof.Machine
end

