-- ==== Sys2Proof/Machine/Security.lean ====
section
/-! DEFINITION. Security and life cycle: the IDE stream, SPDM, the SMBus and LIFECYCLE_SET (R398 to R412). -/
namespace Sys2Proof.Machine

/-! ## The host link (R403) -/

/-- IDE_INTEGRITY_FAILURE (R403, R412). -/
def execIdeIntegrityFailure (s : State) : Host.Outcome State Fault Refusal :=
  .next ({ s with ide := false }.event 0x0C 0x07 0 0 0 0 0 0)

/-! ## SPDM (R401, R402) -/

/-- Bytes of the measurements, in the order of R401; index 4 is the device draft key of the last S0. -/
def State.measurements (s : State) : List Byte :=
  let f := s.fw.bank s.fw.active
  Config.crypto 17 [] ++ f.digest ++ leBytes 1 f.svn ++ leBytes 1 s.lc.state ++ leBytes 4 s.lc.epoch ++ fitBytes 16 s.ownerHash ++
    ecPublic (draftSecret s.bootLc.1 s.bootLc.2) ++ sha384 (s.lc.keys.flatten ++ (List.range 8).flatMap (fun n => leBytes 4 (Tab.get 0 s.lc.floors (n + 1))) ++
      leBytes 1 s.lc.ide.toNat) ++ sha384 (s.storedCfg.getD []) ++ leBytes 1 s.tetherPolicy.1 ++ leBytes 2 s.tetherPolicy.2 ++
    (List.range 8).flatMap fun n => fitBytes 56 (Tab.get [] s.draftMeas (n + 1))
/-- An answer of the security processor to an SPDM request of a kind; `none` is ERROR (log entry 7). -/
def State.spdmAnswer (s : State) (x : SpdmReq) (kind : Option Nat) (extra : List Byte) : State :=
  let b := match kind with
    | some k => Config.crypto 18 (leBytes 1 k ++ x.body ++ extra)
    | none => Config.crypto 19 x.body
  { s with spdmOut := s.spdmOut ++ [(x.smb, b)] }
/-- An SPDM request of a kind is answered, or answered with ERROR where the security processor does not accept it. -/
def State.spdmPlain (s : State) (x : SpdmReq) (kind : Nat) (extra : List Byte) : Host.Outcome State Fault Refusal :=
  if s.inReset then .next s else .next (s.spdmAnswer x (if x.ok then some kind else none) extra)
/-- Sessions of a transport. -/
def State.sessions (s : State) (smb : Bool) : List (Bool × Nat) := s.spdm.filter fun e => e.1 == smb
/-- A request within a session of its transport. -/
def State.spdmSession (s : State) (x : SpdmReq) (kind : Nat) : Host.Outcome State Fault Refusal :=
  if s.inReset then .next s
  else .next (s.spdmAnswer x (if x.ok && s.sessions x.smb != [] then some kind else none) [])

def execGetVersion (x : SpdmReq) (s : State) : Host.Outcome State Fault Refusal := s.spdmPlain x 0 []
def execGetCapabilities (x : SpdmReq) (s : State) : Host.Outcome State Fault Refusal := s.spdmPlain x 1 []
def execNegotiateAlgorithms (x : SpdmReq) (s : State) : Host.Outcome State Fault Refusal := s.spdmPlain x 2 []
def execGetDigests (x : SpdmReq) (s : State) : Host.Outcome State Fault Refusal := s.spdmPlain x 3 s.aliasKey
/-- The chain of slot 0 ends in the Alias certificate (R402). -/
def execGetCertificate (x : SpdmReq) (s : State) : Host.Outcome State Fault Refusal := s.spdmPlain x 4 s.aliasKey
def execChallenge (x : SpdmReq) (s : State) : Host.Outcome State Fault Refusal := s.spdmPlain x 5 s.aliasKey
/-- GET_MEASUREMENTS (R401): signed by the Alias key. -/
def execGetMeasurements (x : SpdmReq) (s : State) : Host.Outcome State Fault Refusal :=
  s.spdmPlain x 6 (s.measurements ++ s.aliasSign (sha384 s.measurements))
/-- KEY_EXCHANGE (R402): a session of the transport, of which there are at most 2. -/
def execKeyExchange (x : SpdmReq) (s : State) : Host.Outcome State Fault Refusal :=
  if s.inReset then .next s
  else
    match [0, 1].find? fun i => !s.spdm.contains (x.smb, i) with
    | some i => if x.ok then .next ({ s with spdm := s.spdm ++ [(x.smb, i)] }.spdmAnswer x (some 7) []) else .next (s.spdmAnswer x none [])
    | none => .next (s.spdmAnswer x none [])
def execFinish (x : SpdmReq) (s : State) : Host.Outcome State Fault Refusal := s.spdmSession x 8
def execSpdmHeartbeat (x : SpdmReq) (s : State) : Host.Outcome State Fault Refusal := s.spdmSession x 9
def execKeyUpdate (x : SpdmReq) (s : State) : Host.Outcome State Fault Refusal := s.spdmSession x 10
/-- END_SESSION (R402): which session the secured request belongs to is the security processor's (log entry 7). -/
def execEndSession (x : SpdmReq) (s : State) : Host.Outcome State Fault Refusal :=
  let e := (x.smb, leNat (Config.crypto 20 x.body) % 2)
  if s.inReset then .next s
  else if x.ok && s.spdm.contains e then .next ({ s with spdm := s.spdm.filter fun y => y ≠ e }.spdmAnswer x (some 11) [])
  else .next (s.spdmAnswer x none [])
def execChunkSend (x : SpdmReq) (s : State) : Host.Outcome State Fault Refusal := s.spdmPlain x 12 []
def execChunkGet (x : SpdmReq) (s : State) : Host.Outcome State Fault Refusal := s.spdmPlain x 13 []
/-- VENDOR_DEFINED_REQUEST (R402, R403): IDE_KM, on the DOE in a session; `ide` is what it does to the stream's keys:
K_SET_GO, K_SET_STOP, or neither. -/
def execVendorDefinedRequest (x : SpdmReq) (ide : Option Bool) (s : State) : Host.Outcome State Fault Refusal :=
  if s.inReset then .next s
  else if x.ok && !x.smb && s.sessions false != [] then .next ({ s with ide := ide.getD s.ide }.spdmAnswer x (some 14) [])
  else .next (s.spdmAnswer x none [])

/-! ## SMBus (R404) -/

/-- SET_ENDPOINT_ID (R404). -/
def execSetEndpointId (eid : BitVec 8) (s : State) : Host.Outcome State Fault Refusal :=
  if s.inReset then .next s else .next { s with eid := some eid }
/-- An answer on the SMBus. -/
def State.smbSay (s : State) (cmd : Nat) (x : SmbMsg) (st : Nat) (body : List Byte) : State :=
  { s with smbOut := s.smbOut ++ [smbAnswer cmd x.seq.toNat st body] }
/-- Offsets that are readable in every life-cycle state. -/
def smbOpen : List Nat := [0x010, 0x008, 0x448, 0x450, 0x400, 0x408, 0x428, 0x430, 0x438, 0x440, 0x470]
/-- REG_READ of an offset is permitted (R404). -/
def State.smbReads (s : State) (o : Nat) : Bool :=
  smbOpen.contains o || (s.lc.state != 4 && o != 0x100 && !(decide (0x200 ≤ o) && decide (o < 0x400)))
/-- During thermal shutdown only the registers of chapter 18 are served (R429). -/
def State.smbServes (s : State) (o : Nat) : Bool := !s.shutdown || shutServes 0 (0x970000 + o)
/-- REG_READ (R404): while the package is held in reset only HD_RESET_STAT and HD_BRINGUP are answered. -/
def execRegRead (x : SmbMsg) (offset : BitVec 32) (count : BitVec 8) (s : State) : Host.Outcome State Fault Refusal :=
  let o := offset.toNat
  let n := count.toNat
  let os := (List.range n).map fun i => o + 8 * i
  if s.inReset ∧ !os.all [0x010, 0x008].contains then .next s
  else if !x.clean then .next (s.smbSay 1 x stBadCommand [])
  else if o % 8 ≠ 0 ∨ o + 8 * n > 0x1000 then .next (s.smbSay 1 x stAddrInvalid [])
  else if n = 0 ∨ n > 8 then .next (s.smbSay 1 x stBadArgument [])
  else if !os.all s.smbReads then .next (s.smbSay 1 x stAccessDenied [])
  else if !s.inReset && !os.all s.smbServes then .next (s.smbSay 1 x stWrongState [])
  else .next (s.smbSay 1 x stOK (os.flatMap fun o => leBytes 8 (s.regRead (0x970000 + o)).toNat))
/-- Bits that REG_WRITE may write: CLEAR and CLR_REFUSED of HD_THERM, SEL of HD_TSENS, CAP_W of HD_PWR_CTL. -/
def smbMask (o : Nat) : Option Reg64 :=
  if o = 0x448 then some 6 else if o = 0x450 then some 0x7FF else if o = 0x420 then some 0xFFF else none
/-- REG_WRITE (R404, R430). -/
def execRegWrite (x : SmbMsg) (offset : BitVec 32) (val : BitVec 64) (s : State) : Host.Outcome State Fault Refusal :=
  let o := offset.toNat
  if s.inReset then .next s
  else if !x.clean then .next (s.smbSay 2 x stBadCommand [])
  else if o % 8 ≠ 0 ∨ o + 8 > 0x1000 then .next (s.smbSay 2 x stAddrInvalid [])
  else
    match smbMask o with
    | some k =>
      if s.lc.state = 4 then .next (s.smbSay 2 x stAccessDenied [])
      else
        let v := val &&& k
        .next ((s.regWrite 0 (0x970000 + o) (BitVec.allOnes 64) v).smbSay 2 x stOK [])
    | none => .next (s.smbSay 2 x stAccessDenied [])
/-- MAILBOX commands that the SMBus may send in a life-cycle state (R404). -/
def smbCommand (state op part : Nat) : Bool :=
  [0x01, 0x02, 0xA1].contains op || (state != 4 && ([0x80, 0x70, 0x51].contains op || (op == 0x90 && part == 0))) ||
    (state < 2 && op == 0xB2)
/-- MAILBOX (R404): a permitted command waits its turn in the SMBus mailbox. -/
def execMailbox (x : SmbMsg) (hdr : MbHdr) (payload : List (BitVec 8)) (s : State) : Host.Outcome State Fault Refusal :=
  if s.inReset then .next s
  else if !x.clean then .next (s.smbSay 3 x stBadCommand [])
  else if hdr.hostbuf ∨ hdr.length.toNat > 1024 then .next (s.smbSay 3 x stBadArgument [])
  else if hdr.tvalid ∨ !smbCommand s.lc.state hdr.opcode.toNat hdr.part.toNat then .next (s.smbSay 3 x stAccessDenied [])
  else if s.mbQueue.any (fun e => e.src == 9) || s.late.any (fun e => e.2.1.src == 9) then .next (s.smbSay 3 x stWrongState [])
  else
    let e : MbEnt := { src := 9, tick := s.tick, hdr := hdr, payload := payload, drop := false, smbSeq := x.seq }
    .next (if hdr.bad then s.complete e stBadCommand [] else s.mbPut e)

/-! ## LIFECYCLE_SET (R410, R411) -/

/-- ARG is a value in its first `n` bytes and zeros. -/
def argOnly (m : Mail) (n : Nat) : Bool := allZero ((m.payload.drop (8 + n)).take (112 - n))
def argBytes (m : Mail) (n : Nat) : List Byte := (m.payload.drop 8).take n
def lcSig (m : Mail) : List Byte := m.payload.drop 120
/-- The signature verifies under a public key (R410). -/
def lcSigned (m : Mail) (key : List Byte) : Bool :=
  ecdsaVerify key (sha384 (leBytes 6 0x434C2D384B4E ++ serial ++ m.payload.take 120)) (lcSig m)
/-- The key that must have signed an action: CLAIM by the key it installs, in BLANK and for QUERY none (R410). -/
def State.lcKey (s : State) (m : Mail) (act : Nat) : Option (List Byte) :=
  if act = 1 then some (argBytes m 97) else if act = 0 ∨ s.lc.state = 0 then none else some s.lc.owner
/-- An action refused for its signature or MGMT_SEQ, with a record (R410, R412). -/
def State.lcDenied (s : State) (m : Mail) (act : Nat) : MbRes :=
  ⟨stAccessDenied, [], s.event 0x0C 0x06 0 0 0 act (m.n 4 4) 0⟩
/-- LIFECYCLE_SET with one ACTION: MGMT_SEQ and signature, the states the action starts from, its form, and its effect. -/
def State.lifecycle (s : State) (m : Mail) (act : Nat) (from_ : List Nat) (form : Bool) (body : State → MbRes) :
    Host.Outcome State Fault Refusal :=
  if m.n 0 1 ≠ act ∧ m.n 0 1 ≤ 10 then .next s
  else
    s.runCmd m 0x70 .pf0 false 216 [] fun s =>
      if m.n 0 1 > 10 then s.refuse stBadArgument
      else if m.n 4 4 ≠ s.lc.seq then s.lcDenied m act
      else
        match s.lcKey m act with
        | some k =>
          if !lcSigned m k then s.lcDenied m act
          else if !from_.contains s.lc.state then s.refuse stWrongState
          else if m.n 1 3 ≠ 0 ∨ !form then s.refuse stBadArgument
          else body s
        | none =>
          if !from_.contains s.lc.state then s.refuse stWrongState
          else if m.n 1 3 ≠ 0 ∨ !form ∨ !allZero (lcSig m) then s.refuse stBadArgument
          else body s
/-- An accepted action other than QUERY steps MGMT_SEQ. -/
def State.lcStep (s : State) (l : LifeCycle) : State := { s with lc := { l with seq := (s.lc.seq + 1) % 2 ^ 32 } }
/-- What a destination wipes in flash (R411). -/
def State.lcWipe (s : State) (dest : Nat) : State :=
  let s := if dest = 0 ∨ dest ≥ 3 then { s with storedCfg := none }.showStored else s
  if dest = 0 then
    { s with tetherPolicy := (0, 0), lc := { s.lc with owner := [], keys := [], floors := [], ide := false } }
  else s
/-- A transition (R411): partitions deleted and epochs closed, the change pending, wipes, LCEPOCH, and a COLD reset 100 µs
after the response. -/
def State.transition (s : State) (act dest : Nat) (owner : Option (List Byte)) : MbRes :=
  if s.anyRunning then s.refuse stWrongState
  else
    let old := s.lc.state
    let s := ((s.parts.map Prod.fst).foldl (fun s n => s.deletePart n) s).closeAllMeters
    let s := s.lcWipe dest
    let l := { s.lc with state := dest, epoch := (s.lc.epoch + 1) % 2 ^ 32, change := some (act, old), owner := owner.getD s.lc.owner }
    ({ s.lcStep l with resetDue := some (3, 5) }).okay
/-- Response of QUERY (R410). -/
def State.lcBytes (s : State) : List Byte :=
  let l := s.lc
  leBytes 1 l.state ++ leBytes 4 l.epoch ++ leBytes 4 l.seq ++ serial ++ fitBytes 16 s.ownerHash ++ leBytes 1 l.keys.length ++
    l.keys.flatMap keyId ++ (List.range 8).flatMap (fun n => leBytes 4 (Tab.get 0 l.floors (n + 1))) ++ leBytes 1 l.ide.toNat
/-- QUERY (R410). -/
def execQuery (m : Mail) (s : State) : Host.Outcome State Fault Refusal :=
  s.lifecycle m 0 [0, 1, 2, 3, 4] (argOnly m 0) fun s => ⟨stOK, s.lcBytes, s⟩
/-- CLAIM (R410). -/
def execClaim (m : Mail) (s : State) : Host.Outcome State Fault Refusal :=
  s.lifecycle m 1 [0] (argOnly m 97) fun s => s.transition 1 1 (some (argBytes m 97))
/-- DEPLOY (R410). -/
def execDeploy (m : Mail) (s : State) : Host.Outcome State Fault Refusal :=
  s.lifecycle m 2 [1] (argOnly m 0) fun s => s.transition 2 2 none
/-- RECALL (R410). -/
def execRecall (m : Mail) (s : State) : Host.Outcome State Fault Refusal :=
  s.lifecycle m 3 [2] (argOnly m 0) fun s => s.transition 3 3 none
/-- RESTORE (R410). -/
def execRestore (m : Mail) (s : State) : Host.Outcome State Fault Refusal :=
  s.lifecycle m 4 [3] (argOnly m 0) fun s => s.transition 4 1 none
/-- RELEASE (R410). -/
def execRelease (m : Mail) (s : State) : Host.Outcome State Fault Refusal :=
  s.lifecycle m 5 [1, 3] (argOnly m 0) fun s => s.transition 5 0 none
/-- RETIRE (R410). -/
def execRetire (m : Mail) (s : State) : Host.Outcome State Fault Refusal :=
  s.lifecycle m 6 [0, 1, 2, 3] (argOnly m 0) fun s => s.transition 6 4 none
/-- KEY_ADD (R410). -/
def execKeyAdd (m : Mail) (s : State) : Host.Outcome State Fault Refusal :=
  s.lifecycle m 7 [1, 2] (argOnly m 97) fun s =>
    if s.lc.keys.length ≥ 8 then s.refuse stNoResource else (s.lcStep { s.lc with keys := s.lc.keys ++ [argBytes m 97] }).okay
/-- KEY_REVOKE (R410). -/
def execKeyRevoke (m : Mail) (s : State) : Host.Outcome State Fault Refusal :=
  s.lifecycle m 8 [1, 2] (argOnly m 8) fun s =>
    if s.lc.keys.all fun k => keyId k ≠ argBytes m 8 then s.refuse stBadArgument
    else (s.lcStep { s.lc with keys := s.lc.keys.filter fun k => keyId k ≠ argBytes m 8 }).okay
/-- FLOOR_SET (R408, R410). -/
def execFloorSet (m : Mail) (s : State) : Host.Outcome State Fault Refusal :=
  s.lifecycle m 9 [1, 2] (argOnly m 5) fun s =>
    let n := m.n 8 1
    let v := m.n 9 4
    if n = 0 ∨ n > 8 ∨ v < Tab.get 0 s.lc.floors n then s.refuse stBadArgument
    else (s.lcStep { s.lc with floors := Tab.set 0 s.lc.floors n v }).okay
/-- IDE_POLICY (R410). -/
def execIdePolicy (m : Mail) (s : State) : Host.Outcome State Fault Refusal :=
  s.lifecycle m 10 [1, 2] (argOnly m 1) fun s =>
    if m.n 8 1 > 1 then s.refuse stBadArgument else (s.lcStep { s.lc with ide := m.n 8 1 == 1 }).okay

end Sys2Proof.Machine
end

