-- ==== Sys2Proof/Machine/Dispatch.lean ====
section
/-! DEFINITION. The dispatch of a command to its meaning, one arm per row of the table. -/
namespace Sys2Proof.Machine

def exec (i : Instr) (s : State) : Host.Outcome State Fault Refusal :=
  match i with
  -- CoreOps
  | .bundleIssue c up => Sys2Proof.Machine.execBundleIssue c up s
  | .vld c sl a v => Sys2Proof.Machine.execVld c sl a v s
  | .vst c sl a v => Sys2Proof.Machine.execVst c sl a v s
  | .tld c sl a bline mask buf => Sys2Proof.Machine.execTld c sl a bline mask buf s
  | .ald c sl a aline mask => Sys2Proof.Machine.execAld c sl a aline mask s
  | .tst c sl a set eng => Sys2Proof.Machine.execTst c sl a set eng s
  | .tla c sl a set eng => Sys2Proof.Machine.execTla c sl a set eng s
  | .arset c sl ar val => Sys2Proof.Machine.execArset c sl ar val s
  | .pld c sl a pr pinc pofs => Sys2Proof.Machine.execPld c sl a pr pinc pofs s
  | .pst c sl a pr pinc dcl ddie pofs => Sys2Proof.Machine.execPst c sl a pr pinc dcl ddie pofs s
  | .esa c sl a slot first wide sofs => Sys2Proof.Machine.execEsa c sl a slot first wide sofs s
  | .prset c sl pr val => Sys2Proof.Machine.execPrset c sl pr val s
  | .mmv c f => Sys2Proof.Machine.execMmv c f s
  | .spec c mask set tspec => Sys2Proof.Machine.execSpec c mask set tspec s
  | .zero c mask sets => Sys2Proof.Machine.execZero c mask sets s
  -- Vector
  | .fadd c f => Sys2Proof.Machine.execFadd c f s
  | .fsub c f => Sys2Proof.Machine.execFsub c f s
  | .fmul c f => Sys2Proof.Machine.execFmul c f s
  | .fma c f => Sys2Proof.Machine.execFma c f s
  | .fmax c f => Sys2Proof.Machine.execFmax c f s
  | .fmin c f => Sys2Proof.Machine.execFmin c f s
  | .fcmplt c f => Sys2Proof.Machine.execFcmplt c f s
  | .fcmpeq c f => Sys2Proof.Machine.execFcmpeq c f s
  | .sel c f => Sys2Proof.Machine.execSel c f s
  | .fabs c f => Sys2Proof.Machine.execFabs c f s
  | .fneg c f => Sys2Proof.Machine.execFneg c f s
  | .fred c f => Sys2Proof.Machine.execFred c f s
  | .fredmax c f => Sys2Proof.Machine.execFredmax c f s
  | .cvt c f => Sys2Proof.Machine.execCvt c f s
  | .tcvt c f => Sys2Proof.Machine.execTcvt c f s
  | .tpack c f => Sys2Proof.Machine.execTpack c f s
  | .tadd c f => Sys2Proof.Machine.execTadd c f s
  | .treq c f => Sys2Proof.Machine.execTreq c f s
  | .tfrom c f => Sys2Proof.Machine.execTfrom c f s
  | .iadd c f => Sys2Proof.Machine.execIadd c f s
  | .isub c f => Sys2Proof.Machine.execIsub c f s
  | .iand c f => Sys2Proof.Machine.execIand c f s
  | .ior c f => Sys2Proof.Machine.execIor c f s
  | .ixor c f => Sys2Proof.Machine.execIxor c f s
  | .ishl c f => Sys2Proof.Machine.execIshl c f s
  | .isra c f => Sys2Proof.Machine.execIsra c f s
  | .movi c f => Sys2Proof.Machine.execMovi c f s
  | .movf c f => Sys2Proof.Machine.execMovf c f s
  | .perm c f => Sys2Proof.Machine.execPerm c f s
  | .exp c vd va q => Sys2Proof.Machine.execExp c vd va q s
  | .rcp c vd va q => Sys2Proof.Machine.execRcp c vd va q s
  | .rsqrt c vd va q => Sys2Proof.Machine.execRsqrt c vd va q s
  -- Control
  | .jmp c target => Sys2Proof.Machine.execJmp c target s
  | .loop c endIx count => Sys2Proof.Machine.execLoop c endIx count s
  | .halt c => Sys2Proof.Machine.execHalt c s
  | .kwait c knot consume n => Sys2Proof.Machine.execKwait c knot consume n s
  | .ksig c knot n => Sys2Proof.Machine.execKsig c knot n s
  | .kset c knot val => Sys2Proof.Machine.execKset c knot val s
  | .lzopen c zmask => Sys2Proof.Machine.execLzopen c zmask s
  | .lzclose c zmask => Sys2Proof.Machine.execLzclose c zmask s
  | .flagmv c vd => Sys2Proof.Machine.execFlagmv c vd s
  | .flagclr c fmask => Sys2Proof.Machine.execFlagclr c fmask s
  | .shkick c ch count => Sys2Proof.Machine.execShkick c ch count s
  | .bound c => Sys2Proof.Machine.execBound c s
  -- Beats
  | .pipelineWriteback c => Sys2Proof.Machine.execPipelineWriteback c s
  | .bankBeat c up => Sys2Proof.Machine.execBankBeat c up s
  | .linkClaim p => Sys2Proof.Machine.execLinkClaim p s
  | .poolBankBeat cl up => Sys2Proof.Machine.execPoolBankBeat cl up s
  | .slotBeat p sl => Sys2Proof.Machine.execSlotBeat p sl s
  | .knotUpdate cl k => Sys2Proof.Machine.execKnotUpdate cl k s
  | .kwaitSuccess c => Sys2Proof.Machine.execKwaitSuccess c s
  | .groupRelease p g => Sys2Proof.Machine.execGroupRelease p g s
  | .waitLimit c => Sys2Proof.Machine.execWaitLimit c s
  | .heldBeatScrub c up => Sys2Proof.Machine.execHeldBeatScrub c up s
  | .landingPortScrub c up => Sys2Proof.Machine.execLandingPortScrub c up s
  | .landingWrite c a => Sys2Proof.Machine.execLandingWrite c a s
  | .landingBufferDrain c z => Sys2Proof.Machine.execLandingBufferDrain c z s
  | .groupStop p g => Sys2Proof.Machine.execGroupStop p g s
  | .partStop part => Sys2Proof.Machine.execPartStop part s
  | .groupDrainEnd p g => Sys2Proof.Machine.execGroupDrainEnd p g s
  | .poolPortAccess cl a up => Sys2Proof.Machine.execPoolPortAccess cl a up s
  | .poolScrub cl up => Sys2Proof.Machine.execPoolScrub cl up s
  -- Gears
  | .gearLatch p => Sys2Proof.Machine.execGearLatch p s
  | .gearAckCheck p acks => Sys2Proof.Machine.execGearAckCheck p acks s
  | .gearBoundary p low => Sys2Proof.Machine.execGearBoundary p low s
  | .voltConfirm p g => Sys2Proof.Machine.execVoltConfirm p g s
  | .voltTimeout p g mv => Sys2Proof.Machine.execVoltTimeout p g mv s
  | .crossingMarginLow cl port => Sys2Proof.Machine.execCrossingMarginLow cl port s
  | .crossingSlip cl port => Sys2Proof.Machine.execCrossingSlip cl port s
  -- Weave
  | .warpPacketSend site d busy => Sys2Proof.Machine.execWarpPacketSend site d busy s
  | .warpPacketReceive site wg src pk marked => Sys2Proof.Machine.execWarpPacketReceive site wg src pk marked s
  | .warpAckSend site d busy => Sys2Proof.Machine.execWarpAckSend site d busy s
  | .warpReplayTimeout site d => Sys2Proof.Machine.execWarpReplayTimeout site d s
  | .weftFrameReceive f lanes marked => Sys2Proof.Machine.execWeftFrameReceive f lanes marked s
  | .laneFlood l meas => Sys2Proof.Machine.execLaneFlood l meas s
  | .phaseSwitchRequest part slot byHeddle => Sys2Proof.Machine.execPhaseSwitchRequest part slot byHeddle s
  | .phaseSwitchSettled part => Sys2Proof.Machine.execPhaseSwitchSettled part s
  | .phaseSwitchVerify part meas => Sys2Proof.Machine.execPhaseSwitchVerify part meas s
  | .laneMapStep l step => Sys2Proof.Machine.execLaneMapStep l step s
  -- Optics
  | .laserTapSample n cdbm => Sys2Proof.Machine.execLaserTapSample n cdbm s
  | .laserOverTimeout n => Sys2Proof.Machine.execLaserOverTimeout n s
  | .ringTrackIteration r step mon => Sys2Proof.Machine.execRingTrackIteration r step mon s
  | .ringSearchEnd r found => Sys2Proof.Machine.execRingSearchEnd r found s
  | .censusRingDone r xs => Sys2Proof.Machine.execCensusRingDone r xs s
  | .censusRestart => Sys2Proof.Machine.execCensusRestart s
  | .lmDacCtlWrite site val => Sys2Proof.Machine.execLmDacCtlWrite site val s
  | .bobbinPoll acks regs => Sys2Proof.Machine.execBobbinPoll acks regs s
  | .bobbinOkLow => Sys2Proof.Machine.execBobbinOkLow s
  | .bobbinTimeout => Sys2Proof.Machine.execBobbinTimeout s
  | .laserEnRetry => Sys2Proof.Machine.execLaserEnRetry s
  | .lightHoldEnter => Sys2Proof.Machine.execLightHoldEnter s
  | .lightHoldExit lost meas => Sys2Proof.Machine.execLightHoldExit lost meas s
  | .lightHoldTimeout => Sys2Proof.Machine.execLightHoldTimeout s
  | .recalStart l => Sys2Proof.Machine.execRecalStart l s
  | .recalDone l pass testFlits => Sys2Proof.Machine.execRecalDone l pass testFlits s
  | .portLaneBerLimit p f m severe => Sys2Proof.Machine.execPortLaneBerLimit p f m severe s
  -- Ports
  | .superframeSend p => Sys2Proof.Machine.execSuperframeSend p s
  | .controlBlockReceive p raw marked => Sys2Proof.Machine.execControlBlockReceive p raw marked s
  | .dataBlockReceive p raw marked => Sys2Proof.Machine.execDataBlockReceive p raw marked s
  | .blockReplayTimeout p => Sys2Proof.Machine.execBlockReplayTimeout p s
  | .retryExhausted p => Sys2Proof.Machine.execRetryExhausted p s
  | .downNoticeEnd p => Sys2Proof.Machine.execDownNoticeEnd p s
  | .portLaneMapStep p tx => Sys2Proof.Machine.execPortLaneMapStep p tx s
  | .keyEpochStep p tx => Sys2Proof.Machine.execKeyEpochStep p tx s
  | .portPacketReceive p claim hdr data => Sys2Proof.Machine.execPortPacketReceive p claim hdr data s
  | .attemptStart p => Sys2Proof.Machine.execAttemptStart p s
  | .alignDone p => Sys2Proof.Machine.execAlignDone p s
  | .attemptStepLimit p light => Sys2Proof.Machine.execAttemptStepLimit p light s
  | .train p msg => Sys2Proof.Machine.execTrain p msg s
  | .exchange p msg => Sys2Proof.Machine.execExchange p msg s
  | .exchangeAck p msg => Sys2Proof.Machine.execExchangeAck p msg s
  | .keyx p msg => Sys2Proof.Machine.execKeyx p msg s
  | .rekeyMessage p msg => Sys2Proof.Machine.execRekeyMessage p msg s
  | .portActive p => Sys2Proof.Machine.execPortActive p s
  | .portEnable p on => Sys2Proof.Machine.execPortEnable p on s
  | .restart p => Sys2Proof.Machine.execRestart p s
  | .rekey p => Sys2Proof.Machine.execRekey p s
  | .hbSend n => Sys2Proof.Machine.execHbSend n s
  | .heartbeatMiss n path => Sys2Proof.Machine.execHeartbeatMiss n path s
  | .switchOver n => Sys2Proof.Machine.execSwitchOver n s
  | .switch n => Sys2Proof.Machine.execSwitch n s
  | .selftestStart n => Sys2Proof.Machine.execSelftestStart n s
  | .selftestDone n => Sys2Proof.Machine.execSelftestDone n s
  | .xpSelCtlWrite n val => Sys2Proof.Machine.execXpSelCtlWrite n val s
  -- Fabric
  | .read a => Sys2Proof.Machine.execRead a s
  | .write a => Sys2Proof.Machine.execWrite a s
  | .copy a => Sys2Proof.Machine.execCopy a s
  | .add a => Sys2Proof.Machine.execAdd a s
  | .min a => Sys2Proof.Machine.execMin a s
  | .max a => Sys2Proof.Machine.execMax a s
  | .cas a => Sys2Proof.Machine.execCas a s
  | .swap a => Sys2Proof.Machine.execSwap a s
  | .fwdWrite a => Sys2Proof.Machine.execFwdWrite a s
  | .rspReceive pk => Sys2Proof.Machine.execRspReceive pk s
  | .filterFill node fwd => Sys2Proof.Machine.execFilterFill node fwd s
  | .reissue q => Sys2Proof.Machine.execReissue q s
  | .timeout q => Sys2Proof.Machine.execTimeout q s
  | .quarantineEnd q => Sys2Proof.Machine.execQuarantineEnd q s
  | .orderHoldRelease node fwd => Sys2Proof.Machine.execOrderHoldRelease node fwd s
  | .arbDecision r => Sys2Proof.Machine.execArbDecision r s
  | .arbBackoffEnd r x => Sys2Proof.Machine.execArbBackoffEnd r x s
  -- Collectives
  | .csend d => Sys2Proof.Machine.execCsend d s
  | .crecv d => Sys2Proof.Machine.execCrecv d s
  | .ccomb d => Sys2Proof.Machine.execCcomb d s
  | .data site pk => Sys2Proof.Machine.execData site pk s
  | .grant site pk => Sys2Proof.Machine.execGrant site pk s
  | .ack site pk => Sys2Proof.Machine.execAck site pk s
  | .rej site pk => Sys2Proof.Machine.execRej site pk s
  | .ready p slot => Sys2Proof.Machine.execReady p slot s
  | .switchOutcome part slot => Sys2Proof.Machine.execSwitchOutcome part slot s
  | .readyTimeout part => Sys2Proof.Machine.execReadyTimeout part s
  | .segmentReceive p wg => Sys2Proof.Machine.execSegmentReceive p wg s
  | .resendRequest p wg => Sys2Proof.Machine.execResendRequest p wg s
  | .mcastRetry p x half => Sys2Proof.Machine.execMcastRetry p x half s
  | .streamTimeout p x => Sys2Proof.Machine.execStreamTimeout p x s
  | .combTimeout site x => Sys2Proof.Machine.execCombTimeout site x s
  | .streamComplete p x => Sys2Proof.Machine.execStreamComplete p x s
  | .loomInputWrite p x chunk => Sys2Proof.Machine.execLoomInputWrite p x chunk s
  -- Bulk
  | .bulkLineRead k n e => Sys2Proof.Machine.execBulkLineRead k n e s
  | .bulkWrite k n mask gran e => Sys2Proof.Machine.execBulkWrite k n mask gran e s
  | .writeBufferDrain k n => Sys2Proof.Machine.execWriteBufferDrain k n s
  | .rd k p u e => Sys2Proof.Machine.execRd k p u e s
  | .wr k p u gran e => Sys2Proof.Machine.execWr k p u gran e s
  | .rdata p k u gran => Sys2Proof.Machine.execRdata p k u gran s
  | .wack p k u => Sys2Proof.Machine.execWack p k u s
  | .ackonly p k toPair u => Sys2Proof.Machine.execAckonly p k toPair u s
  | .standingResendTimeout p k byPair => Sys2Proof.Machine.execStandingResendTimeout p k byPair s
  | .standingReportRepeat p k byPair => Sys2Proof.Machine.execStandingReportRepeat p k byPair s
  | .bulkScrub k e => Sys2Proof.Machine.execBulkScrub k e s
  | .remap k q row => Sys2Proof.Machine.execRemap k q row s
  | .bulkSelftest k ev => Sys2Proof.Machine.execBulkSelftest k ev s
  | .bulkSelftestResume k => Sys2Proof.Machine.execBulkSelftestResume k s
  | .packageFillDone => Sys2Proof.Machine.execPackageFillDone s
  | .regionFillDone part => Sys2Proof.Machine.execRegionFillDone part s
  | .writeLine k t => Sys2Proof.Machine.execWriteLine k t s
  | .writeData k t => Sys2Proof.Machine.execWriteData k t s
  | .writeCheck k t => Sys2Proof.Machine.execWriteCheck k t s
  | .writeRaw k t => Sys2Proof.Machine.execWriteRaw k t s
  | .readRaw k t => Sys2Proof.Machine.execReadRaw k t s
  | .readDecode k t e => Sys2Proof.Machine.execReadDecode k t e s
  -- Shuttle
  | .shRingWrite c ch val => Sys2Proof.Machine.execShRingWrite c ch val s
  | .kick c ch fn count => Sys2Proof.Machine.execKick c ch fn count s
  | .hostFree c ch fn gen => Sys2Proof.Machine.execHostFree c ch fn gen s
  | .channelEnable c ch on => Sys2Proof.Machine.execChannelEnable c ch on s
  | .descriptorStart c ch => Sys2Proof.Machine.execDescriptorStart c ch s
  | .fence c ch acq => Sys2Proof.Machine.execFence c ch acq s
  | .inv c ch addr len => Sys2Proof.Machine.execInv c ch addr len s
  | .move c ch m => Sys2Proof.Machine.execMove c ch m s
  | .take c ch buf => Sys2Proof.Machine.execTake c ch buf s
  | .free c ch tgt => Sys2Proof.Machine.execFree c ch tgt s
  | .nop c ch => Sys2Proof.Machine.execNop c ch s
  | .descriptorComplete c ch slot => Sys2Proof.Machine.execDescriptorComplete c ch slot s
  | .resume c => Sys2Proof.Machine.execResume c s
  | .channelStopped c ch => Sys2Proof.Machine.execChannelStopped c ch s
  | .knCountWrite cl k val => Sys2Proof.Machine.execKnCountWrite cl k val s
  | .knAddWrite cl k n => Sys2Proof.Machine.execKnAddWrite cl k n s
  | .shuttleTurn c ch room => Sys2Proof.Machine.execShuttleTurn c ch room s
  -- Mailbox
  | .info m => Sys2Proof.Machine.execInfo m s
  | .logRead m => Sys2Proof.Machine.execLogRead m s
  | .partitionCreate m => Sys2Proof.Machine.execPartitionCreate m s
  | .partitionDelete m => Sys2Proof.Machine.execPartitionDelete m s
  | .partitionReset m failed => Sys2Proof.Machine.execPartitionReset m failed s
  | .partitionQuery m => Sys2Proof.Machine.execPartitionQuery m s
  | .draftLoad m img fault => Sys2Proof.Machine.execDraftLoad m img fault s
  | .draftStart m => Sys2Proof.Machine.execDraftStart m s
  | .draftStop m => Sys2Proof.Machine.execDraftStop m s
  | .weftSlotWrite m => Sys2Proof.Machine.execWeftSlotWrite m s
  | .weftStandingSet m => Sys2Proof.Machine.execWeftStandingSet m s
  | .routeTableSet m => Sys2Proof.Machine.execRouteTableSet m s
  | .fabricTimeoutSet m => Sys2Proof.Machine.execFabricTimeoutSet m s
  | .nodeDeadSet m => Sys2Proof.Machine.execNodeDeadSet m s
  | .gearSet m => Sys2Proof.Machine.execGearSet m s
  | .packageReset m => Sys2Proof.Machine.execPackageReset m s
  | .fwWrite m img => Sys2Proof.Machine.execFwWrite m img s
  | .fwActivate m => Sys2Proof.Machine.execFwActivate m s
  | .draftKeyGet m => Sys2Proof.Machine.execDraftKeyGet m s
  | .timeGet m => Sys2Proof.Machine.execTimeGet m s
  | .timeStepArm m => Sys2Proof.Machine.execTimeStepArm m s
  | .timeStepDelta m => Sys2Proof.Machine.execTimeStepDelta m s
  | .timeStepCancel m => Sys2Proof.Machine.execTimeStepCancel m s
  | .meterRead m => Sys2Proof.Machine.execMeterRead m s
  | .bringupStart m => Sys2Proof.Machine.execBringupStart m s
  | .bringupReport m => Sys2Proof.Machine.execBringupReport m s
  | .tetherAdd m answer => Sys2Proof.Machine.execTetherAdd m answer s
  | .tetherRemove m => Sys2Proof.Machine.execTetherRemove m s
  | .tetherPolicySet m => Sys2Proof.Machine.execTetherPolicySet m s
  | .tetherList m => Sys2Proof.Machine.execTetherList m s
  -- Host
  | .tetherDoorbell src => Sys2Proof.Machine.execTetherDoorbell src s
  | .returnDoorbell src => Sys2Proof.Machine.execReturnDoorbell src s
  | .tetherEvent src rec => Sys2Proof.Machine.execTetherEvent src rec s
  | .openMsg src => Sys2Proof.Machine.execOpenMsg src s
  | .closeMsg src => Sys2Proof.Machine.execCloseMsg src s
  | .heartbeat src => Sys2Proof.Machine.execHeartbeat src s
  | .tetherHeartbeatSend => Sys2Proof.Machine.execTetherHeartbeatSend s
  | .tetherLost node => Sys2Proof.Machine.execTetherLost node s
  | .tetherReopen node => Sys2Proof.Machine.execTetherReopen node s
  | .functionLevelReset fn => Sys2Proof.Machine.execFunctionLevelReset fn s
  | .perstN => Sys2Proof.Machine.execPerstN s
  | .hdKwatchWrite fn v val => Sys2Proof.Machine.execHdKwatchWrite fn v val s
  | .knotWatchFire fn v => Sys2Proof.Machine.execKnotWatchFire fn v s
  | .eventIrq fn => Sys2Proof.Machine.execEventIrq fn s
  | .registerWrite x val => Sys2Proof.Machine.execRegisterWrite x val s
  | .doorbell fn => Sys2Proof.Machine.execDoorbell fn s
  | .registerRead x => Sys2Proof.Machine.execRegisterRead x s
  -- Bringup
  | .s0Newt r => Sys2Proof.Machine.execS0Newt r s
  | .s1Host rate width ok => Sys2Proof.Machine.execS1Host rate width ok s
  | .s2Clocks pll failed => Sys2Proof.Machine.execS2Clocks pll failed s
  | .s3Dies failed => Sys2Proof.Machine.execS3Dies failed s
  | .s4Bulk ids => Sys2Proof.Machine.execS4Bulk ids s
  | .s5Light acks => Sys2Proof.Machine.execS5Light acks s
  | .s6Weave lanes meas => Sys2Proof.Machine.execS6Weave lanes meas s
  | .s7Cores bcast cores => Sys2Proof.Machine.execS7Cores bcast cores s
  | .s8Config => Sys2Proof.Machine.execS8Config s
  | .s9Ports waited => Sys2Proof.Machine.execS9Ports waited s
  | .s10Ready => Sys2Proof.Machine.execS10Ready s
  | .timeLimit => Sys2Proof.Machine.execTimeLimit s
  -- Resets
  | .warmReset => Sys2Proof.Machine.execWarmReset s
  | .coldReset => Sys2Proof.Machine.execColdReset s
  | .powerOn => Sys2Proof.Machine.execPowerOn s
  | .powerGoodFall input => Sys2Proof.Machine.execPowerGoodFall input s
  | .watchdog => Sys2Proof.Machine.execWatchdog s
  | .hardResetNFall ns starts => Sys2Proof.Machine.execHardResetNFall ns starts s
  | .hardResetNHeld => Sys2Proof.Machine.execHardResetNHeld s
  | .hardResetNRelease => Sys2Proof.Machine.execHardResetNRelease s
  | .hang part => Sys2Proof.Machine.execHang part s
  | .dumpWrite part => Sys2Proof.Machine.execDumpWrite part s
  | .hdDumpSelWrite val => Sys2Proof.Machine.execHdDumpSelWrite val s
  | .summaryWindowEnd => Sys2Proof.Machine.execSummaryWindowEnd s
  | .logFlashWrite => Sys2Proof.Machine.execLogFlashWrite s
  -- Security
  | .ideIntegrityFailure => Sys2Proof.Machine.execIdeIntegrityFailure s
  | .getVersion x => Sys2Proof.Machine.execGetVersion x s
  | .getCapabilities x => Sys2Proof.Machine.execGetCapabilities x s
  | .negotiateAlgorithms x => Sys2Proof.Machine.execNegotiateAlgorithms x s
  | .getDigests x => Sys2Proof.Machine.execGetDigests x s
  | .getCertificate x => Sys2Proof.Machine.execGetCertificate x s
  | .challenge x => Sys2Proof.Machine.execChallenge x s
  | .getMeasurements x => Sys2Proof.Machine.execGetMeasurements x s
  | .keyExchange x => Sys2Proof.Machine.execKeyExchange x s
  | .finish x => Sys2Proof.Machine.execFinish x s
  | .spdmHeartbeat x => Sys2Proof.Machine.execSpdmHeartbeat x s
  | .keyUpdate x => Sys2Proof.Machine.execKeyUpdate x s
  | .endSession x => Sys2Proof.Machine.execEndSession x s
  | .chunkSend x => Sys2Proof.Machine.execChunkSend x s
  | .chunkGet x => Sys2Proof.Machine.execChunkGet x s
  | .vendorDefinedRequest x ide => Sys2Proof.Machine.execVendorDefinedRequest x ide s
  | .setEndpointId eid => Sys2Proof.Machine.execSetEndpointId eid s
  | .regRead x offset count => Sys2Proof.Machine.execRegRead x offset count s
  | .regWrite x offset val => Sys2Proof.Machine.execRegWrite x offset val s
  | .mailbox x hdr payload => Sys2Proof.Machine.execMailbox x hdr payload s
  | .query m => Sys2Proof.Machine.execQuery m s
  | .claim m => Sys2Proof.Machine.execClaim m s
  | .deploy m => Sys2Proof.Machine.execDeploy m s
  | .recall m => Sys2Proof.Machine.execRecall m s
  | .restore m => Sys2Proof.Machine.execRestore m s
  | .release m => Sys2Proof.Machine.execRelease m s
  | .retire m => Sys2Proof.Machine.execRetire m s
  | .keyAdd m => Sys2Proof.Machine.execKeyAdd m s
  | .keyRevoke m => Sys2Proof.Machine.execKeyRevoke m s
  | .floorSet m => Sys2Proof.Machine.execFloorSet m s
  | .idePolicy m => Sys2Proof.Machine.execIdePolicy m s
  -- Newt
  | .ppsInEdge => Sys2Proof.Machine.execPpsInEdge s
  | .ppsInMissing => Sys2Proof.Machine.execPpsInMissing s
  | .slewEnd => Sys2Proof.Machine.execSlewEnd s
  | .ppsOutRise => Sys2Proof.Machine.execPpsOutRise s
  | .ppsOutFall => Sys2Proof.Machine.execPpsOutFall s
  | .refclkLost => Sys2Proof.Machine.execRefclkLost s
  | .refclkReturn => Sys2Proof.Machine.execRefclkReturn s
  | .capSample w pairs => Sys2Proof.Machine.execCapSample w pairs s
  | .pwrBrakeAssert => Sys2Proof.Machine.execPwrBrakeAssert s
  | .pwrBrakeRelease => Sys2Proof.Machine.execPwrBrakeRelease s
  | .tempSample x t => Sys2Proof.Machine.execTempSample x t s
  | .stackTempRead k degC => Sys2Proof.Machine.execStackTempRead k degC s
  | .thermReqFall p => Sys2Proof.Machine.execThermReqFall p s
  | .clear => Sys2Proof.Machine.execClear s
  | .evcClear => Sys2Proof.Machine.execEvcClear s
  | .epochClose part => Sys2Proof.Machine.execEpochClose part s
  | .meterCheckpoint => Sys2Proof.Machine.execMeterCheckpoint s

end Sys2Proof.Machine
end

