-- ==== Sys2Proof/Machine/Tick.lean ====
section
/-! DEFINITION. One Loom control tick with no command waiting (R116, R142; log entry 2): fabric time, pair beats, metering,
the counts of elapsed time, and what waits and can go on. Everything else that takes time is a command. -/
namespace Sys2Proof.Machine

/-- Rate of the fabric count in ppb off nominal: the rate correction and, in SLEWING, 50 ppm against the residual; never
below 0.99995 of nominal (R414, R416). -/
def State.ratePpb (s : State) : Int :=
  let slew : Int := if s.timeState = 3 then (if s.clock.r > 0 then -50000 else if s.clock.r < 0 then 50000 else 0) else 0
  max (-50000) (s.clock.ppb + slew)
/-- Fabric time advances by two thirds of a nanosecond at that rate, whole nanoseconds counted (R413, R416). -/
def State.tickTime (s : State) : State :=
  let ph := s.nsPhase + (2 * (1000000000 + s.ratePpb)).toNat
  { s.setNow (s.now + ph / 3000000000) with nsPhase := ph % 3000000000 }

/-- The compute dies of a pair have power (R421). -/
def State.pairPowered (s : State) (p : Nat) : Bool := (s.rget HD_PWR_DOM0).toNat / 2 ^ (8 * p) % 256 != 0
/-- The pair's beat count advances: 40 − CUR beats in 40 ticks (R117, R120); each cluster counts a wall beat (R433). -/
def State.tickBeat (s : State) (p : Nat) : State :=
  if s.pairPowered p then
    let ph := Tab.get 0 s.beatPhase p + (40 - s.rf (CD_GEAR_CTL p) CD_GEAR_CTL_CUR)
    let s : State := { s with beatPhase := Tab.set 0 s.beatPhase p (ph % 40) }
    if ph ≥ 40 then
      let s := s.wf (CD_PAIR_BEAT p) CD_PAIR_BEAT_PB (s.pb p + 1)
      let s := (s.pools.filter fun e => e.1 / 32 = p ∧ e.2.busy).foldl (fun s e => s.servePort e.1) (s.tickGear p)
      (List.range 32).foldl (fun s i =>
        s.evc (CD_EVC (32 * p + i) 0) 8 0x01 (fun sc => decide (sc ≤ 8)) 1) s
    else s
  else s

/-- The open epochs of the partitions and of the package advance (R434): pair time and bulk memory held, by ticks. -/
def State.tickMeters (s : State) : State :=
  let pairs := (s.parts.map fun e => e.2.pairs).sum
  let gib := (s.parts.map fun e => e.2.bulkGib).sum
  let s := s.parts.foldl (fun s e =>
    let m := s.meter e.1
    s.setMeter e.1 { m with run := m.run + (if e.2.state = .running then e.2.pairs else 0), gib := m.gib + e.2.bulkGib }) s
  if pairs = 0 ∧ gib = 0 then s
  else s.setMeter 0 { s.meter 0 with run := (s.meter 0).run + pairs, gib := (s.meter 0).gib + gib }

/-- The end of a millisecond (R200, R205, R428): the age of a logical link's self-test, which a light hold stops, and times
throttled. -/
def State.tickMs (s : State) : State :=
  let s := if s.lightHold then s else (List.range 16).foldl (fun s n => s.bump (XP_SEL_HEALTH n) XP_SEL_HEALTH_AGE_MS 1) s
  (List.range 8).foldl (fun s p =>
    if s.rf (CD_THERM p) CD_THERM_THERM_REQ > 0 then s.bump (CD_THERM p) CD_THERM_THROTTLE_MS 1 else s) s
/-- HD_BRINGUP ELAPSED_MS (R373) runs until S10 has ended. -/
def State.tickBringup (s : State) : State :=
  if s.nextStage ≤ 10 ∧ (s.tick - s.upTick) % 1500000 = 0 then
    s.wf HD_BRINGUP HD_BRINGUP_ELAPSED_MS (min ((s.tick - s.upTick) / 1500000) HD_BRINGUP_ELAPSED_MS.max)
  else s

/-- A change of the standing map (R137, R142, R148, R164): 1,200 ticks after its start the inputs send pilot frames, and
after 1,800 the change is over; the checks themselves are LANE_FLOOD, S6 and the end of a light hold. -/
def State.tickStand (s : State) : State :=
  match s.standSince with
  | none => s
  | some t =>
    if s.tick = t + 1200 then s.standPilots
    else if t + 1800 ≤ s.tick then { s with standSince := none }.wb LM_WEFT_STANDING LM_WEFT_STANDING_CHANGING false
    else s

/-! ## The Heddle's control packets (R125, R243, R347) -/

/-- A control-space WRITE as a request packet: DOMAIN 0xFFFF, whole flits; its TAG is not stated (log entry 77). -/
def State.ctlPkt (s : State) (node off : Nat) (bs : List Byte) : Pkt :=
  let n := (bs.length + 63) / 64
  let txn := node * 2 ^ 50 + 3 * 2 ^ 48 + off + 2 * 2 ^ 64 + (n - 1) * 2 ^ 72 + s.open_.toNat % 65536 * 2 ^ 80 + s.sepoch * 2 ^ 128 +
    0xFFFF * 2 ^ 144
  mkPkt 0 txn (bytesFlits (fitBytes (64 * n) bs)) s.ownNode node
/-- The oldest WRITE that the Heddle is to send takes its SEQ and enters the warp plane at MS0 EP1, within the bound of its
channel; one to a dead node, or without a route, is not sent (R211, R212, R238, R249). -/
def State.heddleIssue (s : State) : State :=
  match s.ctlOut with
  | [] => s
  | (node, off, bs) :: rest =>
    let pk := s.ctlPkt node off bs
    if s.issueCheck pk ≠ stOK then { s with ctlOut := rest }
    else if 256 ≤ s.chanLoad node then s
    else
      let (q, s) := ({ s with ctlOut := rest }.used).takeSeq (chanKey node 0)
      let pk := pk.setT 0x0C 4 q
      let req : HdReq := { node := node, seq := q, pk := pk, reissued := false, quar := false }
      { s with hdReqs := s.hdReqs ++ [req] }.inject 8 1 0 true pk

/-! ## What goes on by itself where it waited (R107, R199, R223, R270, R298) -/

/-- Requests, acknowledgements of standing units, packets of a link in HB mode and streams that wait go on where they can. -/
def State.tickWaits (s : State) : State :=
  let s := s.retryStalled.standAcks.heddleIssue
  let s := (s.links.map Prod.fst).foldl (fun s n => s.linkQueue n 8192) s
  s.streamsGoOn

/-- One tick. The edge arbiters see the requests that stand at the end of the tick before (R258). -/
def State.clockTick (s : State) : State :=
  let s := s.raiseAll
  let s : State := { s with tick := s.tick + 1, hwSet := [], evcSet := [] }
  let s := s.tickTime.tickStand.tickWaits
  let s := (List.range 8).foldl (fun s p => s.tickBeat p) s
  let s := (List.range 32).foldl (fun s d => s.evc (LM_EVC d 0) 8 0x01 (fun sc => sc == 0) 1) s
  let s := s.tickMeters
  let s := if s.tick % 1500 = 0 then s.hdEvc 0x01 1 else s
  let s := if s.tick % 1500000 = 0 then s.tickMs else s
  let s := if s.tick % 1500000000 = 0 then
      (List.range 8).foldl (fun s k => s.bump (BM_SELFTEST k) BM_SELFTEST_AGE_S 1) s else s
  s.tickBringup

end Sys2Proof.Machine
end

