-- ==== Sys2Proof/Safety.lean ====
section
/-! DEFINITION. The words the statements use: what a safe step is, what may differ between two states, and the command of
a slot operation. -/
namespace Sys2Proof.Machine

/-- A step is safe when it answers a next state. -/
def SafeStep (s : State) : Prop := ∃ t, step s = .next t

/-- Every byte of memory reads as before. -/
def SameBytes (s t : State) : Prop := ∀ a, t.byte a = s.byte a
/-- Every byte outside [lo, hi) reads as before. -/
def SameBytesBut (s t : State) (lo hi : Nat) : Prop := ∀ a, a < lo ∨ hi ≤ a → t.byte a = s.byte a
/-- Every register reads as before, but event counters (R432) and those named. -/
def SameRegsBut (s t : State) (may : Nat → Prop) : Prop := ∀ a, isEvc a = false → ¬ may a → t.rget a = s.rget a
/-- Every core is as before, but one. -/
def SameCoresBut (s t : State) (c : Nat) : Prop := ∀ d, d ≠ c → t.core d = s.core d

/-- Only one core, its flags and status, event counters, and the note of bits that hardware set (R13) have changed. -/
def OnlyCore (s t : State) (c : Nat) : Prop :=
  t = { s with cores := t.cores, regs := t.regs, hwSet := t.hwSet } ∧ SameCoresBut s t c ∧
  SameRegsBut s t fun a => a = CD_CORE_FLAGS c ∨ a = CD_SEQ_STATUS c
/-- Nothing waits that a tick takes on by itself: requests outside a port, control packets, streams, a change of the
standing map, accesses at a pool port, acknowledgements of standing units, packets of a link in HB mode (log entries 2
and 83). -/
def Still (s : State) : Prop :=
  (∀ e ∈ s.stalled, e.stack.isSome = true) ∧ s.ctlOut = [] ∧ (∀ e ∈ s.streams, e.2 = none) ∧ s.standSince = none ∧
  (∀ e ∈ s.pools, e.2.busy = false) ∧ (∀ e ∈ s.pairEnd, e.2.owe = 0) ∧ (∀ e ∈ s.ctlEnd, e.2.owe = 0) ∧
  ∀ e ∈ s.links, e.2.up = false ∨ s.pathUp e.1 (s.activePath e.1) = true

/-- A result of a core lands now: what has come due by its last beat, and an LZOPEN by its present one (R56, R77, R81). -/
def State.hasLanded (s : State) (c : Nat) (f : Flight) : Bool :=
  decide (f.due ≤ if f.act.isZopen then s.coreNow c else s.coreBeat c)
/-- The masked write of a register that a result makes. -/
def regWrite : FlightAct → Option (Nat × VReg × VReg)
  | .vreg r m v => some (r, m, v)
  | _ => none
/-- The accesses of a core's next bank beat, where one has come (R61). -/
def State.bankDue (s : State) (c : Nat) : List BankAcc :=
  match minBeat (((s.core c).banks.filter fun a => decide (a.beat ≤ s.coreBeat c)).map BankAcc.beat) with
  | some t => (s.core c).banks.filter fun a => a.beat = t
  | none => []
/-- The operations of a pool's next bank beat, where one has come (R106). -/
def State.poolDue (s : State) (cl : Nat) : List PoolOp :=
  let mine := s.poolOps.filter fun o => o.cluster = cl && decide (o.beat ≤ s.coreBeat o.core)
  match minBeat (mine.map PoolOp.beat) with
  | some t => mine.filter fun o => o.beat = t
  | none => []

/-- Memory, the cores and the weave groups are as before. -/
def SameCompute (s t : State) : Prop := t.mem = s.mem ∧ t.cores = s.cores ∧ t.groups = s.groups

/-- The stored tables keep their form: memory and the register space are canonical, the keys of cores and partitions rise
(log entry 6), every partition, one whose fill still runs included, lies on the eight pairs (R23), the report has eleven
records (R374), tags are those of cores, channels and nodes that exist (R207, R211, R309), and the entries of combiners
and replication stand at sites (R279, R281). -/
def Canonical (s : State) : Prop :=
  Memory.wf s.mem = true ∧ Regs.wf s.regs = true ∧ Tab.sorted s.cores = true ∧ Tab.sorted s.parts = true ∧
  (∀ e ∈ s.parts, e.2.first + e.2.pairs ≤ 8) ∧
  (∀ e ∈ s.late, ∀ p, e.2.2 = some p → p.first + p.pairs ≤ 8) ∧ s.stages.length = 11 ∧
  (∀ e ∈ s.tags, e.1 < 65536 ∧ ∀ t, e.2 = some t → t.ch < 4 ∧ t.node < 2 ^ 14) ∧
  (∀ e ∈ s.combs, e.1 < 2048) ∧ ∀ e ∈ s.repls, e.1 < 2048

/-- Stage `n` of the bring-up has ended with a result and reason, and the next one is due (R373). -/
def Ends (t : State) (n result reason : Nat) : Prop :=
  t.nextStage = n + 1 ∧ (t.stages.getD n StageRec.none).result = result ∧ (t.stages.getD n StageRec.none).reason = reason

/-- A mailbox command from a PCIe function that is well formed, permitted and not forwarded, whose payload has the length
`len`, in a state that serves it, with no other command running (R339 to R345, R349, R360). -/
def Admits (s : State) (m : Mail) (op : Nat) (who : Who) (part : Bool) (len : Nat) : Prop :=
  m.src.val ≤ 8 ∧ m.hdr.opcode.toNat = op ∧ s.inReset = false ∧ s.late = [] ∧ m.hdr.bad = false ∧ m.hdr.tvalid = false ∧
  s.mbBehind m.src.val = false ∧ s.mbDenied m who = false ∧ s.mbRefuse m op part len = none ∧ ∀ e ∈ s.mbQueue, e.drop = false
/-- The response buffer of a function. -/
def State.respOf (s : State) (fn : Nat) : List Byte :=
  (List.range 512).flatMap fun i => leBytes 8 (s.rget (respBase fn + 8 * i)).toNat
/-- The command's mailbox holds its response: a status and payload, with BUSY clear and DONE set (R339, R340). -/
def Answered (t : State) (m : Mail) (st : Nat) (pl : List Byte) : Prop :=
  t.rf (HD_MB_STAT m.src.val) HD_MB_STAT_STATUS = st ∧ t.rf (HD_MB_STAT m.src.val) HD_MB_STAT_SEQ = m.hdr.seq.toNat ∧
  t.rf (HD_MB_STAT m.src.val) HD_MB_STAT_BUSY = 0 ∧ t.rf (HD_MB_STAT m.src.val) HD_MB_STAT_DONE = 1 ∧
  t.respOf m.src.val = fitBytes 4096 (mbResponse m.hdr st pl)
/-- Only the mailbox has changed: the response, the queue of commands, messages sent and counters. -/
def OnlyMailbox (s t : State) (m : Mail) : Prop :=
  t = { s with regs := t.regs, hwSet := t.hwSet, mbQueue := t.mbQueue, msi := t.msi } ∧
  SameRegsBut s t fun a => a = HD_MB_STAT m.src.val ∨ (respBase m.src.val ≤ a ∧ a < respBase m.src.val + 0x1000)

/-- The mailbox commands but TIME_STEP and LIFECYCLE_SET: the request, its opcode, who may send it, whether PARTITION names a
partition, and the payload's length (R342 to R344). -/
def mbCmd : Instr → Option (Mail × Nat × Who × Bool × Nat)
  | .info m => some (m, 0x01, .all, false, 0)
  | .logRead m => some (m, 0x02, .pf0, false, 4)
  | .partitionCreate m => some (m, 0x10, .pf0, false, 8)
  | .partitionDelete m => some (m, 0x11, .pf0, true, 0)
  | .partitionReset m _ => some (m, 0x12, .own, true, 1)
  | .partitionQuery m => some (m, 0x13, .own, true, 0)
  | .draftLoad m _ _ => some (m, 0x20, .own, true, 0)
  | .draftStart m => some (m, 0x21, .own, true, 0)
  | .draftStop m => some (m, 0x22, .own, true, 0)
  | .weftSlotWrite m => some (m, 0x30, .own, true, m.hdr.length.toNat)
  | .weftStandingSet m => some (m, 0x31, .pf0, false, 129)
  | .routeTableSet m => some (m, 0x40, .pf0, false, 1256)
  | .fabricTimeoutSet m => some (m, 0x41, .pf0, false, 3)
  | .nodeDeadSet m => some (m, 0x42, .pf0, false, 3)
  | .gearSet m => some (m, 0x50, .own, true, 2)
  | .packageReset m => some (m, 0x51, .pf0, false, 1)
  | .fwWrite m _ => some (m, 0x60, .pf0, false, 0)
  | .fwActivate m => some (m, 0x61, .pf0, false, 2)
  | .draftKeyGet m => some (m, 0x71, .all, false, 0)
  | .timeGet m => some (m, 0x80, .all, false, 0)
  | .meterRead m => some (m, 0x90, .own, false, 24)
  | .bringupStart m => some (m, 0xA0, .pf0, false, 1320)
  | .bringupReport m => some (m, 0xA1, .pf0, false, 0)
  | .tetherAdd m _ => some (m, 0xB0, .pf0, false, 2)
  | .tetherRemove m => some (m, 0xB1, .pf0, false, 2)
  | .tetherPolicySet m => some (m, 0xB2, .pf0, false, 3)
  | .tetherList m => some (m, 0xB3, .pf0, false, 0)
  | _ => none

/-- A request of a class and OP from another node that its target performs as it arrives: it is well formed and new, it
passes the checks of R236, its place is free, its words are readable, and no error strikes (R209, R221, R229, R236). -/
def Performs (s : State) (a : Arrival) (cls op : Nat) : Prop :=
  a.pk.cls = cls ∧ a.pk.op = op ∧ txnReserved a.pk = false ∧ a.pk.snode.toNat ≠ s.ownNode ∧
  s.fentry (filterKey a.pk) = none ∧ s.dupHeld = [] ∧ s.reqCheck a.pk = stOK ∧
  s.reqGate a.pk = .go ∧ a.up = [] ∧ a.dram = [] ∧
  (spaceOf (offOf a.pk.addr) ≠ 0 →
    s.ues (offOf a.pk.addr / 8) ((offOf a.pk.addr % 8 + reqBytes a.pk + 7) / 8) = [])

/-- The command of a V-slot operation. -/
def vInstr (c : CoreIx) (f : VFields) : VCode → Instr
  | .fadd => .fadd c f | .fsub => .fsub c f | .fmul => .fmul c f | .fma => .fma c f | .fmax => .fmax c f | .fmin => .fmin c f
  | .fcmplt => .fcmplt c f | .fcmpeq => .fcmpeq c f | .sel => .sel c f | .fabs => .fabs c f | .fneg => .fneg c f
  | .fred => .fred c f | .fredmax => .fredmax c f | .cvt => .cvt c f | .tcvt => .tcvt c f | .tpack => .tpack c f
  | .tadd => .tadd c f | .treq => .treq c f | .tfrom => .tfrom c f | .iadd => .iadd c f | .isub => .isub c f
  | .iand => .iand c f | .ior => .ior c f | .ixor => .ixor c f | .ishl => .ishl c f | .isra => .isra c f
  | .movi => .movi c f | .movf => .movf c f | .perm => .perm c f
/-- The command of an S-slot operation. -/
def sInstr (c : CoreIx) (vd va : BitVec 5) (q : BitVec 2) : SCode → Instr
  | .exp => .exp c vd va q | .rcp => .rcp c vd va q | .rsqrt => .rsqrt c vd va q
/-- The command of an M-slot operation other than NOP. -/
def mInstr (c : CoreIx) (sl : MSlot) : MOp → Option Instr
  | .nop => none
  | .vld a v => some (.vld c sl a v)
  | .vst a v => some (.vst c sl a v)
  | .tld a l m b => some (.tld c sl a l m b)
  | .ald a l m => some (.ald c sl a l m)
  | .tst a set eng => some (.tst c sl a set eng)
  | .tla a set eng => some (.tla c sl a set eng)
  | .arset ar v => some (.arset c sl ar v)
  | .pld a pr pinc pofs => some (.pld c sl a pr pinc pofs)
  | .pst a pr pinc dcl ddie pofs => some (.pst c sl a pr pinc dcl ddie pofs)
  | .esa a x first wide sofs => some (.esa c sl a x first wide sofs)
  | .prset pr v => some (.prset c sl pr v)
/-- The encoding is one that a loaded draft may hold in a core's M slot (R66, R110). -/
def mLegal (c : CoreIx) (op : MOp) : Prop := checkM op = none ∧ checkPst (clusterOf c) op = none
/-- The slot's number. -/
def slotNo : MSlot → Nat
  | .m0 => 0
  | .m1 => 1
/-- A register of a core after a list of masked writes, in their order (R56, R57). -/
def afterWrites (old : VReg) (r : Nat) (ws : List (Nat × VReg × VReg)) : VReg :=
  ws.foldl (fun x w => if w.1 = r then (x &&& ~~~ w.2.1) ||| (w.2.2 &&& w.2.1) else x) old

end Sys2Proof.Machine
end

