-- ==== Sys2Proof/Certificates/Slice0/Obligations.lean ====
section
/-! DEFINITION. The statements for the provers. -/
open Sys2Proof Sys2Proof.Machine

/-- A step runs the command at the front of the queue on the state with the queue's rest -/
def Obligations.StepRunsFrontCommand : Prop :=
  ∀ (c : Instr) (rest : List Instr) (s : State), s.pending = c :: rest → step s = exec c { s with pending := rest }

/-- With an empty queue, and nothing that goes on by itself, one Loom control tick passes and only clocks and counts of time move (the model's choice, log entry 2) -/
def Obligations.IdleStepIsATick : Prop :=
  ∀ s : State, s.pending = [] → Still s → ∃ t, step s = .next t ∧ t.tick = s.tick + 1 ∧ t.pending = [] ∧ t.mem = s.mem ∧
    t.cores = s.cores ∧ t.groups = s.groups ∧ t.parts = s.parts ∧ t.shch = s.shch ∧ t.tags = s.tags ∧
    t.streams = s.streams ∧ t.ports = s.ports ∧ t.log = s.log ∧ t.recBuf = s.recBuf ∧ t.edge = s.edge ∧
    (∀ p, t.pair p = { s.pair p with lower := (t.pair p).lower }) ∧
    t.now = (s.now + (s.nsPhase + (2 * (1000000000 + s.ratePpb)).toNat) / 3000000000) % 2 ^ 64 ∧
    t.nsPhase = (s.nsPhase + (2 * (1000000000 + s.ratePpb)).toNat) % 3000000000 ∧ s.ratePpb ≥ -50000

/-- A powered pair at gear g makes at most one beat per tick and 40 - g beats in 40 ticks; an unpowered pair makes none -/
def Obligations.PairBeatAtGear : Prop :=
  ∀ (s : State) (p : PairIx), s.pending = [] → Still s →
    ∃ t, step s = .next t ∧
      (s.pairPowered p = false → t.pb p = s.pb p ∧ Tab.get 0 t.beatPhase p = Tab.get 0 s.beatPhase p) ∧
      (s.pairPowered p = true → Tab.get 0 s.beatPhase p < 40 → s.rf (CD_GEAR_CTL p) CD_GEAR_CTL_CUR ≤ 24 →
        40 * (if t.pb p = s.pb p then 0 else 1) + Tab.get 0 t.beatPhase p =
          Tab.get 0 s.beatPhase p + (40 - s.rf (CD_GEAR_CTL p) CD_GEAR_CTL_CUR) ∧
        (t.pb p = s.pb p ∨ t.pb p = (s.pb p + 1) % 2 ^ 48))

/-- Every command answers a next state, but a slot operation of an encoding that no loaded draft holds, which is refused by name -/
def Obligations.OnlyIllegalEncodingsAreRefused : Prop :=
  ∀ (i : Instr) (s : State),
    (exec i s = .refused .illegalEncoding ∧
      ((∃ c sl op, mInstr c sl op = some i ∧ ¬ mLegal c op) ∨ (∃ c f, i = .mmv c f ∧ checkMmv f ≠ none) ∨
        (∃ c m st t, i = .spec c m st t ∧ specOk t = false) ∨
        (∃ c f code, i = vInstr c f code ∧ checkV code f ≠ none) ∨ (∃ c k, i = .ksig c k 0) ∨ (∃ c ch, i = .shkick c ch 0))) ∨
    ∃ t, exec i s = .next t

/-- After reset every register reads its reset value, every memory byte 0, no command waits, no record stands -/
def Obligations.ResetState : Prop :=
  (∀ a, State.reset.rget a = regReset a) ∧ (∀ a, State.reset.byte a = 0) ∧ State.reset.pending = [] ∧
    State.reset.log = [] ∧ State.reset.recBuf = [] ∧ (∀ n, State.reset.part? n = none) ∧
    (∀ c, (State.reset.core c).bundles = 0) ∧ (∀ p : PairIx, State.reset.rf (CD_GEAR_CTL p) CD_GEAR_CTL_CUR = 24) ∧
    (∀ c : CoreIx, State.reset.seqState c = 0) ∧ Canonical State.reset

/-- Decoding the word of a bundle gives the bundle back, in every slot and field -/
def Obligations.BundleEncodingRoundTrip : Prop :=
  (∀ op, decodeM (encodeM op) = some op) ∧ (∀ op, decodeE (encodeE op) = some op) ∧
    (∀ op, decodeV (encodeV op) = some op) ∧ (∀ op, decodeS (encodeS op) = some op) ∧
    (∀ scrub op, cLegal op = true → decodeC (encodeC scrub op) = some (scrub, op)) ∧
    (∀ b : Bundle, cLegal b.c = true → decodeBundle (encodeBundle b) = b)

/-- A slot word that decodes has no bit the operation does not name: it is the word of that operation -/
def Obligations.SlotEncodingsExact : Prop :=
  (∀ w op, decodeM w = some op → encodeM op = w) ∧
    (∀ w op, decodeE w = some op → encodeE op = w) ∧ (∀ w op, decodeV w = some op → encodeV op = w) ∧
    (∀ w op, decodeS w = some op → encodeS op = w) ∧
    (∀ w scrub op, decodeC w = some (scrub, op) → encodeC scrub op = w ∧ cLegal op = true)

/-- Every V-slot operation a draft may hold completes: its writes and flag events leave for b + L, nothing else changes -/
def Obligations.VectorOperationIssues : Prop :=
  ∀ (code : VCode) (c : CoreIx) (f : VFields) (s u : State), checkV code f = none → u = s.land c (s.bc c) →
    (s.seqState c < 2 → ∃ t, exec (vInstr c f code) s = .next t ∧ OnlyCore s t c ∧ SameRegsBut u t (fun _ => False) ∧
      t.core c = { u.core c with
        flight := (u.core c).flight ++
          (vResult (u.core c) code f).writes.map (fun w => ⟨s.bc c + vLatency code, .vreg w.1 w.2.1 w.2.2⟩) ++
          (if (vResult (u.core c) code f).flags = 0 then [] else
            [⟨s.bc c + vLatency code, .flags (vResult (u.core c) code f).flags⟩]) }) ∧
    (2 ≤ s.seqState c → exec (vInstr c f code) s = .next s)

/-- A vector result lands at b + L and not before; bytes outside those written keep their value -/
def Obligations.VectorResultVisibleAtLatency : Prop :=
  ∀ (code : VCode) (c : CoreIx) (f : VFields) (s u : State) (n r : Nat), checkV code f = none → s.seqState c < 2 →
    u = s.land c (s.bc c) → s.bc c ≤ n → r < 32 →
    ∃ t, exec (vInstr c f code) s = .next t ∧
      ((t.land c n).core c).reg r =
        if s.bc c + vLatency code ≤ n then afterWrites (((u.land c n).core c).reg r) r (vResult (u.core c) code f).writes
        else ((u.land c n).core c).reg r

/-- The integer operations, MOVI, MOVF, PERM, FABS, FNEG, SEL and the comparisons give each lane the value R56 names -/
def Obligations.IntegerLaneResults : Prop :=
  ∀ (k : Core) (f : VFields) (i : Nat), i < 64 →
    let a := lane (k.reg f.va.toNat) i
    let b := lane (k.reg f.vb.toNat) i
    let z := lane (k.reg f.vc.toNat) i
    let res (code : VCode) (bf : Bool) (v : Nat) : Prop :=
      ∃ x, vResult k code { f with bf := bf } = ⟨[(f.vd.toNat, BitVec.allOnes 2048, x)], 0⟩ ∧ lane x i = v
    res .iadd false ((a + b) % 2 ^ 32) ∧ res .isub false ((a + 2 ^ 32 - b) % 2 ^ 32) ∧ res .iand false (a &&& b) ∧
      res .ior false (a ||| b) ∧ res .ixor false (a ^^^ b) ∧ res .ishl false (a * 2 ^ (f.imm.toNat % 32) % 2 ^ 32) ∧
      res .isra false ((BitVec.ofNat 32 a).sshiftRight (f.imm.toNat % 32)).toNat ∧ res .movi false (f.imm.signExtend 32).toNat ∧
      res .movf false (f.imm.toNat * 2 ^ 16) ∧ res .perm false (lane (k.reg f.va.toNat) (b % 64)) ∧
      res .fabs false (a % 2 ^ 31) ∧ res .fneg false (a ^^^ 2 ^ 31) ∧ res .sel false (if z ≠ 0 then a else b) ∧
      res .fcmplt false (if fpLt fmtFP32 a b then 2 ^ 32 - 1 else 0) ∧
      res .fcmpeq false (if fpEq fmtFP32 a b then 2 ^ 32 - 1 else 0)

/-- Arithmetic on a NaN gives the canonical NaN and no flag, and a comparison with a NaN is false -/
def Obligations.NanComparesFalse : Prop :=
  ∀ (f : FloatFmt) (a b c : Nat), (f = fmtFP32 ∨ f = fmtBF16) → f.decode a = .nan →
    fpAdd f a b = ⟨f.qnan, 0⟩ ∧ fpAdd f b a = ⟨f.qnan, 0⟩ ∧ fpSub f a b = ⟨f.qnan, 0⟩ ∧ fpSub f b a = ⟨f.qnan, 0⟩ ∧
    fpMul f a b = ⟨f.qnan, 0⟩ ∧ fpMul f b a = ⟨f.qnan, 0⟩ ∧ fpFma f a b c = ⟨f.qnan, 0⟩ ∧ fpFma f b a c = ⟨f.qnan, 0⟩ ∧
    fpFma f b c a = ⟨f.qnan, 0⟩ ∧ fpLt f a b = false ∧ fpLt f b a = false ∧ fpEq f a b = false ∧ fpEq f b a = false

/-- EXP, RCP and RSQRT complete: one quarter of the register, twelve beats later, other lanes unchanged -/
def Obligations.SpecialFunctionIssues : Prop :=
  ∀ (code : SCode) (c : CoreIx) (vd va : BitVec 5) (q : BitVec 2) (s u : State) (n r i : Nat), u = s.land c (s.bc c) →
    s.bc c ≤ n → r < 32 → i < 64 →
    (s.seqState c < 2 → ∃ t, exec (sInstr c vd va q code) s = .next t ∧ OnlyCore s t c ∧ SameRegsBut u t (fun _ => False) ∧
      lane (((t.land c n).core c).reg r) i =
        if s.bc c + 12 ≤ n ∧ r = vd.toNat ∧ 16 * q.toNat ≤ i ∧ i < 16 * q.toNat + 16 then
          (sfLane code (lane ((u.core c).reg va.toNat) i)).val % 2 ^ 32
        else lane (((u.land c n).core c).reg r) i) ∧
    (2 ≤ s.seqState c → exec (sInstr c vd va q code) s = .next s)

/-- Every M-slot operation whose lines lie inside the stores completes, with its registers and accesses as R66 and R109 say -/
def Obligations.MemoryOperationIssues : Prop :=
  ∀ (c : CoreIx) (sl : MSlot) (op : MOp) (i : Instr) (s u : State), mInstr c sl op = some i → mLegal c op → u = s.land c (s.bc c) →
    (2 ≤ s.seqState c → exec i s = .next s) ∧
    (s.seqState c < 2 → rangeFault (s.core c) op = none →
    ∃ t, exec i s = .next t ∧ t = { u with cores := t.cores, poolOps := t.poolOps } ∧ SameCoresBut s t c ∧
      t.poolOps = s.poolOps ++ issuePool (u.core c) (s.bc c) (slotNo sl) op c ∧
      (t.core c).banks = (s.core c).banks ++ issueAcc (u.core c) (s.bc c) (slotNo sl) op c ∧
      (t.core c).flight = (u.core c).flight ∧ (t.core c).vr = (u.core c).vr ∧ (t.core c).acc = (u.core c).acc ∧
      (∀ a, (t.core c).arOf a =
        match op, addrOf op with
        | .arset ar v, _ => if a = ar then v.toNat else (s.core c).arOf a
        | _, some m => if m.inc ∧ a = m.ar then ((s.core c).arOf a + lenOf m) % 2 ^ 15 else (s.core c).arOf a
        | _, none => (s.core c).arOf a) ∧
      (∀ p, (t.core c).prOf p =
        match op with
        | .prset pr v => if p = pr then v.toNat else (s.core c).prOf p
        | .pld m pr true _ => if p = pr then ((s.core c).prOf p + lenOf m) % 2 ^ 16 else (s.core c).prOf p
        | .pst m pr true _ _ _ => if p = pr then ((s.core c).prOf p + lenOf m) % 2 ^ 16 else (s.core c).prOf p
        | _ => (s.core c).prOf p))

/-- An access past the scratchpad or the pool is not performed: the core records RANGE and stops, memory untouched -/
def Obligations.RangeFaultStopsCore : Prop :=
  ∀ (c : CoreIx) (sl : MSlot) (op : MOp) (i : Instr) (s : State) (l : Nat), mInstr c sl op = some i → mLegal c op →
    s.seqState c < 2 → rangeFault (s.core c) op = some l →
    ∃ t, exec i s = .next t ∧ t.seqState c = 3 ∧ (t.core c).flight = [] ∧ (t.core c).banks = [] ∧ SameBytes s t ∧
      SameCoresBut s t c ∧ (∀ o ∈ t.poolOps, o.core ≠ c) ∧
      (s.rf (CD_CORE_FAULT c) CD_CORE_FAULT_CAUSE = 0 →
        t.rf (CD_CORE_FAULT c) CD_CORE_FAULT_CAUSE = 2 ∧ t.rf (CD_CORE_FAULT c) CD_CORE_FAULT_SLOT = slotNo sl ∧
        t.rf (CD_CORE_FAULT c) CD_CORE_FAULT_LINE = l % 2 ^ 15 ∧ t.rf (CD_CORE_FAULT c) CD_CORE_FAULT_BEAT = s.bc c % 2 ^ 24) ∧
      (s.rf (CD_CORE_FAULT c) CD_CORE_FAULT_CAUSE ≠ 0 → t.rget (CD_CORE_FAULT c) = s.rget (CD_CORE_FAULT c)) ∧
      (∃ m, (t.grp (s.grpOf c)).stop = some m ∧ m ≤ s.coreNow c) ∧ (t.grp (s.grpOf c)).draining = false

/-- MMV, SPEC and ZERO complete and change the named engines' accumulator sets only; a SPEC that breaks R36 is refused at load -/
def Obligations.EngineOperations : Prop :=
  ∀ (c : CoreIx) (s u : State) (e st : Nat), e < 4 → st < 8 → u = s.land c (s.bc c) →
    (s.seqState c < 2 → ∀ f : MmvF, checkMmv f = none → ∃ t, exec (.mmv c f) s = .next t ∧ OnlyCore s t c ∧
      SameRegsBut u t (fun _ => False) ∧
      t.core c = { u.core c with acc := (t.core c).acc, flight := (u.core c).flight ++ (engines f.mask).filterMap fun e =>
        if (mmvEngine (u.core c) e f).flags = 0 then none else some ⟨s.bc c + 4, .flags (mmvEngine (u.core c) e f).flags⟩ } ∧
      (t.core c).accImg (accKey e st) =
        if f.mask.getLsbD e ∧ st = f.set.toNat then (mmvEngine (u.core c) e f).val else (u.core c).accImg (accKey e st)) ∧
    (s.seqState c < 2 → ∀ (mask : BitVec 4) (set : BitVec 3) (spec : BitVec 16), specOk spec = true →
      ∃ t, exec (.spec c mask set spec) s = .next t ∧ OnlyCore s t c ∧ SameRegsBut u t (fun _ => False) ∧
      t.core c = { u.core c with acc := (t.core c).acc, spec := (t.core c).spec } ∧
      (t.core c).accSpec (accKey e st) = (if mask.getLsbD e ∧ st = set.toNat then spec else (u.core c).accSpec (accKey e st)) ∧
      (t.core c).accImg (accKey e st) = (if mask.getLsbD e ∧ st = set.toNat then 0 else (u.core c).accImg (accKey e st))) ∧
    (s.seqState c < 2 → ∀ (mask : BitVec 4) (sets : BitVec 8), ∃ t, exec (.zero c mask sets) s = .next t ∧ OnlyCore s t c ∧
      SameRegsBut u t (fun _ => False) ∧ t.core c = { u.core c with acc := (t.core c).acc } ∧
      (t.core c).accImg (accKey e st) =
        (if mask.getLsbD e ∧ sets.getLsbD st then 0 else (u.core c).accImg (accKey e st))) ∧
    (2 ≤ s.seqState c → (∀ f : MmvF, checkMmv f = none → exec (.mmv c f) s = .next s) ∧
      (∀ mask set spec, specOk spec = true → exec (.spec c mask set spec) s = .next s) ∧
      ∀ mask sets, exec (.zero c mask sets) s = .next s) ∧
    (∀ (img : List (BitVec 8)) (pairs room : Nat) (l : List SecData) (sec : Nat) (bs : List (BitVec 256)) (i : Nat) (w : BitVec 256)
      (mask : BitVec 4) (set : BitVec 3) (spec : BitVec 16), (sec, bs) ∈ codesOf l → bs[i]? = some w →
      decodeE (w.extractLsb' 136 40) = some (.spec mask set spec) →
      (specQ spec < -300 ∨ 255 < specQ spec ∨ spec.extractLsb' 11 5 ≠ 0) →
      ∃ o ∈ loadCheck img pairs room l, o.reason = .format ∧ o.bundle = i ∧ o.slot = 2)

/-- Every control-slot operation completes with the effect R70 to R87 give it, memory and other cores untouched -/
def Obligations.ControlOperations : Prop :=
  ∀ (c : CoreIx) (s u : State) (i : Nat), s.seqState c < 2 → u = s.land c (s.bc c) → i = s.rf (CD_SEQ_STATUS c) CD_SEQ_STATUS_PC →
    OnlyCore s u c ∧
    (∀ tg, ∃ t, exec (.jmp c tg) s = .next t ∧ t = { u with regs := t.regs } ∧ SameRegsBut u t (fun a => a = CD_SEQ_STATUS c) ∧
      t.rf (CD_SEQ_STATUS c) CD_SEQ_STATUS_PC = tg.toNat ∧ t.seqState c = s.seqState c) ∧
    (∀ e n, ∃ t, exec (.loop c e n) s = .next t ∧ t = { u with cores := t.cores, regs := t.regs } ∧
      SameRegsBut u t (fun a => a = CD_SEQ_STATUS c) ∧ SameCoresBut s t c ∧
      t.core c = { u.core c with loops := ⟨i, e.toNat, n.toNat + 1⟩ :: (s.core c).loops } ∧
      t.rf (CD_SEQ_STATUS c) CD_SEQ_STATUS_LDEPTH = ((s.core c).loops.length + 1) % 8) ∧
    (∃ t, exec (.halt c) s = .next t ∧ t = { u with regs := t.regs } ∧ SameRegsBut u t (fun a => a = CD_SEQ_STATUS c) ∧
      t.seqState c = 2 ∧ t.rf (CD_SEQ_STATUS c) CD_SEQ_STATUS_PC = i) ∧
    (∀ k v, v ≠ 0 → ∃ t, exec (.ksig c k v) s = .next t ∧ t = { u with kpend := t.kpend, regs := t.regs, hwSet := t.hwSet } ∧
      SameRegsBut u t (fun _ => False) ∧
      t.kp (knotKey (gclusterOf c) k.toNat) =
        { s.kp (knotKey (gclusterOf c) k.toNat) with
          sigs := (s.kp (knotKey (gclusterOf c) k.toNat)).sigs ++ [(c.val, v.toNat)],
          sigBeat := max (s.kp (knotKey (gclusterOf c) k.toNat)).sigBeat (s.bc c + 1) }) ∧
    (∀ k v, ∃ t, exec (.kset c k v) s = .next t ∧ t = { u with kpend := t.kpend } ∧
      t.kp (knotKey (gclusterOf c) k.toNat) =
        { s.kp (knotKey (gclusterOf c) k.toNat) with sets := (s.kp (knotKey (gclusterOf c) k.toNat)).sets ++ [(c.val, v.toNat)] }) ∧
    (∀ z, ∃ t, exec (.lzopen c z) s = .next t ∧ t = { u with cores := t.cores } ∧ SameCoresBut s t c ∧
      t.core c = { u.core c with flight := (u.core c).flight ++ [⟨s.bc c + 2, .zopen z⟩] }) ∧
    (∀ z, ∃ t, exec (.lzclose c z) s = .next t ∧ t = { u with cores := t.cores, regs := t.regs } ∧ SameCoresBut s t c ∧
      SameRegsBut u t (fun a => a = CD_SEQ_STATUS c) ∧ t.zopen c = u.zopen c &&& ~~~ z ∧
      t.core c = { u.core c with flight := (t.core c).flight } ∧
      ∀ f ∈ (t.core c).flight, actZones f.act &&& z = 0) ∧
    (∀ m, ∃ t, exec (.flagclr c m) s = .next t ∧ t = { u with regs := t.regs } ∧ SameRegsBut u t (fun a => a = CD_CORE_FLAGS c) ∧
      t.flagsOf c = u.flagsOf c &&& ~~~ (if (u.core c).freshAt = s.bc c then m &&& ~~~ (u.core c).fresh else m)) ∧
    (∀ v, ∃ t, exec (.flagmv c v) s = .next t ∧ t = { u with cores := t.cores } ∧ SameCoresBut s t c ∧
      t.core c = { u.core c with flight := (u.core c).flight ++
        [⟨s.bc c + 1, .vreg v.toNat (BitVec.allOnes 2048) (BitVec.ofNat 2048 ((u.rget (CD_CORE_FLAGS c)).toNat % 2 ^ 32))⟩] }) ∧
    (∀ ch n, n ≠ 0 → s.ringSlots c ch.toNat ≤ 4096 →
      s.rf (SH_CH_STAT c ch.toNat) SH_CH_STAT_READY ≤ s.rf (SH_CH_STAT c ch.toNat) SH_CH_STAT_INUSE →
      s.rf (SH_CH_STAT c ch.toNat) SH_CH_STAT_INUSE ≤ s.ringSlots c ch.toNat →
      ∃ t k, exec (.shkick c ch n) s = .next t ∧ t.cores = u.cores ∧ t.mem = s.mem ∧
      k = min n.toNat (s.ringSlots c ch.toNat - s.rf (SH_CH_STAT c ch.toNat) SH_CH_STAT_INUSE) ∧
      t.rf (SH_CH_STAT c ch.toNat) SH_CH_STAT_READY = s.rf (SH_CH_STAT c ch.toNat) SH_CH_STAT_READY + k ∧
      t.rf (SH_CH_STAT c ch.toNat) SH_CH_STAT_INUSE = s.rf (SH_CH_STAT c ch.toNat) SH_CH_STAT_INUSE + k ∧
      (k < n.toNat → t.rf (SH_CH_STAT c ch.toNat) SH_CH_STAT_OVERRUN = 1) ∧
      (k = n.toNat → SameRegsBut u t fun a => a = SH_CH_STAT c ch.toNat)) ∧
    (∃ t, exec (.bound c) s = .next t ∧ t.cores = u.cores ∧ t.mem = s.mem ∧ t.rf (CD_BOUND c) CD_BOUND_BC = s.bc c ∧
      t.rf (CD_BOUND c) CD_BOUND_INDEX = i ∧ SameRegsBut u t (fun a => a = CD_BOUND c)) ∧
    (∀ k cons n w, w = ⟨c.val, s.bc c, k.toNat, n.toNat, cons, s.pb (pairOf c), none⟩ →
      (n.toNat ≤ s.knotLeft (gclusterOf c) k.toNat → s.lowerReady (s.grp (s.grpOf c)).waits w = false →
        ∃ t, exec (.kwait c k cons n) s = .next t ∧ t = { u with kpend := t.kpend } ∧
        (t.kp (knotKey (gclusterOf c) k.toNat)).consumed =
          (s.kp (knotKey (gclusterOf c) k.toNat)).consumed + (if cons then n.toNat else 0)) ∧
      (s.knotLeft (gclusterOf c) k.toNat < n.toNat ∨ s.lowerReady (s.grp (s.grpOf c)).waits w = true →
        ∃ t, exec (.kwait c k cons n) s = .next t ∧ t = { u with groups := t.groups, regs := t.regs } ∧
        SameRegsBut u t (fun a => a = CD_SEQ_STATUS c) ∧ t.rf (CD_SEQ_STATUS c) CD_SEQ_STATUS_WAITING = 1 ∧
        (t.grp (s.grpOf c)).waits = (s.grp (s.grpOf c)).waits ++ [w]))

/-- A KSIG of 0 and an SHKICK of 0 are illegal encodings that no loaded draft holds, and are refused by name -/
def Obligations.IllegalControlEncodingsRefused : Prop :=
  ∀ (c : CoreIx) (s : State), (∀ k, exec (.ksig c k 0) s = .refused .illegalEncoding) ∧
    (∀ ch, exec (.shkick c ch 0) s = .refused .illegalEncoding)

/-- BUNDLE_ISSUE of a running core that nothing holds issues its bundle; a held one counts a held beat; a stopped one issues nothing -/
def Obligations.BundleIssueCompletes : Prop :=
  ∀ (c : CoreIx) (up : List Upset) (s : State),
    (s.running c = true → (∀ m, (s.grp (s.grpOf c)).stop = some m → s.bc c < m + 8) →
    (s.held c = true → ∃ t, exec (.bundleIssue c up) s = .next t ∧ t.bc c = s.bc c ∧ t.mem = s.mem ∧ t.dstore = s.dstore ∧
      t.core c = { s.core c with holdRun := (s.core c).holdRun + 1 } ∧ SameCoresBut s t c ∧
      SameRegsBut s t (fun a => a = CD_SEQ_STATUS c ∨ a = CD_HOLD c) ∧
      t.rf (CD_SEQ_STATUS c) CD_SEQ_STATUS_PC = s.rf (CD_SEQ_STATUS c) CD_SEQ_STATUS_PC ∧
      t.rf (CD_SEQ_STATUS c) CD_SEQ_STATUS_HELD = 1 ∧
      t.rf (CD_HOLD c) CD_HOLD_HELD_BEATS = min (s.rf (CD_HOLD c) CD_HOLD_HELD_BEATS + 1) (2 ^ 32 - 1)) ∧
    (∀ b u i, s.held c = false → i = s.rf (CD_SEQ_STATUS c) CD_SEQ_STATUS_PC → u = (s.land c (s.bc c)).strikes (dsWord c i) 4 up →
      b = decodeBundle (Tab.get 0 s.dstore (c * 2048 + i)) → u.issueFault c b i = none →
      ∃ t, exec (.bundleIssue c up) s = .next t ∧ t.bc c = (s.bc c + 1) % 2 ^ 48 ∧ t.mem = s.mem ∧ SameCoresBut s t c ∧
        t.rf (CD_SEQ_STATUS c) CD_SEQ_STATUS_HELD = 0 ∧
        t.rf (CD_SEQ_STATUS c) CD_SEQ_STATUS_PC = (match b.c with
          | .jmp tg => tg.toNat
          | .halt => i
          | .loop e n => (decideLoops i (i + 1) (⟨i, e.toNat, n.toNat + 1⟩ :: (s.core c).loops)).1 % 2048
          | _ => (decideLoops i (i + 1) (s.core c).loops).1 % 2048) ∧
        t.seqState c = (if b.c = .halt then 2 else 1) ∧
        t.rf (CD_SEQ_STATUS c) CD_SEQ_STATUS_SCNT =
          (if b.scrub then 0 else s.rf (CD_SEQ_STATUS c) CD_SEQ_STATUS_SCNT + 1) ∧
        (t.core c).banks = (s.core c).banks ++ issueAcc (u.core c) (s.bc c) 0 b.m0 c ++ issueAcc (u.core c) (s.bc c) 1 b.m1 c ++
          (if b.scrub then [⟨s.bc c + 1, s.bc c, 5, 0, 0, false, .scrub⟩] else []) ∧
        t.poolOps = s.poolOps ++ issuePool (u.core c) (s.bc c) 0 b.m0 c ++ issuePool (u.core c) (s.bc c) 1 b.m1 c ∧
        (t.core c).vr = (u.core c).vr ∧ (t.core c).acc = (issueE (u.core c) (s.bc c) b.e).acc ∧
        (t.grp (s.grpOf c)).count = max (s.grp (s.grpOf c)).count (s.bc c + 1))) ∧
    (s.seqState c = 2 → ∃ t, exec (.bundleIssue c up) s = .next t ∧ t.bc c = s.bc c ∧ t.mem = s.mem ∧ t.dstore = s.dstore ∧
      t.seqState c = 2 ∧ t.rf (CD_SEQ_STATUS c) CD_SEQ_STATUS_HELD = (s.held c).toNat) ∧
    (s.seqState c = 0 ∨ s.seqState c = 3 ∨ s.running c = true ∧ (∃ m, (s.grp (s.grpOf c)).stop = some m ∧ m + 8 ≤ s.bc c) →
      exec (.bundleIssue c up) s = .next s)

/-- Writeback, bank, link, pool and slot beats each perform what has come due, and only that -/
def Obligations.BeatRowsPerform : Prop :=
  (∀ (c : CoreIx) (s : State) (due : List Flight), due = (s.core c).flight.filter (fun f => s.hasLanded c f) →
    ∃ t, exec (.pipelineWriteback c) s = .next t ∧ OnlyCore s t c ∧
    (t.core c).flight = (s.core c).flight.filter (fun f => !s.hasLanded c f) ∧
    t.flagsOf c = s.flagsOf c ||| due.foldl (fun x f => x ||| actFlags f.act) 0 ∧
    t.zopen c = s.zopen c ||| due.foldl (fun x f => x ||| actZones f.act) 0 ∧
    (t.core c).banks = (s.core c).banks ∧ (t.core c).ar = (s.core c).ar ∧
    ∀ r, r < 32 → (t.core c).reg r = afterWrites ((s.core c).reg r) r (due.filterMap fun f => regWrite f.act)) ∧
  (∀ (c : CoreIx) (up : List Upset) (s u : State) (all : List BankAcc), u = s.spStrikes c up → all = u.bankDue c →
    bankLosers (u.openBanks c) (all.any fun a => a.kind = .scrub) (all.filter fun a => a.kind ≠ .scrub) = [] →
    (∀ a ∈ all, u.accUe c a = false) → (∀ a ∈ all, a.n ≤ 8 ∧ ∀ d, a.kind = .write d → d.length = a.n) →
    ∃ t, exec (.bankBeat c up) s = .next t ∧ SameCoresBut s t c ∧
      (t.core c).banks = (s.core c).banks.filter (fun a => !all.contains a) ∧ (t.core c).vr = (s.core c).vr ∧
      (∀ a ∈ all, ∀ d, a.kind = .write d → t.lines (spBase c + 128 * a.line) a.n = d) ∧
      (∀ x, (∀ a ∈ all, (∃ d, a.kind = .write d) → x < spBase c + 128 * a.line ∨ spBase c + 128 * (a.line + a.n) ≤ x) →
        t.byte x = s.byte x) ∧
      (∀ a ∈ all, ∀ v, a.kind = .vld v → ∀ w ∈ vldWrites v (s.lines (spBase c + 128 * a.line) a.n),
        ⟨a.issued + 4, w⟩ ∈ (t.core c).flight) ∧
      (∀ a ∈ all, ∀ bl m bf, a.kind = .tld bl m bf → ∀ e ∈ engines (BitVec.ofNat 4 m), ∀ i < a.n,
        ⟨a.issued + 3, .tile (tileKey e bf (bl + i)) (s.line (spBase c + 128 * (a.line + i)))⟩ ∈ (t.core c).flight) ∧
      (∀ a ∈ all, ∀ al m, a.kind = .ald al m → ∀ e ∈ engines (BitVec.ofNat 4 m), ∀ i < a.n,
        ⟨a.issued + 3, .act (actKey e (al + i)) (s.line (spBase c + 128 * (a.line + i)))⟩ ∈ (t.core c).flight) ∧
      (∀ a ∈ all, ∀ set eng, a.kind = .tla set eng →
        ⟨a.issued + 4, .acc (accKey eng set) a.n (s.lines (spBase c + 128 * a.line) a.n)⟩ ∈ (t.core c).flight) ∧
      (∀ a ∈ all, ∀ dst pline, a.kind = .pst dst pline →
        ⟨c.val, a.slot, a.line, a.issued, s.lines (spBase c + 128 * a.line) a.n,
          claimsOf a.issued (route (dieOf c) (clusterOf c) (dst % 32 / 16) (dst % 16)) (resPool (dst % 32)),
          .pool dst pline⟩ ∈ (t.pair (pairOf c)).xfers) ∧
      (∀ a ∈ all, ∀ sl first wide sofs, a.kind = .esa sl first wide sofs →
        ⟨c.val, a.slot, a.line, a.issued, s.lines (spBase c + 128 * a.line) a.n,
          claimsOf a.issued (route (dieOf c) (clusterOf c) 0 (edgeCluster (sl / 2))) (resSlot sl (dieOf c == 1)),
          .slot sl first wide sofs⟩ ∈ (t.pair (pairOf c)).xfers)) ∧
  (∀ (p : PairIx) (s : State) (ready : List Xfer), ready = s.claimBeat (s.pair p).xfers →
    (∀ x ∈ ready, s.claimClash ready x = false) →
    ∃ t, exec (.linkClaim p) s = .next t ∧ t = { s with pairs := t.pairs, poolOps := t.poolOps } ∧
      (∀ r, r ≠ p.val → t.pair r = s.pair r) ∧
      t.pair p = { s.pair p with
        xfers := (s.pair p).xfers.filter (fun x => !ready.contains x) ++ ready.filterMap (fun x =>
          match x.claims with | _ :: q :: l => some { x with claims := q :: l } | _ => none),
        slotIn := (s.pair p).slotIn ++ ready.filterMap (fun x =>
          match x.claims, x.dest with
          | [(b, _)], .slot sl first wide sofs => some ⟨b, sl, first, wide, sofs, x.data⟩
          | _, _ => none) } ∧
      t.poolOps = s.poolOps ++ ready.filterMap (fun x =>
        match x.claims, x.dest with
        | [(b, _)], .pool cl pline =>
          some ⟨b, x.core, x.slot, x.spline, x.issued, pline, x.data.length, some x.data, cl⟩
        | _, _ => none)) ∧
  (∀ (cl : ClusterIx) (up : List Upset) (s u : State) (all : List PoolOp), u = s.poolStrikes cl up → all = u.poolDue cl →
    (∀ a ∈ all, ∀ b ∈ all, b = a ∨ poolClash a b = false) →
    (∀ o ∈ all, o.write = none → u.ues (poolWord cl o.pline) (16 * o.n) = []) →
    (∀ o ∈ all, o.n ≤ 8 ∧ ∀ d, o.write = some d → d.length = o.n) →
    ∃ t : State, exec (.poolBankBeat cl up) s = .next (t.servePort cl) ∧ t.poolOps = s.poolOps.filter (fun o => !all.contains o) ∧
      (∀ o ∈ all, ∀ d, o.write = some d → t.lines (poolBase cl + 128 * o.pline) o.n = d) ∧
      (∀ x, (∀ o ∈ all, o.write ≠ none → x < poolBase cl + 128 * o.pline ∨ poolBase cl + 128 * (o.pline + o.n) ≤ x) →
        t.byte x = s.byte x) ∧
      (∀ o ∈ all, o.write = none →
        ⟨o.issued + 3, o.issued, o.slot, o.spline, o.n, true, .write (s.lines (poolBase cl + 128 * o.pline) o.n)⟩ ∈
          (t.core o.core).banks) ∧
      (∀ o ∈ all, ∀ i < o.n, t.portFree cl ((o.pline + i) % 16) = false)) ∧
  (∀ (p : PairIx) (sl : Fin 32) (s : State),
    ((s.pair p).slotIn.filter (fun i => i.slot = sl.val) = [] → exec (.slotBeat p sl) s = .next s) ∧
    ∀ b ins, minBeat (((s.pair p).slotIn.filter fun i => i.slot = sl.val).map SlotIn.beat) = some b →
    ins = (s.pair p).slotIn.filter (fun i => i.slot = sl.val && decide (i.beat = b)) →
    ∃ t, exec (.slotBeat p sl) s = .next t ∧ t = { s with pairs := t.pairs, regs := t.regs, hwSet := t.hwSet } ∧
      SameRegsBut s t (fun a => a = CD_SLOT_REC p sl) ∧
      (t.pair p).slotIn = (s.pair p).slotIn.filter (fun i => !(i.slot = sl.val && decide (i.beat = b))) ∧
      (∀ k, k / 16 ≠ sl.val → Tab.get 0 (t.pair p).slotLine k = Tab.get 0 (s.pair p).slotLine k) ∧
      ∀ l < 16, ∀ k cs r, k = sl.val * 16 + l → cs = contribsTo ins l →
        r = slotStep (Tab.get 0 (s.pair p).slotLine k) (Tab.get 0 (s.pair p).slotWidth k) cs →
        Tab.get 0 (t.pair p).slotLine k = r.1 ∧ Tab.get 0 (t.pair p).slotWidth k = r.2.1 ∧
        (r.2.2.1 = true → t.rf (CD_SLOT_REC p sl) CD_SLOT_REC_SAT = 1) ∧
        (r.2.2.2 = true → t.rf (CD_SLOT_REC p sl) CD_SLOT_REC_WIDTH = 1) ∧
        (cs ≠ [] → (s.rf (CD_SLOT_REC p sl) CD_SLOT_REC_HELD).testBit l = true → t.rf (CD_SLOT_REC p sl) CD_SLOT_REC_OVERLAP = 1))

/-- Static accesses of a bank beat that meet in a bank are not performed: the earliest issued operation records BANK and the core stops -/
def Obligations.BankConflictFaults : Prop :=
  ∀ (c : CoreIx) (up : List Upset) (s u : State) (all : List BankAcc) (x : BankAcc), u = s.spStrikes c up → all = u.bankDue c →
    earliest (bankLosers (u.openBanks c) (all.any fun a => a.kind = .scrub) (all.filter fun a => a.kind ≠ .scrub)) = some x →
    s.rf (CD_CORE_FAULT c) CD_CORE_FAULT_CAUSE = 0 →
    ∃ t, exec (.bankBeat c up) s = .next t ∧ SameBytes s t ∧ t.seqState c = 3 ∧ (t.core c).banks = [] ∧ (t.core c).flight = [] ∧
      SameCoresBut s t c ∧ t.rf (CD_CORE_FAULT c) CD_CORE_FAULT_CAUSE = 1 ∧
      t.rf (CD_CORE_FAULT c) CD_CORE_FAULT_SLOT = x.slot % 8 ∧ t.rf (CD_CORE_FAULT c) CD_CORE_FAULT_LINE = x.line % 2 ^ 15 ∧
      t.rf (CD_CORE_FAULT c) CD_CORE_FAULT_BEAT = x.issued % 2 ^ 24

/-- In a wall beat a knot's count changes once: less what was consumed, plus every increment, or from the lowest KSET; a clamp sets OVF -/
def Obligations.KnotUpdateCounts : Prop :=
  ∀ (cl : ClusterIx) (k : Fin 64) (s : State) (q : KnotPend) (base sum : Nat), q = s.kp (knotKey cl k) →
    (q.sets = [] → base = s.knotCount cl k - q.consumed) →
    (∀ x ∈ q.sets, (∀ y ∈ q.sets, x.1 < y.1 ∨ x = y) → base = x.2) →
    (q.sets = [] ∨ ∃ x ∈ q.sets, ∀ y ∈ q.sets, x.1 < y.1 ∨ x = y) →
    sum = base + (q.sigs.map Prod.snd).sum + q.outside →
    (sum ≤ 2 ^ 32 - 1 →
      ∃ t : State, exec (.knotUpdate cl k) s = .next (t.gateTurn cl k (s.knotCount cl k) sum q.sigBeat) ∧ t.knotCount cl k = sum ∧
        t.kp (knotKey cl k) = KnotPend.none ∧ t = { s with regs := t.regs, kpend := t.kpend } ∧
        t.rf (KN_COUNT cl k) KN_COUNT_OVF = s.rf (KN_COUNT cl k) KN_COUNT_OVF ∧
        (∀ a, a ≠ KN_COUNT cl k → t.rget a = s.rget a) ∧ ((∀ x ∈ s.streamsOf (cl.val / 32), cFlag x.2.raw 3 = false) →
          t.gateTurn cl k (s.knotCount cl k) sum q.sigBeat = t)) ∧
    (sum > 2 ^ 32 - 1 →
      ∃ t : State, exec (.knotUpdate cl k) s = .next (t.gateTurn cl k (s.knotCount cl k) (2 ^ 32 - 1) q.sigBeat) ∧
        t.knotCount cl k = 2 ^ 32 - 1 ∧ t.rf (KN_COUNT cl k) KN_COUNT_OVF = 1 ∧ t.mem = s.mem ∧
        (∀ x ∈ q.sigs, (∀ y ∈ q.sigs, x.1 ≤ y.1) → t.seqState x.1 = 3))

/-- A wait whose knot has the count succeeds and consumes; its release clears it; a wait past its limit faults the core -/
def Obligations.WaitsAndHolds : Prop :=
  (∀ (c : CoreIx) (s : State) (ws : List Wait), ws = (s.grp (s.grpOf c)).waits →
    (∀ w, ws.find? (fun w => w.core = c.val && w.succ.isNone && s.waitOk w && !s.lowerReady ws w) = some w →
      ∃ t, exec (.kwaitSuccess c) s = .next t ∧ t = { s with groups := t.groups, kpend := t.kpend, regs := t.regs } ∧
      (t.grp (s.grpOf c)).waits = ws.map (fun v => if v = w then { w with succ := some (s.pb (pairOf c)) } else v) ∧
      SameRegsBut s t (fun a => a = CD_SEQ_STATUS c) ∧
      t.rf (CD_SEQ_STATUS c) CD_SEQ_STATUS_WAITING = (ws.any fun v => v.core = c.val && v.succ.isNone && decide (v ≠ w)).toNat ∧
      (t.kp (knotKey (gclusterOf c) w.knot)).consumed =
        (s.kp (knotKey (gclusterOf c) w.knot)).consumed + (if w.consume then w.thr else 0)) ∧
    (ws.find? (fun w => w.core = c.val && w.succ.isNone && s.waitOk w && !s.lowerReady ws w) = none →
      exec (.kwaitSuccess c) s = .next s)) ∧
  (∀ (p : PairIx) (g : Fin 32) (s : State),
    ((s.grp (p.val * 32 + g.val)).stop = none → ∃ t, exec (.groupRelease p g) s = .next t ∧ t = { s with groups := t.groups } ∧
      t.grp (p.val * 32 + g.val) = { s.grp (p.val * 32 + g.val) with
        waits := (s.grp (p.val * 32 + g.val)).waits.filter fun w => w.succ.all fun t => decide (s.pb p < t + 8) }) ∧
    ((s.grp (p.val * 32 + g.val)).stop ≠ none → exec (.groupRelease p g) s = .next s)) ∧
  (∀ (c : CoreIx) (s : State),
    (∀ w ∈ (s.grp (s.grpOf c)).waits, s.rf (CD_HOLD_LIMIT c) CD_HOLD_LIMIT_LIMIT ≠ 0 →
      w.core = c.val → w.succ = none → s.knotLeft (gclusterOf c) w.knot < w.thr →
      w.since + s.rf (CD_HOLD_LIMIT c) CD_HOLD_LIMIT_LIMIT ≤ s.pb (pairOf c) →
      ∃ t, exec (.waitLimit c) s = .next t ∧ t.seqState c = 3 ∧ t.mem = s.mem ∧ SameCoresBut s t c ∧
        (s.rf (CD_CORE_FAULT c) CD_CORE_FAULT_CAUSE = 0 → t.rf (CD_CORE_FAULT c) CD_CORE_FAULT_CAUSE = 0x11)) ∧
    (s.rf (CD_HOLD_LIMIT c) CD_HOLD_LIMIT_LIMIT = 0 → exec (.waitLimit c) s = .next s))

/-- Scrubbing checks one line of each bank, rewrites its single-bit errors, advances, and changes no byte -/
def Obligations.ScrubAdvances : Prop :=
  (∀ (c : CoreIx) (up : List Upset) (s : State) (b : Nat), b < 8 →
    (s.rb (CD_SEQ_STATUS c) CD_SEQ_STATUS_HELD = true →
    ∃ t, exec (.heldBeatScrub c up) s = .next t ∧ SameBytes s t ∧ t.cores = s.cores ∧
      Tab.get 0 t.scrub (c.val * 8 + b) =
        (if (s.openBanks c).contains b then Tab.get 0 s.scrub (c.val * 8 + b) else (Tab.get 0 s.scrub (c.val * 8 + b) + 1) % 3072) ∧
      (¬ (s.openBanks c).contains b → ∀ w, w < 16 → t.mark (spWord c (8 * Tab.get 0 s.scrub (c.val * 8 + b) + b) + w) ≠ 1)) ∧
    (s.rb (CD_SEQ_STATUS c) CD_SEQ_STATUS_HELD = false →
      ∃ t, exec (.heldBeatScrub c up) s = .next t ∧ t = { s with ecc := t.ecc })) ∧
  (∀ (c : CoreIx) (up : List Upset) (s : State) (b : Nat), b < 8 →
    ∃ t, exec (.landingPortScrub c up) s = .next t ∧ SameBytes s t ∧ t.cores = s.cores ∧
      Tab.get 0 t.scrub (c.val * 8 + b) =
        (if (s.openBanks c).contains b then (Tab.get 0 s.scrub (c.val * 8 + b) + 1) % 3072 else Tab.get 0 s.scrub (c.val * 8 + b)) ∧
      ((s.openBanks c).contains b → ∀ w, w < 16 → t.mark (spWord c (8 * Tab.get 0 s.scrub (c.val * 8 + b) + b) + w) ≠ 1)) ∧
  (∀ (cl : ClusterIx) (up : List Upset) (s : State) (b : Nat), b < 16 →
    ∃ t, exec (.poolScrub cl up) s = .next t ∧ SameBytes s t ∧ t.cores = s.cores ∧
      Tab.get 0 t.scrub (16384 + cl.val * 16 + b) =
        (if s.portFree cl b then (Tab.get 0 s.scrub (16384 + cl.val * 16 + b) + 1) % 4096
        else Tab.get 0 s.scrub (16384 + cl.val * 16 + b)) ∧
      (s.portFree cl b = true →
        ∀ w, w < 16 → t.mark (poolWord cl (16 * Tab.get 0 s.scrub (16384 + cl.val * 16 + b) + b) + w) ≠ 1))

/-- An aligned arrival in an open zone is written at once and increments its knot; in a closed one it waits; a drain writes it -/
def Obligations.LandingPort : Prop :=
  (∀ (c : CoreIx) (a : LandAcc) (s : State) (z : Nat), a.data ≠ [] → a.addr.toNat % landWidth a = 0 → a.data.length % landWidth a = 0 →
    (s.accessZone c a.addr.toNat a.data.length = some z → (s.zopen c).getLsbD z = true →
      ∃ t, exec (.landingWrite c a) s = .next t ∧ t.bytes (spBase c + a.addr.toNat) a.data.length = a.data ∧
        SameBytesBut s t (spBase c + a.addr.toNat) (spBase c + a.addr.toNat + a.data.length) ∧ t.cores = s.cores ∧
        SameRegsBut s t (fun _ => False) ∧
        (∀ k, a.knot = some k → (t.kp (knotKey (gclusterOf c) k.toNat)).outside =
          (s.kp (knotKey (gclusterOf c) k.toNat)).outside + 1)) ∧
    (s.accessZone c a.addr.toNat a.data.length = some z → (s.zopen c).getLsbD z = false →
      (a.reply = true ∨ landLines ((s.core c).lbuf ++ [.acc a]) ≤ 16) →
      ∃ t, exec (.landingWrite c a) s = .next t ∧ t.mem = s.mem ∧ SameCoresBut s t c ∧ SameRegsBut s t (fun _ => False) ∧
        t.core c = { s.core c with lbuf := (s.core c).lbuf ++ [.acc a] }) ∧
    (s.accessZone c a.addr.toNat a.data.length = none → exec (.landingWrite c a) s = .next s)) ∧
  (∀ (c : CoreIx) (a : LandAcc) (s : State), a.data = [] ∨ a.addr.toNat % landWidth a ≠ 0 ∨ a.data.length % landWidth a ≠ 0 →
    exec (.landingWrite c a) s = .next s) ∧
  (∀ (c : CoreIx) (z : Fin 8) (s : State) (as : List LandAcc) (go : LandAcc → Bool), (s.core c).lbuf = as.map .acc →
    go = (fun a => s.accessZone c a.addr.toNat a.data.length == some z.val) →
    ((s.zopen c).getLsbD z = true → ∃ t, exec (.landingBufferDrain c z) s = .next t ∧
      (t.core c).lbuf = (as.filter fun a => !go a).map .acc ∧ SameCoresBut s t c ∧
      t.mem = (as.filter go).foldl (fun m a => memPut m (spBase c + a.addr.toNat) a.data) s.mem) ∧
    ((s.zopen c).getLsbD z = false → exec (.landingBufferDrain c z) s = .next s))

/-- GROUP_STOP stops a faulted group's cores; PART_STOP stops the others and faults the partition; a drained group is HALTED -/
def Obligations.GroupAndPartitionStops : Prop :=
  (∀ (p : PairIx) (g : Fin 32) (s : State) (n : Nat), (s.grp (p.val * 32 + g.val)).stop = some n →
    (s.grp (p.val * 32 + g.val)).draining = false →
    ∃ t, exec (.groupStop p g) s = .next t ∧ t.mem = s.mem ∧
      (∀ c ∈ s.grpCores (p.val * 32 + g.val), s.seqState c = 1 ∨ s.seqState c = 2 →
        t.seqState c = 3 ∧ (t.core c).flight = [] ∧ (t.core c).banks = [] ∧
        (s.rf (CD_CORE_FAULT c) CD_CORE_FAULT_CAUSE = 0 →
          t.rf (CD_CORE_FAULT c) CD_CORE_FAULT_CAUSE = 0x15 ∧ t.rf (CD_CORE_FAULT c) CD_CORE_FAULT_BEAT = n % 2 ^ 24)) ∧
      (∀ c : CoreIx, c.val ∉ s.grpCores (p.val * 32 + g.val) → t.core c = s.core c ∧ t.seqState c = s.seqState c)) ∧
  (∀ (part : PartNo) (s : State) (p : Part), s.part? part = some p → p.origins ≠ [] →
    ∃ t q, exec (.partStop part) s = .next t ∧ t.part? part = some q ∧ q.state = .faulted ∧ q.origins = [] ∧
      q.first = p.first ∧ q.pairs = p.pairs ∧
      ∀ c : CoreIx, (c.val, s.core c) ∈ s.cores → (s.core c).bundles ≠ 0 → p.hasPair (pairOf c) = true →
        s.seqState c = 1 ∨ s.seqState c = 2 → t.seqState c = 3) ∧
  (∀ (p : PairIx) (g : Fin 32) (s u : State) (k : Nat), k = p.val * 32 + g.val → (s.grp k).part ≠ 0 → (s.grp k).halted = false →
    (s.grp k).stop = none → (s.grp k).waits = [] → (s.grpCores k).any s.running = false → u = s.drainBeats k 64 →
    ((u.grp k).stop = none → ∃ t, exec (.groupDrainEnd p g) s = .next t ∧ (t.grp k).halted = true) ∧
    ((u.grp k).stop ≠ none → exec (.groupDrainEnd p g) s = .next (u.groupStop k)))

/-- A pool-port access takes a bank that is free in its wall beat: a write stores its 64 bytes, a read delivers them; where the bank is taken it waits -/
def Obligations.PoolPort : Prop :=
  (∀ (cl : ClusterIx) (a : PoolAcc) (up : List Upset) (s u : State) (at_ : Nat) (free : Bool), u = s.poolStrikes cl up →
    at_ = poolBase cl + a.addr.toNat → free = s.portFree cl (a.addr.toNat / 128 % 16) →
    (s.pool cl).atoms = [] → (s.pool cl).reps = [] → a.addr.toNat % 64 = 0 →
    (∀ b ∈ (s.pool cl).wait, b.addr.toNat / 128 % 16 ≠ a.addr.toNat / 128 % 16 ∧ b.addr.toNat % 64 = 0 ∧ b.data.length ≤ 64) →
    let others (x : Nat) : Prop := ∀ b ∈ (s.pool cl).wait, b.write = true →
      x < poolBase cl + b.addr.toNat ∨ poolBase cl + b.addr.toNat + 64 ≤ x
    (free = true → a.write = true → a.data.length = 64 →
      ∃ t, exec (.poolPortAccess cl a up) s = .next t ∧ t.bytes at_ 64 = a.data ∧
        (∀ x, others x → x < at_ ∨ at_ + 64 ≤ x → t.byte x = s.byte x) ∧ t.cores = s.cores ∧
        SameRegsBut s t (fun r => r = CD_POOL_ECC cl) ∧ t.portFree cl (a.addr.toNat / 128 % 16) = false) ∧
    (free = true → a.write = false → u.ues (at_ / 8) 8 = [] →
      ∃ t, exec (.poolPortAccess cl a up) s = .next t ∧ t.portOut = s.bytes at_ 64 ∧ (∀ x, others x → t.byte x = s.byte x) ∧
        t.cores = s.cores ∧ SameRegsBut s t (fun r => r = CD_POOL_ECC cl) ∧ t.portFree cl (a.addr.toNat / 128 % 16) = false) ∧
    (free = false → (a.write = true → a.data.length = 64) →
      ∃ t, exec (.poolPortAccess cl a up) s = .next t ∧ a ∈ (t.pool cl).wait ∧ (∀ x, others x → t.byte x = s.byte x) ∧
        t.cores = s.cores ∧ SameRegsBut s t (fun r => r = CD_POOL_ECC cl))) ∧
  (∀ (cl : ClusterIx) (a : PoolAcc) (up : List Upset) (s : State),
    a.addr.toNat % 64 ≠ 0 ∨ (a.write = true ∧ a.data.length ≠ 64) →
    ∃ t, exec (.poolPortAccess cl a up) s = .next t ∧ t = { s with ecc := t.ecc })

/-- Gear latch, acknowledge check, boundary, voltage confirmation and timeout move the gear controller as R121, R122 and R424 say -/
def Obligations.GearController : Prop :=
  ∀ (p : PairIx) (s : State),
    (s.pb p % 4096 ≠ 3840 → exec (.gearLatch p) s = .next s) ∧
    (s.pb p % 4096 = 3840 → ∃ t, exec (.gearLatch p) s = .next t ∧
      (let a := CD_GEAR_CTL p
       let cap := (if s.brake then 24 else Tab.get 0 s.capping.req p) % 32
       let tg := max (max (s.rf a CD_GEAR_CTL_HOST_REQ) cap) (max (s.rf a CD_GEAR_CTL_THERM_REQ) (s.rf a CD_GEAR_CTL_MON_REQ))
       let ask := tg < s.rf a CD_GEAR_CTL_CUR ∧ tg < s.rf a CD_GEAR_CTL_VOLT_OK
       t.rf a CD_GEAR_CTL_CAP_REQ = cap ∧
       t.rf a CD_GEAR_CTL_NEXT = (if tg ≥ s.rf a CD_GEAR_CTL_CUR then tg else max tg (s.rf a CD_GEAR_CTL_VOLT_OK)) ∧
       t.rf a CD_GEAR_CTL_CUR = s.rf a CD_GEAR_CTL_CUR ∧ (t.rf a CD_GEAR_CTL_VPEND = 1 ↔ ask) ∧
       (t.pair p).changing = decide (t.rf a CD_GEAR_CTL_NEXT ≠ s.rf a CD_GEAR_CTL_CUR) ∧
       t.pmbus = s.pmbus ++ (if ask then [(0x40 + p.val, railMv p tg)] else []) ∧
       SameRegsBut s t (fun b => b = a ∨ b = HD_PWR_STAT) ∧ t.mem = s.mem ∧ t.cores = s.cores)) ∧
    (∀ acks,
      (s.pb p % 4096 = 4095 → (s.pair p).changing = true → acks ≠ BitVec.allOnes 32 → ∃ t, exec (.gearAckCheck p acks) s = .next t ∧
        t.rf (CD_GEAR_CTL p) CD_GEAR_CTL_NEXT = s.rf (CD_GEAR_CTL p) CD_GEAR_CTL_CUR ∧ (t.pair p).changing = false ∧
        t.rf (CD_GEAR_STAT p) CD_GEAR_STAT_ABORTS = min (s.rf (CD_GEAR_STAT p) CD_GEAR_STAT_ABORTS + 1) (2 ^ 16 - 1)) ∧
      (s.pb p % 4096 ≠ 4095 ∨ (s.pair p).changing = false ∨ acks = BitVec.allOnes 32 → exec (.gearAckCheck p acks) s = .next s)) ∧
    (∀ low, s.pb p % 4096 = 0 → ∃ t, exec (.gearBoundary p low) s = .next t ∧ (t.pair p).changing = false ∧ t.mem = s.mem ∧
      t.rf (CD_GEAR_CTL p) CD_GEAR_CTL_MON_REQ = ((t.pair p).monReq.map Prod.snd).foldl max 0 % 32 ∧
      (∀ i < 32, ∀ r, r = monitorStep (low.getLsbD i) (Tab.get 0 (s.pair p).monReq i) (Tab.get 0 (s.pair p).monCalm i) →
        Tab.get 0 (t.pair p).monReq i = r.1 ∧ Tab.get 0 (t.pair p).monCalm i = if r.1 = 0 then 0 else r.2) ∧
      ((s.pair p).changing = true → t.rf (CD_GEAR_CTL p) CD_GEAR_CTL_CUR = s.rf (CD_GEAR_CTL p) CD_GEAR_CTL_NEXT ∧
        t.rf (CD_GEAR_STAT p) CD_GEAR_STAT_CHANGES = min (s.rf (CD_GEAR_STAT p) CD_GEAR_STAT_CHANGES + 1) (2 ^ 32 - 1) ∧
        (s.rf (CD_GEAR_CTL p) CD_GEAR_CTL_NEXT > s.rf (CD_GEAR_CTL p) CD_GEAR_CTL_CUR → (t.pair p).lower = true)) ∧
      ((s.pair p).changing = false → t.rf (CD_GEAR_CTL p) CD_GEAR_CTL_CUR = s.rf (CD_GEAR_CTL p) CD_GEAR_CTL_CUR)) ∧
    ((s.pair p).lower = true → s.pb p % 4096 = 1 →
      (s.tickGear p).rf (CD_GEAR_CTL p) CD_GEAR_CTL_VOLT_OK = s.rf (CD_GEAR_CTL p) CD_GEAR_CTL_CUR ∧
      (s.tickGear p).pmbus = s.pmbus ++ [(0x40 + p.val, railMv p (s.rf (CD_GEAR_CTL p) CD_GEAR_CTL_CUR))]) ∧
    (∀ g : Fin 25, ∃ t, exec (.voltConfirm p g) s = .next t ∧ t.rf (CD_GEAR_CTL p) CD_GEAR_CTL_VOLT_OK = g.val ∧
      SameRegsBut s t (fun b => b = CD_GEAR_CTL p) ∧ t = { s with regs := t.regs }) ∧
    (∀ (g : Fin 25) mv, ∃ t, exec (.voltTimeout p g mv) s = .next t ∧ t.rget (CD_GEAR_CTL p) = s.rget (CD_GEAR_CTL p) ∧
      t.pmbus = s.pmbus ++ [(0x40 + p.val, railMv p g)] ∧ t.mem = s.mem) ∧
    (∀ (cl : ClusterIx) (port : Fin 6), ∃ t, exec (.crossingMarginLow cl port) s = .next t ∧
      t.rf (CD_XING_STAT cl) CD_XING_STAT_MARGIN_LOW = s.rf (CD_XING_STAT cl) CD_XING_STAT_MARGIN_LOW ||| 2 ^ port.val ∧
      t.rf (CD_XING_STAT cl) CD_XING_STAT_SLIPPED = s.rf (CD_XING_STAT cl) CD_XING_STAT_SLIPPED ∧
      t = { s with regs := t.regs, hwSet := t.hwSet } ∧ SameRegsBut s t (fun b => b = CD_XING_STAT cl))

/-- A crossing slip sets the port's SLIPPED bit and faults the partition that uses the pair, whatever its draft state -/
def Obligations.CrossingSlipStopsPartition : Prop :=
  ∀ (cl : ClusterIx) (port : Fin 6) (s : State), ∃ t, exec (.crossingSlip cl port) s = .next t ∧
    t.rf (CD_XING_STAT cl) CD_XING_STAT_SLIPPED = s.rf (CD_XING_STAT cl) CD_XING_STAT_SLIPPED ||| 2 ^ port.val ∧
    (∀ p, s.part? (s.partOfPair (cl.val / 32)) = some p →
      ∃ q, t.part? (s.partOfPair (cl.val / 32)) = some q ∧ q.state = .faulted ∧ 1 ≤ q.level ∧ q.first = p.first ∧ q.pairs = p.pairs) ∧
    (s.part? (s.partOfPair (cl.val / 32)) = none → t.mem = s.mem ∧ t.parts = s.parts ∧ t.cores = s.cores)

/-- Warp packets leave in PSEQ order within the bounds, are delivered in order, acknowledged and replayed -/
def Obligations.WarpPlaneTraffic : Prop :=
  (∀ (a d : SiteIx) (busy : BitVec 16) (s : State) (T : WarpTx) (wg : Nat), s.lightHold = false → s.isDown a d = false → a ≠ d →
    T = (s.tx (siteKey a d)).accept (s.tx (siteKey a d)).offer.length →
    (∀ (q : Nat) (o : WOffer) (rest : List (Nat × WOffer)), T.sent.find? WSent.again = none → T.queue = (q, o) :: rest →
      T.sent.length < 1024 → (T.sent.map fun x => x.off.pk.flits).sum + o.pk.flits ≤ 256 →
      s.freeLane a d o.start busy none = some wg →
      (s.maskOf a d).testBit wg = false ∧ busy.getLsbD wg = false ∧ (s.lane (warpLane a d wg)).out = 0 ∧
      ∃ t pk, exec (.warpPacketSend a d busy) s = .next t ∧ t.warpOut = s.warpOut ++ [(siteKey a d, wg, pk)] ∧
        pk.pseq = q % 4096 ∧ pk.data = o.pk.data ∧ (t.tx (siteKey a d)).queue = rest ∧
        (t.tx (siteKey a d)).sent = T.sent ++ [⟨q, o, 1, wg, false⟩] ∧ SameCompute s t ∧ t.epIn = s.epIn ∧ t.edge = s.edge) ∧
    (∀ w : WSent, T.sent.find? WSent.again = some w → s.freeLane a d w.off.start busy (some w.last) = some wg →
      ∃ t pk, exec (.warpPacketSend a d busy) s = .next t ∧ t.warpOut = s.warpOut ++ [(siteKey a d, wg, pk)] ∧
        pk.pseq = w.pseq % 4096 ∧ pk.data = w.off.pk.data ∧ (t.tx (siteKey a d)).queue = T.queue ∧
        (t.tx (siteKey a d)).sent = T.sent.filter (fun x => decide (x.pseq ≠ w.pseq)) ++
          [{ w with again := false, tries := w.tries + 1, last := wg }] ∧
        t.rf (LM_WARP_STAT a) LM_WARP_STAT_REPLAYS = min (s.rf (LM_WARP_STAT a) LM_WARP_STAT_REPLAYS + 1) LM_WARP_STAT_REPLAYS.max ∧
        SameCompute s t ∧ t.epIn = s.epIn ∧ t.edge = s.edge)) ∧
  (∀ (d : SiteIx) (wg : Fin 16) (src : SiteIx) (pk : Pkt) (marked : Bool) (s : State), (marked = true ∨ pk.crcOk = false) →
    ∃ t, exec (.warpPacketReceive d wg src pk marked) s = .next t ∧ t.epIn = s.epIn ∧ t.edge = s.edge ∧ SameCompute s t ∧
      t.rx (siteKey d src) = { s.rx (siteKey d src) with nak := some wg.val } ∧
      t.rf (LM_WARP_STAT d) LM_WARP_STAT_CRC_ERR = min (s.rf (LM_WARP_STAT d) LM_WARP_STAT_CRC_ERR + 1) 65535) ∧
  (∀ (d : SiteIx) (wg : Fin 16) (src : SiteIx) (pk : Pkt) (s : State) (r : WarpRx), r = s.rx (siteKey d src) →
    pk.crcOk = true → pk.f 81 1 = 0 →
    (warpMalformed d pk = true → ∃ t, exec (.warpPacketReceive d wg src pk false) s = .next t ∧ t.epIn = s.epIn ∧ t.edge = s.edge ∧
      SameCompute s t ∧ t.rget (LM_WARP_LASTBAD d) = BitVec.ofNat 64 pk.hdr.toNat ∧ t.rx (siteKey d src) = r) ∧
    (warpMalformed d pk = false → pk.linkonly = false →
      ((pk.pseq + 4096 - r.next) % 4096 ≥ 2048 ∨ r.held.any (fun e => e.1 == pk.pseq) = true →
        ∃ t, exec (.warpPacketReceive d wg src pk false) s = .next t ∧ t.epIn = s.epIn ∧ t.edge = s.edge ∧ SameCompute s t ∧
          t.rx (siteKey d src) = { r with owe := true }) ∧
      (0 < (pk.pseq + 4096 - r.next) % 4096 → (pk.pseq + 4096 - r.next) % 4096 < 2048 →
        r.held.any (fun e => e.1 == pk.pseq) = false →
        ∃ t, exec (.warpPacketReceive d wg src pk false) s = .next t ∧ t.epIn = s.epIn ∧ t.edge = s.edge ∧ SameCompute s t ∧
          t.rx (siteKey d src) = { r with held := r.held ++ [(pk.pseq, wg.val, pk)] }) ∧
      (pk.pseq = r.next → (∀ e ∈ r.held, e.1 ≠ (r.next + 1) % 4096 ∧ e.1 ≠ r.next) →
        ∃ t, exec (.warpPacketReceive d wg src pk false) s = .next t ∧ SameCompute s t ∧
          (t.rx (siteKey d src)).next = (r.next + 1) % 4096 ∧ (t.rx (siteKey d src)).owe = true ∧
          (d.val < 8 → pk.dep < 2 → ∀ k, k = laneKeyOf (d.val * 32 + 16 * pk.dep + pk.f 40 4) (wg.val % 4) →
            t.edgeAt k = s.edgeAt k ++ [(wg.val / 4, .packet pk)] ∧ t.epIn = s.epIn) ∧
          (d.val < 16 → 8 ≤ d.val ∨ 2 ≤ pk.dep →
            Tab.get [] t.epIn (d * 8 + pk.dep) = Tab.get [] s.epIn (d * 8 + pk.dep) ++ [pk] ∧ t.edge = s.edge)))) ∧
  (∀ (a d : SiteIx) (busy : BitVec 16) (s : State) (wg : Nat), s.lightHold = false → s.isDown a d = false → a ≠ d →
    ((s.rx (siteKey a d)).owe = true ∨ (s.rx (siteKey a d)).nak ≠ none ∨
      ∃ v < 8, Tab.get 0 (s.rx (siteKey a d)).told v ≠ (s.rx (siteKey a d)).owed v) →
    s.freeLane a d 0 busy none = some wg →
    ∃ t pk, exec (.warpAckSend a d busy) s = .next t ∧ t.warpOut = s.warpOut ++ [(siteKey a d, wg, pk)] ∧ pk.linkonly = true ∧
      pk.data = [] ∧ (t.rx (siteKey a d)).owe = false ∧ (t.rx (siteKey a d)).nak = none ∧ SameCompute s t) ∧
  (∀ (a d : SiteIx) (s : State) (w : WSent), s.lightHold = false →
    (s.tx (siteKey a d)).sent.find? (fun x => !x.again) = some w → (s.tx (siteKey a d)).sent.find? (fun x => x.pseq = w.pseq) = some w →
    (w.tries < 9 → ∃ t, exec (.warpReplayTimeout a d) s = .next t ∧ t = s.setTx (siteKey a d) { s.tx (siteKey a d) with
      sent := (s.tx (siteKey a d)).sent.map fun x => if x.pseq = w.pseq then { x with again := true } else x }) ∧
    (9 ≤ w.tries → s.isDown a d = false → ∃ t, exec (.warpReplayTimeout a d) s = .next t ∧ t.isDown a d = true ∧
      (t.tx (siteKey a d)).sent = [] ∧ (t.tx (siteKey a d)).queue = []))

/-- A phase switch is asked for, settles, is verified or rolled back; a good frame is kept; a lane follows its map -/
def Obligations.WeftPlaneSwitchesAndFrames : Prop :=
  (∀ (n : PartNo) (slot : BitVec 4) (by_ : Bool) (s : State) (p : Part) (w : Switch) (valid : Bool), s.part? n = some p → w = s.sw n →
    valid = (p.groupIx.all fun g => (s.rf (LM_WEFT_SLOTVALID g) LM_WEFT_SLOTVALID_VALID).testBit slot.toNat) →
    (valid = false ∨ (w.on = true ∧ w.queue ≠ none ∧ ∀ x, w.queue = some x → ¬ (by_ = true ∧ x.2 = false ∧ w.qFrom = s.tick)) →
      ∃ t, exec (.phaseSwitchRequest n slot by_) s = .next t ∧ SameCompute s t ∧ t.switches = s.switches ∧
        t.switchOut = s.switchOut ++ [(n.val, slot.toNat, by_, 0)]) ∧
    (valid = true → w.on = false →
      (slot.toNat = s.gget p LM_WEFT_GSTAT_CUR → s.gget p LM_WEFT_GSTAT_STATE = 0 →
        exec (.phaseSwitchRequest n slot by_) s = .next { s with switchOut := s.switchOut ++ [(n.val, slot.toNat, by_, 1)] }) ∧
      (slot.toNat ≠ s.gget p LM_WEFT_GSTAT_CUR ∨ s.gget p LM_WEFT_GSTAT_STATE ≠ 0 →
        ∃ t, exec (.phaseSwitchRequest n slot by_) s = .next t ∧ SameCompute s t ∧ t.switchOut = s.switchOut ∧
          (∀ g ∈ p.groupIx, t.rf (LM_WEFT_GSTAT g) LM_WEFT_GSTAT_STATE = 1) ∧
          t.sw n = ⟨true, slot.toNat, slot.toNat, s.gget p LM_WEFT_GSTAT_CUR, false, some by_, none, s.tick, 0⟩)) ∧
    (valid = true → w.on = true → w.queue = none →
      (¬ (by_ = true ∧ w.asker = some false ∧ w.from_ = s.tick ∧ w.roll = false) →
        ∃ t, exec (.phaseSwitchRequest n slot by_) s = .next t ∧ SameCompute s t ∧ t.switchOut = s.switchOut ∧
          t.sw n = { w with queue := some (slot.toNat, by_), qFrom := s.tick }) ∧
      (by_ = true → w.asker = some false → w.from_ = s.tick → w.roll = false → slot.toNat ≠ w.old →
        ∃ t, exec (.phaseSwitchRequest n slot by_) s = .next t ∧ SameCompute s t ∧ (t.sw n).target = slot.toNat ∧
          (t.sw n).asker = some true ∧ (t.sw n).queue = some (w.want, false))) ∧
    (∀ x, valid = true → w.on = true → w.queue = some (x, false) → by_ = true → w.qFrom = s.tick →
      ∃ t, exec (.phaseSwitchRequest n slot by_) s = .next t ∧ SameCompute s t ∧ (t.sw n).queue = some (slot.toNat, true) ∧
        t.switchOut = s.switchOut ++ [(n.val, x, false, 0)])) ∧
  (∀ (n : PartNo) (s : State) (p : Part), s.part? n = some p → (s.sw n).on = true →
    ∃ t, exec (.phaseSwitchSettled n) s = .next t ∧ t = { s with regs := t.regs, weftTx := t.weftTx, weftOut := t.weftOut } ∧
      ∀ g ∈ p.groupIx, t.rf (LM_WEFT_GSTAT g) LM_WEFT_GSTAT_CUR = s.rf (LM_WEFT_GSTAT g) LM_WEFT_GSTAT_CUR ∧
        t.rf (LM_WEFT_GSTAT g) LM_WEFT_GSTAT_STATE =
          if (s.sw n).roll then s.rf (LM_WEFT_GSTAT g) LM_WEFT_GSTAT_STATE else 2) ∧
  (∀ (n : PartNo) (meas : List OutMeas) (s : State) (p : Part) (w : Switch), s.part? n = some p → w = s.sw n → w.on = true →
    w.target < 16 →
    (s.badOuts p w.target meas = [] → w.queue = none →
      ∃ t, exec (.phaseSwitchVerify n meas) s = .next t ∧ SameCompute s t ∧ (t.sw n).on = false ∧
        (∀ g ∈ p.groupIx, t.rf (LM_WEFT_GSTAT g) LM_WEFT_GSTAT_CUR = w.target ∧ t.rf (LM_WEFT_GSTAT g) LM_WEFT_GSTAT_STATE = 0) ∧
        (∀ h, w.asker = some h → t.switchOut = s.switchOut ++ [(n.val, w.want, h, if w.roll then 2 else 1)])) ∧
    (∀ x h, s.badOuts p w.target meas = [] → w.queue = some (x, h) → x ≠ w.target → 0 < p.pairs →
      (p.groupIx.all fun g => (s.rf (LM_WEFT_SLOTVALID g) LM_WEFT_SLOTVALID_VALID).testBit x) = true →
      ∃ t, exec (.phaseSwitchVerify n meas) s = .next t ∧ SameCompute s t ∧
        t.sw n = ⟨true, x, x, w.target, false, some h, none, s.tick, 0⟩) ∧
    (∀ o l, s.badOuts p w.target meas = o :: l → w.roll = false →
      ∃ t, exec (.phaseSwitchVerify n meas) s = .next t ∧ SameCompute s t ∧ t.switchOut = s.switchOut ∧
        t.sw n = { w with roll := true, target := w.old } ∧
        ∀ g ∈ p.groupIx, t.rf (LM_WEFT_GSTAT g) LM_WEFT_GSTAT_STATE = 3 ∧ t.rf (LM_WEFT_GSTAT g) LM_WEFT_GSTAT_FAIL_OUT = o % 128) ∧
    (∀ o l, s.badOuts p w.target meas = o :: l → w.roll = true → w.queue = none →
      ∃ t, exec (.phaseSwitchVerify n meas) s = .next t ∧ SameCompute s t ∧ (t.sw n).on = false ∧
        (∀ g ∈ p.groupIx, t.rf (LM_WEFT_GSTAT g) LM_WEFT_GSTAT_STATE = 4 ∧ t.rf (LM_WEFT_GSTAT g) LM_WEFT_GSTAT_CUR = 0) ∧
        (∀ h, w.asker = some h → t.switchOut = s.switchOut ++ [(n.val, w.want, h, 2)]))) ∧
  (∀ (f : WeftRx) (raw : List (BitVec 544)) (marked : Bool) (s : State) (act : List Nat) (bs : List LaneBlock) (key : Nat),
    s.lightHold = false → raw ≠ [] → (s.phasePart f.site f.wg = 0 ∨ (s.sw (s.phasePart f.site f.wg)).on = false) →
    act = s.rxLanes f.site f.wg → bs = (s.unscramble f.site f.wg act raw).1 → key = f.site.val * 16 + f.wg.val →
    (frameOk act.length marked bs = true → raw.length = act.length →
      ∃ t, exec (.weftFrameReceive f raw marked) s = .next t ∧
        t = { s with weftIn := t.weftIn, weftScr := t.weftScr, pairEnd := t.pairEnd, ctlEnd := t.ctlEnd } ∧
        (((bs.headD ⟨0, 0⟩).tail.extractLsb' 12 2).toNat = 1 → s.standAt f.site f.wg = none →
          Tab.get [] t.weftIn key = Tab.get [] s.weftIn key ++ [some (bs.flatMap fun b => leBytes 64 b.payload.toNat)]) ∧
        (((bs.headD ⟨0, 0⟩).tail.extractLsb' 12 2).toNat = 2 → t.weftIn = s.weftIn) ∧
        (∀ pr p k, ((bs.headD ⟨0, 0⟩).tail.extractLsb' 12 2).toNat = 0 → s.standAt f.site f.wg = some (pr, p, k) →
          (t.end_ pr (circKey p k)).drop = false)) ∧
    (frameOk act.length marked bs = false ∨ raw.length ≠ act.length →
      ∃ t, exec (.weftFrameReceive f raw marked) s = .next t ∧ SameCompute s t ∧
        Tab.get 0 t.weftBad key = Tab.get 0 s.weftBad key + 1 ∧
        (s.standAt f.site f.wg = none → Tab.get [] t.weftIn key = Tab.get [] s.weftIn key ++ [none]) ∧
        (∀ pr p k, s.standAt f.site f.wg = some (pr, p, k) → (t.end_ pr (circKey p k)).drop = true ∧ t.weftIn = s.weftIn))) ∧
  (∀ (l : RingRef) (meas : List (Bool × OutMeas)) (s : State), l.isRing = true → s.lightHold = false →
    (l.plane = 1 → s.phasePart l.site l.wg = 0 ∨ (s.sw (s.phasePart l.site l.wg)).on = false) →
    ∃ t, exec (.laneFlood l meas) s = .next t ∧
      t.rf (LM_OPT_STAT l.site) LM_OPT_STAT_FLOODS = min (s.rf (LM_OPT_STAT l.site) LM_OPT_STAT_FLOODS + 1) LM_OPT_STAT_FLOODS.max ∧
      (t.lane (laneKey l.key)).out &&& whyFlood = whyFlood ∧ (t.ring l.key).stale = true ∧
      (l.plane < 2 → (t.lane (laneKey l.key)).insv = false) ∧
      (l.plane = 0 → (t.maskOf (laneKey l.key / 4096) ((laneKey l.key / 4096 + laneKey l.key % 4096 / 128) % 32)).testBit
        (laneKey l.key % 4096 / 8 % 16) = true)) ∧
  (∀ (l : RingRef) (s : State), l.isRing = true →
    (l.plane < 2 → ∀ on, ∃ t, exec (.laneMapStep l (.carry on)) s = .next t ∧ SameCompute s t ∧ t.rings = s.rings ∧
      (t.lane (laneKey l.key)).out = (s.lane (laneKey l.key)).out ∧
      (t.lane (laneKey l.key)).insv = (on && decide ((s.lane (laneKey l.key)).out = 0) && s.laneFit (laneKey l.key))) ∧
    (∀ wl, (s.ring l.key).lock = 1 → ∃ t, exec (.laneMapStep l (.line wl)) s = .next t ∧ SameCompute s t ∧ t.lanes = s.lanes ∧
      t.ring l.key = { s.ring l.key with line := if wl.toNat = l.wl then none else some wl.toNat }))

/-- Laser inputs are judged by R151's limits; the Bobbin's signals set LASER_EN, BOBBIN_OK, TIMEOUT and light hold -/
def Obligations.LaserInputsAndBobbin : Prop :=
  (∀ (n : LaserIx) (w : BitVec 16) (s : State), ∃ t, exec (.laserTapSample n w) s = .next t ∧ SameCompute s t ∧
    t.rf (LM_LASER_IN n) LM_LASER_IN_POWER = w.toNat ∧
    t.rb (LM_LASER_IN n) LM_LASER_IN_LOW = decide (w.toInt < if n.val < 16 then 1510 else 1500) ∧
    t.rb (LM_LASER_IN n) LM_LASER_IN_DARK = decide (w.toInt < 500) ∧
    t.rb (LM_LASER_IN n) LM_LASER_IN_OVER = decide (2100 < w.toInt) ∧
    (s.rb (LM_LASER_IN n) LM_LASER_IN_DARK = decide (w.toInt < 500) →
      t = { s with regs := t.regs } ∧ ∀ a, a ≠ LM_LASER_IN n → t.rget a = s.rget a) ∧
    (s.rb (LM_LASER_IN n) LM_LASER_IN_DARK = false → w.toInt < 500 →
      ∀ k ∈ fedRings n, (t.ring k).stale = true ∧ (t.lane k).out = (s.lane k).out ||| whyDark) ∧
    (s.rb (LM_LASER_IN n) LM_LASER_IN_DARK = true → ¬ w.toInt < 500 →
      ∀ k ∈ fedRings n, (s.ring k).lock = 1 → (t.ring k).lock = 2 ∧ (t.ring k).heater = (s.ring k).heater)) ∧
  (∀ (n : LaserIx) (s : State),
    (s.rb (LM_LASER_IN n) LM_LASER_IN_OVER = true →
      ∃ t, exec (.laserOverTimeout n) s = .next t ∧ t.rb LM_BOBBIN LM_BOBBIN_LASER_EN = false ∧
        t = { s with regs := t.regs, laserUp := 3 } ∧ ∀ a, a ≠ LM_BOBBIN → t.rget a = s.rget a) ∧
    (s.rb (LM_LASER_IN n) LM_LASER_IN_OVER = false → exec (.laserOverTimeout n) s = .next s)) ∧
  (∀ (acks : List Bool) (r : BobbinRegs) (s : State),
    (true ∈ acks.take 4 → exec (.bobbinPoll acks r) s = .next { s with bobbin := { r with marker := s.bobbin.marker } }) ∧
    (true ∉ acks.take 4 → ∃ t, exec (.bobbinPoll acks r) s = .next t ∧ t = { s with regs := t.regs, hwSet := t.hwSet } ∧
      t.rf LM_BOBBIN LM_BOBBIN_I2C_ERR = 1 ∧ ∀ a, a ≠ LM_BOBBIN → t.rget a = s.rget a)) ∧
  (∀ s : State, ∃ t, exec .bobbinOkLow s = .next t ∧ t.rb LM_BOBBIN LM_BOBBIN_BOBBIN_OK = true ∧ t = { s with regs := t.regs } ∧
    ∀ a, a ≠ LM_BOBBIN → t.rget a = s.rget a) ∧
  (∀ s : State, s.rb LM_BOBBIN LM_BOBBIN_LASER_EN = true → s.rb LM_BOBBIN LM_BOBBIN_BOBBIN_OK = false →
    ∃ t, exec .bobbinTimeout s = .next t ∧ t.rb LM_BOBBIN LM_BOBBIN_TIMEOUT = true ∧
      t.rb LM_BOBBIN LM_BOBBIN_LASER_EN = false ∧ t = { s with regs := t.regs, hwSet := t.hwSet, laserUp := 2 }) ∧
  (∀ s : State,
    (s.laserUp = 2 → s.rf HD_BRINGUP HD_BRINGUP_STAGE = 5 → s.rf HD_BRINGUP HD_BRINGUP_OUTCOME = 0 →
      ∃ t, exec .laserEnRetry s = .next t ∧ t.rb LM_BOBBIN LM_BOBBIN_LASER_EN = true ∧ t = { s with regs := t.regs, laserUp := 1 }) ∧
    (s.laserUp ≠ 2 ∨ s.rf HD_BRINGUP HD_BRINGUP_STAGE ≠ 5 ∨ s.rf HD_BRINGUP HD_BRINGUP_OUTCOME ≠ 0 →
      exec .laserEnRetry s = .next s)) ∧
  (∀ s : State, s.rb LM_BOBBIN LM_BOBBIN_LASER_EN = true → s.lightHold = false →
    ∃ t, exec .lightHoldEnter s = .next t ∧ t.lightHold = true ∧ t.rb LM_BOBBIN LM_BOBBIN_BOBBIN_OK = false ∧ SameCompute s t ∧
      t.rf LM_BOBBIN LM_BOBBIN_HOLDS = min (s.rf LM_BOBBIN LM_BOBBIN_HOLDS + 1) 255) ∧
  (∀ (lost : List RingRef) (meas : List (Bool × OutMeas)) (s : State), s.lightHold = true →
    ∃ t, exec (.lightHoldExit lost meas) s = .next t ∧ t.lightHold = false ∧ t.rb LM_BOBBIN LM_BOBBIN_BOBBIN_OK = true ∧
      ∀ r ∈ lost, r.isRing = true → (s.ring r.key).lock = 1 → (t.ring r.key).lock = 3) ∧
  (∀ s : State, s.lightHold = true → (∀ e ∈ s.parts, e.2.state ≠ .running) → ∃ t, exec .lightHoldTimeout s = .next t ∧
    t.lightHold = false ∧ SameCompute s t ∧ t.parts = s.parts ∧ ∀ e ∈ t.warpTx, e.2.offer = [] ∧ e.2.queue = [] ∧ e.2.sent = [])

/-- A tracking iteration moves a locked ring's heater by at most 8 codes in service and 96 out of it, beside the probe (its correction is an operand, log entry 86) -/
def Obligations.RingTrackingMoves : Prop :=
  (∀ (r : RingRef) (step : Int) (mon : BitVec 16) (s : State) (g : Ring) (lim move : Int) (h low : Nat), g = s.ring r.key →
    r.isRing = true → g.lock = 1 → s.lightHold = false → s.dark r.key = false →
    (s.lane (laneKey r.key)).out &&& whyRecal = 0 → lim = (if (s.lane (laneKey r.key)).insv then 8 else 96) →
    move = step + (if r.rx = false then 0 else if g.probe then 2 else -2) →
    (h : Int) = min (2 ^ 20 - 1) (max 0 ((g.heater : Int) + max (-lim) (min lim move))) →
    low = (if g.stale = false ∧ mon.toInt < g.ref - 301 then g.low + 1 else 0) →
    (low < 4 → 16384 ≤ h → h ≤ 2 ^ 20 - 1 - 16384 →
      ∃ t, exec (.ringTrackIteration r step mon) s = .next t ∧ SameCompute s t ∧ t.lanes = s.lanes ∧ (∀ a, t.rget a = s.rget a) ∧
        t.ring r.key = { g with
          heater := h, stale := false, mon := mon.toInt, ref := if g.stale then mon.toInt else g.ref, low := low,
          probe := r.rx && !g.probe } ∧
        ∀ k, k ≠ r.key → t.ring k = s.ring k) ∧
    (4 ≤ low → ∃ t, exec (.ringTrackIteration r step mon) s = .next t ∧ SameCompute s t ∧ (t.ring r.key).lock = 2 ∧
      (t.ring r.key).heater = h ∧ (t.lane (laneKey r.key)).out &&& whyUnlocked = whyUnlocked) ∧
    (low < 4 → h < 16384 ∨ 2 ^ 20 - 1 - 16384 < h → g.second = none →
      ∃ t, exec (.ringTrackIteration r step mon) s = .next t ∧ SameCompute s t ∧ (t.ring r.key).heater = h ∧
        (t.ring r.key).lock = if h = 0 ∨ h = 2 ^ 20 - 1 then 3 else 1) ∧
    (low < 4 → h < 16384 ∨ 2 ^ 20 - 1 - 16384 < h → g.second ≠ none → (s.lane (laneKey r.key)).insv = true →
      ∃ t, exec (.ringTrackIteration r step mon) s = .next t ∧ SameCompute s t ∧ (t.ring r.key).heater = h ∧
        (t.ring r.key).lock = 2 ∧ (t.lane (laneKey r.key)).out &&& whyUnlocked = whyUnlocked)) ∧
  (∀ (r : RingRef) (step : Int) (mon : BitVec 16) (s : State), r.isRing = false ∨ (s.ring r.key).lock ≠ 1 ∨ s.lightHold = true ∨
    s.dark r.key = true ∨ (s.lane (laneKey r.key)).out &&& whyRecal ≠ 0 →
    exec (.ringTrackIteration r step mon) s = .next s)

/-- Searches and the census lock or fail rings; DAC mode and recalibration take lanes out of service and give them back -/
def Obligations.RingsCensusAndRecalibration : Prop :=
  (∀ (r : RingRef) (s : State) (g : Ring), g = s.ring r.key → r.isRing = true → g.lock = 2 →
    (s.dark r.key = true ∨ s.lightHold = true → ∀ x, exec (.ringSearchEnd r x) s = .next s) ∧
    (s.dark r.key = false → s.lightHold = false → ∀ near : Nat → Nat → Prop, near = (fun a b => a ≤ b + 25600 ∧ b ≤ a + 25600) →
      (∀ h : BitVec 20, near h.toNat g.heater ∨ (∃ x, g.second = some x ∧ near h.toNat x) →
        ∃ t, exec (.ringSearchEnd r (some h)) s = .next t ∧ SameCompute s t ∧ (t.ring r.key).lock = 1 ∧
          (t.ring r.key).heater = h.toNat ∧ (t.ring r.key).stale = true) ∧
      (∀ x : Option (BitVec 20), (∀ h, x = some h → ¬ near h.toNat g.heater ∧ ∀ y, g.second = some y → ¬ near h.toNat y) →
        ∃ t, exec (.ringSearchEnd r x) s = .next t ∧ SameCompute s t ∧ (t.ring r.key).lock = 3 ∧
          (t.lane (laneKey r.key)).out &&& whyUnlocked = whyUnlocked))) ∧
  (∀ (r : RingRef) (xs : List Crossing) (s : State), r.isRing = true →
    (s.censusTurn r.key = false → exec (.censusRingDone r xs) s = .next s) ∧
    (s.censusTurn r.key = true → ∃ t, exec (.censusRingDone r xs) s = .next t ∧ t.censusDone = s.censusDone + 1 ∧
      t.censusTurn r.key = false ∧
      t.rf LM_CENSUS LM_CENSUS_STATE = (if s.censusDone + 1 = 51200 then 2 else 1) ∧
      (∀ h occ, censusLines (r.plane == 2) r.wl xs = some (h :: occ) → SameCompute s t ∧
        (t.ring r.key).lock = 1 ∧ (t.ring r.key).heater = h ∧ (t.ring r.key).second = occ.head? ∧
        t.rf LM_CENSUS LM_CENSUS_RINGS_FAILED = s.rf LM_CENSUS LM_CENSUS_RINGS_FAILED) ∧
      (censusLines (r.plane == 2) r.wl xs = none → (t.ring r.key).lock = 3 ∧
        (t.lane (laneKey r.key)).out &&& whyUnlocked = whyUnlocked ∧
        t.rf LM_CENSUS LM_CENSUS_RINGS_FAILED = min (s.rf LM_CENSUS LM_CENSUS_RINGS_FAILED + 1) 65535))) ∧
  (∀ s : State, s.rf LM_CENSUS LM_CENSUS_STATE = 3 → ∃ t, exec .censusRestart s = .next t ∧ SameCompute s t ∧
    t.rf LM_CENSUS LM_CENSUS_STATE = 1 ∧ t.rf LM_CENSUS LM_CENSUS_RINGS_FAILED = 0 ∧ t.censusDone = 0 ∧ t.censusAt = [] ∧
    t.rf LM_CENSUS LM_CENSUS_ABORTS = min (s.rf LM_CENSUS LM_CENSUS_ABORTS + 1) 255) ∧
  (∀ (x : SiteIx) (v : BitVec 64) (s : State),
    (s.selRing x = none → ∃ t, exec (.lmDacCtlWrite x v) s = .next t ∧ t = { s with regs := t.regs } ∧
      t.rf (LM_DAC_CTL x) LM_DAC_CTL_REFUSED = 1) ∧
    ∀ r : RingRef, s.selRing x = some r →
    (r.rx = true ∨ (LM_DAC_CTL_ENABLE.get v = 1 ∧ (s.lane (laneKey r.key)).insv = true) →
      ∃ t, exec (.lmDacCtlWrite x v) s = .next t ∧ t = { s with regs := t.regs } ∧
        t.rf (LM_DAC_CTL x) LM_DAC_CTL_REFUSED = 1) ∧
    (r.rx = false → (LM_DAC_CTL_ENABLE.get v = 1 → (s.lane (laneKey r.key)).insv = false) →
      ∃ t, exec (.lmDacCtlWrite x v) s = .next t ∧ SameCompute s t ∧ (t.ring r.key).dac = (LM_DAC_CTL_ENABLE.get v == 1) ∧
        t.rf (LM_DAC_CTL x) LM_DAC_CTL_ENABLE = LM_DAC_CTL_ENABLE.get v ∧
        t.rf (LM_DAC_CTL x) LM_DAC_CTL_BITS = max 4 (min 8 (LM_DAC_CTL_BITS.get v)) ∧
        t.rf (LM_DAC_CTL x) LM_DAC_CTL_LEVEL = LM_DAC_CTL_LEVEL.get v)) ∧
  (∀ (l : RingRef) (s : State) (k : Nat), l.isRing = true → k = laneKey l.key →
    (∀ e ∈ s.lanes, sameTurn k e.1 = true → e.2.out &&& whyRecal = 0) → ∀ defer : Prop,
    defer = (s.lightHold = true ∨ s.dark k = true ∨ (∃ r ∈ ringsOf k, (s.ring r).dac = true) ∨
      (l.plane = 2 ∧ ∃ x ∈ fibreOf k, x ≠ k ∧ (s.lane x).out ≠ 0)) →
    (defer → ∃ t, exec (.recalStart l) s = .next t ∧ t = { s with regs := t.regs } ∧
      t.rf (LM_OPT_STAT l.site) LM_OPT_STAT_DEFERRED = min (s.rf (LM_OPT_STAT l.site) LM_OPT_STAT_DEFERRED + 1) 255) ∧
    (¬ defer → ∃ t, exec (.recalStart l) s = .next t ∧ SameCompute s t ∧ (t.lane k).out = (s.lane k).out ||| whyRecal ∧
      (∀ r ∈ ringsOf k, (t.ring r).stale = true) ∧ (l.plane = 0 → (t.lane k).insv = false) ∧
      (∀ tx, l.plane = 1 → s.circuitOf k = some tx → (t.lane k).insv = (s.lane k).insv ∧
        (t.lane k).stepAt = some (((s.weftT tx).fseq + 64) % 4096)))) ∧
  (∀ (l : RingRef) (n : Nat) (s : State) (k : Nat), l.isRing = true → k = laneKey l.key → (s.lane k).out &&& whyRecal ≠ 0 →
    (∃ t, exec (.recalDone l false n) s = .next t ∧ SameCompute s t ∧ (l.plane = 0 → (t.lane k).insv = false) ∧
      (t.lane k).out = ((s.lane k).out ||| whyCheck) &&& ~~~ whyRecal) ∧
    ((∀ r ∈ ringsOf k, (s.ring r).lock = 1) →
      (l.plane ≠ 0 → ∃ t, exec (.recalDone l true n) s = .next t ∧ SameCompute s t ∧
        (t.lane k).out = (s.lane k).out &&& ~~~ (whyRecal ||| whyCheck ||| whyFlood ||| whyUnlocked ||| whyBer)) ∧
      (∀ m, l.plane = 0 → m = (s.maskOf (k / 4096) ((k / 4096 + k % 4096 / 128) % 32)).testBit (k % 4096 / 8 % 16) →
        ∃ t, exec (.recalDone l true n) s = .next t ∧ SameCompute s t ∧
          (t.maskOf (k / 4096) ((k / 4096 + k % 4096 / 128) % 32)).testBit (k % 4096 / 8 % 16) = (m && decide (n < 65536))))) ∧
  (∀ (p : PortIx) (f : Fin 4) (m : Fin 8) (s : State),
    (∃ t, exec (.portLaneBerLimit p f m false) s = .next t ∧ t = { s with calFront := t.calFront } ∧
      t.calFront.head? = some (portLane p 1 (8 * f.val + m.val))) ∧
    (∃ t, exec (.portLaneBerLimit p f m true) s = .next t ∧ SameCompute s t ∧
      (t.lane (portLane p 1 (8 * f.val + m.val))).out = (s.lane (portLane p 1 (8 * f.val + m.val))).out ||| whyBer))

/-- A port searches, aligns, exchanges, agrees keys and becomes ACTIVE, or fails an attempt with R192's reason -/
def Obligations.PortTraining : Prop :=
  ∀ (p : PortIx) (s : State), (∀ n, (s.port p).sel = some n → n < 16 ∧ (s.link n).prim < 32 ∧ (s.link n).alt < 32) →
    (s.portState p = 1 → s.lightHold = false →
      (∃ t, exec (.attemptStart p) s = .next t ∧ t.portState p = 2 ∧ SameCompute s t ∧ (t.port p).mode = s.calMode ∧
        t.rf (XP_PORT_STAT p) XP_PORT_STAT_WAITING = 0 ∧
        t.rf (XP_PORT_STAT p) XP_PORT_STAT_ATTEMPTS = min (s.rf (XP_PORT_STAT p) XP_PORT_STAT_ATTEMPTS + 1) 65535) ∧
      (∃ t, exec (.restart p) s = .next t ∧ t.portState p = (if (s.port p).notice then 1 else 2) ∧
        t.rf (XP_PORT_STAT p) XP_PORT_STAT_BEXP = 0 ∧ SameCompute s t) ∧
      ((s.port p).notice = true → ∃ t, exec (.downNoticeEnd p) s = .next t ∧ t.portState p = 2 ∧ (t.port p).notice = false ∧
        SameCompute s t)) ∧
    (s.portState p = 2 → ∃ t, exec (.alignDone p) s = .next t ∧ t.portState p = 3 ∧ (t.port p).heard = true ∧ SameCompute s t) ∧
    (∀ light, 2 ≤ s.portState p → s.portState p ≤ 4 → ∃ t, exec (.attemptStepLimit p light) s = .next t ∧ t.portState p = 1 ∧
      t.rf (XP_PORT_STAT p) XP_PORT_STAT_WAITING = 1 ∧ SameCompute s t ∧
      t.rf (XP_PORT_STAT p) XP_PORT_STAT_LAST_FAIL =
        (if s.portState p = 2 then (if light then 0x02 else 0x01) else if s.portState p = 3 then 0x06 else 0x07)) ∧
    (s.portState p = 0 → s.portsHeld = false → s.lightHold = false →
      ∃ t, exec (.portEnable p true) s = .next t ∧ t.portState p = 2 ∧ t.rf (XP_PORT_CTL p) XP_PORT_CTL_ENABLE = 1 ∧ SameCompute s t) ∧
    (∃ t, exec (.portEnable p false) s = .next t ∧ t.portState p = 0 ∧ t.rf (XP_PORT_CTL p) XP_PORT_CTL_ENABLE = 0 ∧ SameCompute s t ∧
      (s.portState p = 5 → t.rf (XP_PORT_STAT p) XP_PORT_STAT_LAST_FAIL = 0x15 ∧ (t.port p).store = [])) ∧
    (∀ m, (s.portState p = 1 ∨ s.portState p = 2) → msgOk m 1 false = true → ∃ t, exec (.train p m) s = .next t ∧
      t.portState p = s.portState p ∧ t.rf (XP_PORT_STAT p) XP_PORT_STAT_PNODE = msgNat m 2 2 % 2 ^ 14 ∧
      t.rf (XP_PORT_STAT p) XP_PORT_STAT_PPORT = msgNat m 4 1 % 32 ∧ (t.port p).partnerRx = msgNat m 8 4 ∧ SameCompute s t) ∧
    (∀ m u why, s.portState p = 3 → msgOk m 2 false = true → u = s.msgNote p m →
      why = (if u.wantMap p false = 0 ∨ u.wantMap p true = 0 then 0x03 else if msgNat m 5 1 ≠ (s.port p).mode.toNat then 0x04
        else if u.selDisagree p m then 0x05 else 0) →
      (why = 0 → ∃ t, exec (.exchange p m) s = .next t ∧ t.portState p = 3 ∧ (t.port p).exGot = true ∧ SameCompute s t ∧
        (t.port p).txMap = u.wantMap p false ∧ (t.port p).rxMap = u.wantMap p true) ∧
      (why ≠ 0 → ∃ t, exec (.exchange p m) s = .next t ∧ t.portState p = 1 ∧ SameCompute s t ∧
        t.rf (XP_PORT_STAT p) XP_PORT_STAT_LAST_FAIL = why)) ∧
    (∀ m, s.portState p = 3 → msgOk m 3 false = true → ∃ t, exec (.exchangeAck p m) s = .next t ∧ (t.port p).ackGot = true ∧
      t.portState p = (if (s.port p).ackSent then 4 else 3) ∧ SameCompute s t) ∧
    (∀ m fs p0, s.portState p = 4 → msgOk m 4 true = true → fs = fragKeep (s.port p).frags m →
      (fragsWhole fs 0 = none → exec (.keyx p m) s = .next (s.setPort p { s.port p with frags := fs })) ∧
      ((fragsWhole fs 0).map part0Of = some p0 →
        ((p0.drop 97).take 16 ≠ fitBytes 16 s.ownerHash ∨ Config.chainKey (p0.drop 115) = none →
          ∃ t, exec (.keyx p m) s = .next t ∧ t.portState p = 1 ∧ t.rf (XP_PORT_STAT p) XP_PORT_STAT_LAST_FAIL = 0x07 ∧ SameCompute s t) ∧
        (∀ signer p1 z, (p0.drop 97).take 16 = fitBytes 16 s.ownerHash → Config.chainKey (p0.drop 115) = some signer →
          fragsWhole fs 1 = some p1 → ecdh (s.port p).eph (p0.take 97) = some z →
          (ecdsaVerify signer (s.keyHash p p0) (p1.take 96) = true →
            ∃ t, exec (.keyx p m) s = .next t ∧ t = { s with ports := t.ports } ∧
              (t.port p).atRx = some (leNat ((p1.drop 96).take 6)) ∧ Tab.get [] (t.port p).prks 0 = hmac (s.keyHash p p0) z) ∧
          (ecdsaVerify signer (s.keyHash p p0) (p1.take 96) = false →
            ∃ t, exec (.keyx p m) s = .next t ∧ t.portState p = 1 ∧ t.rf (XP_PORT_STAT p) XP_PORT_STAT_LAST_FAIL = 0x07 ∧
              SameCompute s t)))) ∧
    (s.portState p = 4 → (s.port p).atTx ≠ none → (s.port p).atRx ≠ none →
      ∃ t, exec (.portActive p) s = .next t ∧ t.portState p = 5 ∧ t.rf (XP_PORT_STAT p) XP_PORT_STAT_BEXP = 0 ∧
        (t.port p).cred = Cred.start ∧ (t.port p).store = [] ∧ SameCompute s t ∧
        ∀ n, (s.port p).sel = some n → (s.link n).up = false → t.rf (XP_SEL_STAT n) XP_SEL_STAT_TXCLAIM = 1 ∧ (t.link n).up = true) ∧
    (s.portState p = 5 → (s.port p).rekey = false → ∃ t, exec (.rekey p) s = .next t ∧ t = { s with ports := t.ports, free := t.free } ∧
      (t.port p).rekey = true ∧ (t.port p).frags = [] ∧ (t.port p).epTx = (s.port p).epTx) ∧
    (∀ m, s.portState p = 5 → msgOk m 5 true = true →
      ((s.port p).rekey = true ∨ (∃ f ∈ fragKeep [] m, f ∉ (s.port p).oldFrags) →
        ∃ t, exec (.rekeyMessage p m) s = .next t ∧ t = { s with ports := t.ports, free := t.free } ∧
          (t.port p).rekey = true ∧ (t.port p).frags = fragKeep (if (s.port p).rekey then (s.port p).frags else []) m) ∧
      ((s.port p).rekey = false → (∀ f ∈ fragKeep [] m, f ∈ (s.port p).oldFrags) → exec (.rekeyMessage p m) s = .next s)) ∧
    (s.portState p = 5 → (s.port p).rekey = true →
      ((s.port p).atTx ≠ none → (s.port p).stepTx = false → ∃ t, exec (.keyEpochStep p true) s = .next t ∧
        t = { s with ports := t.ports } ∧ (t.port p).epTx = ((s.port p).epTx + 1) % 256 ∧ (t.port p).epRx = (s.port p).epRx ∧
        (t.port p).rekey = !(s.port p).stepRx) ∧
      ((s.port p).atRx ≠ none → (s.port p).stepRx = false → ∃ t, exec (.keyEpochStep p false) s = .next t ∧
        t = { s with ports := t.ports } ∧ (t.port p).epRx = ((s.port p).epRx + 1) % 256 ∧ (t.port p).epTx = (s.port p).epTx ∧
        (t.port p).rekey = !(s.port p).stepTx))

/-- A port outside light hold sends a control block and 20 data blocks in every superframe; blocks and packets received are kept, counted and passed on -/
def Obligations.PortTraffic : Prop :=
  ∀ (p : PortIx) (s : State),
    (s.portState p ≠ 0 → s.lightHold = false → ∃ t f, exec (.superframeSend p) s = .next t ∧
      t.sfOut = s.sfOut ++ [f] ∧ f.port = p.val ∧ cbNat f.ctrl 0 8 = 0xA55AC33C0FF09669 ∧
      f.lanes.map Prod.fst = ranked (if s.portState p = 5 then (s.port p).txMap else activeMap (s.port p).mode (s.usable p false)) ∧
      (s.portState p ≠ 5 → f.data = List.replicate 20 (flitBytes TxBlock.filler.flits)) ∧
      (s.portState p = 5 → ∃ (u : State) (plain : List (List Byte)), plain.length = 20 ∧ f.data = (u.sealFrame p f.ctrl plain).1 ∧
        (u.port p).prks = (s.port p).prks ∧ (u.port p).epTx = (s.port p).epTx) ∧
      (t.port p).sfseq = (s.port p).sfseq + 1 ∧ SameCompute s t) ∧
    (∀ raw marked, s.portState p ≠ 0 → (marked = true ∨ fecDecode raw = none) →
      ∃ t, exec (.controlBlockReceive p raw marked) s = .next t ∧ SameCompute s t ∧ (t.port p).cur = none ∧ (t.port p).run = 0 ∧
        (∀ c, (s.port p).cur = some c → (t.port p).nak = some (nbits c.toNat 128 12)) ∧
        t.rf (XP_LINK_CNT0 p) XP_LINK_CNT0_UNCORR = min (s.rf (XP_LINK_CNT0 p) XP_LINK_CNT0_UNCORR + 1) 65535) ∧
    (∀ raw bs at_ cb, fecDecode raw = some (bs, at_) → cb = BitVec.ofNat 4096 (leNat bs) → cbOk cb = true →
      (s.portState p = 2 → cbFlag cb 3 = false → cbFlag cb 4 = false →
        ∃ t, exec (.controlBlockReceive p raw false) s = .next t ∧ SameCompute s t ∧ t.portState p = 2 ∧
          (t.port p).run = (s.port p).run + 1 ∧ (t.port p).heard = ((s.port p).heard || decide (8 ≤ (s.port p).run + 1))) ∧
      (s.portState p = 5 → cbFlag cb 3 = true → (s.port p).cur = none →
        ∃ t, exec (.controlBlockReceive p raw false) s = .next t ∧ SameCompute s t ∧ (t.port p).cur = some cb ∧ (t.port p).held = []) ∧
      (∀ c data, s.portState p = 5 → cbFlag cb 3 = true → (s.port p).cur = some c → (s.port p).held.length = 20 →
        (∀ x ∈ (s.port p).held, x ≠ none) →
        s.openFrame p c ((s.port p).held.map (·.getD [])) (cbNat cb 0x40 16) = data →
        (data = none → ((s.port p).authAt.filter fun a => decide (s.tick < a + 1500000)).length < 3 →
          ∃ t, exec (.controlBlockReceive p raw false) s = .next t ∧ SameCompute s t ∧ (t.port p).cur = some cb ∧ (t.port p).held = [] ∧
            (t.port p).nak = some (nbits c.toNat 128 12) ∧ (t.port p).expect = (s.port p).expect ∧
            t.rf (XP_LINK_CNT1 p) XP_LINK_CNT1_AUTH_FAIL = min (s.rf (XP_LINK_CNT1 p) XP_LINK_CNT1_AUTH_FAIL + 1) 65535) ∧
        (∀ d u, data = some d → u = (s.fecIn p 0 raw false).2.accept p c d → u.portState p = 5 →
          exec (.controlBlockReceive p raw false) s = .next (u.setPort p { u.port p with cur := some cb, held := [] })))) ∧
    (∀ raw marked c, s.portState p ≠ 0 → (s.port p).cur = some c → (s.port p).held.length < 20 →
      (∀ bs at_, marked = false → fecDecode raw = some (bs, at_) → ∃ t, exec (.dataBlockReceive p raw marked) s = .next t ∧ SameCompute s t ∧
        (t.port p).held = (s.port p).held ++ [some bs] ∧ (t.port p).nak = (s.port p).nak ∧
        t.rf (XP_LINK_CNT0 p) XP_LINK_CNT0_CORR_SYM = min (s.rf (XP_LINK_CNT0 p) XP_LINK_CNT0_CORR_SYM + at_.length) (2 ^ 32 - 1)) ∧
      (marked = true ∨ fecDecode raw = none → ∃ t, exec (.dataBlockReceive p raw marked) s = .next t ∧ SameCompute s t ∧
        (t.port p).held = (s.port p).held ++ [none] ∧
        t.rf (XP_LINK_CNT0 p) XP_LINK_CNT0_UNCORR = min (s.rf (XP_LINK_CNT0 p) XP_LINK_CNT0_UNCORR + 1) 65535)) ∧
    (∀ pre b rest, (s.port p).store = pre ++ b :: rest → (∀ x ∈ pre, x.acked = true ∨ x.tries = 0) → b.acked = false → b.tries ≠ 0 →
      exec (.blockReplayTimeout p) s =
        .next (s.setPort p { s.port p with store := pre ++ { b with due := decide (b.tries < 9) } :: rest })) ∧
    ((∃ b ∈ (s.port p).store, b.acked = false ∧ 9 ≤ b.tries) → s.portState p = 5 →
      (∀ n, (s.port p).sel = some n → n < 16 ∧ (s.link n).prim < 32 ∧ (s.link n).alt < 32) →
      ∃ t, exec (.retryExhausted p) s = .next t ∧ t.portState p = 1 ∧
        (t.port p).store = [] ∧ t.rf (XP_PORT_STAT p) XP_PORT_STAT_LAST_FAIL = 0x10 ∧ SameCompute s t) ∧
    (∀ m x, (s.port p).rxNext = some (m, x) → ∃ t, exec (.portLaneMapStep p false) s = .next t ∧ (t.port p).rxMap = m ∧
      (t.port p).rxNext = none ∧ SameCompute s t) ∧
    (∀ m x, (s.port p).txNext = some (m, x) →
      s.portState p ≠ 5 ∨ ((s.setPort p { s.port p with txNext := none }).setMap p false m).wantMap p false ≠ 0 →
      ∃ t, exec (.portLaneMapStep p true) s = .next t ∧ (t.port p).txMap = m ∧ SameCompute s t) ∧
    (∀ claim hdr data, nbits hdr.toNat 96 32 ≠ (crc32c (flitBytes (BitVec.ofNat 512 (setBits hdr.toNat 96 32 0) :: data))).toNat →
      ∃ t, exec (.portPacketReceive p claim hdr data) s = .next t ∧ t.epIn = s.epIn ∧ t.warpTx = s.warpTx ∧ t.edge = s.edge ∧
        SameCompute s t ∧
        t.rf (XP_LINK_CNT1 p) XP_LINK_CNT1_MALFORMED = min (s.rf (XP_LINK_CNT1 p) XP_LINK_CNT1_MALFORMED + 1) 65535) ∧
    (∀ claim hdr data e, nbits hdr.toNat 96 32 = (crc32c (flitBytes (BitVec.ofNat 512 (setBits hdr.toNat 96 32 0) :: data))).toNat →
      nbits hdr.toNat 32 3 ≤ 4 → nbits hdr.toNat 35 3 ≤ 4 → nbits hdr.toNat 39 9 = 0 → nbits hdr.toNat 64 32 = 0 → hdr.getLsbD 31 = false →
      hdr.getLsbD 38 = false → (fromPort hdr data).dnode.toNat = s.ownNode → e = (s.endOf (fromPort hdr data)).1 → e ≠ siteOfPort p →
      let passedOn (t : State) (k : Pkt) : Prop := SameCompute s t ∧ k.data = data ∧
        k.f 128 384 = nbits hdr.toNat 128 384 ∧ (t.port p).rxPk = (s.port p).rxPk.erase (claim.toNat, hdr, data) ∧
        (t.tx (siteKey (siteOfPort p) e)).offer.map WOffer.pk = (s.tx (siteKey (siteOfPort p) e)).offer.map WOffer.pk ++ [k] ∧
        Tab.get 0 (t.portCred p).granted (fromPort hdr data).vc =
          (Tab.get 0 (s.portCred p).granted (fromPort hdr data).vc + data.length + 1) % 2 ^ 16
      ((s.port p).sel = none → ∃ t k, exec (.portPacketReceive p claim hdr data) s = .next t ∧ passedOn t k) ∧
      (∀ n, (s.port p).sel = some n → n < 16 → claim.toNat ≠ 0 → claim.toNat = s.rf (XP_SEL_STAT n) XP_SEL_STAT_RXCLAIM →
        (s.link n).rxPath = s.isAlt n p →
        ((∀ a, (s.link n).rxSeq = some a → newer16 (nbits hdr.toNat 48 16) a = true) →
          ∃ t k, exec (.portPacketReceive p claim hdr data) s = .next t ∧ passedOn t k ∧
            (t.link n).rxSeq = some (nbits hdr.toNat 48 16)) ∧
        (∀ a, (s.link n).rxSeq = some a → newer16 (nbits hdr.toNat 48 16) a = false →
          ∃ t, exec (.portPacketReceive p claim hdr data) s = .next t ∧ SameCompute s t ∧ t.warpTx = s.warpTx ∧ t.epIn = s.epIn ∧
            t.rf (XP_LINK_CNT1 p) XP_LINK_CNT1_DUP_DROP = min (s.rf (XP_LINK_CNT1 p) XP_LINK_CNT1_DUP_DROP + 1) 65535)) ∧
      (∀ n, (s.port p).sel = some n → claim = 0 → ∃ t, exec (.portPacketReceive p claim hdr data) s = .next t ∧ SameCompute s t ∧
        t.warpTx = s.warpTx ∧ t.epIn = s.epIn ∧
        t.rf (XP_LINK_CNT1 p) XP_LINK_CNT1_STALE_DROP = min (s.rf (XP_LINK_CNT1 p) XP_LINK_CNT1_STALE_DROP + 1) 65535))

/-- A logical link that loses its active path moves to the standby with a new claim, or goes down without one -/
def Obligations.LogicalLinkSwitchOver : Prop :=
  ∀ (n : LinkIx) (s : State),
    (∃ t, exec (.hbSend n) s = .next t ∧ t = { s with ports := t.ports } ∧
      ∀ path, s.pathUp n path = true → s.pathHb n path = true → (t.port (s.pathPort n path)).hbDue = true) ∧
    (∀ i, ((∃ path, i = .heartbeatMiss n path ∧ s.pathHb n path = true ∧ s.activePath n = path ∧ (s.link n).up = true) ∨
        (i = .switchOver n ∧ s.pathUp n (s.activePath n) = false ∧ s.pathHb n (s.activePath n) = false ∧ (s.link n).up = true) ∨
        (i = .switch n ∧ s.rf (XP_SEL_STAT n) XP_SEL_STAT_STATE = 1)) →
      (s.pathUp n (!s.activePath n) = true → ∃ t, exec i s = .next t ∧ t.activePath n = !s.activePath n ∧ SameCompute s t ∧
        t.rb (XP_SEL_STAT n) XP_SEL_STAT_HELD = true ∧ (t.link n).store = (s.link n).store ∧ (t.link n).swReq = true ∧
        t.rf (XP_SEL_STAT n) XP_SEL_STAT_STATE = 3 ∧
        t.rf (XP_SEL_STAT n) XP_SEL_STAT_TXCLAIM =
          ((if newer16 (s.link n).claimSeen (s.rf (XP_SEL_STAT n) XP_SEL_STAT_TXCLAIM) then (s.link n).claimSeen
            else s.rf (XP_SEL_STAT n) XP_SEL_STAT_TXCLAIM) + 1) % 2 ^ 16) ∧
      (s.pathUp n (!s.activePath n) = false → ∃ t, exec i s = .next t ∧ (t.link n).store = [] ∧ (t.link n).up = false ∧
        t.rf (XP_SEL_STAT n) XP_SEL_STAT_TXCLAIM = 0 ∧ t.rf (XP_SEL_STAT n) XP_SEL_STAT_RXCLAIM = 0 ∧ SameCompute s t)) ∧
    (∀ i, ((∃ path, i = .heartbeatMiss n path ∧ (s.pathHb n path = false ∨ s.activePath n ≠ path)) ∨
        (i = .switchOver n ∧ (s.pathUp n (s.activePath n) = true ∨ s.pathHb n (s.activePath n) = true)) ∨
        (i = .switch n ∧ s.rf (XP_SEL_STAT n) XP_SEL_STAT_STATE ≠ 1) ∨
        (i = .selftestStart n ∧ s.rf (XP_SEL_STAT n) XP_SEL_STAT_STATE ≠ 1)) → exec i s = .next s) ∧
    (s.rf (XP_SEL_STAT n) XP_SEL_STAT_STATE = 1 → ∃ t, exec (.selftestStart n) s = .next t ∧
      t = { s with links := t.links, free := t.free } ∧ (t.link n).testing = true ∧ (t.link n).test.sent = 0 ∧
      (t.link n).test.bad = false ∧ (t.link n).store = (s.link n).store) ∧
    (∀ f, (s.link n).testing = true → f = s.testFailed n → ∃ t, exec (.selftestDone n) s = .next t ∧ (t.link n).testing = false ∧
      SameCompute s t ∧ t.rf (XP_SEL_HEALTH n) XP_SEL_HEALTH_RESULT = (if f = 0 then 1 else 2) ∧
      t.rf (XP_SEL_HEALTH n) XP_SEL_HEALTH_FAIL_STEP = f ∧ t.rf (XP_SEL_HEALTH n) XP_SEL_HEALTH_AGE_MS = 0 ∧
      t.rf (XP_SEL_HEALTH n) XP_SEL_HEALTH_RUNS = min (s.rf (XP_SEL_HEALTH n) XP_SEL_HEALTH_RUNS + 1) 65535) ∧
    (∀ v a b, a = XP_SEL_CTL_PRIMARY.get v → b = XP_SEL_CTL_ALTERNATE.get v → ∀ clash : Prop,
      clash = (XP_SEL_CTL_ENABLE.get v = 1 ∧ (a / 2 = b / 2 ∨ ∃ m, m < 16 ∧ m ≠ n.val ∧ s.rf (XP_SEL_CTL m) XP_SEL_CTL_ENABLE ≠ 0 ∧
        ∃ x, (x = s.rf (XP_SEL_CTL m) XP_SEL_CTL_PRIMARY ∨ x = s.rf (XP_SEL_CTL m) XP_SEL_CTL_ALTERNATE) ∧ (x = a ∨ x = b))) →
      ∃ u : State, exec (.xpSelCtlWrite n v) s = .next (if XP_SEL_CTL_SWITCH.get v = 1 then u.switchCmd n else u) ∧
        u = { s with regs := u.regs } ∧ u.rf (XP_SEL_CTL n) XP_SEL_CTL_PRIMARY = a ∧ u.rf (XP_SEL_CTL n) XP_SEL_CTL_ALTERNATE = b ∧
        u.rf (XP_SEL_CTL n) XP_SEL_CTL_MODE = XP_SEL_CTL_MODE.get v ∧
        (clash → u.rf (XP_SEL_CTL n) XP_SEL_CTL_ENABLE = 0 ∧ u.rf (XP_SEL_CTL n) XP_SEL_CTL_CFG_ERR = 1) ∧
        (¬ clash → u.rf (XP_SEL_CTL n) XP_SEL_CTL_ENABLE = XP_SEL_CTL_ENABLE.get v ∧ u.rf (XP_SEL_CTL n) XP_SEL_CTL_CFG_ERR = 0))

/-- A new request from another node that passes its checks is performed once: bytes read, written or combined, and answered OK -/
def Obligations.RequestsArePerformed : Prop :=
  ∀ (a : Arrival) (s : State) (off n : Nat), off = offOf a.pk.addr → n = reqBytes a.pk →
    (Performs s a 0 1 → ∃ u, exec (.read a) s = .next (u.answer a stOK 0 0 (s.bytes off n)) ∧ SameBytes s u) ∧
    (∀ i, (i = .write a ∧ Performs s a 0 2) ∨ (i = .fwdWrite a ∧ Performs s a 1 2) →
      ∃ u, exec i s = .next (u.answer a stOK 0 0 []) ∧ u.bytes off n = fitBytes n (flitBytes a.pk.data) ∧
        SameBytesBut s u off (off + n) ∧
        (∀ cl k, notifyOf a.pk = some (cl, k) → (u.kp (knotKey cl k)).outside = (s.kp (knotKey cl k)).outside + 1)) ∧
    (Performs s a 0 3 → nodeOf a.pk.dest ≠ s.ownNode → ∃ u q, q = (s.chan (chanKey (nodeOf a.pk.dest) 1)).next ∧
      exec (.copy a) s = .next ((u.sendFwd a q (s.bytes off n)).noted a.pk stOK 0 (some q)) ∧ SameBytes s u ∧
      (u.chan (chanKey (nodeOf a.pk.dest) 1)).next = (q + 1) % 2 ^ 32) ∧
    (∀ i op old new, old = leNat (s.bytes off n) → a.pk.size % 16 ≤ 1 →
      (i = .add a ∧ op = 4 ∧ new = (old + a.pk.operand) % 2 ^ (8 * n)) ∨
      (i = .min a ∧ op = 5 ∧ new = if signedOf n old ≤ signedOf n (a.pk.operand % 2 ^ (8 * n)) then old else a.pk.operand % 2 ^ (8 * n)) ∨
      (i = .max a ∧ op = 6 ∧ new = if signedOf n old ≤ signedOf n (a.pk.operand % 2 ^ (8 * n)) then a.pk.operand % 2 ^ (8 * n) else old) ∨
      (i = .cas a ∧ op = 7 ∧ new = if old = a.pk.compare % 2 ^ (8 * n) then a.pk.operand % 2 ^ (8 * n) else old) ∨
      (i = .swap a ∧ op = 8 ∧ new = a.pk.operand % 2 ^ (8 * n)) →
      Performs s a 0 op →
      (spaceOf off ≠ 2 → ∃ u, exec i s = .next (u.answer a stOK 0 old []) ∧ u.bytes off n = leBytes n new ∧
        SameBytesBut s u off (off + n)) ∧
      (spaceOf off = 2 → ∃ t, exec i s = .next t ∧ SameBytes s t ∧
        (t.pool (clusterAt off)).atoms = (s.pool (clusterAt off)).atoms ++ [(a, old)] ∧
        ∀ v : State, v.portFree (clusterAt off) (poolOffOf a / 128 % 16) = true →
          ∃ u, v.poolAtom (clusterAt off) (a, old) = u.answer a stOK 0 old [] ∧ u.bytes off n = leBytes n new ∧
            SameBytesBut v u off (off + n)))

/-- A request that fails a check of R236 is answered with the check's status and changes no byte; a duplicate is not performed again -/
def Obligations.RefusedRequestsChangeNothing : Prop :=
  ∀ (a : Arrival) (s : State) (i : Instr) (op : Nat), (i = .read a ∧ op = 1) ∨ (i = .write a ∧ op = 2) ∨ (i = .copy a ∧ op = 3) ∨
      (i = .add a ∧ op = 4) ∨ (i = .min a ∧ op = 5) ∨ (i = .max a ∧ op = 6) ∨ (i = .cas a ∧ op = 7) ∨ (i = .swap a ∧ op = 8) →
    a.pk.cls = 0 → a.pk.op = op → a.pk.snode.toNat ≠ s.ownNode →
    (txnReserved a.pk = false → s.fentry (filterKey a.pk) = none → isCtl a.pk = false →
      (s.reqCheck a.pk ≠ stOK → ∃ u, exec i s = .next (u.answer a (s.reqCheck a.pk) 0 0 []) ∧ SameBytes s u) ∧
      (s.reqCheck a.pk = stOK → s.endFull a.pk = false → s.reqGate a.pk = .refuse →
        ∃ u, exec i s = .next (u.answer a stNoZone 0 0 []) ∧ SameBytes s u) ∧
      (∀ c, s.reqCheck a.pk = stOK → s.endFull a.pk = false → s.reqGate a.pk = .wait c →
        ∃ t, exec i s = .next t ∧ SameBytes s t ∧ (t.core c).lbuf = (s.core c).lbuf ++ [.req a])) ∧
    (txnReserved a.pk = false → s.endFull a.pk = true → exec i s = .next s) ∧
    (txnReserved a.pk = false → s.endFull a.pk = false → ∀ e, s.fentry (filterKey a.pk) = some e →
      (s.filterHot.contains (filterKey a.pk) = false → ∃ t, exec i s = .next t ∧ SameBytes s t ∧ t.coldHeld = s.coldHeld ++ [a] ∧
        t.rf LM_MS_STAT1 LM_MS_STAT1_FILTER_FILLS = min (s.rf LM_MS_STAT1 LM_MS_STAT1_FILTER_FILLS + 1) LM_MS_STAT1_FILTER_FILLS.max) ∧
      (s.filterHot.contains (filterKey a.pk) = true →
        (∀ x, filterDecide (some e) a.pk.sepoch a.pk.seqNo = (.stale, x) → ∃ t, exec i s = .next t ∧ SameBytes s t ∧ t.filter = s.filter ∧
          t.rf LM_MS_STAT0 LM_MS_STAT0_STALE_DROP = min (s.rf LM_MS_STAT0 LM_MS_STAT0_STALE_DROP + 1) LM_MS_STAT0_STALE_DROP.max) ∧
        (∀ r st x, op = 2 → filterDecide (some e) a.pk.sepoch a.pk.seqNo = (.dup r, x) → r.status = some st → r.fwd = none →
          ∃ u, exec i s = .next (u.reply a st (r.rflags % 2 + 2) 0 []) ∧ SameBytes s u) ∧
        (∀ r x v, 4 ≤ op → filterDecide (some e) a.pk.sepoch a.pk.seqNo = (.dup r, x) → r.status = some stOK →
          s.atomRes.find? (fun y => y.key = filterKey a.pk && y.seq = a.pk.seqNo) = some v →
          ∃ u, exec i s = .next (u.reply a v.status (v.rflags + 2) v.value.toNat []) ∧ SameBytes s u))) ∧
    (txnReserved a.pk = true → ∃ t, exec i s = .next t ∧ SameBytes s t ∧ t.filter = s.filter ∧
      t.rf LM_MS_STAT2 LM_MS_STAT2_MALFORMED_TXN = min (s.rf LM_MS_STAT2 LM_MS_STAT2_MALFORMED_TXN + 1) LM_MS_STAT2_MALFORMED_TXN.max)

/-- A reply frees its tag and ends its descriptor; reissue, timeout and quarantine; held requests go on; arbiters grant the lowest -/
def Obligations.RequesterTagsAndArbiters : Prop :=
  (∀ (pk : Pkt) (s : State), pk.cls = 2 → pk.t 3 1 / 4 = 0 → pk.t 0x10 32 = 0 →
    (∀ c k : Nat, c = pk.rTag % 2048 → k = c * 32 + pk.rTag / 2048 → ¬ (pk.dsite = 8 ∧ pk.dep = 1) →
      (s.tag? k = none → ∃ t, exec (.rspReceive pk) s = .next t ∧ t.mem = s.mem ∧ t.tags = s.tags ∧ t.shch = s.shch ∧
        t.rf LM_MS_STAT0 LM_MS_STAT0_LATE_RSP = min (s.rf LM_MS_STAT0 LM_MS_STAT0_LATE_RSP + 1) LM_MS_STAT0_LATE_RSP.max) ∧
      (∀ x d, s.tag? k = some x → x.quar = false → x.move = false → x.seq = pk.rSeq → s.desc? c x.ch x.slot = some d →
        (d.op ≠ 1 → ∃ t, exec (.rspReceive pk) s = .next t ∧ t.tag? k = none ∧ t.desc? c x.ch x.slot = none ∧ t.mem = s.mem) ∧
        (∀ l at_, d.op = 1 → pk.rStatus = stOK → localOf c d.lcl = some l →
          ((∃ cl o, l = .pool cl o ∧ at_ = poolBase cl + o ∧ s.portCan cl o (64 * pk.data.length) true = true) ∨
            (∃ y o z, l = .sp y o ∧ at_ = spBase y + o ∧ s.accessZone y o (64 * pk.data.length) = some z ∧ (s.zopen y).getLsbD z = true)) →
          ∃ t, exec (.rspReceive pk) s = .next t ∧
            t.tag? k = none ∧ t.desc? c x.ch x.slot = none ∧ t.bytes at_ (64 * pk.data.length) = flitBytes pk.data ∧
            SameBytesBut s t at_ (at_ + 64 * pk.data.length)))) ∧
    (∀ q, pk.dsite = 8 → pk.dep = 1 → s.hdReq? pk = some q → q.quar = false →
      ∃ t, exec (.rspReceive pk) s = .next t ∧ t.mem = s.mem ∧ t.tags = s.tags ∧ t.hdReqs = s.hdReqs.erase q)) ∧
  (∀ (c : CoreIx) (sl : Fin 32) (s : State) (x : Tag), s.tag? (c.val * 32 + sl.val) = some x → x.move = false →
    (x.quar = false → x.unsent = false → x.reissued = false → x.site = none →
      ∃ t, exec (.reissue (.core c sl)) s = .next t ∧ SameCompute s t ∧
        t.tag? (c.val * 32 + sl.val) = some { x with reissued := true } ∧
        t.rf LM_MS_STAT0 LM_MS_STAT0_REISSUES = min (s.rf LM_MS_STAT0 LM_MS_STAT0_REISSUES + 1) LM_MS_STAT0_REISSUES.max) ∧
    (x.quar = false → x.unsent = false → x.node < 2 ^ 14 → ∃ t, exec (.timeout (.core c sl)) s = .next t ∧
      t.tag? (c.val * 32 + sl.val) = some { x with quar := true } ∧
      ∀ d, s.desc? c x.ch x.slot = some d → d.op ≠ 1 → t.desc? c x.ch x.slot = none) ∧
    (x.quar = true → exec (.quarantineEnd (.core c sl)) s = .next (s.setTag (c.val * 32 + sl.val) none))) ∧
  (∀ (node : BitVec 14) (seq : BitVec 32) (s : State),
    (∀ q, s.hdFind node.toNat seq.toNat = some q →
      (q.reissued = false → ∃ t, exec (.reissue (.heddle node seq)) s = .next t ∧ SameCompute s t ∧
        t.hdReqs = s.hdReqs.map (fun x => if x = q then { x with reissued := true } else x) ∧
        t.rf LM_MS_STAT0 LM_MS_STAT0_REISSUES = min (s.rf LM_MS_STAT0 LM_MS_STAT0_REISSUES + 1) LM_MS_STAT0_REISSUES.max) ∧
      (∃ t, exec (.timeout (.heddle node seq)) s = .next t ∧ { q with quar := true } ∈ t.hdReqs)) ∧
    ∃ t, exec (.quarantineEnd (.heddle node seq)) s = .next t ∧ t = { s with hdReqs := t.hdReqs } ∧
      ∀ q ∈ t.hdReqs, q.node = node.toNat → q.seq = seq.toNat → q.quar = false) ∧
  (∀ (node : BitVec 14) (fwd : Bool) (s : State) (k : Nat), k = node.toNat * 2 + fwd.toNat →
    (s.fentry k = none → exec (.filterFill node fwd) s = .next s) ∧
    (s.fentry k ≠ none → ∃ u : State, u.filterHot.getLast? = some k ∧ u.coldHeld = s.coldHeld.filter (fun a => filterKey a.pk ≠ k) ∧
      u = { s with filterHot := u.filterHot, coldHeld := u.coldHeld } ∧
      exec (.filterFill node fwd) s = .next ((s.coldHeld.filter fun a => filterKey a.pk = k).foldl State.decide_ u))) ∧
  (∀ (node : BitVec 14) (fwd : Bool) (s : State),
    (∀ (q : Nat) (p : Pkt), node.toNat ≠ s.ownNode → (q, p) ∈ s.orderHeld →
      chanKey p.dnode.toNat p.cls = chanKey node.toNat fwd.toNat →
      (∀ e ∈ s.orderHeld, chanKey e.2.dnode.toNat e.2.cls = chanKey node.toNat fwd.toNat → e = (q, p)) → s.orderHeld.Nodup →
      s.mustWait (chanKey node.toNat fwd.toNat) p.seqNo = false →
      ∃ t, exec (.orderHoldRelease node fwd) s = .next t ∧ t.orderHeld = s.orderHeld.erase (q, p) ∧ t.mem = s.mem ∧
        Tab.get [] t.epIn q = Tab.get [] s.epIn q ++ [p]) ∧
    (∀ a, node.toNat = s.ownNode → s.localHeld = [a] → s.mustWait (localKey a.site 0) a.pk.seqNo = false →
      exec (.orderHoldRelease node fwd) s = .next (({ s with localHeld := [] }.passed (localKey a.site 0) a.pk.seqNo).serve a))) ∧
  (∀ (r : ArbRef) (k : Nat) (s : State) (a : Arb), k = arbKey r → a = s.arb k →
    (a.req = [] → exec (.arbDecision r) s = .next s) ∧
    (∀ w, (w ∈ a.req ∧ (∀ g ∈ a.guar, g.1 ∉ a.req) ∧ ∀ y ∈ a.req, w ≤ y) ∨
        (∃ g, a.guar.find? (fun g => a.req.contains g.1) = some g ∧ w = g.1) → a.req.Nodup →
      (∃ t, exec (.arbDecision r) s = .next t ∧ t.cores = s.cores ∧
        (t.arb k).holder = (if s.edgeNext k w = none then none else some w) ∧ (t.arb k).req = [] ∧
        Tab.get 0 (t.arb k).losses w = 0 ∧ (∀ g ∈ (t.arb k).guar, g ∈ a.guar ∧ g.1 ≠ w) ∧
        ∀ y ∈ a.req, y ≠ w → (∀ g ∈ a.guar, g.1 ≠ y) →
          Tab.get 0 (t.arb k).back y = s.tick + 1 ∧ Tab.get 0 (t.arb k).losses y = Tab.get 0 a.losses y + 1) ∧
      (∀ l, s.edgeAt k = [(w, l)] → s.edgeNext k w = some l → l.flits ≤ 64 →
        ∃ a' t, exec (.arbDecision r) s = .next t ∧ t.edgeAt k = [] ∧
          { t with regs := [], hwSet := [] } = { (s.edgeMove k w l).setArb k a' with regs := [], hwSet := [] }))) ∧
  (∀ (r : ArbRef) (i : Fin 32) (s : State) (lost n : Nat), lost = Tab.get 0 (s.arb (arbKey r)).back i.val →
    n = Tab.get 0 (s.arb (arbKey r)).losses i.val →
    (lost ≠ 0 → lost + min (2 ^ n) 512 ≤ s.tick →
      ∃ t, exec (.arbBackoffEnd r i) s = .next t ∧ t = { s with arbs := t.arbs } ∧ Tab.get 0 (t.arb (arbKey r)).back i.val = 0 ∧
        (8 ≤ n → (i.val, s.tick) ∈ (t.arb (arbKey r)).guar) ∧ (n < 8 → (t.arb (arbKey r)).guar = (s.arb (arbKey r)).guar)) ∧
    (lost = 0 ∨ s.tick < lost + min (2 ^ n) 512 → exec (.arbBackoffEnd r i) s = .next s)) ∧
  (∀ (k ix : Nat) (p : Pkt) (s : State),
    (k < 1024 → ∀ x, x = siteKey (p.f 24 5) p.dsite →
      ((s.edgeMove k ix (.packet p)).tx x).queue = (s.tx x).queue ++ [((s.tx x).seq, { start := k % 16, pk := p })]) ∧
    (1024 ≤ k → p.dsite < 16 →
      Tab.get [] (s.edgeMove k ix (.packet p)).epIn (p.dsite * 8 + p.dep) = Tab.get [] s.epIn (p.dsite * 8 + p.dep) ++ [p]))

/-- Bulk lines are read, written, drained, scrubbed, remapped, tested and filled, and only the bytes written change -/
def Obligations.BulkLinesAndBackgroundWork : Prop :=
  (∀ (k : StackIx) (n : BitVec 27) (e : DramRead) (s : State),
    (lineOk n.toNat = true → e.first = [] ∨ s.writeBuf.contains (k.val, n.toNat) = true →
      ∃ t, exec (.bulkLineRead k n e) s = .next t ∧ t = { s with regs := t.regs, hwSet := t.hwSet } ∧ SameRegsBut s t fun _ => False) ∧
    (∀ d, lineOk n.toNat = true → s.writeBuf.contains (k.val, n.toNat) = false →
      d = decodeLine (errWords e.first) (errWords e.second) (Tab.get 0 s.erasedDie k ≠ 0) (s.erasedSlot k n.toNat) e.suspect →
      ∃ t, exec (.bulkLineRead k n e) s = .next t ∧ SameBytesBut s t (lineAddr k n.toNat) (lineAddr k n.toNat + 512) ∧
        t.rf (BM_ECC_CNT k) BM_ECC_CNT_CORRECTED =
          min (s.rf (BM_ECC_CNT k) BM_ECC_CNT_CORRECTED + if d.code = 2 then 1 else 0) (2 ^ 32 - 1) ∧
        t.rf (BM_ECC_CNT k) BM_ECC_CNT_REREADS = min (s.rf (BM_ECC_CNT k) BM_ECC_CNT_REREADS + if d.code = 3 then 1 else 0) 255 ∧
        t.rf (BM_ECC_CNT k) BM_ECC_CNT_DIETRIALS = min (s.rf (BM_ECC_CNT k) BM_ECC_CNT_DIETRIALS + if d.code = 4 then 1 else 0) 255 ∧
        t.rf (BM_ECC_CNT k) BM_ECC_CNT_UE = min (s.rf (BM_ECC_CNT k) BM_ECC_CNT_UE + if d.code = 5 then 1 else 0) 65535 ∧
        (d.code = 4 → t.rf (BM_STAT k) BM_STAT_STATE = 3 ∧ t.rf (BM_STAT k) BM_STAT_ERASED = 1) ∧ (d.code = 5 → t.mem = s.mem)) ∧
    (lineOk n.toNat = false → ∃ t, exec (.bulkLineRead k n e) s = .next t ∧ t = { s with bulkCtl := t.bulkCtl } ∧
      (t.ctl k).refused = (s.ctl k).refused + if isUnused n.toNat then 1 else 0)) ∧
  (∀ (k : StackIx) (n : BitVec 27) (mask : BitVec 8) (gran : List (BitVec 512)) (e : DramRead) (s : State), lineOk n.toNat = true →
    mask ≠ 0 →
    (256 ≤ s.bufCount k → exec (.bulkWrite k n mask gran e) s = .next s) ∧
    (s.bufCount k < 256 → e.first = [] ∨ mask = BitVec.allOnes 8 →
      ∃ t, exec (.bulkWrite k n mask gran e) s = .next t ∧ (k.val, n.toNat) ∈ t.writeBuf ∧
        SameBytesBut s t (lineAddr k n.toNat) (lineAddr k n.toNat + 512) ∧ t.cores = s.cores ∧
        (mask = BitVec.allOnes 8 → gran.length = 8 → t.bytes (lineAddr k n.toNat) 512 = flitBytes gran) ∧
        ∀ g, g < 8 → mask.getLsbD g = false → t.bytes (lineAddr k n.toNat + 64 * g) 64 = s.bytes (lineAddr k n.toNat + 64 * g) 64)) ∧
  (∀ (k : StackIx) (n : BitVec 27) (s : State), ∃ u : State, u = { s with writeBuf := u.writeBuf } ∧
    (∀ x, x ∈ u.writeBuf ↔ x ∈ s.writeBuf ∧ x ≠ (k.val, n.toNat)) ∧
    exec (.writeBufferDrain k n) s = .next (u.bulkServe k (s.stalled.length + (s.ctl k).wait.length)) ∧
    ((s.ctl k).wait = [] → (∀ e ∈ s.stalled, e.stack ≠ some k.val) → exec (.writeBufferDrain k n) s = .next u)) ∧
  (∀ (k : StackIx) (e : DramRead) (s : State) (n nx : Nat), n = Tab.get 0 s.scrubLine k → e.first = [] →
    nx = (if isTestLine (n + 1) then reservedLine + 1081408 else n + 1) →
    ∃ t, exec (.bulkScrub k e) s = .next t ∧ t.mem = s.mem ∧ Tab.get 0 t.scrubLine k = (if nx ≥ stackLines then 0 else nx) ∧
      SameRegsBut s t (fun a => a = BM_SCRUB k ∧ stackLines ≤ nx) ∧
      (stackLines ≤ nx → t.rf (BM_SCRUB k) BM_SCRUB_PASSES = min (s.rf (BM_SCRUB k) BM_SCRUB_PASSES + 1) BM_SCRUB_PASSES.max)) ∧
  (∀ (k : StackIx) (q : BitVec 6) (row : BitVec 20) (s : State), (k.val, q.toNat, row.toNat) ∈ s.remapQual →
    (∀ r i, r < 16 → s.rb (BM_REMAP k r) BM_REMAP_VALID = false → (∀ r' < r, s.rb (BM_REMAP k r') BM_REMAP_VALID = true) →
      let fit (i : Nat) : Prop := (k.val, q.toNat, i) ∉ s.badSpares ∧ ∀ r' < 16, s.rb (BM_REMAP k r') BM_REMAP_VALID = true →
        ¬ (s.rf (BM_REMAP k r') BM_REMAP_Q = q.toNat ∧ s.rf (BM_REMAP k r') BM_REMAP_SPARE = i)
      i < 4 → fit i → (∀ j < i, ¬ fit j) →
      ∃ t, exec (.remap k q row) s = .next t ∧ t.mem = s.mem ∧ (k.val, q.toNat, row.toNat) ∉ t.remapQual ∧
        t.rf (BM_REMAP k r) BM_REMAP_Q = q.toNat ∧ t.rf (BM_REMAP k r) BM_REMAP_ROW = row.toNat ∧
        t.rf (BM_REMAP k r) BM_REMAP_SPARE = i ∧ t.rb (BM_REMAP k r) BM_REMAP_VALID = true ∧
        t.rf (BM_STAT k) BM_STAT_REMAPS = ((List.range 16).filter fun r => s.rb (BM_REMAP k r) BM_REMAP_VALID).length + 1 ∧
        Tab.get 0 t.remapFlash (k.val * 16 + r) = t.rget (BM_REMAP k r)) ∧
    ((∀ r < 16, s.rb (BM_REMAP k r) BM_REMAP_VALID = true) → ∃ t, exec (.remap k q row) s = .next t ∧ t.mem = s.mem ∧
      t.rf (BM_STAT k) BM_STAT_REMAP_FULL = 1)) ∧
  (∀ (k : StackIx) (s : State),
    (∃ t, exec (.bulkSelftest k (.datapath true)) s = .next t ∧ t = { s with selfRun := t.selfRun } ∧ (t.self k).on = true ∧ (t.self k).step = 2) ∧
    (∃ t, exec (.bulkSelftest k (.datapath false)) s = .next t ∧ t.mem = s.mem ∧ (t.self k).bad = 1 ∧ t.rf (BM_STAT k) BM_STAT_STATE = 3) ∧
    (∀ q row, (k.val, q.toNat, row.toNat) ∉ s.badSpares → ∃ t, exec (.bulkSelftest k (.spare q row false)) s = .next t ∧ t.mem = s.mem ∧
      t.badSpares = s.badSpares ++ [(k.val, q.toNat, row.toNat)] ∧ (t.self k).bad ≠ 0) ∧
    ((s.self k).on = true → ∃ t, exec (.bulkSelftest k .done) s = .next t ∧ t.mem = s.mem ∧ (t.self k).on = false ∧
      t.rf (BM_SELFTEST k) BM_SELFTEST_RESULT = (if (s.self k).bad = 0 then 1 else 2) ∧ t.rf (BM_SELFTEST k) BM_SELFTEST_AGE_S = 0 ∧
      t.rf (BM_SELFTEST k) BM_SELFTEST_RUNS = min (s.rf (BM_SELFTEST k) BM_SELFTEST_RUNS + 1) 65535) ∧
    (∃ t, exec (.bulkSelftest k .interrupted) s = .next t ∧ t.mem = s.mem ∧ (t.self k).on = false ∧
      t.rf (BM_SELFTEST k) BM_SELFTEST_RESULT = 3 ∧ t.rf (BM_SELFTEST k) BM_SELFTEST_WAS_INT = 1) ∧
    ((s.self k).on = true → exec (.bulkSelftestResume k) s = .next (s.setSelf k { s.self k with yielded := false }))) ∧
  (∀ s : State, s.stageOn 4 = true → (∃ k, k < 8 ∧ s.rf (BM_STAT k) BM_STAT_STATE = 1) → ∃ t, exec .packageFillDone s = .next t ∧
    (∀ a, a < 2 ^ 48 → t.byte a = 0) ∧ (∀ a, 2 ^ 48 ≤ a → t.byte a = s.byte a) ∧ t.filled = true ∧ t.writeBuf = []) ∧
  (∀ (n : PartNo) (s : State) (e : MbEnt) (p : Part), s.late = [(n.val, e, some p)] → p.bulkBase + p.bulkGib * 2 ^ 30 ≤ 2 ^ 44 →
    ∃ t, exec (.regionFillDone n) s = .next t ∧ t.late = [] ∧ t.part? n = some p ∧
      ∀ a, p.bulkBase ≤ a → a < p.bulkBase + p.bulkGib * 2 ^ 30 → t.byte a = 0)

/-- Units on a standing circuit are taken in USEQ order, performed for the partition that owns the line, and answered -/
def Obligations.StandingCircuitUnits : Prop :=
  (∀ (p : PairIx) (k : StackIx) (u : StandUnit) (s : State), s.circDown p k = true → ∀ e gran b,
    exec (.rd k p u e) s = .next s ∧ exec (.wr k p u gran e) s = .next s ∧ exec (.rdata p k u gran) s = .next s ∧
    exec (.wack p k u) s = .next s ∧ exec (.ackonly p k b u) s = .next s) ∧
  (∀ (p : PairIx) (k : StackIx) (u : StandUnit) (s : State) (key : Nat), key = circKey p k → s.circDown p k = false →
    ((s.end_ false key).drop = false → uBad u = false → uNvalid u = false → uSeq u = (s.end_ false key).next →
      (∀ e gran i, (i = .rd k p u e ∧ uType u = 1 ∧ gran = []) ∨ (i = .wr k p u gran e ∧ uType u = 2) →
        (∃ y ∈ (s.ctl k).wait, y.pair = p.val) ∨ (uType u = 2 ∧ 256 ≤ s.bufCount k) →
        ∃ t, exec i s = .next t ∧ SameCompute s t ∧ t.circOut = s.circOut ∧ (t.ctl k).wait = (s.ctl k).wait ++ [⟨p, u, gran, e⟩]) ∧
      ((∀ y ∈ (s.ctl k).wait, y.pair ≠ p.val) →
        (∀ e, uType u = 1 → s.unitCheck k u = stOK → e.first = [] → ∃ t v gran, exec (.rd k p u e) s = .next t ∧
          t.circOut = s.circOut ++ [(key, true, v, gran)] ∧ uType v = 3 ∧ uStatus v = stOK ∧ uTag v = uTag u ∧ uLine v = uLine u ∧
          t.mem = s.mem ∧ gran = (List.range 8).filterMap fun g =>
            if (uMask u).getLsbD g then some (BitVec.ofNat 512 (leNat (s.bytes (lineAddr k (uLine u) + 64 * g) 64))) else none) ∧
        (∀ gran e, uType u = 2 → s.unitCheck k u = stOK → s.bufCount k < 256 → uMask u = BitVec.allOnes 8 → gran.length = 8 →
          ∃ t v, exec (.wr k p u gran e) s = .next t ∧ t.circOut = s.circOut ++ [(key, true, v, [])] ∧ uType v = 4 ∧
            uStatus v = stOK ∧ uTag v = uTag u ∧ t.bytes (lineAddr k (uLine u)) 512 = flitBytes gran ∧
            SameBytesBut s t (lineAddr k (uLine u)) (lineAddr k (uLine u) + 512)) ∧
        (∀ e gran i, s.unitCheck k u ≠ stOK →
          (i = .rd k p u e ∧ uType u = 1) ∨ (i = .wr k p u gran e ∧ uType u = 2 ∧ s.bufCount k < 256) → ∃ t v, exec i s = .next t ∧
          t.circOut = s.circOut ++ [(key, true, v, [])] ∧ uStatus v = s.unitCheck k u ∧ t.mem = s.mem))) ∧
    ((s.end_ true key).drop = false → uBad u = false → uNvalid u = false → uSeq u = (s.end_ true key).next →
      ∀ gran i x, (i = .rdata p k u gran ∧ uType u = 3) ∨ (i = .wack p k u ∧ uType u = 4 ∧ gran = []) →
        x = laneKeyOf (gclusterOf (uTag u % 2048)) ((2 * k.val + uLine u % 2) % 4) →
        ∃ t, exec i s = .next t ∧ SameCompute s t ∧ (t.end_ true key).next = ((s.end_ true key).next + 1) % 65536 ∧
          t.edgeAt x = s.edgeAt x ++ [((2 * k.val + uLine u % 2) / 4, .unitIn p k u gran)]) ∧
    (∀ b, (s.end_ b key).drop = false → uBad u = false → uType u = 5 → uNvalid u = false → uAvalid u = true →
      ∃ t, exec (.ackonly p k b u) s = .next t ∧ SameCompute s t ∧
        (t.end_ b key).sent = (s.end_ b key).sent.filter fun x => !decide ((uAseq u + 65536 - x.useq) % 65536 < 32768)) ∧
    (∀ b, (s.end_ b key).sent ≠ [] →
      ((∀ x ∈ (s.end_ b key).sent, x.tries < 4) → ∃ t, exec (.standingResendTimeout p k b) s = .next t ∧ SameCompute s t ∧
        t.circOut = s.circOut ++ (s.end_ b key).sent.map (fun x => (key, !b, x.hdr, x.gran)) ∧
        (t.end_ b key).sent = (s.end_ b key).sent.map fun x => { x with tries := x.tries + 1 }) ∧
      ((∃ x ∈ (s.end_ b key).sent, 4 ≤ x.tries) → ∃ t, exec (.standingResendTimeout p k b) s = .next t ∧ t.circDown p k = true ∧
        t.mem = s.mem ∧ (t.end_ b key).sent = [])) ∧
    (∀ b, (s.end_ b key).drop = true → ∃ t v, exec (.standingReportRepeat p k b) s = .next t ∧ SameCompute s t ∧
      t.circOut = s.circOut ++ [(key, !b, v, [])] ∧ uType v = 5 ∧ uNvalid v = true)) ∧
  (∀ (k : Nat) (u : StandUnit) (gran : List Flit) (s : State) (c ch slot i : Nat) (d : Desc),
    s.unitOwner k u = some (c, ch, slot, i) → s.desc? c ch slot = some d → d.units = [] →
    (uType u = 4 → (s.unitLand k u gran).mem = s.mem ∧
      (2 ≤ d.len → (s.unitLand k u gran).desc? c ch slot = some { d with units := [(i, uStatus u + 1)] }) ∧
      (d.len = 1 → (s.unitLand k u gran).desc? c ch slot = none)) ∧
    (∀ cl o, uType u = 3 → uStatus u = stOK → 2 ≤ d.len → localOf c d.lcl = some (.pool cl o) → gran.length = 8 →
      s.portCan cl (o + 512 * i) 512 true = true →
      (s.unitLand k u gran).bytes (poolBase cl + (o + 512 * i)) 512 = flitBytes gran ∧
      SameBytesBut s (s.unitLand k u gran) (poolBase cl + (o + 512 * i)) (poolBase cl + (o + 512 * i) + 512) ∧
      (s.unitLand k u gran).desc? c ch slot = some { d with units := [(i, stOK + 1)] }))

/-- Checker operations write and read a test line's image, touch no service byte, and are ignored while BUSY -/
def Obligations.CheckerOperations : Prop :=
  ∀ (k : StackIx) (n : BitVec 6) (s : State),
    (s.rb (BM_CHK_RES k) BM_CHK_RES_BUSY = true → ∀ i e, i ∈ [Instr.writeLine k n, .writeData k n, .writeCheck k n, .writeRaw k n,
        .readRaw k n, .readDecode k n e] → ∃ t, exec i s = .next t ∧ t = { s with regs := t.regs, hwSet := t.hwSet } ∧
      t.rf (BM_CHK_RES k) BM_CHK_RES_IGNORED = 1 ∧ ∀ a, a ≠ BM_CHK_RES k → t.rget a = s.rget a) ∧
    (s.rb (BM_CHK_RES k) BM_CHK_RES_BUSY = false →
      (∃ t, exec (.writeRaw k n) s = .next t ∧ t.mem = s.mem ∧ t.testLine k n.toNat = s.image k ∧
        t.rf (BM_CHK_CTL k) BM_CHK_CTL_TLINE = n.toNat ∧ ∀ m, m < 64 → m ≠ n.toNat → t.testLine k m = s.testLine k m) ∧
      ((s.testLine k n.toNat).length = 576 →
        (∃ t, exec (.writeLine k n) s = .next t ∧ t.mem = s.mem ∧ (t.testLine k n.toNat).take 512 = (s.image k).take 512 ∧
          t.testLine k n.toNat = encodeImage (s.image k)) ∧
        (∃ t, exec (.writeData k n) s = .next t ∧ t.mem = s.mem ∧ (t.testLine k n.toNat).take 512 = (s.image k).take 512 ∧
          (t.testLine k n.toNat).drop 512 = (s.testLine k n.toNat).drop 512) ∧
        (∃ t, exec (.writeCheck k n) s = .next t ∧ t.mem = s.mem ∧ (t.testLine k n.toNat).drop 512 = (s.image k).drop 512 ∧
          (t.testLine k n.toNat).take 512 = (s.testLine k n.toNat).take 512) ∧
        (∃ t, exec (.readRaw k n) s = .next t ∧ t.mem = s.mem ∧ t.testLines = s.testLines ∧ t.image k = s.testLine k n.toNat)) ∧
      (∀ e d ws, ws = imageWords (s.testLine k n.toNat) →
        d = decodeLine (List.zipWith (fun a b => sparseAdd 72 a b) ws (errWords e.first))
          (List.zipWith (fun a b => sparseAdd 72 a b) ws (errWords e.second)) (decide (Tab.get 0 s.erasedDie k ≠ 0))
          (s.erasedSlot k (reservedLine + 1081344 + n.toNat)) e.suspect →
        ∃ t, exec (.readDecode k n e) s = .next t ∧ t.mem = s.mem ∧ t.testLines = s.testLines ∧
          t.rf (BM_CHK_RES k) BM_CHK_RES_OUTCOME = d.code ∧ (∀ a, isEvc a = true ∨ a = BM_ECC_CNT k → t.rget a = s.rget a) ∧
          (d.code ≠ 2 → d.code ≠ 3 → t.rf (BM_CHK_RES k) BM_CHK_RES_SYMS = 0)))

/-- Rings are configured, kicked, freed, enabled, stopped and resumed; host writes reach the knots -/
def Obligations.ShuttleRingsAndFrees : Prop :=
  (∀ (c : CoreIx) (ch : ChIx) (v : BitVec 64) (s : State) (base size n : Nat), base = SH_RING_BASE.get v → size = SH_RING_SIZE.get v →
    n = 16 * 2 ^ size →
    let bad : Prop := 8 < size ∨ base % n ≠ 0 ∨ 65536 < base + n ∨ (s.chState c ch ≠ 0 ∧ s.chState c ch ≠ 3) ∨
      ∃ x ∈ coresOf (gclusterOf c), ∃ i < 4, ¬ (x = c ∧ i = ch) ∧ ∃ b m, s.ringSpan x i = some (b, m) ∧ base < b + m ∧ b < base + n
    (¬ bad → ∃ t, exec (.shRingWrite c ch v) s = .next t ∧ t = { s with regs := t.regs } ∧ (∀ a, a ≠ SH_RING c ch → t.rget a = s.rget a) ∧
      t.rf (SH_RING c ch) SH_RING_BASE = base ∧ t.rf (SH_RING c ch) SH_RING_SIZE = size ∧
      t.rf (SH_RING c ch) SH_RING_OWNER = SH_RING_OWNER.get v ∧ t.rf (SH_RING c ch) SH_RING_CFGERR = 0 ∧
      t.rf (SH_RING c ch) SH_RING_PGEN = s.rf (SH_RING c ch) SH_RING_PGEN ∧
      t.rf (SH_RING c ch) SH_RING_CRSAT = if SH_RING_CRSAT.get v = 1 then 0 else s.rf (SH_RING c ch) SH_RING_CRSAT) ∧
    (bad → ∃ t, exec (.shRingWrite c ch v) s = .next t ∧ t = { s with regs := t.regs } ∧ (∀ a, a ≠ SH_RING c ch → t.rget a = s.rget a) ∧
      t.rf (SH_RING c ch) SH_RING_CFGERR = 1 ∧ t.rf (SH_RING c ch) SH_RING_BASE = s.rf (SH_RING c ch) SH_RING_BASE ∧
      t.rf (SH_RING c ch) SH_RING_SIZE = s.rf (SH_RING c ch) SH_RING_SIZE ∧
      t.rf (SH_RING c ch) SH_RING_OWNER = s.rf (SH_RING c ch) SH_RING_OWNER ∧
      t.rf (SH_RING c ch) SH_RING_CRSAT = s.rf (SH_RING c ch) SH_RING_CRSAT)) ∧
  (∀ (c : CoreIx) (ch : ChIx) (fn : FnIx) (n : BitVec 13) (s : State) (a room : Nat), a = SH_CH_STAT c ch →
    room = s.ringSlots c ch - s.rf a SH_CH_STAT_INUSE →
    s.rf a SH_CH_STAT_READY ≤ s.rf a SH_CH_STAT_INUSE → s.rf a SH_CH_STAT_INUSE ≤ s.ringSlots c ch → s.ringSlots c ch ≤ 4096 →
    ∃ t, exec (.kick c ch fn n) s = .next t ∧ SameCompute s t ∧
      t.rf a SH_CH_STAT_READY = s.rf a SH_CH_STAT_READY + min n.toNat room ∧
      t.rf a SH_CH_STAT_INUSE = s.rf a SH_CH_STAT_INUSE + min n.toNat room ∧
      t.rb a SH_CH_STAT_OVERRUN = (s.rb a SH_CH_STAT_OVERRUN || decide (room < n.toNat)) ∧
      (t.shch_ c ch).ready = (s.shch_ c ch).ready ++ if min n.toNat room = 0 then [] else [(min n.toNat room, 0)]) ∧
  (∀ (c : CoreIx) (ch : ChIx) (fn : FnIx) (gen : BitVec 12) (s : State) (a g fx : Nat), a = SH_CH_STAT c ch →
    fx = s.rf a SH_CH_STAT_FREEIX → g = s.slotByte c ch fx + 64 → s.ringSlots c ch ≤ 4096 →
    let may : Prop := (s.ctx fn).toNat = s.rf (SH_RING c ch) SH_RING_OWNER ∧ s.rf a SH_CH_STAT_INUSE ≠ 0 ∧
      (s.byte (g + 4)).getLsbD 1 = true ∧ leNat (s.bytes (g + 2) 2) = gen.toNat
    (may → ∃ t, exec (.hostFree c ch fn gen) s = .next t ∧ SameBytesBut s t (g + 4) (g + 5) ∧ t.cores = s.cores ∧
        t.byte (g + 4) = 0 ∧ t.rf a SH_CH_STAT_FREEIX = (fx + 1) % s.ringSlots c ch ∧
        t.rf a SH_CH_STAT_INUSE = s.rf a SH_CH_STAT_INUSE - 1) ∧
    (¬ may → ∃ t, exec (.hostFree c ch fn gen) s = .next t ∧ SameCompute s t ∧
      t.rb a SH_CH_STAT_FREE_ERR = true ∧ t.rf a SH_CH_STAT_FREEIX = fx ∧ t.rf a SH_CH_STAT_INUSE = s.rf a SH_CH_STAT_INUSE)) ∧
  (∀ (c : CoreIx) (ch : ChIx) (s : State),
    (∀ on, ∃ t, exec (.channelEnable c ch on) s = .next t ∧ t = { s with regs := t.regs, shch := t.shch } ∧
      t.rb (SH_CH_CTL c ch) SH_CH_CTL_ENABLE = on ∧ (t.shch_ c ch).inflight = (s.shch_ c ch).inflight ∧
      t.chState c ch = if on then (if s.chState c ch = 3 ∨ s.chState c ch = 5 then 1 else s.chState c ch)
        else if s.chState c ch = 1 ∨ s.chState c ch = 5 then 2 else s.chState c ch) ∧
    (s.chState c ch = 2 → (s.shch_ c ch).inflight = [] → ∃ t, exec (.channelStopped c ch) s = .next t ∧
      t.chState c ch = (if s.rb (SH_BUS c) SH_BUS_BUSERR then 4 else 3) ∧ t = { s with regs := t.regs }) ∧
    (s.rb (SH_BUS c) SH_BUS_BUSERR = true → ∃ t, exec (.resume c) s = .next t ∧ t.rb (SH_BUS c) SH_BUS_BUSERR = false ∧
      t = { s with regs := t.regs } ∧
      t.chState c ch = (if s.chState c ch = 4 then (if s.rb (SH_CH_CTL c ch) SH_CH_CTL_ENABLE then 1 else 3) else s.chState c ch))) ∧
  (∀ (cl : ClusterIx) (k : Fin 64) (v : BitVec 32) (n : BitVec 16) (s : State),
    (∃ t, exec (.knCountWrite cl k v) s = .next t ∧ t = { s with kpend := t.kpend } ∧
      t.kp (knotKey cl k) = { s.kp (knotKey cl k) with sets := (s.kp (knotKey cl k)).sets ++ [(4096, v.toNat)] }) ∧
    (∃ t, exec (.knAddWrite cl k n) s = .next t ∧ SameCompute s t ∧ SameRegsBut s t (fun _ => False) ∧
      t.kp (knotKey cl k) = { s.kp (knotKey cl k) with outside := (s.kp (knotKey cl k)).outside + n.toNat }))

/-- A descriptor that passes its checks starts, advances HEAD, takes effect, is handed over in its turn and written back -/
def Obligations.ShuttleDescriptors : Prop :=
  ∀ (c : CoreIx) (ch : ChIx) (s : State) (h w : Nat), h = s.rf (SH_CH_STAT c ch) SH_CH_STAT_HEAD → w = (s.shch_ c ch).headW →
    (s.shch_ c ch).inflight = [] →
    (s.chReady c ch = true →
      (∀ i raw, (i = Instr.nop c ch ∧ raw = 0x15) ∨ (i = .fence c ch false ∧ raw = 0x10) ∨ (i = .fence c ch true ∧ raw = 0x10 + 2 ^ 21) ∨
          (i = .descriptorStart c ch ∧ raw = 0x15 ∧ s.portCan (gclusterOf c) (128 * s.slotLine c ch h) 128 false = true ∧
            s.ues (s.slotByte c ch h / 8) 16 = [] ∧ leNat (s.bytes (s.slotByte c ch h) 64) = 0x15 ∧
            leNat (s.bytes (s.slotByte c ch h + 64) 2) = s.rf (SH_RING c ch) SH_RING_OWNER ∧
            leNat (s.bytes (s.slotByte c ch h + 66) 2) = s.rf (SH_RING c ch) SH_RING_PGEN ∧ (s.byte (s.slotByte c ch h + 68)).toNat % 8 = 1) →
        ∃ t, exec i s = .next t ∧ t.mem = s.mem ∧ t.cores = s.cores ∧
          (t.shch_ c ch).inflight = [⟨h, BitVec.ofNat 512 raw, false, none, none, 0, [], some stOK, 0, 0, w, []⟩] ∧
          t.rf (SH_CH_STAT c ch) SH_CH_STAT_HEAD = (if h + 1 ≥ s.ringSlots c ch then 0 else h + 1) % 4096 ∧
          t.rf (SH_CH_STAT c ch) SH_CH_STAT_READY = s.rf (SH_CH_STAT c ch) SH_CH_STAT_READY - 1 ∧
          (i = .fence c ch true → Tab.get 0 t.rrcGen (s.partOfCore c) = Tab.get 0 s.rrcGen (s.partOfCore c) + 1)) ∧
      (s.portCan (gclusterOf c) (128 * s.slotLine c ch h) 128 false = true → s.ues (s.slotByte c ch h / 8) 16 = [] →
        leNat (s.bytes (s.slotByte c ch h + 64) 2) ≠ s.rf (SH_RING c ch) SH_RING_OWNER ∨
          leNat (s.bytes (s.slotByte c ch h + 66) 2) ≠ s.rf (SH_RING c ch) SH_RING_PGEN ∨ (s.byte (s.slotByte c ch h + 68)).toNat % 4 ≠ 1 →
        ∃ t, exec (.descriptorStart c ch) s = .next t ∧ SameCompute s t ∧ t.chState c ch = 5 ∧ t.shch = s.shch) ∧
      (s.portCan (gclusterOf c) (128 * s.slotLine c ch h) 128 false = false → exec (.descriptorStart c ch) s = .next s) ∧
      (∀ addr len, 1 ≤ len → len ≤ 65536 → ∃ t, exec (.inv c ch addr len) s = .next t ∧ t.mem = s.mem ∧
        (∀ p l, invHit addr.toNat len l = true → t.rrcFind p (s.partOfCore c) l = none) ∧
        (t.shch_ c ch).inflight.map Desc.status = [some stOK]) ∧
      (∀ m d k, d = newDesc h (BitVec.ofNat 512 (0x12 + m.toBulk.toNat * 2 ^ 22 + m.lcl.toNat * 2 ^ 32 + m.addr.toNat * 2 ^ 64 + m.len.toNat * 2 ^ 384)) false →
        s.turn c ch = true → descBad d = false → s.localCheck c d = stOK → s.freeTag c = some k →
        ∃ t x, exec (.move c ch m) s = .next t ∧ t.mem = s.mem ∧
          (t.shch_ c ch).inflight = [{ d with tag := some k, wn := w }] ∧ t.tag? (c.val * 32 + k) = some x ∧ x.move = true ∧ x.slot = h) ∧
      (∀ (b : Fin 16) a, a = SH_LB c b → s.rf a SH_LB_HELD = 0 →
        (s.accessZone c (128 * s.rf a SH_LB_FIRST) (128 * (s.rf a SH_LB_LINES + 1))).isSome = true →
        ∃ t, exec (.take c ch b) s = .next t ∧ t.mem = s.mem ∧ t.rf a SH_LB_HELD = 1 ∧ t.rf a SH_LB_GEN = (s.rf a SH_LB_GEN + 1) % 4096 ∧
          t.rf a SH_LB_OWNER = s.rf (SH_RING c ch) SH_RING_OWNER ∧ (t.shch_ c ch).inflight = [⟨h, BitVec.ofNat 512 (0x13 + b.val * 2 ^ 64), false,
            none, none, 0, [], some stOK, BitVec.ofNat 64 (s.ownNode * 2 ^ 50 + spBase c + 128 * s.rf a SH_LB_FIRST), (s.rf a SH_LB_GEN + 1) % 4096,
            w, []⟩]) ∧
      (∀ (b : Fin 16) (g : BitVec 12) a, a = SH_LB c b →
        let own : Prop := s.rf a SH_LB_HELD = 1 ∧ s.rf a SH_LB_GEN = g.toNat ∧ s.rf a SH_LB_OWNER = s.rf (SH_RING c ch) SH_RING_OWNER
        (own → ∃ t, exec (.free c ch (BitVec.ofNat 64 (1 + b.val * 2 ^ 3 + g.toNat * 2 ^ 15))) s = .next t ∧ t.mem = s.mem ∧
          t.rf a SH_LB_HELD = 0 ∧ (t.shch_ c ch).inflight.map Desc.status = [some stOK]) ∧
        (¬ own → ∃ t, exec (.free c ch (BitVec.ofNat 64 (1 + b.val * 2 ^ 3 + g.toNat * 2 ^ 15))) s = .next t ∧ t.mem = s.mem ∧
          t.rf a SH_LB_HELD = s.rf a SH_LB_HELD ∧ (t.shch_ c ch).inflight.map Desc.status = [some stBufRefused])) ∧
      (∀ (r : Fin 4) (g ix : BitVec 12) a b, a = SH_CH_STAT c r → b = s.slotByte c r ix.toNat + 64 → s.ringSlots c r ≤ 4096 →
        s.rf (SH_RING c r) SH_RING_OWNER = s.rf (SH_RING c ch) SH_RING_OWNER → s.rf a SH_CH_STAT_FREEIX = ix.toNat →
        s.rf a SH_CH_STAT_INUSE ≠ 0 → (s.byte (b + 4)).getLsbD 1 = true → leNat (s.bytes (b + 2) 2) = g.toNat →
        ∃ t, exec (.free c ch (BitVec.ofNat 64 (r.val * 2 + ix.toNat * 2 ^ 3 + g.toNat * 2 ^ 15))) s = .next t ∧
          SameBytesBut s t (b + 4) (b + 5) ∧ t.byte (b + 4) = 0 ∧ t.rf a SH_CH_STAT_FREEIX = (ix.toNat + 1) % s.ringSlots c r ∧
          t.rf a SH_CH_STAT_INUSE = s.rf a SH_CH_STAT_INUSE - 1 ∧ (t.shch_ c ch).inflight.map Desc.status = [some stOK])) ∧
    (∀ d pk k x u, u = s.setShch c ch { s.shch_ c ch with inflight := [d] } → d.status = none → d.coll = false → d.packet = some pk → d.tag = some k →
      s.turnOpen c ch = true → s.rrcHit c pk = none → s.issueCheck pk = stOK → s.tag? (c.val * 32 + k) = some x →
      ∃ t y, exec (.shuttleTurn c ch true) u = .next t ∧ t.mem = s.mem ∧ (t.shch_ c ch).inflight = [{ d with packet := none }] ∧
        t.tag? (c.val * 32 + k) = some y ∧ y.seq = (s.chan x.key).next ∧ (t.chan x.key).next = ((s.chan x.key).next + 1) % 2 ^ 32) ∧
    (∀ d st u b, u = s.setShch c ch { s.shch_ c ch with inflight := [d] } → d.status = some st → st < 256 → d.slot < 4096 →
      b = s.slotByte c ch d.slot →
      (s.backCan c ch d.slot = true →
        (d.back ≠ [] → ∃ t, exec (.descriptorComplete c ch (BitVec.ofNat 12 d.slot)) u = .next t ∧
          (t.shch_ c ch).inflight = [{ d with back := [] }] ∧ t.bytes (b + 0x28) d.back.length = d.back ∧
          SameBytesBut s t (b + 0x28) (b + 0x28 + d.back.length) ∧ t.cores = s.cores) ∧
        (d.back = [] → ∃ t, exec (.descriptorComplete c ch (BitVec.ofNat 12 d.slot)) u = .next t ∧ (t.shch_ c ch).inflight = [] ∧
          (t.byte (b + 69)).toNat = st ∧ (t.byte (b + 68)).getLsbD 1 = true ∧ t.bytes (b + 70) 2 = leBytes 2 d.xgen ∧
          t.bytes (b + 72) 8 = leBytes 8 d.value.toNat ∧ SameBytesBut s t (b + 64) (b + 128) ∧ t.cores = s.cores ∧
          ∀ cl n, d.notifies (pairOf c) (gclusterOf c) = some (cl, n) →
            (t.kp (knotKey cl n)).outside = (s.kp (knotKey cl n)).outside + 1)) ∧
      (s.backCan c ch d.slot = false → exec (.descriptorComplete c ch (BitVec.ofNat 12 d.slot)) u = .next u))

/-- CSEND, CRECV and CCOMB that pass their checks become streams; a stream that has ended is written back and freed -/
def Obligations.CollectiveDescriptors : Prop :=
  (∀ (d : ColDesc) (s : State) (p h i w : Nat) (es : List Nat), p = pairOf d.core → h = s.rf (SH_CH_STAT d.core d.ch) SH_CH_STAT_HEAD →
    w = (s.shch_ d.core d.ch).headW →
    s.chReady d.core d.ch = true → (s.pair p).overlaps = [] → (s.shch_ d.core d.ch).inflight = [] →
    (s.colCheck p d.raw = stOK → (List.range 16).find? (fun j => (s.stream? p j).isNone) = some i → s.listCan p d.raw = true →
      (s.readList p d.raw).1 = some es → es.any (entryBad d.raw) = false →
      (∀ k, (k = .csend d ∧ colOp d.raw = 1 ∧ cPath d.raw = 2) ∨
          (k = .crecv d ∧ colOp d.raw = 2 ∧ cPath d.raw = 2 ∧ (cFlag d.raw 1 = true → isSlot (cDest p d.raw) = true)) ∨
          (k = .ccomb d ∧ colOp d.raw = 3) → ∃ t x, exec k s = .next t ∧ t.stream? p i = some x ∧ x.raw = d.raw ∧ x.core = d.core ∧
        x.ch = d.ch ∧ x.slot = h ∧ x.low = 0 ∧ x.next = 0 ∧ x.status = none ∧ x.inputs = es.map (fun e => (e % 2 ^ 14, nbits e 16 5)) ∧
        x.upto = (if colOp d.raw = 2 then cWindow d.raw else 0) ∧ t.mem = s.mem ∧
        (t.shch_ d.core d.ch).inflight = [{ newDesc h d.raw true with wn := w }] ∧
        t.rf (SH_CH_STAT d.core d.ch) SH_CH_STAT_READY = s.rf (SH_CH_STAT d.core d.ch) SH_CH_STAT_READY - 1 ∧
        (∀ ix l, colOp d.raw = 2 → cFlag d.raw 1 = true → cDest p d.raw = some (.slot ix) → l < 2 * cChunks d.raw →
          Tab.get 0 (t.pair p).slotLine (ix + l) = 0) ∧
        (colOp d.raw = 3 → (∃ j ∈ List.range 64, Tab.get none s.combs (cXsite d.raw * 64 + j) = none) →
          t.rf (LM_COMB (cXsite d.raw - 16)) LM_COMB_ENTRIES = s.rf (LM_COMB (cXsite d.raw - 16)) LM_COMB_ENTRIES + 1)) ∧
      (∀ a b l m, colOp d.raw = 1 → cPath d.raw = 0 → cChunks d.raw = 1 → cFlag d.raw 3 = false → cFlag d.raw 0 = false → es = [] →
        cSource p d.raw = some (.pool a l) → cDest p d.raw = some (.pool b m) → s.ues ((poolBase a + 128 * l) / 8) 32 = [] →
        s.portCan a (128 * l) 256 false = true → (s.portUse a (128 * l) 256).portCan b (128 * m) 256 true = true →
        ∃ t x, exec (.csend d) s = .next t ∧ t.bytes (poolBase b + 128 * m) 256 = s.bytes (poolBase a + 128 * l) 256 ∧
          SameBytesBut s t (poolBase b + 128 * m) (poolBase b + 128 * m + 256) ∧ t.stream? p i = some x ∧ x.status = some stOK)) ∧
    (∀ k st, (k = .csend d ∧ colOp d.raw = 1) ∨ (k = .crecv d ∧ colOp d.raw = 2) ∨ (k = .ccomb d ∧ colOp d.raw = 3) →
      st = s.colCheck p d.raw → st ≠ stOK → ∃ t, exec k s = .next t ∧ t.streams = s.streams ∧ t.mem = s.mem ∧
        (t.shch_ d.core d.ch).inflight.map (fun x => (x.status, x.back)) = [(some st, BitVec.ofNat 8 st :: List.replicate 15 0)])) ∧
  (∀ (p : PairIx) (i : Fin 16) (s : State) (x : Stream), (s.pair p).overlaps = [] → s.stream? p i = some x →
    (∀ st e, x.status = some st → s.desc? x.core x.ch x.slot = some e →
      (x.fill ≠ [] → exec (.streamComplete p i) s = .next s) ∧
      (x.fill = [] → ∃ t y, exec (.streamComplete p i) s = .next t ∧ SameCompute s t ∧ t.stream? p i = none ∧
        y ∈ (t.shch_ x.core x.ch).inflight ∧ y.slot = x.slot ∧ y.status = some st ∧
        y.back = [BitVec.ofNat 8 st, BitVec.ofNat 8 x.sat.toNat, 0, 0] ++ leBytes 4 x.done ++ leBytes 8 x.failmap)) ∧
    (x.status = none → colOp x.raw ≠ 3 → ∃ t y, exec (.streamTimeout p i) s = .next t ∧ t.stream? p i = some y ∧
      y.status = some (if colOp x.raw = 1 ∧ cPath x.raw = 3 then stColPartial else stTimeout) ∧
      (¬ (colOp x.raw = 1 ∧ cPath x.raw = 3) → y.failmap = if colOp x.raw = 2 then x.missing else 0))) ∧
  (∀ (site : SiteIx) (i : Fin 64) (s : State) (c : Comb) (x : Stream), 16 ≤ site.val → Tab.get none s.combs (site.val * 64 + i.val) = some c →
    s.stream? c.pair c.ix = some x → x.status = none → c.pair < 8 → ∃ t y, exec (.combTimeout site i) s = .next t ∧
      t.stream? c.pair c.ix = some y ∧ y.status = some stTimeout ∧
      t.rf (LM_COMB (site.val - 16)) LM_COMB_TIMEOUTS = min (s.rf (LM_COMB (site.val - 16)) LM_COMB_TIMEOUTS + 1) LM_COMB_TIMEOUTS.max)

/-- COL packets and segments deliver a chunk once, grants move a sender, acknowledgements end a multicast, losses are asked for again -/
def Obligations.CollectiveTraffic : Prop :=
  (∀ (site : SiteIx) (pk : Pkt) (s : State), site.val < 8 → pk.cls = 3 → kBad pk = false → (s.pair site).overlaps = [] →
    kDomain pk = s.domain (s.partOfPair site) →
    (∀ i x j cl l, kType pk = 1 → kFlags pk / 2 % 2 = 0 → s.colRecv site pk = some (i, x) → s.stream? site i = some x →
      indexIn x.inputs pk.snode.toNat (kOsite pk) = some j → x.wants (kVal0 pk) j = true → kVal0 pk < x.upto → cDest site x.raw = some (.pool cl l) →
      s.portCan cl (128 * (l + 2 * kVal0 pk)) 256 true = true →
      ∃ t, exec (.data site pk) s = .next t ∧
        t.bytes (poolBase cl + 128 * (l + 2 * kVal0 pk)) 256 = fitBytes 256 (flitBytes pk.data) ∧
        SameBytesBut s t (poolBase cl + 128 * (l + 2 * kVal0 pk)) (poolBase cl + 128 * (l + 2 * kVal0 pk) + 256)) ∧
    (∀ i x j, kType pk = 1 → kFlags pk / 2 % 2 = 0 → s.colRecv site pk = some (i, x) →
      indexIn x.inputs pk.snode.toNat (kOsite pk) = some j → x.wants (kVal0 pk) j = false → ∃ t, exec (.data site pk) s = .next t ∧
      SameCompute s t ∧ t.streams = s.streams ∧
      t.rf (LM_COL_ENG site) LM_COL_ENG_DROPS = min (s.rf (LM_COL_ENG site) LM_COL_ENG_DROPS + 1) LM_COL_ENG_DROPS.max) ∧
    (kType pk = 1 → kFlags pk / 2 % 2 = 0 → s.colRecv site pk = none → ∃ t, exec (.data site pk) s = .next t ∧ SameCompute s t ∧
      t.streams = s.streams ∧ t.rf (LM_COL_ENG site) LM_COL_ENG_DROPS = min (s.rf (LM_COL_ENG site) LM_COL_ENG_DROPS + 1) LM_COL_ENG_DROPS.max) ∧
    (∀ i x, kType pk = 2 → (s.streamsOf site).find? (fun t => colOp t.2.raw == 1 && cPath t.2.raw == 2 && kFor pk t.2.raw && t.2.status.isNone &&
        cDnode t.2.raw == pk.snode.toNat && cCsite t.2.raw == kOsite pk) = some (i, x) → s.stream? site i = some x →
      ∃ t y, exec (.grant site pk) s = .next t ∧ t.stream? site i = some y ∧
        (kVal0 pk = cChunks x.raw → y.status = some stOK ∧ t.mem = s.mem) ∧ (kVal0 pk ≠ cChunks x.raw → y.upto = max x.upto (kVal1 pk))) ∧
    (∀ i x j, kType pk = 3 → s.mcStream site pk = some (i, x, j) → s.stream? site i = some x → colOp x.raw = 1 → cPath x.raw = 3 →
      x.status = none → cChunks x.raw = 1 → x.next = 1 → x.low = 0 → s.deadMask x = 0 → kVal0 pk = 0 → Tab.get 0 x.got 0 ≠ x.full →
      Tab.get 0 x.got 0 ||| 2 ^ j = x.full → ∃ t y, exec (.ack site pk) s = .next t ∧ t.stream? site i = some y ∧ y.status = some stOK ∧ t.mem = s.mem) ∧
    (∀ i x j, kType pk = 4 → s.mcStream site pk = some (i, x, j) → kVal0 pk < x.next → x.has (kVal0 pk) = false →
      (Tab.get 0 x.got (kVal0 pk)).testBit j = false → ∃ t, exec (.rej site pk) s = .next t ∧ SameCompute s t ∧
        t.stream? site i = some { x with rej := Tab.set 0 x.rej (kVal0 pk) (Tab.get 0 x.rej (kVal0 pk) ||| 2 ^ j) } ∧
        t.rf (LM_COL_DONE site) LM_COL_DONE_REJ = min (s.rf (LM_COL_DONE site) LM_COL_DONE_REJ + 1) LM_COL_DONE_REJ.max)) ∧
  (∀ (p : PairIx) (i : Fin 16) (s : State) (x : Stream) (m cl l : Nat), (s.pair p).overlaps = [] → s.stream? p i = some x → colOp x.raw = 1 →
    cPath x.raw = 3 → x.status = none → cChunks x.raw = 1 → x.low = 0 → x.next = 1 → x.got = [] → x.rej = [(0, m)] → m &&& x.full ≠ 0 →
    s.deadMask x = 0 → cSource p x.raw = some (.pool cl l) → s.ues ((poolBase cl + 128 * l) / 8) 32 = [] →
    s.portCan cl (128 * l) 256 false = true → ∃ t y, exec (.mcastRetry p i false) s = .next t ∧
      t.mem = s.mem ∧ t.mseq = (s.mseq + 1) % 2 ^ 32 ∧ t.stream? p i = some y ∧ y.rej = [] ∧
      t.rf (LM_COL_ENG p) LM_COL_ENG_RESENDS = min (s.rf (LM_COL_ENG p) LM_COL_ENG_RESENDS + 1) LM_COL_ENG_RESENDS.max) ∧
  (∀ (p : PairIx) (wg : Fin 8) (hd : List Byte) (r : List (Option (List Byte))) (s : State) (key v k i : Nat) (x : Stream),
    (∀ q, (s.pair q).overlaps = []) → key = p.val * 16 + 8 + wg.val → Tab.get [] s.weftIn key = some hd :: r → hd ≠ [] →
    v = leNat (hd.take 64) → nbits v 64 16 = 1 → k = segLen 1 hd.length →
    (r.length + 1 < k → exec (.segmentReceive p wg) s = .next s) ∧
    (k ≤ r.length + 1 → s.circStream p 2 wg (nbits v 0 16) (nbits v 16 16) = some (i, x) → s.stream? p i = some x →
      nbits v 80 8 / 2 = 0 → v / 2 ^ 88 = 0 →
      (∀ bs cl l, segChunk ((some hd :: r).take k) hd.length 0 = some bs → bs.length = 256 → x.wants (nbits v 32 32) 0 = true →
        cDest p x.raw = some (.pool cl l) → s.portCan cl (128 * (l + 2 * nbits v 32 32)) 256 true = true →
        ∃ t, exec (.segmentReceive p wg) s = .next t ∧ Tab.get [] t.weftIn key = (some hd :: r).drop k ∧
          t.bytes (poolBase cl + 128 * (l + 2 * nbits v 32 32)) 256 = bs ∧
          SameBytesBut s t (poolBase cl + 128 * (l + 2 * nbits v 32 32)) (poolBase cl + 128 * (l + 2 * nbits v 32 32) + 256)) ∧
      (∀ src, segChunk ((some hd :: r).take k) hd.length 0 = none → s.rxSource p wg = some src →
        ∃ t, exec (.segmentReceive p wg) s = .next t ∧ t.mem = s.mem ∧
          t.resendOut = s.resendOut ++ [(src, nbits v 0 16, nbits v 16 16, [nbits v 32 32])]))) ∧
  (∀ (p : PairIx) (wg : Fin 8) (e : Nat × Nat × Nat × List Nat) (s : State) (i : Nat) (x : Stream), (∀ q, (s.pair q).overlaps = []) →
    s.resendOut.find? (fun e => e.1 = 16 * p.val + wg.val) = some e → s.circStream p 1 wg e.2.1 e.2.2.1 = some (i, x) →
    s.stream? p i = some x → (∀ c ∈ e.2.2.2, c < x.next) →
    ((∀ c ∈ e.2.2.2, Tab.get 0 x.tries c < 4) → ∃ t, exec (.resendRequest p wg) s = .next t ∧ t.mem = s.mem ∧
      t.resendOut = s.resendOut.erase e ∧
      t.rf (LM_COL_ENG p) LM_COL_ENG_RESENDS = min (s.rf (LM_COL_ENG p) LM_COL_ENG_RESENDS + e.2.2.2.length) LM_COL_ENG_RESENDS.max) ∧
    ((∃ c ∈ e.2.2.2, 4 ≤ Tab.get 0 x.tries c) → ∃ t y, exec (.resendRequest p wg) s = .next t ∧ t.stream? p i = some y ∧
      y.status = some stColCircuit)) ∧
  (∀ (p : PairIx) (i : Fin 16) (c j ix : Nat) (bs : List Byte) (s : State) (x : Stream), (s.pair p).overlaps = [] → s.stream? p i = some x →
    x.pend.find? (fun y => y.1 = c) = some (c, j, bs) → bs.length = 256 → x.status = none → colOp x.raw = 2 → cPath x.raw = 2 →
    cFlag x.raw 0 = false → cDest p x.raw = some (.slot ix) →
    (s.loomCan p (ix + 2 * c) = true → ∃ t, exec (.loomInputWrite p i c) s = .next t ∧ t.mem = s.mem ∧
      leBytes 128 (Tab.get 0 (t.pair p).slotLine (ix + 2 * c)).toNat = bs.take 128 ∧
      leBytes 128 (Tab.get 0 (t.pair p).slotLine (ix + 2 * c + 1)).toNat = bs.drop 128) ∧
    (s.loomCan p (ix + 2 * c) = false → exec (.loomInputWrite p i c) s = .next s))

/-- Engines ask for a circuit slot together; its outcome starts or fails what waits for it -/
def Obligations.CircuitSlotAgreement : Prop :=
  (∀ (p : PairIx) (slot : BitVec 4) (s : State) (q : Part), s.part? (s.partOfPair p) = some q → q.first = p.val →
    Tab.get [] s.colWait p ≠ [] → (∀ w ∈ Tab.get [] s.colWait p, cSlot w.raw = slot.toNat) →
    (∀ t ∈ s.streamsOf p, cPath t.2.raw ≠ 1 ∨ colOp t.2.raw = 3 ∨ t.2.status.isSome = true) → s.rb (LM_COL_ENG p) LM_COL_ENG_RVALID = false →
    (q.pairs = 1 → ∃ u : State, exec (.ready p slot) s = .next (u.swRequest (s.partOfPair p) q slot.toNat false) ∧ u = { s with regs := u.regs } ∧
      u.rb (LM_COL_ENG p) LM_COL_ENG_RVALID = true ∧ u.rf (LM_COL_ENG p) LM_COL_ENG_RSLOT = slot.toNat) ∧
    (q.pairs = 2 → s.rb (LM_COL_ENG (p.val + 1)) LM_COL_ENG_RVALID = false → ∃ u : State, exec (.ready p slot) s = .next u ∧ u = { s with regs := u.regs } ∧
      u.rb (LM_COL_ENG p) LM_COL_ENG_RVALID = true ∧ u.rf (LM_COL_ENG p) LM_COL_ENG_RSLOT = slot.toNat)) ∧
  (∀ (n : PartNo) (slot : BitVec 4) (s : State) (q : Part) (e : Nat × Nat × Bool × Nat), s.part? n = some q → q.pairs = 1 → q.first < 8 →
    s.rf (LM_COL_ENG q.first) LM_COL_ENG_RSLOT = slot.toNat →
    s.switchOut.find? (fun e => e.1 = n.val && e.2.1 = slot.toNat && !e.2.2.1) = some e →
    (e.2.2.2 = 1 → ∀ w, Tab.get [] s.colWait q.first = [w] → cSlot w.raw = slot.toNat →
      ∃ u : State, exec (.switchOutcome n slot) s = .next (u.colStart w.core w.ch w.raw) ∧
        u = { s with regs := u.regs, switchOut := s.switchOut.erase e, colWait := u.colWait } ∧ Tab.get [] u.colWait q.first = [] ∧
        u.rb (LM_COL_ENG q.first) LM_COL_ENG_RVALID = false) ∧
    (e.2.2.2 ≠ 1 → ∀ w, Tab.get [] s.colWait q.first = [w] → w.core < 2048 → w.ch < 4 → cSlot w.raw = slot.toNat →
      (s.shch_ w.core w.ch).inflight = [] → ∃ t, exec (.switchOutcome n slot) s = .next t ∧ Tab.get [] t.colWait q.first = [] ∧
        t.rb (LM_COL_ENG q.first) LM_COL_ENG_RVALID = false ∧ t.switchOut = s.switchOut.erase e ∧
        (t.shch_ w.core w.ch).inflight.map Desc.status = [some stColSlotFailed])) ∧
  (∀ (n : PartNo) (slot : BitVec 4) (s : State), s.switchOut.find? (fun e => e.1 = n.val && e.2.1 = slot.toNat && !e.2.2.1) = none →
    exec (.switchOutcome n slot) s = .next s) ∧
  (∀ (n : PartNo) (s : State) (q : Part) (w : ColWait), s.part? n = some q → q.pairs = 2 → q.first < 7 →
    s.rb (LM_COL_ENG q.first) LM_COL_ENG_RVALID = true → Tab.get [] s.colWait q.first = [w] → Tab.get [] s.colWait (q.first + 1) = [] →
    w.core < 2048 → w.ch < 4 → (s.shch_ w.core w.ch).inflight = [] →
    (s.rb (LM_COL_ENG (q.first + 1)) LM_COL_ENG_RVALID = false → ∃ t, exec (.readyTimeout n) s = .next t ∧
      Tab.get [] t.colWait q.first = [] ∧ t.rb (LM_COL_ENG q.first) LM_COL_ENG_RVALID = false ∧
      (t.shch_ w.core w.ch).inflight.map Desc.status = [some stColSlotFailed]) ∧
    (s.rb (LM_COL_ENG (q.first + 1)) LM_COL_ENG_RVALID = true → exec (.readyTimeout n) s = .next s))

/-- A partition is created on free pairs and a free run, deleted unless it runs, reset at CONTEXT or DIE, and queried -/
def Obligations.PartitionCommands : Prop :=
  (∀ (m : Mail) (s : State) (first pairs domain gib n : Nat), n = m.hdr.part.toNat → Admits s m 0x10 .pf0 false 8 →
    m.payload = leBytes 1 first ++ leBytes 1 pairs ++ leBytes 2 domain ++ leBytes 4 gib → first < 256 → pairs < 256 →
    domain < 2 ^ 16 → gib < 2 ^ 32 →
    (∀ b, shapeOk first pairs = true → 1 ≤ n → n ≤ 8 → 1 ≤ domain → domain < 0xFFFF → gib ≤ 448 → s.ready = true → s.lc.state < 3 →
      s.part? n = none → (∀ i < pairs, s.partOfPair (first + i) = 0 ∧ s.excluded (first + i) = false) → s.gibRun gib = some b →
      ∃ t, exec (.partitionCreate m) s = .next t ∧ t.gen n = (s.gen n + 1) % 4096 ∧ t.cores = s.cores ∧ t.groups = s.groups ∧
        (gib = 0 → t.late = [] ∧ SameBytesBut s t (dumpAddr n 0) (dumpAddr n 128) ∧ ∃ p, t.part? n = some p ∧ p.first = first ∧
          p.pairs = pairs ∧ p.domain.toNat = domain ∧ p.bulkGib = 0 ∧ p.state = .empty ∧ p.cores = [] ∧
          Answered t m stOK (leBytes 2 (t.ctx n).toNat ++ List.replicate 6 0 ++ leBytes 8 p.bulkBase)) ∧
        (gib ≠ 0 → t.parts = s.parts ∧ t.mem = s.mem ∧ ∃ e p, t.late = [(n, e, some p)] ∧ p.first = first ∧ p.pairs = pairs ∧
          p.bulkBase = b * 2 ^ 30 ∧ p.bulkGib = gib)) ∧
    (∀ st, s.createCheck n first pairs domain gib = .error st → ∃ t, exec (.partitionCreate m) s = .next t ∧ Answered t m st [] ∧
      OnlyMailbox s t m)) ∧
  (∀ (m : Mail) (s : State), Admits s m 0x11 .pf0 true 0 → ∃ t, exec (.partitionDelete m) s = .next t ∧
    (∀ p, s.part? m.part = some p → p.state ≠ .running → Answered t m stOK [] ∧ t.part? m.part = none ∧
      (∀ k, k ≠ m.part → (t.part? k).isSome = (s.part? k).isSome) ∧ ∀ c, p.hasPair (pairOf c) = true → (t.core c).bundles = 0) ∧
    ((∀ p, s.part? m.part = some p → p.state = .running) → Answered t m stWrongState [] ∧ OnlyMailbox s t m)) ∧
  (∀ (m : Mail) (failed : BitVec 8) (s : State) (p : Part) (l : BitVec 8), Admits s m 0x12 .own true 1 → m.payload = [l] →
    s.part? m.part = some p →
    (1 < l.toNat → ∃ t, exec (.partitionReset m failed) s = .next t ∧ Answered t m stBadArgument [] ∧ OnlyMailbox s t m) ∧
    (l.toNat ≤ 1 → p.resetOk l.toNat = false → ∃ t, exec (.partitionReset m failed) s = .next t ∧ Answered t m stWrongState [] ∧
      OnlyMailbox s t m) ∧
    (p.resetOk l.toNat = true → p.origins = [] → p.dump = none → Canonical s →
      (l = 0 → ∃ t q, exec (.partitionReset m failed) s = .next t ∧ t.part? m.part = some q ∧
        q.state = (if p.state = .empty then .empty else .loaded) ∧ t.gen m.part = (s.gen m.part + 1) % 4096 ∧
        Answered t m stOK (resetBytes (t.ctx m.part) p.bounded (s.bounds p)) ∧
        (∀ c : CoreIx, p.hasPair (pairOf c) = true → t.seqState c = 0 ∧ ∃ k, t.core c = { Core.reset with bundles := k }) ∧
        (s.tags = [] → s.stalled = [] → (∀ e ∈ s.pools, e.2.atoms = []) → (∀ c, (s.core c).lbuf = []) →
          (∀ e ∈ s.groups, e.2.part = m.part → p.hasPair (e.1 / 32) = true) → t.mem = s.mem ∧ ∀ c, p.hasPair (pairOf c) = false → t.core c = s.core c)) ∧
      (l = 1 → (∀ g ∈ p.groupIx, failed.getLsbD g = false) → ∃ t q, exec (.partitionReset m failed) s = .next t ∧
        t.part? m.part = some q ∧ q.state = .empty ∧ q.cores = [] ∧ t.gen m.part = (s.gen m.part + 1) % 4096 ∧
        Answered t m stOK (resetBytes (t.ctx m.part) p.bounded (s.bounds p)) ∧
        (∀ c : CoreIx, p.hasPair (pairOf c) = true → t.core c = Core.reset ∧ t.seqState c = 0) ∧
        (s.tags = [] → s.stalled = [] → (∀ e ∈ s.pools, e.2.atoms = []) → (∀ c, (s.core c).lbuf = []) →
          (∀ a, a < 2 ^ 48 → t.byte a = s.byte a) ∧
          (∀ c a, p.hasPair (pairOf c) = true → spBase c ≤ a → a < spBase (c + 1) → t.byte a = 0) ∧
          ∀ k a, p.hasPair (k / 32) = true → poolBase k ≤ a → a < poolBase (k + 1) → t.byte a = 0)) ∧
      (l = 1 → ∀ g ∈ p.groupIx, failed.getLsbD g = true → ∃ t, exec (.partitionReset m failed) s = .next t ∧
        t.part? m.part = none ∧ t.excluded g = true ∧ Answered t m stHwFault []))) ∧
  (∀ (m : Mail) (s : State), Admits s m 0x13 .own true 0 → ∃ t, exec (.partitionQuery m) s = .next t ∧
    Answered t m stOK (s.queryBytes m.part) ∧ OnlyMailbox s t m)

/-- A draft that passes every check is loaded, a loaded one starts its cores, a running one is stopped; slots are stored -/
def Obligations.DraftCommands : Prop :=
  (∀ (m : Mail) (img : List (BitVec 8)) (s : State) (p : Part) (st base : Nat), Admits s m 0x20 .own true 0 → s.ready = true →
    s.part? m.part = some p → m.hdr.hostbuf = true → st = stagingSize m.hdr.hlen.toNat → base = p.bulkBase + p.bulkGib * 2 ^ 30 - st →
    (p.state ≠ .running → p.state ≠ .faulted → 0 < st → st ≤ p.bulkGib * 2 ^ 30 → img.length = m.hdr.hlen.toNat →
      (∀ r, s.loadAuth m.part p img img.length = some r → ∃ t, exec (.draftLoad m img false) s = .next t ∧
        Answered t m stDraftAuth (reportOf [offSec r 0xFFFF]) ∧ t.parts = s.parts ∧ t.cores = s.cores ∧
        SameBytesBut s t base (base + img.length)) ∧
      (∀ key l, s.loadAuth m.part p img img.length = none → (if encrypted img then s.contentKey img else some []) = some key →
        decryptAll img key (sections img) = (l, none) →
        (loadCheck img p.pairs (p.bulkGib * 2 ^ 30 - st) l = [] → ∃ t, exec (.draftLoad m img false) s = .next t ∧
          Answered t m stOK (reportOf []) ∧ t.part? m.part = some (p.withDraft img l) ∧
          ∀ r ∈ sortedRaws l, ∀ bs, (codesOf l).get? r.code = some bs → (t.core (256 * p.first + r.core)).bundles = bs.length ∧
            ∀ i, i < bs.length → Tab.get 0 t.dstore ((256 * p.first + r.core) * 2048 + i) = bs.getD i 0) ∧
        (∀ os, os = loadCheck img p.pairs (p.bulkGib * 2 ^ 30 - st) l → os ≠ [] → ∃ t, exec (.draftLoad m img false) s = .next t ∧
          Answered t m stDraftRefused (reportOf os) ∧ t.parts = s.parts ∧ t.cores = s.cores))) ∧
    (p.state = .running ∨ p.state = .faulted → ∃ t, exec (.draftLoad m img false) s = .next t ∧ Answered t m stWrongState [] ∧
      OnlyMailbox s t m)) ∧
  (∀ (m : Mail) (s : State) (p : Part), Admits s m 0x21 .own true 0 → s.part? m.part = some p → s.ready = true →
    (p.state = .loaded ∨ p.state = .halted → ∃ t q, exec (.draftStart m) s = .next t ∧ Answered t m stOK [] ∧ t.mem = s.mem ∧
      t.part? m.part = some q ∧ q.state = .running ∧ q.cores = p.cores ∧
      ∀ c : CoreIx, c.val ∈ p.coreIx → t.bc c = 0 ∧ (t.core c).flight = [] ∧ (t.core c).bundles = (s.core c).bundles ∧
        (∀ r, p.cores.find? (fun r => r.core = c.val) = some r → r.entry < 2048 → t.seqState c = 1 ∧
          t.rf (CD_SEQ_STATUS c) CD_SEQ_STATUS_PC = r.entry ∧ t.zopen c = r.zopen) ∧
        (p.cores.find? (fun r => r.core = c.val) = none → t.seqState c = 0)) ∧
    (p.state ≠ .loaded → p.state ≠ .halted → ∃ t, exec (.draftStart m) s = .next t ∧ Answered t m stWrongState [] ∧ OnlyMailbox s t m)) ∧
  (∀ (m : Mail) (s : State) (p : Part), Admits s m 0x22 .own true 0 → s.part? m.part = some p →
    (p.state = .running → (∃ e ∈ s.groups, e.2.part = m.part ∧ e.2.halted = false) → ∃ t e q, exec (.draftStop m) s = .next t ∧
      t.late = [(m.part, e, none)] ∧ t.mem = s.mem ∧ t.part? m.part = some q ∧ q.state = .running ∧ q.stopping = true ∧
      ∀ g, (s.grp g).part = m.part → (t.grp g).waits = [] ∧ ((s.grp g).halted = false → (s.grp g).stop = none →
        (t.grp g).stop = some (s.grp g).count ∧ (t.grp g).draining = true)) ∧
    (p.state = .running → p.origins = [] → (∀ e ∈ s.groups, e.2.part = m.part → e.2.halted = true) → ∃ t q, exec (.draftStop m) s = .next t ∧
      Answered t m stOK [] ∧ t.part? m.part = some q ∧ q.state = .halted) ∧
    (p.state ≠ .running → ∃ t, exec (.draftStop m) s = .next t ∧ Answered t m stWrongState [] ∧ OnlyMailbox s t m)) ∧
  (∀ (m : Mail) (s : State) (p : Part) (slot : Nat), Admits s m 0x30 .own true m.hdr.length.toNat → s.part? m.part = some p →
    m.payload.length = 32 + 32 * p.pairs → s.ready = true → slot = fld m.payload 0 1 →
    (slotOk p m.payload = true → s.slotBusy m.part p slot = false → ∃ t, exec (.weftSlotWrite m) s = .next t ∧ Answered t m stOK [] ∧
      SameCompute s t ∧ (∀ g ∈ p.groupIx, (t.rf (LM_WEFT_SLOTVALID g) LM_WEFT_SLOTVALID_VALID).testBit slot = true ∧
        Tab.get 0 t.slotRecs (16 * g + slot) = BitVec.ofNat 128 (fld m.payload (32 + 32 * (g - p.first)) 16)) ∧
      Tab.get (0, 0) t.slotEls (16 * p.first + slot) =
        (phaseElsOf p.log2 (16 * p.first) (slotSrcs p m.payload), fanElsOf p.first (slotSrcs p m.payload)) ∧
      ∀ k, (∀ g ∈ p.groupIx, k ≠ 16 * g + slot) → Tab.get 0 t.slotRecs k = Tab.get 0 s.slotRecs k) ∧
    (slotOk p m.payload = true → s.slotBusy m.part p slot = true → ∃ t, exec (.weftSlotWrite m) s = .next t ∧
      Answered t m stWrongState [] ∧ OnlyMailbox s t m) ∧
    (slotOk p m.payload = false → ∃ t, exec (.weftSlotWrite m) s = .next t ∧ Answered t m stBadArgument [] ∧ OnlyMailbox s t m)) ∧
  (∀ (m : Mail) (s : State), Admits s m 0x31 .pf0 false 129 → s.ready = true → (∀ e ∈ s.parts, e.2.state = .empty) →
    (∀ up dn, m.payload = (up ++ dn).map (BitVec.ofNat 8) ++ [0] → isPerm up = true → isPerm dn = true →
      (up ≠ (List.range 64).map (fun i => 8 * (i % 8) + i / 8) ∨ dn ≠ (List.range 64).map (fun i => 8 * (i % 8) + i / 8)) →
      ∃ t, exec (.weftStandingSet m) s = .next t ∧ Answered t m stOK [] ∧ SameCompute s t ∧ t.standMap = some (up, dn) ∧
        t.stuEls = standEls up ∧ t.stdEls = standEls dn ∧ t.rf LM_WEFT_STANDING LM_WEFT_STANDING_DEFAULT = 0 ∧
        t.rf LM_WEFT_STANDING LM_WEFT_STANDING_CHANGING = 1) ∧
    (m.payload = List.replicate 128 0 ++ [1] → ∃ t, exec (.weftStandingSet m) s = .next t ∧ Answered t m stOK [] ∧ SameCompute s t ∧
      t.standMap = none ∧ t.stuEls = standEls defaultStand ∧ t.stdEls = standEls defaultStand ∧
      t.rf LM_WEFT_STANDING LM_WEFT_STANDING_DEFAULT = 1 ∧ t.rf LM_WEFT_STANDING LM_WEFT_STANDING_CHANGING = 1))

/-- A mailbox command that breaks a rule is answered with that rule's status and changes nothing; the others have their effect -/
def Obligations.PackageCommands : Prop :=
  (∀ (i : Instr) (s : State) (m : Mail) (op len : Nat) (who : Who) (part : Bool), mbCmd i = some (m, op, who, part, len) → m.src.val ≤ 8 →
    m.hdr.opcode.toNat = op → s.inReset = false → s.late = [] → s.mbBehind m.src.val = false → m.hdr.tvalid = false → (∀ e ∈ s.mbQueue, e.drop = false) →
    (m.hdr.bad = true → ∃ t, exec i s = .next t ∧ Answered t m stBadCommand [] ∧ OnlyMailbox s t m) ∧
    (m.hdr.bad = false → s.mbDenied m who = true → ∃ t, exec i s = .next t ∧ Answered t m stAccessDenied [] ∧ OnlyMailbox s t m) ∧
    (∀ st, m.hdr.bad = false → s.mbDenied m who = false → s.mbRefuse m op part len = some st →
      ∃ t, exec i s = .next t ∧ Answered t m st [] ∧ OnlyMailbox s t m)) ∧
  (∀ (i : Instr) (m : Mail) (s : State) (bs : List Byte),
    (i = .info m ∧ Admits s m 0x01 .all false 0 ∧ bs = s.infoBytes) ∨
    (i = .logRead m ∧ Admits s m 0x02 .pf0 false 4 ∧ bs = s.logBytes (m.n 0 4)) ∨
    (i = .draftKeyGet m ∧ Admits s m 0x71 .all false 0 ∧ bs = keyId s.draftKey ++ s.draftKey) ∨
    (i = .bringupReport m ∧ Admits s m 0xA1 .pf0 false 0 ∧ bs = s.reportBytes) →
    ∃ t, exec i s = .next t ∧ Answered t m stOK bs ∧ OnlyMailbox s t m) ∧
  (∀ (m : Mail) (s : State), Admits s m 0x40 .pf0 false 1256 →
    (s.anyRunning = true → ∃ t, exec (.routeTableSet m) s = .next t ∧ Answered t m stWrongState [] ∧ OnlyMailbox s t m) ∧
    (s.anyRunning = false → routeOk s.ownNode s.selPorts m.payload = false → ∃ t, exec (.routeTableSet m) s = .next t ∧
      Answered t m stBadArgument [] ∧ OnlyMailbox s t m) ∧
    (s.anyRunning = false → routeOk s.ownNode s.selPorts m.payload = true → ∃ t, exec (.routeTableSet m) s = .next t ∧
      Answered t m stOK [] ∧ SameCompute s t ∧ t.rb LM_RT_CTL LM_RT_CTL_TVALID = true ∧
      t.rf LM_RT_CTL LM_RT_CTL_LOADS = min (s.rf LM_RT_CTL LM_RT_CTL_LOADS + 1) LM_RT_CTL_LOADS.max ∧
      (∀ l, l < 48 → t.rf (LM_RT_LINK l) LM_RT_LINK_EXP_NODE = rtExp m.payload l ∧
        dimOf (rtAbits m.payload) s.ownNode (rtExp m.payload l) = some (t.rf (LM_RT_LINK l) LM_RT_LINK_DIM)) ∧
      ∀ k, k < 128 → (t.rget (LM_RT_LOCAL k)).toNat = rtLocal m.payload k ∧ (t.rget (LM_RT_GLOBAL k)).toNat = rtGlobal m.payload k)) ∧
  (∀ (m : Mail) (s : State) (T h : Nat), Admits s m 0x41 .pf0 false 3 → m.payload = leBytes 2 T ++ leBytes 1 h → T < 2 ^ 16 →
    s.anyRunning = false → 1 ≤ h → h ≤ 5 → 128 * h ≤ 10 * T → ∃ t, exec (.fabricTimeoutSet m) s = .next t ∧ Answered t m stOK [] ∧
      SameCompute s t ∧ t.rf LM_MS_TIME LM_MS_TIME_TIMEOUT_US = T ∧ t.rf LM_MS_TIME LM_MS_TIME_HMAX = h) ∧
  (∀ (m : Mail) (s : State) (n : Nat) (b : Bool), Admits s m 0x42 .pf0 false 3 → m.payload = leBytes 2 n ++ leBytes 1 b.toNat → n < 2 ^ 14 →
    ∃ t, exec (.nodeDeadSet m) s = .next t ∧ Answered t m stOK [] ∧ t.nodeDead n = b ∧
      (b = false → SameCompute s t ∧ ∀ k, k < 2 ^ 14 → k ≠ n → t.nodeDead k = s.nodeDead k)) ∧
  (∀ (m : Mail) (s : State) (mask g : Nat), Admits s m 0x50 .own true 2 → m.payload = leBytes 1 mask ++ leBytes 1 g → mask < 256 → g ≤ 24 →
    ((∀ p < 8, mask.testBit p = true → s.partOfPair p = m.part) → ∃ t, exec (.gearSet m) s = .next t ∧ Answered t m stOK [] ∧ SameCompute s t ∧
      ∀ p < 8, t.rf (CD_GEAR_CTL p) CD_GEAR_CTL_HOST_REQ = if mask.testBit p then g else s.rf (CD_GEAR_CTL p) CD_GEAR_CTL_HOST_REQ) ∧
    (∀ p < 8, mask.testBit p = true → s.partOfPair p ≠ m.part → ∃ t, exec (.gearSet m) s = .next t ∧ Answered t m stAccessDenied [] ∧
      OnlyMailbox s t m)) ∧
  (∀ (m : Mail) (s : State) (b : Bool), Admits s m 0x51 .pf0 false 1 → m.payload = leBytes 1 b.toNat → ∃ t, exec (.packageReset m) s = .next t ∧
    Answered t m stOK [] ∧ SameCompute s t ∧ t.resetDue = some (if b then 3 else 2, 2)) ∧
  (∀ (m : Mail) (img : List (BitVec 8)) (s : State) (v svn : Nat), Admits s m 0x60 .pf0 false 0 → m.hdr.hostbuf = true →
    img.length = m.hdr.hlen.toNat → Config.fwImage img = some (v, svn, img.length, true) → svn ≤ 64 → s.fw.floor ≤ svn →
    ∃ t, exec (.fwWrite m img) s = .next t ∧ Answered t m stOK [] ∧ SameCompute s t ∧ t.fw.active = s.fw.active ∧
      t.fw.bank (!s.fw.active) = ⟨true, svn, v, sha384 img⟩ ∧ t.fw.bank s.fw.active = s.fw.bank s.fw.active) ∧
  (∀ (m : Mail) (s : State) (b c : Bool), Admits s m 0x61 .pf0 false 2 → m.payload = leBytes 1 b.toNat ++ leBytes 1 c.toNat →
    (s.fw.bank b).valid = true → s.fw.floor ≤ (s.fw.bank b).svn → ∃ t, exec (.fwActivate m) s = .next t ∧ Answered t m stOK [] ∧
      SameCompute s t ∧ t.fw = { s.fw with next := b, commit := c }) ∧
  (∀ (m : Mail) (s : State) (f a : Nat), Admits s m 0x90 .own false 24 → m.part ≤ 8 → m.fromPart = false → f < 2 ^ 64 → a < 2 ^ 64 →
    m.payload = leBytes 8 f ++ leBytes 8 a ++ List.replicate 8 0 → ∃ t, exec (.meterRead m) s = .next t ∧ SameCompute s t ∧
      Answered t m stOK (s.meterReadBytes (m.part == 0) m.part f) ∧ t.meterSeq = s.meterSeq ∧
      t.spill = s.spill.filter fun r => decide (a < r.seq ∨ a = 0)) ∧
  (∀ (m : Mail) (s : State), Admits s m 0xA0 .pf0 false 1320 → upBad m.payload = false →
    (cfFlag m.payload 3 = true → cfFlag m.payload 2 = false → ∃ t, exec (.bringupStart m) s = .next t ∧ Answered t m stOK [] ∧ SameCompute s t ∧
      t.storedCfg = some m.payload ∧ t.upCfg = s.upCfg ∧ t.rf HD_BRINGUP HD_BRINGUP_STAGE = s.rf HD_BRINGUP HD_BRINGUP_STAGE) ∧
    (cfFlag m.payload 3 = false → s.configBegun = true → ∃ t, exec (.bringupStart m) s = .next t ∧ Answered t m stWrongState [] ∧
      OnlyMailbox s t m) ∧
    (cfFlag m.payload 3 = false → cfFlag m.payload 2 = false → s.configBegun = false → s.rb HD_BRINGUP HD_BRINGUP_WAITING = true →
      ∃ t, exec (.bringupStart m) s = .next t ∧ Answered t m stOK [] ∧ SameCompute s t ∧ t.upCfg = some m.payload ∧
        t.rb HD_BRINGUP HD_BRINGUP_WAITING = false ∧ t.rf HD_BRINGUP HD_BRINGUP_STAGE = 8))

/-- Fabric time is read, stepped and disciplined: what each time command and each PPS edge leaves -/
def Obligations.FabricTime : Prop :=
  (∀ (m : Mail) (s : State), Admits s m 0x80 .all false 0 → ∃ t, exec (.timeGet m) s = .next t ∧ Answered t m stOK s.timeBytes ∧
    OnlyMailbox s t m) ∧
  (∀ (m : Mail) (s : State) (v : Nat), Admits s m 0x81 .pf0 false 16 → v < 2 ^ 64 →
    (m.payload = List.replicate 8 0 ++ leBytes 8 v →
      (v % 1000000000 = 0 → (s.timeState ≠ 0 → s.now < v) → s.clock.step = none → ∃ t, exec (.timeStepArm m) s = .next t ∧
        Answered t m stOK [] ∧ SameCompute s t ∧ t.now = s.now ∧ t.timeState = s.timeState ∧
        t.clock = { s.clock with step := some v } ∧ t.rb HD_TIME_STAT HD_TIME_STAT_PENDING = true) ∧
      (v % 1000000000 ≠ 0 ∨ (s.timeState ≠ 0 ∧ v ≤ s.now) → ∃ t, exec (.timeStepArm m) s = .next t ∧ Answered t m stBadArgument [] ∧
        OnlyMailbox s t m) ∧
      (v % 1000000000 = 0 → (s.timeState ≠ 0 → s.now < v) → s.clock.step ≠ none → ∃ t, exec (.timeStepArm m) s = .next t ∧
        Answered t m stWrongState [] ∧ OnlyMailbox s t m)) ∧
    (m.payload = 1 :: List.replicate 7 0 ++ leBytes 8 v → 0 < v → v < 2 ^ 62 →
      (s.timeState = 0 ∨ s.timeState = 2 → s.clock.step = none → ∃ t, exec (.timeStepDelta m) s = .next t ∧ Answered t m stOK [] ∧
        SameCompute s t ∧ t.now = (s.now + v) % 2 ^ 64 ∧ t.timeState = 2) ∧
      (s.timeState = 1 ∨ s.timeState = 3 ∨ s.clock.step ≠ none → ∃ t, exec (.timeStepDelta m) s = .next t ∧ Answered t m stWrongState [] ∧
        OnlyMailbox s t m)) ∧
    (m.payload = 2 :: List.replicate 15 0 → ∃ t, exec (.timeStepCancel m) s = .next t ∧ Answered t m stOK [] ∧ SameCompute s t ∧
      t.now = s.now ∧ t.clock = { s.clock with step := none } ∧ t.rb HD_TIME_STAT HD_TIME_STAT_PENDING = false)) ∧
  (∀ s : State, s.timeState = 1 ∨ s.timeState = 3 →
    (∀ e, s.clock.edge = some e → secondApart e s.now = true →
      (∀ r, s.clock.step = none → r = (s.now : Int) - (nearSecond s.now : Int) → ∃ t, exec .ppsInEdge s = .next t ∧ SameCompute s t ∧
        t.now = s.now ∧ t.clock.edge = some s.now ∧ t.clock.last = s.now ∧ t.clock.r = r ∧
        t.timeState = if r.natAbs < 1000 then 1 else 3) ∧
      (∀ v, s.clock.step = some v → v < 2 ^ 64 → ∃ t, exec .ppsInEdge s = .next t ∧ SameCompute s t ∧ t.now = v ∧ t.timeState = 1 ∧
        t.clock.step = none ∧ t.rb HD_TIME_STAT HD_TIME_STAT_PENDING = false)) ∧
    (∀ e, s.clock.edge = some e → secondApart e s.now = false → ∃ t, exec .ppsInEdge s = .next t ∧
      t = { s with regs := t.regs, hwSet := t.hwSet } ∧ SameRegsBut s t (· = HD_TIME_STAT) ∧ t.now = s.now ∧ t.timeState = s.timeState ∧
      t.rf HD_TIME_STAT HD_TIME_STAT_PPS_REJ = min (s.rf HD_TIME_STAT HD_TIME_STAT_PPS_REJ + 1) HD_TIME_STAT_PPS_REJ.max) ∧
    (∃ t, exec .ppsInMissing s = .next t ∧ SameCompute s t ∧ t.now = s.now ∧ t.timeState = 2 ∧ t.clock.edge = none ∧ t.clock.run = 0)) ∧
  (∀ s : State, s.timeState = 0 ∨ s.timeState = 2 →
    (s.clock.run = 0 ∨ s.clock.edge = none → ∃ t, exec .ppsInEdge s = .next t ∧ t = { s with clock := t.clock } ∧
      t.clock.run = 1 ∧ t.clock.edge = some s.now ∧ t.clock.last = s.clock.last) ∧
    (∀ e r, s.timeState = 2 → s.clock.edge = some e → s.clock.run = 2 → secondApart e s.now = true → s.clock.step = none →
      r = (s.now : Int) - (nearSecond s.now : Int) → ∃ t, exec .ppsInEdge s = .next t ∧ SameCompute s t ∧ t.now = s.now ∧
        t.clock.last = s.now ∧ t.clock.r = r ∧ t.timeState = if r.natAbs < 1000 then 1 else 3)) ∧
  (∀ s : State, (s.timeState = 3 → exec .slewEnd s = .next { s with clock := { s.clock with r := 0 } }) ∧
    (s.timeState ≠ 0 → exec .ppsOutRise s = .next { s with clock := { s.clock with out := true } }) ∧
    (s.timeState = 0 → exec .ppsOutRise s = .next s) ∧
    exec .ppsOutFall s = .next { s with clock := { s.clock with out := false } } ∧
    (s.rb HD_TIME_STAT HD_TIME_STAT_REFCLK_LOST = false → ∃ t, exec .refclkLost s = .next t ∧ SameCompute s t ∧ t.now = s.now ∧
      t.timeState = s.timeState ∧ t.rb HD_TIME_STAT HD_TIME_STAT_REFCLK_LOST = true ∧ t.clock = { s.clock with lostAt := s.tick }) ∧
    (s.rb HD_TIME_STAT HD_TIME_STAT_REFCLK_LOST = true → ∃ t, exec .refclkReturn s = .next t ∧ SameCompute s t ∧ t.now = s.now ∧
      t.timeState = s.timeState ∧ t.rb HD_TIME_STAT HD_TIME_STAT_REFCLK_LOST = false ∧ t.clock = s.clock))

/-- Register accesses keep to windows, sizes and access types; doorbells, watches, events and function resets do what they name -/
def Obligations.HostAccess : Prop :=
  (∀ (x : HostAcc) (val : BitVec 64) (s : State), s.inReset = false → s.shutdown = false → accInBar x = true →
    (accSized x = false → ∃ t u, exec (.registerWrite x val) s = .next t ∧ t = { s with regs := t.regs } ∧ SameRegsBut s t (· = HD_FN_STAT) ∧
      t.rf HD_FN_STAT HD_FN_STAT_MISALIGN = min (s.rf HD_FN_STAT HD_FN_STAT_MISALIGN + 1) HD_FN_STAT_MISALIGN.max ∧
      t.rf HD_FN_STAT HD_FN_STAT_LAST_FN = x.fn.val ∧ exec (.registerRead x) s = .next u ∧ u.readOut = 0 ∧ u.regs = t.regs) ∧
    (accSized x = true → x.bar2 = true → s.inWindow x.fn (accAddr x) = false → ∃ t u, exec (.registerWrite x val) s = .next t ∧
      SameCompute s t ∧ (∀ a, a < 0x910000 → isEvc a = false → t.rget a = s.rget a) ∧ t.rf HD_FN_STAT HD_FN_STAT_LAST_FN = x.fn.val ∧
      t.rf HD_FN_STAT HD_FN_STAT_VIOL = min (s.rf HD_FN_STAT HD_FN_STAT_VIOL + 1) HD_FN_STAT_VIOL.max ∧
      exec (.registerRead x) s = .next u ∧ u.readOut = 0) ∧
    (accSized x = true → x.size = 8 → (x.bar2 = true → s.inWindow x.fn (accAddr x) = true) → accAddr x ≠ HD_TIME_STAT →
      ¬ (0x910000 ≤ accAddr x ∧ accAddr x < 0x930000 ∧ accAddr x % 0x1000 = 0x110) →
      exec (.registerRead x) s = .next { s with readOut := s.rget (accAddr x) &&& ~~~(match regRow? (accAddr x) with | some r => r.bits .wo | none => 0) }) ∧
    (x.bar2 = true → x.size = 8 →
      (∀ i, 1 ≤ i → i ≤ 8 → x.fn.val = 0 → x.offset.toNat = HD_HANG i → ∃ t, exec (.registerWrite x val) s = .next t ∧
        t = { s with regs := t.regs } ∧ SameRegsBut s t (· = HD_HANG i) ∧ t.rf (HD_HANG i) HD_HANG_LIMIT_US = val.toNat % 2 ^ 32 ∧
        t.rf (HD_HANG i) HD_HANG_HANGS = s.rf (HD_HANG i) HD_HANG_HANGS) ∧
      (x.fn.val = 0 → x.offset.toNat = HD_PWR_CTL → ∃ t, exec (.registerWrite x val) s = .next t ∧ t = { s with regs := t.regs } ∧
        SameRegsBut s t (· = HD_PWR_CTL) ∧ t.rf HD_PWR_CTL HD_PWR_CTL_CAP_W = max 1500 (min 2500 (val.toNat % 2 ^ 12))) ∧
      (∀ c : CoreIx, x.offset.toNat = CD_HOLD_LIMIT c → (x.fn.val ≠ 0 → s.partOfPair (pairOf c) = x.fn.val) →
        (x.fn.val = 0 → s.confidential (s.partOfPair (pairOf c)) = false) → ∃ t, exec (.registerWrite x val) s = .next t ∧
        t = { s with regs := t.regs } ∧ SameRegsBut s t (· = CD_HOLD_LIMIT c) ∧ t.rf (CD_HOLD_LIMIT c) CD_HOLD_LIMIT_LIMIT = val.toNat % 2 ^ 32) ∧
      (∀ c : CoreIx, x.offset.toNat = CD_CORE_FLAGS c → (x.fn.val ≠ 0 → s.partOfPair (pairOf c) = x.fn.val) →
        (x.fn.val = 0 → s.confidential (s.partOfPair (pairOf c)) = false) → ∃ t, exec (.registerWrite x val) s = .next t ∧
        t = { s with regs := t.regs } ∧ SameRegsBut s t (· = CD_CORE_FLAGS c) ∧
        t.rget (CD_CORE_FLAGS c) = s.rget (CD_CORE_FLAGS c) &&& ~~~(val &&& 0x7F &&& ~~~Tab.get 0 s.hwSet (CD_CORE_FLAGS c))) ∧
      (∀ p : PairIx, x.offset.toNat = CD_GEAR_CTL p → x.fn.val = 0 → s.confidential (s.partOfPair p) = false → ∃ t,
        exec (.registerWrite x val) s = .next t ∧ t = { s with regs := t.regs } ∧ SameRegsBut s t (· = CD_GEAR_CTL p) ∧
        t.rf (CD_GEAR_CTL p) CD_GEAR_CTL_HOST_REQ = min 24 (val.toNat / 2 ^ 16 % 2 ^ 5) ∧
        t.rf (CD_GEAR_CTL p) CD_GEAR_CTL_CUR = s.rf (CD_GEAR_CTL p) CD_GEAR_CTL_CUR))) ∧
  (∀ (fn : FnIx) (s : State), s.inReset = false → (∀ e ∈ s.mbQueue, e.drop = false) →
    (s.rb (HD_MB_STAT fn) HD_MB_STAT_BUSY = true → ∃ t, exec (.doorbell fn) s = .next t ∧
      t = { s with regs := t.regs, hwSet := t.hwSet } ∧ SameRegsBut s t (· = HD_MB_STAT fn) ∧ t.rf (HD_MB_STAT fn) HD_MB_STAT_DB_IGNORED = 1) ∧
    (∀ h, s.rb (HD_MB_STAT fn) HD_MB_STAT_BUSY = false → h = hdrOf (s.reqBytes fn) →
      (h.bad = false → opcodes.contains h.opcode.toNat = true → ∃ t e, exec (.doorbell fn) s = .next t ∧ SameCompute s t ∧
        t.mbQueue = mbInsert e s.mbQueue ∧ e.src = fn.val ∧ e.tick = s.tick ∧ e.hdr = h ∧ e.payload = ((s.reqBytes fn).drop 32).take h.length.toNat ∧
        t.rb (HD_MB_STAT fn) HD_MB_STAT_BUSY = true) ∧
      (h.bad = true ∨ opcodes.contains h.opcode.toNat = false → ∃ t, exec (.doorbell fn) s = .next t ∧ t.mbQueue = s.mbQueue ∧ SameCompute s t ∧
        Answered t ⟨⟨fn.val, by omega⟩, h, []⟩ stBadCommand []))) ∧
  (∀ (fn : FnIx) (v : Fin 246) (val : BitVec 64) (s : State), s.inReset = false → s.shutdown = false → v.val < watchCount fn →
    ∃ t, exec (.hdKwatchWrite fn v val) s = .next t ∧ t = { s with regs := t.regs } ∧ SameRegsBut s t (· = HD_KWATCH fn v) ∧
      t.rf (HD_KWATCH fn v) HD_KWATCH_CLUSTER = HD_KWATCH_CLUSTER.get val ∧ t.rf (HD_KWATCH fn v) HD_KWATCH_KNOT = HD_KWATCH_KNOT.get val ∧
      t.rf (HD_KWATCH fn v) HD_KWATCH_THRESH = HD_KWATCH_THRESH.get val ∧
      (t.rb (HD_KWATCH fn v) HD_KWATCH_ARM = true ↔ HD_KWATCH_ARM.get val = 1 ∧ s.watchOk fn (HD_KWATCH_CLUSTER.get val) = true) ∧
      (t.rb (HD_KWATCH fn v) HD_KWATCH_CFGERR = true ↔ HD_KWATCH_ARM.get val = 1 ∧ s.watchOk fn (HD_KWATCH_CLUSTER.get val) = false)) ∧
  (∀ (fn : FnIx) (v : Fin 246) (s : State), s.rb (HD_KWATCH fn v) HD_KWATCH_ARM = true →
    (s.rf (HD_KWATCH fn v) HD_KWATCH_THRESH ≤ s.knotCount (s.rf (HD_KWATCH fn v) HD_KWATCH_CLUSTER) (s.rf (HD_KWATCH fn v) HD_KWATCH_KNOT) →
      ∃ t, exec (.knotWatchFire fn v) s = .next t ∧ t = { s with regs := t.regs, hwSet := t.hwSet, msi := t.msi } ∧ t.msi = s.msi ++ [(fn.val, 2 + v.val)] ∧
        t.rb (HD_KWATCH fn v) HD_KWATCH_FIRED = true ∧ t.rb (HD_KWATCH fn v) HD_KWATCH_ARM = false ∧ SameRegsBut s t (· = HD_KWATCH fn v)) ∧
    (s.knotCount (s.rf (HD_KWATCH fn v) HD_KWATCH_CLUSTER) (s.rf (HD_KWATCH fn v) HD_KWATCH_KNOT) < s.rf (HD_KWATCH fn v) HD_KWATCH_THRESH →
      exec (.knotWatchFire fn v) s = .next s)) ∧
  (∀ (fn : FnIx) (s : State),
    (s.evPend.getLsbD fn = true → ∃ t, exec (.eventIrq fn) s = .next t ∧ t.msi = s.msi ++ [(fn.val, 1)] ∧ t.evPend.getLsbD fn = false ∧
      t = { s with msi := t.msi, evPend := t.evPend }) ∧
    (∃ t, exec (.functionLevelReset fn) s = .next t ∧ SameCompute s t ∧ t.parts = s.parts ∧
      t.spdm = (if fn.val = 0 then s.spdm.filter (fun e => e.1) else s.spdm) ∧
      ∀ a, t.rget a = if 0x1000000 * (fn.val + 1) ≤ a ∧ a < 0x1000000 * (fn.val + 1) + 0x10000 then regReset a else s.rget a) ∧
    (∃ t, exec .perstN s = .next t ∧ SameCompute s t ∧ t.parts = s.parts ∧ t.ide = false ∧ t.spdm = [] ∧ t.evPend = 0 ∧
      t.tethers = s.tethers ∧ t.ports = s.ports ∧ ∀ a, a < 0x1000000 → t.rget a = s.rget a))

/-- Tethers are opened under the policy, carry requests, responses and events, and end with TETHER_LOST -/
def Obligations.TetherTraffic : Prop :=
  (∀ (m : Mail) (s : State) (n : Nat), Admits s m 0xB0 .pf0 false 2 → m.payload = leBytes 2 n → n < 2 ^ 14 → n ≠ s.ownNode →
    (∀ x ∈ s.tethers, x.node ≠ n) → s.tethers.length < 127 →
    (∃ t i, exec (.tetherAdd m (some true)) s = .next t ∧ Answered t m stOK (leBytes 1 i) ∧ SameCompute s t ∧ 1 ≤ i ∧ i ≤ 127 ∧
      (∀ x ∈ s.tethers, x.index ≠ i) ∧ t.tethers = s.tethers ++ [{ node := n, index := i, live := true }] ∧
      t.ctlOut = s.ctlOut ++ [(n, 0x5000, tetherMsg 1)]) ∧
    (∀ st a, (a = some false ∧ st = stAccessDenied) ∨ (a = none ∧ st = stTimeout) → ∃ t, exec (.tetherAdd m a) s = .next t ∧
      Answered t m st [] ∧ SameCompute s t ∧ t.tethers = s.tethers ∧ t.ctlOut = s.ctlOut ++ [(n, 0x5000, tetherMsg 1)])) ∧
  (∀ (m : Mail) (s : State) (n : Nat), Admits s m 0xB1 .pf0 false 2 → m.payload = leBytes 2 n → n < 2 ^ 14 →
    ((∃ x ∈ s.tethers, x.node = n) → ∃ t, exec (.tetherRemove m) s = .next t ∧ Answered t m stOK [] ∧ SameCompute s t ∧
      t.tethers = (s.tethers.filter fun x => x.node ≠ n) ∧ t.forwarded = (s.forwarded.filter fun f => f.1 ≠ n) ∧
      t.ctlOut = s.ctlOut ++ [(n, 0x5000, tetherMsg 2)]) ∧
    ((∀ x ∈ s.tethers, x.node ≠ n) → ∃ t, exec (.tetherRemove m) s = .next t ∧ Answered t m stBadArgument [] ∧ OnlyMailbox s t m)) ∧
  (∀ (m : Mail) (s : State) (k n : Nat), Admits s m 0xB2 .pf0 false 3 → m.payload = leBytes 1 k ++ leBytes 2 n → k ≤ 2 → n < 2 ^ 14 →
    ∃ t, exec (.tetherPolicySet m) s = .next t ∧ Answered t m stOK [] ∧ SameCompute s t ∧ t.tetherPolicy = (k, n)) ∧
  (∀ (m : Mail) (s : State), Admits s m 0xB3 .pf0 false 0 → ∃ t, exec (.tetherList m) s = .next t ∧ Answered t m stOK s.tetherBytes ∧
    OnlyMailbox s t m) ∧
  (∀ (src : BitVec 14) (s : State) (h : MbHdr), s.tetherLead = some src.toNat → s.awake = true → h = hdrOf (s.bytes ctlBase 4096) →
    (∀ e ∈ s.mbQueue, e.src ≠ 10) → (∀ e ∈ s.late, e.2.1.src ≠ 10) → h.bad = false → opcodes.contains h.opcode.toNat = true →
    ∃ t e, exec (.tetherDoorbell src) s = .next t ∧ SameCompute s t ∧ t.mbQueue = mbInsert e s.mbQueue ∧ e.src = 10 ∧ e.tick = s.tick ∧ e.hdr = h ∧
      e.payload = ((s.bytes ctlBase 4096).drop 32).take h.length.toNat) ∧
  (∀ (src : BitVec 14) (s : State) (h : MbHdr), s.forwarded.find? (fun f => f.1 = src.toNat) = some (src.toNat, h, false) →
    ∃ t, exec (.returnDoorbell src) s = .next t ∧ SameCompute s t ∧ t.forwarded = s.forwarded.erase (src.toNat, h, false) ∧
      t.rf (HD_MB_STAT 0) HD_MB_STAT_DONE = 1 ∧ t.rf (HD_MB_STAT 0) HD_MB_STAT_STATUS = (s.byte (ctlBase + 0x2002)).toNat ∧
      t.respOf 0 = fitBytes 4096 ((s.bytes (ctlBase + 0x2000) 4096).take (32 + leNat (s.bytes (ctlBase + 0x2008) 4)))) ∧
  (∀ (src : BitVec 14) (r : FaultRec) (s : State) (tl : Nat), (∃ x ∈ s.tethers, x.node = src.toNat) →
    tl = s.rf (HD_EVQ_TAIL 0) HD_EVQ_TAIL_TAIL →
    ((tl + 1) % 256 ≠ s.rf (HD_EVQ_HEAD 0) HD_EVQ_HEAD_HEAD → ∃ t, exec (.tetherEvent src r) s = .next t ∧ SameCompute s t ∧
      t.rf (HD_EVQ_TAIL 0) HD_EVQ_TAIL_TAIL = (tl + 1) % 256 ∧
      (List.range 8).flatMap (fun i => leBytes 8 (t.rget (evqEntry 0 tl + 8 * i)).toNat) = recBytes { r with flags := r.flags ||| 2 }) ∧
    ((tl + 1) % 256 = s.rf (HD_EVQ_HEAD 0) HD_EVQ_HEAD_HEAD → ∃ t, exec (.tetherEvent src r) s = .next t ∧
      t = { s with regs := t.regs, hwSet := t.hwSet } ∧ SameRegsBut s t (· = HD_EVQ_TAIL 0) ∧
      t.rf (HD_EVQ_TAIL 0) HD_EVQ_TAIL_LOST = min (s.rf (HD_EVQ_TAIL 0) HD_EVQ_TAIL_LOST + 1) HD_EVQ_TAIL_LOST.max)) ∧
  (∀ (src : BitVec 14) (s : State), s.awake = true → s.ready = true → (∀ x ∈ s.tethers, x.node ≠ src.toNat) →
    (s.policyTakes src.toNat = true → s.tetherLead = none ∨ s.tetherLead = some src.toNat → ∃ t, exec (.openMsg src) s = .next t ∧
      SameCompute s t ∧ t.tetherLead = some src.toNat ∧ t.ctlOut = s.ctlOut ++ [(src.toNat, 0x5000, tetherMsg 1)]) ∧
    (s.policyTakes src.toNat = false ∨ (s.tetherLead ≠ none ∧ s.tetherLead ≠ some src.toNat) → ∃ t, exec (.openMsg src) s = .next t ∧
      SameCompute s t ∧ t.tetherLead = s.tetherLead ∧ t.ctlOut = s.ctlOut ++ [(src.toNat, 0x5000, tetherMsg 2)])) ∧
  (∀ (src : BitVec 14) (s : State), s.tetherLead = some src.toNat →
    (∃ t, exec (.closeMsg src) s = .next t ∧ SameCompute s t ∧ t.tetherLead = none ∧ t.mbQueue.all (fun e => e.src ≠ 10) = true) ∧
    (∃ t, exec (.heartbeat src) s = .next t ∧ t = { s with regs := t.regs, hwSet := t.hwSet } ∧ SameRegsBut s t fun _ => False) ∧
    (∃ t, exec (.tetherLost src) s = .next t ∧ SameCompute s t ∧ t.tetherLead = none)) ∧
  (∀ s : State, s.awake = true → ∃ t, exec .tetherHeartbeatSend s = .next t ∧ SameCompute s t ∧
    t.ctlOut = s.ctlOut ++ (((s.tethers.filter fun x => x.live).map fun x => x.node) ++ s.tetherLead.toList).map
      (fun n => (n, 0x5000, tetherMsg 3))) ∧
  (∀ (n : BitVec 14) (s : State) (x : Tether), x ∈ s.tethers → x.node = n.toNat →
    (x.live = true → ∃ t, exec (.tetherLost n) s = .next t ∧ SameCompute s t ∧ (∀ y ∈ t.tethers, y.node = n.toNat → y.live = false) ∧
      t.forwarded = s.forwarded.filter fun f => f.1 ≠ n.toNat) ∧
    (x.live = false → s.awake = true → ∃ t, exec (.tetherReopen n) s = .next t ∧ SameCompute s t ∧
      t.ctlOut = s.ctlOut ++ [(n.toNat, 0x5000, tetherMsg 1)]))

/-- Each stage of the bring-up does its work, ends with the result its failures give, and lets the next stage run -/
def Obligations.BringupStages : Prop :=
  ∀ s : State, s.stages.length = 11 →
  (s.stageOn 0 = true → ∀ r : BootRes,
    (∀ b, (s.bootOk r.bad s.fw.next = true ∧ b = s.fw.next) ∨
        (s.bootOk r.bad s.fw.next = false ∧ s.bootOk r.bad (!s.fw.next) = true ∧ b = !s.fw.next) →
      ∃ t, exec (.s0Newt r) s = .next t ∧ Ends t 0 2 0 ∧ t.fw.active = b ∧ t.sepochFlash = (s.sepochFlash + 1) % 65536 ∧
        t.rf LM_MS_NODE LM_MS_NODE_SEPOCH = t.sepochFlash ∧ t.rf HD_BRINGUP HD_BRINGUP_STAGE = 1 ∧ SameCompute s t) ∧
    (s.bootOk r.bad s.fw.next = false → s.bootOk r.bad (!s.fw.next) = false → ∃ t, exec (.s0Newt r) s = .next t ∧
      (t.stages.getD 0 StageRec.none).result = 4 ∧ (t.stages.getD 0 StageRec.none).reason = 2 ∧ t.outcomeOf = 4 ∧ SameCompute s t)) ∧
  (s.stageOn 1 = true → ∀ rate width ok,
    (s.lc.state ≠ 4 ∨ s.lc.change ≠ none → ∃ t, exec (.s1Host rate width ok) s = .next t ∧ Ends t 1 (if ok then 2 else 3) (if ok then 0 else 3) ∧
      (t.stages.getD 1 StageRec.none).a = rate ∧ (t.stages.getD 1 StageRec.none).b = width ∧ SameCompute s t) ∧
    (s.lc.state = 4 → s.lc.change = none → ∃ t, exec (.s1Host rate width ok) s = .next t ∧ t.outcomeOf = 4 ∧ SameCompute s t)) ∧
  (s.stageOn 2 = true → ∀ failed : List ClusterIx,
    (∃ t, exec (.s2Clocks false failed) s = .next t ∧ (t.stages.getD 2 StageRec.none).result = 4 ∧
      (t.stages.getD 2 StageRec.none).reason = 4 ∧ t.outcomeOf = 4 ∧ SameCompute s t) ∧
    (∃ t, exec (.s2Clocks true failed) s = .next t ∧ SameCompute s t ∧
      (∀ q < 8, t.excluded q = (s.excluded q || failed.any fun c => c.val / 32 == q)) ∧
      (if ∃ c ∈ failed, s.excluded (c.val / 32) = false then Ends t 2 3 5 else Ends t 2 2 0))) ∧
  (s.stageOn 3 = true → ∀ failed : BitVec 16, ∃ t, exec (.s3Dies failed) s = .next t ∧ SameCompute s t ∧
    (∀ q < 8, t.excluded q = (s.excluded q || failed.getLsbD (2 * q) || failed.getLsbD (2 * q + 1)) ∧
      (t.excluded q = false → t.pairPowered q = true) ∧ (s.excluded q = false → t.excluded q = true → t.pairPowered q = false)) ∧
    (if ∃ d ∈ List.range 16, failed.getLsbD d = true ∧ s.excluded (d / 2) = false then Ends t 3 3 6 else Ends t 3 2 0)) ∧
  (s.stageOn 4 = true → (∀ k < 8, s.rf (BM_STAT k) BM_STAT_STATE = 0) → ∀ (ids : List StackIdent) (good : Nat → Prop),
    (∀ k, good k ↔ ∃ i, ids[k]? = some i ∧ stackOk i = true) →
    ∃ t, exec (.s4Bulk ids) s = .next t ∧ SameCompute s t ∧
      (∀ k < 8, ∀ i, ids[k]? = some i → stackOk i = true → (t.ctl k).pcMap = (stackMap i).getD []) ∧
      (s.fillDue = true → (∃ k < 8, good k) → t.nextStage = 4 ∧
        ∀ k < 8, (good k → t.rf (BM_STAT k) BM_STAT_STATE = 1) ∧ (¬ good k → t.rf (BM_STAT k) BM_STAT_STATE = 0)) ∧
      (s.fillDue = true → (∀ k < 8, ¬ good k) → s.lc.state ≠ 4 → Ends t 4 3 7) ∧
      (s.fillDue = false → s.lc.state = 4 → t.outcomeOf = 4) ∧
      (s.fillDue = false → s.lc.state ≠ 4 → ((∀ k < 8, good k) → Ends t 4 2 0) ∧ ((∃ k < 8, ¬ good k) → Ends t 4 3 7) ∧
        ∀ k < 8, (good k → t.rf (BM_STAT k) BM_STAT_STATE = if Tab.get 0 s.erasedDie k = 0 then 2 else 3) ∧
          (¬ good k → t.rf (BM_STAT k) BM_STAT_STATE = 0))) ∧
  (s.stageOn 5 = true → ∀ acks : List Bool,
    (s.rf LM_CENSUS LM_CENSUS_STATE = 0 → s.rb LM_BOBBIN LM_BOBBIN_LASER_EN = false →
      (s.laserUp = 0 → ∃ t, exec (.s5Light acks) s = .next t ∧ t = { s with regs := t.regs, laserUp := 1 } ∧
        SameRegsBut s t (· = LM_BOBBIN) ∧ t.rb LM_BOBBIN LM_BOBBIN_LASER_EN = true) ∧
      (s.laserUp ≠ 0 → exec (.s5Light acks) s = .next s)) ∧
    (s.rf LM_CENSUS LM_CENSUS_STATE = 0 → s.rb LM_BOBBIN LM_BOBBIN_LASER_EN = true → s.rb LM_BOBBIN LM_BOBBIN_BOBBIN_OK = true →
      (true ∈ acks.take 4 → ∃ t, exec (.s5Light acks) s = .next t ∧ SameCompute s t ∧ t.rf LM_CENSUS LM_CENSUS_STATE = 1 ∧
        t.bobbin.marker = 1) ∧
      (true ∉ acks.take 4 → ∃ t, exec (.s5Light acks) s = .next t ∧ t = { s with regs := t.regs, hwSet := t.hwSet } ∧
        SameRegsBut s t (· = LM_BOBBIN) ∧ t.rb LM_BOBBIN LM_BOBBIN_I2C_ERR = true)) ∧
    (s.rf LM_CENSUS LM_CENSUS_STATE = 2 → ∃ t, exec (.s5Light acks) s = .next t ∧ SameCompute s t ∧
      (if ∀ i ∈ List.range 16, s.rb (LM_LASER_IN i) LM_LASER_IN_DARK = true then Ends t 5 4 8
       else if s.rf LM_CENSUS LM_CENSUS_RINGS_FAILED ≠ 0 then Ends t 5 3 9 else Ends t 5 2 0))) ∧
  (s.stageOn 6 = true → (∀ meas, s.badStand meas = [] → ∃ t, exec (.s6Weave [] meas) s = .next t ∧ SameCompute s t ∧
      (∀ q < 8, t.excluded q = (s.excluded q || s.isDown q 8 || s.isDown 8 q)) ∧
      (if (∃ q ∈ List.range 8, s.excluded q = false ∧ (s.isDown q 8 = true ∨ s.isDown 8 q = true)) ∨
          ∃ i ∈ List.range 32, s.rf (LM_WARP_STAT i) LM_WARP_STAT_MASKED ≠ 0 then Ends t 6 3 10 else Ends t 6 2 0)) ∧
    (∀ meas, s.badStand meas ≠ [] → ∃ t w, exec (.s6Weave [] meas) s = .next t ∧ Ends t 6 3 w ∧ (w = 10 ∨ w = 11)) ∧
    ∀ lanes meas, ∃ t r w, exec (.s6Weave lanes meas) s = .next t ∧ Ends t 6 r w ∧ (r = 2 ∨ r = 3)) ∧
  (s.stageOn 7 = true → ∀ (bc : BitVec 8) (cs : List CoreIx), ∃ t, exec (.s7Cores bc cs) s = .next t ∧ SameCompute s t ∧
    (∀ q < 8, t.excluded q = (s.excluded q || bc.getLsbD q || cs.any fun c => pairOf c == q) ∧
      (s.excluded q = false → t.rf (CD_GEAR_CTL q) CD_GEAR_CTL_CUR =
        max (max (s.rf (CD_GEAR_CTL q) CD_GEAR_CTL_HOST_REQ) (s.rf (CD_GEAR_CTL q) CD_GEAR_CTL_CAP_REQ))
          (max (s.rf (CD_GEAR_CTL q) CD_GEAR_CTL_THERM_REQ) (s.rf (CD_GEAR_CTL q) CD_GEAR_CTL_MON_REQ)))) ∧
    (if ∃ q ∈ List.range 8, s.excluded q = false ∧ (bc.getLsbD q = true ∨ ∃ c ∈ cs, pairOf c = q) then
      Ends t 7 3 (if ∃ q ∈ List.range 8, s.excluded q = false ∧ bc.getLsbD q = true then 12 else 13) else Ends t 7 2 0) ∧
    (s.upCfg ≠ none → t.rf HD_BRINGUP HD_BRINGUP_STAGE = 8 ∧ t.upCfg = s.upCfg) ∧
    (s.upCfg = none → s.storedCfg = none → t.rb HD_BRINGUP HD_BRINGUP_WAITING = true) ∧
    (∀ c, s.upCfg = none → s.storedCfg = some c → t.rb HD_BRINGUP HD_BRINGUP_WAITING = !cfFlag c 1 ∧ (cfFlag c 1 = true → t.upCfg = some c))) ∧
  (s.stageOn 8 = true → ∀ c, s.upCfg = some c →
    (configOk c = true → ∃ t, exec .s8Config s = .next t ∧ Ends t 8 2 0 ∧ t.runCfg = some c ∧ t.ownNode = cfNode c ∧
      t.rf LM_MS_TIME LM_MS_TIME_TIMEOUT_US = cfT c ∧ t.rf LM_MS_TIME LM_MS_TIME_HMAX = cfHmax c ∧ t.rb LM_CAL_CTL LM_CAL_CTL_LOCK = true ∧
      t.rf LM_CAL_CTL LM_CAL_CTL_MODE = (if s.rb LM_CAL_CTL LM_CAL_CTL_LOCK then s.rf LM_CAL_CTL LM_CAL_CTL_MODE else cfCalMode c) ∧
      ∀ l < 48, t.rf (LM_RT_LINK l) LM_RT_LINK_EXP_NODE = rtExp (cfRoute c) l) ∧
    (configOk c = false → ∃ t, exec .s8Config s = .next t ∧ SameCompute s t ∧ t.nextStage = 10 ∧
      (t.stages.getD 8 StageRec.none).result = 4 ∧ (t.stages.getD 8 StageRec.none).reason = 14 ∧ (t.stages.getD 9 StageRec.none).result = 5)) ∧
  (s.stageOn 9 = true → ∀ c w, s.runCfg = some c →
    ((∀ l ∈ cfLinks c, s.rb (LM_RT_LINK l) LM_RT_LINK_LIVE = true) → ∃ t, exec (.s9Ports w) s = .next t ∧ Ends t 9 2 0 ∧ SameCompute s t) ∧
    ((∃ l ∈ cfLinks c, s.rb (LM_RT_LINK l) LM_RT_LINK_LIVE = false) → exec (.s9Ports false) s = .next s ∧
      ∃ t, exec (.s9Ports true) s = .next t ∧ SameCompute s t ∧
        (if (∀ l ∈ List.range 48, (cfRequired c).testBit l = true → l ∈ cfLinks c ∧ s.rb (LM_RT_LINK l) LM_RT_LINK_LIVE = true) ∧
            cfMinLinks c ≤ ((cfLinks c).filter fun l => s.rb (LM_RT_LINK l) LM_RT_LINK_LIVE).length then Ends t 9 3 0 else Ends t 9 4 15))) ∧
  (s.stageOn 10 = true → ∃ t, exec .s10Ready s = .next t ∧ t.nextStage = 11 ∧ (t.stages.getD 10 StageRec.none).result = 2 ∧
    (∀ e ∈ t.parts, ∀ g ∈ e.2.groupIx, s.excluded g = false) ∧
    t.outcomeOf = if (s.stages.getD 0 StageRec.none).result = 4 ∨ (s.stages.getD 2 StageRec.none).result = 4 ∨
        (s.stages.getD 5 StageRec.none).result = 4 ∨ ∀ q ∈ List.range 8, s.excluded q = true then 4
      else if (s.stages.getD 8 StageRec.none).result = 4 ∨ (s.stages.getD 9 StageRec.none).result = 4 then 3
      else if ∃ r ∈ s.stages, r.result = 3 then 2 else 1) ∧
  (∀ n, n ≤ 8 → s.nextStage = n → s.stageOn n = true → ∃ t, exec .timeLimit s = .next t ∧ (t.stages.getD n StageRec.none).reason = 1 ∧
    ((t.stages.getD n StageRec.none).result = 4 ∨ (n ≠ 0 ∧ n ≠ 5 ∧ n ≠ 8 ∧ (t.stages.getD n StageRec.none).result = 3)))

/-- WARM keeps partitions and bulk memory, COLD keeps neither, POWER-ON keeps flash; hangs, dumps and the log do what they name -/
def Obligations.ResetLevels : Prop :=
  (∀ s : State, s.awake = true → Canonical s →
    (∃ t, exec .warmReset s = .next t ∧ (∀ n, t.part? n = (s.part? n).map Part.noDraft) ∧
      (∀ n p, s.part? n = some p → t.gen n = (s.gen n + 1) % 4096) ∧ (∀ c, t.core c = Core.reset) ∧
      (∀ a, t.byte a = if 2 ^ 48 ≤ a ∧ a < 4 * 2 ^ 48 then 0 else s.byte a) ∧ t.mbQueue = [] ∧ t.tags = [] ∧ t.streams = [] ∧
      (∀ p, t.capReq p = 0) ∧ t.rb HD_PWR_STAT HD_PWR_STAT_BRAKE = s.brake ∧
      t.rf HD_BRINGUP HD_BRINGUP_KIND = 2 ∧ t.nextStage = 0 ∧ t.rf HD_RESET_STAT HD_RESET_STAT_LAST = 2 ∧
      t.rf HD_RESET_STAT HD_RESET_STAT_CAUSE = s.dueCause 2 % 8) ∧
    (∃ t, exec .coldReset s = .next t ∧ t.parts = [] ∧ (∀ n, t.gen n = 0) ∧ (∀ c, t.core c = Core.reset) ∧ t.filled = false ∧
      t.rb LM_BOBBIN LM_BOBBIN_LASER_EN = false ∧ t.rf HD_BRINGUP HD_BRINGUP_KIND = 1 ∧ t.nextStage = 0 ∧
      t.rf HD_RESET_STAT HD_RESET_STAT_LAST = 1 ∧ t.rf HD_RESET_STAT HD_RESET_STAT_CAUSE = s.dueCause 3 % 8)) ∧
  (∀ s : State, s.awake = false → exec .warmReset s = .next s ∧ exec .coldReset s = .next s) ∧
  (∀ s : State, s.inReset = false → ∃ t, exec .watchdog s = .next t ∧ (∀ n, t.part? n = (s.part? n).map Part.noDraft) ∧
    t.rf HD_BRINGUP HD_BRINGUP_KIND = 2 ∧ t.rf HD_RESET_STAT HD_RESET_STAT_CAUSE = 3 ∧
    t.rf HD_RESET_STAT HD_RESET_STAT_WATCHDOGS = min (s.rf HD_RESET_STAT HD_RESET_STAT_WATCHDOGS + 1) HD_RESET_STAT_WATCHDOGS.max) ∧
  (∀ s : State, ∃ t, exec .powerOn s = .next t ∧ t.parts = [] ∧ t.mem = [] ∧ t.cores = [] ∧ t.inReset = false ∧ t.lc = s.lc ∧ t.fw = s.fw ∧
    t.storedCfg = s.storedCfg ∧ t.log = s.log ∧ t.spill = s.spill ∧ t.pending = s.pending ∧
    t.rf HD_BRINGUP HD_BRINGUP_KIND = 0 ∧ t.nextStage = 0 ∧ t.rf HD_RESET_STAT HD_RESET_STAT_LAST = 0) ∧
  (∀ (i : Fin 13) (s : State), (s.powerOff = true → exec (.powerGoodFall i) s = .next s) ∧
    (s.powerOff = false → ∃ t, exec (.powerGoodFall i) s = .next t ∧ t.powerOff = true ∧ t.inReset = true ∧ t.parts = [] ∧ t.mem = [] ∧
      t.cores = [] ∧ t.rget HD_PWR_DOM0 = 0 ∧ t.rget HD_PWR_DOM1 = s.rget HD_PWR_DOM1 &&& ~~~0xEFFFFFFF)) ∧
  (∀ (ns : Nat) (b : Bool) (s : State), s.inReset = false →
    (ns < 900 ∨ (ns < 1000 ∧ b = false) → ∃ t, exec (.hardResetNFall ns b) s = .next t ∧ t = { s with regs := t.regs } ∧
      SameRegsBut s t (· = HD_RESET_STAT) ∧
      t.rf HD_RESET_STAT HD_RESET_STAT_GLITCHES = min (s.rf HD_RESET_STAT HD_RESET_STAT_GLITCHES + 1) HD_RESET_STAT_GLITCHES.max) ∧
    (1000 ≤ ns ∨ (900 ≤ ns ∧ b = true) → ∃ t, exec (.hardResetNFall ns b) s = .next t ∧ t.inReset = true ∧ t.parts = [] ∧
      (∀ c, t.core c = Core.reset) ∧ t.rf HD_RESET_STAT HD_RESET_STAT_LAST = 1 ∧ t.rf HD_RESET_STAT HD_RESET_STAT_CAUSE = 1)) ∧
  (∀ s : State, s.inReset = true → s.powerOff = false →
    (s.rb HD_RESET_STAT HD_RESET_STAT_HOLDING = false → ∃ t, exec .hardResetNHeld s = .next t ∧ SameCompute s t ∧
      t.rb HD_RESET_STAT HD_RESET_STAT_HOLDING = true ∧ t.inReset = true) ∧
    (∃ t, exec .hardResetNRelease s = .next t ∧ SameCompute s t ∧ t.inReset = false ∧ t.nextStage = 0 ∧
      t.rf HD_BRINGUP HD_BRINGUP_KIND = 1 ∧ t.rb HD_RESET_STAT HD_RESET_STAT_HOLDING = false ∧
      t.rb HD_RESET_STAT HD_RESET_STAT_HELD = s.rb HD_RESET_STAT HD_RESET_STAT_HOLDING)) ∧
  (∀ (n : PartNo) (s : State) (p : Part), s.part? n = some p → Canonical s →
    (p.state = .running → s.rf (HD_HANG n) HD_HANG_LIMIT_US ≠ 0 → ∃ t q, exec (.hang n) s = .next t ∧ t.part? n = some q ∧
      q.state = .faulted ∧ q.dump ≠ none ∧ (∀ c : CoreIx, p.hasPair (pairOf c) = true → (s.core c).bundles ≠ 0 → t.seqState c ≠ 1) ∧
      t.rf (HD_HANG n) HD_HANG_HANGS = min (s.rf (HD_HANG n) HD_HANG_HANGS + 1) HD_HANG_HANGS.max) ∧
    (p.state ≠ .running ∨ s.rf (HD_HANG n) HD_HANG_LIMIT_US = 0 → exec (.hang n) s = .next s) ∧
    (p.dump = none → exec (.dumpWrite n) s = .next s) ∧
    (∀ r c, p.dump = some (r, c) → ∃ t, exec (.dumpWrite n) s = .next t ∧ t.part? n = some { p with dump := none } ∧ t.cores = s.cores ∧
      SameBytesBut s t (dumpAddr n 0) (dumpAddr n 0x42000) ∧ t.bytes (dumpAddr n 0) 4 = leBytes 4 0x50444B4E ∧
      t.bytes (dumpAddr n 64) 64 = recBytes r)) ∧
  (∀ (val : BitVec 64) (s : State), s.awake = true → s.lc.state ≠ 4 → ∃ t, exec (.hdDumpSelWrite val) s = .next t ∧
    t = { s with regs := t.regs } ∧ t.rf HD_DUMP_SEL HD_DUMP_SEL_PART = HD_DUMP_SEL_PART.get val ∧
    (List.range 64).flatMap (fun i => leBytes 8 (t.rget (HD_DUMP_DATA i)).toNat) =
      if 1 ≤ HD_DUMP_SEL_PART.get val ∧ HD_DUMP_SEL_PART.get val ≤ 8 then
        s.bytes (dumpAddr (HD_DUMP_SEL_PART.get val) (512 * HD_DUMP_SEL_WIN.get val)) 512
      else List.replicate 512 0) ∧
  (∀ (s : State) (ws : List (Nat × Window)) (k : Nat) (w : Window), s.windows = ws ++ [(k, w)] →
    (w.last = none → exec .summaryWindowEnd s = .next { s with windows := ws }) ∧
    (∀ r, w.last = some r → ∃ t, exec .summaryWindowEnd s = .next t ∧ SameCompute s t ∧
      t.windows = (k, { begin_ := s.tick, count := 0, last := none }) :: ws ∧
      t.recBuf = s.recBuf ++ [{ r with flags := r.flags ||| 8, suppressed := BitVec.ofNat 32 w.count, seq := BitVec.ofNat 32 s.recSeq }])) ∧
  (∀ (s : State) (r : FaultRec) (rest : List FaultRec), s.recBuf = r :: rest → ∃ t, exec .logFlashWrite s = .next t ∧
    t = { s with recBuf := rest, log := t.log } ∧ t.log = (s.log ++ [r]).drop (s.log.length + 1 - 65536))

/-- CONTEXT, DIE, WARM and COLD keep fabric time, its state, the pending step and PPS_OUT; POWER-ON sets UNSET at count 0 -/
def Obligations.ResetKeepsTime : Prop :=
  (∀ (i : Instr) (s : State), Canonical s →
    (∃ m f, i = .partitionReset m f) ∨ i = .warmReset ∨ i = .coldReset ∨ i = .watchdog ∨ (∃ ns b, i = .hardResetNFall ns b) →
    ∃ t, exec i s = .next t ∧ t.now = s.now ∧ t.rget HD_TIME_STAT = s.rget HD_TIME_STAT ∧ t.clock.step = s.clock.step ∧
      t.clock.out = s.clock.out) ∧
  (∀ s : State, ∃ t, exec .powerOn s = .next t ∧ t.timeState = 0 ∧ t.now = 0)

/-- SPDM requests are answered with their sessions kept, an IDE failure ends the stream, and the SMBus reads, writes and commands what R404 lets it -/
def Obligations.SecurityMessages : Prop :=
  (∀ (x : SpdmReq) (s : State) (ans : List Byte → List Byte → State), s.inReset = false →
    (ans = fun b e => { s with spdmOut := s.spdmOut ++ [(x.smb, if x.ok then Config.crypto 18 (b ++ x.body ++ e) else Config.crypto 19 x.body)] }) →
    exec (.getVersion x) s = .next (ans [0] []) ∧ exec (.getCapabilities x) s = .next (ans [1] []) ∧
    exec (.negotiateAlgorithms x) s = .next (ans [2] []) ∧ exec (.getDigests x) s = .next (ans [3] s.aliasKey) ∧
    exec (.getCertificate x) s = .next (ans [4] s.aliasKey) ∧ exec (.challenge x) s = .next (ans [5] s.aliasKey) ∧
    exec (.getMeasurements x) s = .next (ans [6] (s.measurements ++ s.aliasSign (sha384 s.measurements))) ∧
    exec (.chunkSend x) s = .next (ans [12] []) ∧ exec (.chunkGet x) s = .next (ans [13] [])) ∧
  (∀ (x : SpdmReq) (s : State) (err : State) (ok : Byte → State → State), s.inReset = false →
    err = { s with spdmOut := s.spdmOut ++ [(x.smb, Config.crypto 19 x.body)] } →
    (ok = fun k u => { u with spdmOut := u.spdmOut ++ [(x.smb, Config.crypto 18 ([k] ++ x.body))] }) →
    (x.ok = true → (x.smb, 0) ∉ s.spdm → exec (.keyExchange x) s = .next (ok 7 { s with spdm := s.spdm ++ [(x.smb, 0)] })) ∧
    (x.ok = true → (x.smb, 0) ∈ s.spdm → (x.smb, 1) ∉ s.spdm →
      exec (.keyExchange x) s = .next (ok 7 { s with spdm := s.spdm ++ [(x.smb, 1)] })) ∧
    (x.ok = false ∨ ((x.smb, 0) ∈ s.spdm ∧ (x.smb, 1) ∈ s.spdm) → exec (.keyExchange x) s = .next err) ∧
    (x.ok = true → (∃ e ∈ s.spdm, e.1 = x.smb) → exec (.finish x) s = .next (ok 8 s) ∧ exec (.spdmHeartbeat x) s = .next (ok 9 s) ∧
      exec (.keyUpdate x) s = .next (ok 10 s)) ∧
    (x.ok = false ∨ (∀ e ∈ s.spdm, e.1 ≠ x.smb) → exec (.finish x) s = .next err ∧ exec (.spdmHeartbeat x) s = .next err ∧
      exec (.keyUpdate x) s = .next err ∧ exec (.endSession x) s = .next err) ∧
    (∀ i, x.ok = true → i = leNat (Config.crypto 20 x.body) % 2 → (x.smb, i) ∈ s.spdm →
      exec (.endSession x) s = .next (ok 11 { s with spdm := s.spdm.filter fun y => y ≠ (x.smb, i) })) ∧
    (∀ b : Option Bool, (x.ok = true → x.smb = false → (∃ e ∈ s.spdm, e.1 = false) →
        exec (.vendorDefinedRequest x b) s = .next (ok 14 { s with ide := b.getD s.ide })) ∧
      (x.ok = false ∨ x.smb = true ∨ (∀ e ∈ s.spdm, e.1 = true) → exec (.vendorDefinedRequest x b) s = .next err))) ∧
  (∀ s : State, ∃ t, exec .ideIntegrityFailure s = .next t ∧ t.ide = false ∧ SameCompute s t ∧ t.parts = s.parts ∧ t.spdm = s.spdm) ∧
  (∀ (eid : BitVec 8) (s : State), exec (.setEndpointId eid) s = .next (if s.inReset then s else { s with eid := some eid })) ∧
  (∀ (x : SmbMsg) (o : BitVec 32) (n : BitVec 8) (s : State) (os : List Nat) (say : Nat → List Byte → State), x.clean = true →
    os = (List.range n.toNat).map (fun i => o.toNat + 8 * i) →
    (say = fun st b => { s with smbOut := s.smbOut ++ [smbAnswer 1 x.seq.toNat st b] }) →
    (s.inReset = false → (o.toNat % 8 ≠ 0 ∨ o.toNat + 8 * n.toNat > 0x1000) → exec (.regRead x o n) s = .next (say stAddrInvalid [])) ∧
    (s.inReset = false → o.toNat % 8 = 0 → o.toNat + 8 * n.toNat ≤ 0x1000 → (n.toNat = 0 ∨ 8 < n.toNat) →
      exec (.regRead x o n) s = .next (say stBadArgument [])) ∧
    (s.inReset = false → o.toNat % 8 = 0 → o.toNat + 8 * n.toNat ≤ 0x1000 → 1 ≤ n.toNat → n.toNat ≤ 8 →
      ((∃ a ∈ os, a = 0x100 ∨ (0x200 ≤ a ∧ a < 0x400)) → exec (.regRead x o n) s = .next (say stAccessDenied [])) ∧
      (s.lc.state = 4 → (∃ a ∈ os, a ∉ smbOpen) → exec (.regRead x o n) s = .next (say stAccessDenied [])) ∧
      (s.shutdown = false → (∀ a ∈ os, a ∈ smbOpen ∨ (s.lc.state ≠ 4 ∧ a ≠ 0x100 ∧ (a < 0x200 ∨ 0x400 ≤ a))) →
        exec (.regRead x o n) s = .next (say stOK (os.flatMap fun a => leBytes 8 (s.regRead (0x970000 + a)).toNat)))) ∧
    (s.inReset = true → 1 ≤ n.toNat → ((∃ a ∈ os, a ≠ 0x010 ∧ a ≠ 0x008) → exec (.regRead x o n) s = .next s) ∧
      ((∀ a ∈ os, a = 0x010 ∨ a = 0x008) →
        exec (.regRead x o n) s = .next (say stOK (os.flatMap fun a => leBytes 8 (s.rget (0x970000 + a)).toNat))))) ∧
  (∀ (x : SmbMsg) (o : BitVec 32) (val : BitVec 64) (s : State) (say : State → Nat → State), s.inReset = false → x.clean = true →
    (say = fun u st => { u with smbOut := s.smbOut ++ [smbAnswer 2 x.seq.toNat st []] }) →
    ((o.toNat % 8 ≠ 0 ∨ o.toNat + 8 > 0x1000) → exec (.regWrite x o val) s = .next (say s stAddrInvalid)) ∧
    (o.toNat % 8 = 0 → o.toNat + 8 ≤ 0x1000 → (s.lc.state = 4 ∨ (o.toNat ≠ 0x420 ∧ o.toNat ≠ 0x448 ∧ o.toNat ≠ 0x450)) →
      exec (.regWrite x o val) s = .next (say s stAccessDenied)) ∧
    (s.lc.state ≠ 4 → o.toNat = 0x420 → ∃ t, exec (.regWrite x o val) s = .next (say t stOK) ∧ t = { s with regs := t.regs } ∧
      SameRegsBut s t (· = HD_PWR_CTL) ∧ t.rf HD_PWR_CTL HD_PWR_CTL_CAP_W = max 1500 (min 2500 (val.toNat % 2 ^ 12))) ∧
    (s.lc.state ≠ 4 → o.toNat = 0x450 → ∃ t, exec (.regWrite x o val) s = .next (say t stOK) ∧ t = { s with regs := t.regs } ∧
      SameRegsBut s t (· = HD_TSENS) ∧ t.rf HD_TSENS HD_TSENS_SEL = val.toNat % 2 ^ 11 ∧
      (val.toNat % 2 ^ 11 < 1192 → ∀ v f, Tab.get (0, false) s.sensors (val.toNat % 2 ^ 11) = (v, f) →
        t.rf HD_TSENS HD_TSENS_TEMP = v.toNat ∧ t.rb HD_TSENS HD_TSENS_FAILED = f))) ∧
  (∀ (x : SmbMsg) (h : MbHdr) (pl : List (BitVec 8)) (s : State) (say : Nat → State), s.inReset = false → x.clean = true →
    (say = fun st => { s with smbOut := s.smbOut ++ [smbAnswer 3 x.seq.toNat st []] }) →
    ((h.hostbuf = true ∨ 1024 < h.length.toNat) → exec (.mailbox x h pl) s = .next (say stBadArgument)) ∧
    (h.hostbuf = false → h.length.toNat ≤ 1024 →
      ((h.tvalid = true ∨ smbCommand s.lc.state h.opcode.toNat h.part.toNat = false) → exec (.mailbox x h pl) s = .next (say stAccessDenied)) ∧
      (h.tvalid = false → h.bad = false → smbCommand s.lc.state h.opcode.toNat h.part.toNat = true →
        (∀ e ∈ s.mbQueue, e.src ≠ 9) → (∀ e ∈ s.late, e.2.1.src ≠ 9) →
        exec (.mailbox x h pl) s =
          .next { s with mbQueue := mbInsert { src := 9, tick := s.tick, hdr := h, payload := pl, drop := false, smbSeq := x.seq } s.mbQueue })))

/-- LIFECYCLE_SET acts only with the right MGMT_SEQ and signature, from the states of its action, and leaves what the action names -/
def Obligations.LifeCycleActions : Prop :=
  (∀ (m : Mail) (s : State) (i : Instr) (act : Nat) (from_ : List Nat), Admits s m 0x70 .pf0 false 216 → m.n 0 1 = act →
    (i, act, from_) ∈ [(Instr.query m, 0, [0, 1, 2, 3, 4]), (.claim m, 1, [0]), (.deploy m, 2, [1]), (.recall m, 3, [2]),
      (.restore m, 4, [3]), (.release m, 5, [1, 3]), (.retire m, 6, [0, 1, 2, 3]), (.keyAdd m, 7, [1, 2]), (.keyRevoke m, 8, [1, 2]),
      (.floorSet m, 9, [1, 2]), (.idePolicy m, 10, [1, 2])] →
    ((m.n 4 4 ≠ s.lc.seq ∨ (∃ k, s.lcKey m act = some k ∧ lcSigned m k = false)) → ∃ t, exec i s = .next t ∧
      Answered t m stAccessDenied [] ∧ t.lc = s.lc ∧ t.parts = s.parts ∧ t.resetDue = s.resetDue ∧ SameCompute s t) ∧
    (m.n 4 4 = s.lc.seq → (∀ k, s.lcKey m act = some k → lcSigned m k = true) → s.lc.state ∉ from_ →
      ∃ t, exec i s = .next t ∧ Answered t m stWrongState [] ∧ OnlyMailbox s t m)) ∧
  (∀ (m : Mail) (s : State) (i : Instr) (act n dest : Nat) (from_ : List Nat), Admits s m 0x70 .pf0 false 216 → m.n 0 1 = act →
    (i, act, from_, dest, n) ∈ [(Instr.claim m, 1, [0], 1, 97), (.deploy m, 2, [1], 2, 0), (.recall m, 3, [2], 3, 0), (.restore m, 4, [3], 1, 0),
      (.release m, 5, [1, 3], 0, 0), (.retire m, 6, [0, 1, 2, 3], 4, 0)] →
    m.n 4 4 = s.lc.seq → (∀ k, s.lcKey m act = some k → lcSigned m k = true) → (s.lcKey m act = none → allZero (lcSig m) = true) →
    s.lc.state ∈ from_ → m.n 1 3 = 0 → argOnly m n = true →
    (s.anyRunning = true → ∃ t, exec i s = .next t ∧ Answered t m stWrongState [] ∧ OnlyMailbox s t m) ∧
    (s.anyRunning = false → ∃ t, exec i s = .next t ∧ Answered t m stOK [] ∧ t.parts = [] ∧ t.resetDue = some (3, 5) ∧
      t.lc.state = dest ∧ t.lc.epoch = (s.lc.epoch + 1) % 2 ^ 32 ∧ t.lc.seq = (s.lc.seq + 1) % 2 ^ 32 ∧
      t.lc.change = some (act, s.lc.state) ∧
      t.lc.owner = (if act = 1 then argBytes m 97 else if dest = 0 then [] else s.lc.owner) ∧
      (t.lc.keys, t.lc.floors, t.lc.ide) = (if dest = 0 then ([], [], false) else (s.lc.keys, s.lc.floors, s.lc.ide)) ∧
      t.storedCfg = (if dest = 0 ∨ 3 ≤ dest then none else s.storedCfg) ∧
      t.tetherPolicy = (if dest = 0 then (0, 0) else s.tetherPolicy) ∧ ∀ c : CoreIx, ∀ e ∈ s.parts,
        e.2.hasPair (pairOf c) = true → s.part? e.1 = some e.2 → (t.core c).bundles = 0)) ∧
  (∀ (m : Mail) (s : State), Admits s m 0x70 .pf0 false 216 → m.n 4 4 = s.lc.seq → m.n 1 3 = 0 →
    (m.n 0 1 = 0 → s.lc.state ≤ 4 → argOnly m 0 = true → allZero (lcSig m) = true → ∃ t, exec (.query m) s = .next t ∧
      Answered t m stOK s.lcBytes ∧ OnlyMailbox s t m) ∧
    (s.lc.state = 1 ∨ s.lc.state = 2 → lcSigned m s.lc.owner = true →
      (m.n 0 1 = 7 → argOnly m 97 = true →
        (s.lc.keys.length < 8 → ∃ t, exec (.keyAdd m) s = .next t ∧ Answered t m stOK [] ∧ SameCompute s t ∧ t.parts = s.parts ∧
          t.lc = { s.lc with keys := s.lc.keys ++ [argBytes m 97], seq := (s.lc.seq + 1) % 2 ^ 32 }) ∧
        (8 ≤ s.lc.keys.length → ∃ t, exec (.keyAdd m) s = .next t ∧ Answered t m stNoResource [] ∧ OnlyMailbox s t m)) ∧
      (m.n 0 1 = 8 → argOnly m 8 = true →
        ((∃ k ∈ s.lc.keys, keyId k = argBytes m 8) → ∃ t, exec (.keyRevoke m) s = .next t ∧ Answered t m stOK [] ∧ SameCompute s t ∧
          t.parts = s.parts ∧ t.lc = { s.lc with keys := s.lc.keys.filter (fun k => keyId k ≠ argBytes m 8), seq := (s.lc.seq + 1) % 2 ^ 32 }) ∧
        ((∀ k ∈ s.lc.keys, keyId k ≠ argBytes m 8) → ∃ t, exec (.keyRevoke m) s = .next t ∧ Answered t m stBadArgument [] ∧ OnlyMailbox s t m)) ∧
      (m.n 0 1 = 9 → argOnly m 5 = true →
        (1 ≤ m.n 8 1 → m.n 8 1 ≤ 8 → Tab.get 0 s.lc.floors (m.n 8 1) ≤ m.n 9 4 → ∃ t, exec (.floorSet m) s = .next t ∧
          Answered t m stOK [] ∧ SameCompute s t ∧ t.parts = s.parts ∧ t.lc.seq = (s.lc.seq + 1) % 2 ^ 32 ∧
          ∀ k, Tab.get 0 t.lc.floors k = if k = m.n 8 1 then m.n 9 4 else Tab.get 0 s.lc.floors k) ∧
        ((m.n 8 1 = 0 ∨ 8 < m.n 8 1 ∨ m.n 9 4 < Tab.get 0 s.lc.floors (m.n 8 1)) → ∃ t, exec (.floorSet m) s = .next t ∧
          Answered t m stBadArgument [] ∧ OnlyMailbox s t m)) ∧
      (m.n 0 1 = 10 → argOnly m 1 = true →
        (m.n 8 1 ≤ 1 → ∃ t, exec (.idePolicy m) s = .next t ∧ Answered t m stOK [] ∧ SameCompute s t ∧ t.parts = s.parts ∧
          t.lc = { s.lc with ide := m.n 8 1 == 1, seq := (s.lc.seq + 1) % 2 ^ 32 }) ∧
        (1 < m.n 8 1 → ∃ t, exec (.idePolicy m) s = .next t ∧ Answered t m stBadArgument [] ∧ OnlyMailbox s t m))))

/-- A power sample drives the capping loop and the energy counts, a temperature sample the thermal requests and shutdown; counters, epochs and CLEAR act as named -/
def Obligations.PowerAndMonitoring : Prop :=
  (∀ (w : BitVec 12) (pw : List Nat) (s : State), Canonical s → s.part? 0 = none → ∃ t, exec (.capSample w pw) s = .next t ∧
    SameCompute s t ∧ t.parts = s.parts ∧ t.rf HD_PWR_STAT HD_PWR_STAT_P100_W = w.toNat ∧
    t.rget HD_ENERGY = s.rget HD_ENERGY + BitVec.ofNat 64 ((s.energyTenths + w.toNat) / 10) ∧
    t.energyTenths = (s.energyTenths + w.toNat) % 10 ∧ (t.meter 0).energy = (s.meter 0).energy + w.toNat ∧
    (∀ n p, s.part? n = some p → (t.meter n).energy = (s.meter n).energy + (p.groupIx.map fun g => pw.getD g 0).sum) ∧
    t.capping.overs = (if s.rf HD_PWR_CTL HD_PWR_CTL_CAP_W < w.toNat then s.capping.overs + 1 else 0) ∧
    t.capping.unders = (if w.toNat + 50 < s.rf HD_PWR_CTL HD_PWR_CTL_CAP_W then s.capping.unders + 1 else 0) ∧
    (10 ≤ t.capping.overs →
      (∀ p : PairIx, s.capReq p < 24 → (∀ q : PairIx, s.capReq q < 24 → pw.getD q 0 ≤ pw.getD p 0 ∧ (q < p → pw.getD q 0 < pw.getD p 0)) →
        t.capReq p = s.capReq p + 1 ∧ (∀ q : PairIx, q ≠ p → t.capReq q = s.capReq q) ∧
        t.rf (CD_GEAR_CTL p) CD_GEAR_CTL_CAP_REQ =
          if p.val ∈ s.capping.braked then s.rf (CD_GEAR_CTL p) CD_GEAR_CTL_CAP_REQ else s.capReq p + 1) ∧
      ((∀ p : PairIx, 24 ≤ s.capReq p) → (∀ p : PairIx, t.capReq p = s.capReq p) ∧ t.rb HD_PWR_STAT HD_PWR_STAT_CAP_LIMIT = true)) ∧
    (10 ≤ t.capping.unders → t.capping.unders % 10 = 0 →
      ∀ p : PairIx, 0 < s.capReq p → (∀ q : PairIx, s.capReq q ≤ s.capReq p ∧ (q < p → s.capReq q < s.capReq p)) →
        t.capReq p = s.capReq p - 1 ∧ ∀ q : PairIx, q ≠ p → t.capReq q = s.capReq q) ∧
    (t.capping.overs < 10 → t.capping.unders < 10 ∨ t.capping.unders % 10 ≠ 0 → t.capping.req = s.capping.req)) ∧
  (∀ s : State,
    (∃ t, exec .pwrBrakeAssert s = .next t ∧ SameCompute s t ∧ t.brake = true ∧ t.capping = s.capping ∧
      (∀ p : PairIx, t.rget (CD_GEAR_CTL p) = s.rget (CD_GEAR_CTL p)) ∧
      (s.brake = false → t.rb HD_PWR_STAT HD_PWR_STAT_BRAKE = true)) ∧
    (∃ t, exec .pwrBrakeRelease s = .next t ∧ t = { s with brake := false, regs := t.regs } ∧
      SameRegsBut s t (· = HD_PWR_STAT) ∧ t.rb HD_PWR_STAT HD_PWR_STAT_BRAKE = false)) ∧
  (∀ (i : Fin 1192) (x : Option (BitVec 16)) (s : State) (hot : Prop),
    (hot ↔ 2 ≤ Tab.get 0 s.hotRun i ∧ ∃ v, x = some v ∧ 880 ≤ v.toInt) →
    (¬ hot ∨ s.shutdown = true ∨ s.powerOff = true → ∃ t, exec (.tempSample i x) s = .next t ∧ SameCompute s t ∧ t.parts = s.parts ∧
      Tab.get (0, false) t.sensors i = (x.getD (Tab.get (0, false) s.sensors i).1, x.isNone) ∧
      (∀ j, j ≠ i.val → Tab.get (0, false) t.sensors j = Tab.get (0, false) s.sensors j) ∧
      (∀ j v, t.hottest (List.range 1192) = some (j, v) → t.rf HD_THERM HD_THERM_TMAX = temp16 v ∧ t.rf HD_THERM HD_THERM_HOT_SENSOR = j) ∧
      (∀ p : PairIx, (sensorPair i = some p.val → t.rf (CD_THERM p) CD_THERM_THERM_REQ =
          max (s.rf (CD_THERM p) CD_THERM_THERM_REQ) (t.pairFormula p)) ∧
        (sensorPair i ≠ some p.val → t.rget (CD_THERM p) = s.rget (CD_THERM p))) ∧
      (s.rf HD_TSENS HD_TSENS_SEL = i.val → t.rf HD_TSENS HD_TSENS_TEMP = (x.getD (Tab.get (0, false) s.sensors i).1).toNat ∧
        t.rb HD_TSENS HD_TSENS_FAILED = x.isNone) ∧
      (∀ v, x = some v → v.toInt < 880 → Tab.get 0 t.hotRun i = 0) ∧
      (∀ v, x = some v → 880 ≤ v.toInt → Tab.get 0 t.hotRun i = min 3 (Tab.get 0 s.hotRun i + 1))) ∧
    (hot → s.shutdown = false → s.powerOff = false → Canonical s → ∃ t, exec (.tempSample i x) s = .next t ∧ t.shutdown = true ∧
      t.rb HD_THERM HD_THERM_WAS_SHUTDOWN = true ∧ t.parts = [] ∧ t.cores = [] ∧ t.mem = [] ∧ t.rb LM_BOBBIN LM_BOBBIN_LASER_EN = false ∧
      t.rget HD_PWR_DOM0 = 0 ∧ t.rget HD_PWR_DOM1 = s.rget HD_PWR_DOM1 &&& ~~~0x8FFFFFFF ∧ t.shutTick = s.tick ∧ t.lc = s.lc ∧ t.fw = s.fw)) ∧
  (∀ (k : StackIx) (degC : Int) (s : State),
    (degC < 105 ∨ s.shutdown = true → exec (.stackTempRead k degC) s = .next { s with stackTemp := Tab.set 0 s.stackTemp k degC }) ∧
    (105 ≤ degC → s.shutdown = false → s.powerOff = false → Canonical s → ∃ t, exec (.stackTempRead k degC) s = .next t ∧ t.shutdown = true ∧
      t.parts = [] ∧ t.cores = [] ∧ t.mem = [] ∧ t.rb LM_BOBBIN LM_BOBBIN_LASER_EN = false ∧ t.rget HD_PWR_DOM0 = 0)) ∧
  (∀ (p : PairIx) (s : State) (q : Nat), q = s.rf (CD_THERM p) CD_THERM_THERM_REQ →
    (Tab.get 0 s.thermCalm p ≠ 0 → s.pairFormula p < q → ∃ t, exec (.thermReqFall p) s = .next t ∧
      t = { s with regs := t.regs, thermCalm := t.thermCalm } ∧ (SameRegsBut s t fun a => a = CD_THERM p ∨ a = CD_GEAR_CTL p) ∧
      t.rf (CD_THERM p) CD_THERM_THERM_REQ = q - 1 ∧ t.rf (CD_GEAR_CTL p) CD_GEAR_CTL_THERM_REQ = q - 1) ∧
    (Tab.get 0 s.thermCalm p = 0 ∨ q ≤ s.pairFormula p → exec (.thermReqFall p) s = .next s)) ∧
  (∀ (s : State) (ok : Prop),
    (ok ↔ s.shutdown = true ∧ s.shutTick + 15000000000 ≤ s.tick ∧ (∀ k < 8, ∀ v, s.sensor (1184 + k) = some v → v < 560) ∧
      (s.shutLog.filter fun u => decide (s.tick < u + 5400000000000)).length < 3) →
    (ok → ∃ t, exec .clear s = .next t ∧ t.shutdown = false ∧ t.parts = [] ∧ t.rf HD_BRINGUP HD_BRINGUP_KIND = 1 ∧ t.nextStage = 0 ∧
      t.rf HD_RESET_STAT HD_RESET_STAT_LAST = 1 ∧ t.rf HD_RESET_STAT HD_RESET_STAT_CAUSE = 4) ∧
    (¬ ok → ∃ t, exec .clear s = .next t ∧ t = { s with regs := t.regs, hwSet := t.hwSet } ∧ SameRegsBut s t (· = HD_THERM) ∧
      t.rb HD_THERM HD_THERM_CLR_REFUSED = true ∧ t.shutdown = s.shutdown)) ∧
  (∀ s : State, Canonical s → ∃ t, exec .evcClear s = .next t ∧ t = { s with regs := t.regs } ∧
    ∀ a, t.rget a = if isEvc a then HD_EVC_COUNT.put (s.rget a) 0 else s.rget a) ∧
  (∀ (n : PartNo) (s : State), n.val = 0 ∨ (s.part? n).isSome = true →
    (s.spill.length < spillSize → ∃ t f, exec (.epochClose n) s = .next t ∧ SameCompute s t ∧ t.parts = s.parts ∧
      f = (decide (s.now < (s.meter n).start.toNat)).toNat + 2 * (s.meter n).hold.toNat + 4 * s.holdover.toNat +
        16 * (s.meter n).deferred.toNat ∧
      t.spill = s.spill ++ [{ seq := s.meterSeq, part := n, bytes := s.meterBytes n (s.meter n) f s.now }] ∧
      t.meterSeq = s.meterSeq + 1 ∧ t.rf HD_METER_STAT HD_METER_STAT_NEXT_SEQ = (s.meterSeq + 1) % 2 ^ 32 ∧
      (t.meter n).start = s.rget HD_TIME_NOW ∧ (t.meter n).tx = 0 ∧ (t.meter n).rx = 0 ∧ (t.meter n).deferred = false ∧
      (t.meter n).energy = (s.meter n).energy % 10) ∧
    (spillSize ≤ s.spill.length → ∃ t, exec (.epochClose n) s = .next t ∧ SameCompute s t ∧ t.spill = s.spill ∧
      t.meter n = { s.meter n with deferred := true } ∧ t.rb HD_METER_STAT HD_METER_STAT_FULL = true ∧
      t.rb HD_METER_STAT HD_METER_STAT_DEFERRED = true)) ∧
  (∀ s : State, exec .meterCheckpoint s = .next { s with meterChk := some (s.meters, s.now, s.holdover) })

/-- Every step keeps the stored tables' form -/
def Obligations.StepKeepsForm : Prop :=
  ∀ s t : State, Canonical s → step s = .next t → Canonical t
end

