-- ==== Sys2Proof/Laws/Fields.lean ====
section
/-! SUPPORT. Laws of register fields: what a field reads after it, or another field of the word, is written. -/
namespace Sys2Proof.Machine

theorem Fld.get_lt (f : Fld) (r : Reg64) : f.get r < 2 ^ f.w := Nat.mod_lt _ (Nat.two_pow_pos _)

/-- A field reads its bits. -/
theorem Fld.testBit_get (f : Fld) (r : Reg64) (i : Nat) :
    (f.get r).testBit i = (decide (i < f.w) && r.getLsbD (f.lo + i)) := by
  simp [Fld.get, Nat.testBit_mod_two_pow, Nat.testBit_div_two_pow, BitVec.getLsbD, Nat.add_comm]

theorem Fld.getLsbD_mask (f : Fld) (i : Nat) :
    f.mask.getLsbD i = (decide (i < 64) && (decide (f.lo ≤ i) && decide (i - f.lo < f.w))) := by
  simp [Fld.mask, BitVec.getLsbD_ofNat, Nat.testBit_mul_two_pow, Nat.testBit_two_pow_sub_one]

theorem Fld.getLsbD_put (f : Fld) (r : Reg64) (v i : Nat) (hi : i < 64) :
    (f.put r v).getLsbD i =
      if f.lo ≤ i ∧ i < f.lo + f.w then v.testBit (i - f.lo) else r.getLsbD i := by
  simp only [Fld.put, BitVec.getLsbD_or, BitVec.getLsbD_and, BitVec.getLsbD_not, Fld.getLsbD_mask, BitVec.getLsbD_ofNat,
    Nat.testBit_mul_two_pow, Nat.testBit_mod_two_pow, hi, decide_true, Bool.true_and]
  by_cases h1 : f.lo ≤ i
  · by_cases h2 : i < f.lo + f.w
    · have : i - f.lo < f.w := by omega
      simp [h1, h2, this]
    · have : ¬ i - f.lo < f.w := by omega
      simp [h1, h2, this]
  · simp [h1]

theorem Fld.get_put_same (f : Fld) (r : Reg64) (v : Nat) (h : f.lo + f.w ≤ 64) : f.get (f.put r v) = v % 2 ^ f.w := by
  apply Nat.eq_of_testBit_eq
  intro i
  rw [Fld.testBit_get, Nat.testBit_mod_two_pow]
  by_cases hi : i < f.w
  · rw [Fld.getLsbD_put _ _ _ _ (by omega), if_pos (by omega)]
    simp
  · simp [hi]

theorem Fld.get_put_other (f g : Fld) (r : Reg64) (v : Nat) (hg : g.lo + g.w ≤ 64)
    (h : f.lo + f.w ≤ g.lo ∨ g.lo + g.w ≤ f.lo) : g.get (f.put r v) = g.get r := by
  apply Nat.eq_of_testBit_eq
  intro i
  rw [Fld.testBit_get, Fld.testBit_get]
  by_cases hi : i < g.w
  · rw [Fld.getLsbD_put _ _ _ _ (by omega), if_neg (by omega)]
  · simp [hi]

end Sys2Proof.Machine
end

