-- ==== Sys2Proof/Laws/State.lean ====
section
/-! SUPPORT. What each elementary update of the state leaves as it was: one lemma per field. -/
namespace Sys2Proof.Machine

variable (s : State)

/-! ## `State.rset` -/
@[simp] theorem State.rset_slotEls (a : Nat) (v : Reg64) : (s.rset a v).slotEls = s.slotEls := rfl
@[simp] theorem State.rset_phaseEls (a : Nat) (v : Reg64) : (s.rset a v).phaseEls = s.phaseEls := rfl
@[simp] theorem State.rset_fanEls (a : Nat) (v : Reg64) : (s.rset a v).fanEls = s.fanEls := rfl
@[simp] theorem State.rset_stuEls (a : Nat) (v : Reg64) : (s.rset a v).stuEls = s.stuEls := rfl
@[simp] theorem State.rset_stdEls (a : Nat) (v : Reg64) : (s.rset a v).stdEls = s.stdEls := rfl
@[simp] theorem State.rset_standSince (a : Nat) (v : Reg64) : (s.rset a v).standSince = s.standSince := rfl
@[simp] theorem State.rset_weftIn (a : Nat) (v : Reg64) : (s.rset a v).weftIn = s.weftIn := rfl
@[simp] theorem State.rset_weftTx (a : Nat) (v : Reg64) : (s.rset a v).weftTx = s.weftTx := rfl
@[simp] theorem State.rset_weftOut (a : Nat) (v : Reg64) : (s.rset a v).weftOut = s.weftOut := rfl
@[simp] theorem State.rset_weftScr (a : Nat) (v : Reg64) : (s.rset a v).weftScr = s.weftScr := rfl
@[simp] theorem State.rset_weftBad (a : Nat) (v : Reg64) : (s.rset a v).weftBad = s.weftBad := rfl
@[simp] theorem State.rset_censusDone (a : Nat) (v : Reg64) : (s.rset a v).censusDone = s.censusDone := rfl
@[simp] theorem State.rset_censusAt (a : Nat) (v : Reg64) : (s.rset a v).censusAt = s.censusAt := rfl
@[simp] theorem State.rset_censusFrom (a : Nat) (v : Reg64) : (s.rset a v).censusFrom = s.censusFrom := rfl
@[simp] theorem State.rset_bootLc (a : Nat) (v : Reg64) : (s.rset a v).bootLc = s.bootLc := rfl
@[simp] theorem State.rset_bulkKeys (a : Nat) (v : Reg64) : (s.rset a v).bulkKeys = s.bulkKeys := rfl
@[simp] theorem State.rset_keySeq (a : Nat) (v : Reg64) : (s.rset a v).keySeq = s.keySeq := rfl
@[simp] theorem State.rset_draftMeas (a : Nat) (v : Reg64) : (s.rset a v).draftMeas = s.draftMeas := rfl
@[simp] theorem State.rset_meterSeq (a : Nat) (v : Reg64) : (s.rset a v).meterSeq = s.meterSeq := rfl
@[simp] theorem State.rset_spill (a : Nat) (v : Reg64) : (s.rset a v).spill = s.spill := rfl
@[simp] theorem State.rset_meterChk (a : Nat) (v : Reg64) : (s.rset a v).meterChk = s.meterChk := rfl
@[simp] theorem State.rset_energyTenths (a : Nat) (v : Reg64) : (s.rset a v).energyTenths = s.energyTenths := rfl
@[simp] theorem State.rset_meterPrev (a : Nat) (v : Reg64) : (s.rset a v).meterPrev = s.meterPrev := rfl
@[simp] theorem State.rset_pending (a : Nat) (v : Reg64) : (s.rset a v).pending = s.pending := rfl
@[simp] theorem State.rset_free (a : Nat) (v : Reg64) : (s.rset a v).free = s.free := rfl
@[simp] theorem State.rset_tick (a : Nat) (v : Reg64) : (s.rset a v).tick = s.tick := rfl
@[simp] theorem State.rset_nsPhase (a : Nat) (v : Reg64) : (s.rset a v).nsPhase = s.nsPhase := rfl
@[simp] theorem State.rset_beatPhase (a : Nat) (v : Reg64) : (s.rset a v).beatPhase = s.beatPhase := rfl
@[simp] theorem State.rset_hwSet (a : Nat) (v : Reg64) : (s.rset a v).hwSet = s.hwSet := rfl
@[simp] theorem State.rset_evcSet (a : Nat) (v : Reg64) : (s.rset a v).evcSet = s.evcSet := rfl
@[simp] theorem State.rset_mem (a : Nat) (v : Reg64) : (s.rset a v).mem = s.mem := rfl
@[simp] theorem State.rset_ecc (a : Nat) (v : Reg64) : (s.rset a v).ecc = s.ecc := rfl
@[simp] theorem State.rset_cores (a : Nat) (v : Reg64) : (s.rset a v).cores = s.cores := rfl
@[simp] theorem State.rset_dstore (a : Nat) (v : Reg64) : (s.rset a v).dstore = s.dstore := rfl
@[simp] theorem State.rset_scrub (a : Nat) (v : Reg64) : (s.rset a v).scrub = s.scrub := rfl
@[simp] theorem State.rset_pools (a : Nat) (v : Reg64) : (s.rset a v).pools = s.pools := rfl
@[simp] theorem State.rset_kpend (a : Nat) (v : Reg64) : (s.rset a v).kpend = s.kpend := rfl
@[simp] theorem State.rset_poolOps (a : Nat) (v : Reg64) : (s.rset a v).poolOps = s.poolOps := rfl
@[simp] theorem State.rset_pairs (a : Nat) (v : Reg64) : (s.rset a v).pairs = s.pairs := rfl
@[simp] theorem State.rset_groups (a : Nat) (v : Reg64) : (s.rset a v).groups = s.groups := rfl
@[simp] theorem State.rset_parts (a : Nat) (v : Reg64) : (s.rset a v).parts = s.parts := rfl
@[simp] theorem State.rset_gens (a : Nat) (v : Reg64) : (s.rset a v).gens = s.gens := rfl
@[simp] theorem State.rset_recSeq (a : Nat) (v : Reg64) : (s.rset a v).recSeq = s.recSeq := rfl
@[simp] theorem State.rset_recBuf (a : Nat) (v : Reg64) : (s.rset a v).recBuf = s.recBuf := rfl
@[simp] theorem State.rset_log (a : Nat) (v : Reg64) : (s.rset a v).log = s.log := rfl
@[simp] theorem State.rset_windows (a : Nat) (v : Reg64) : (s.rset a v).windows = s.windows := rfl
@[simp] theorem State.rset_evPend (a : Nat) (v : Reg64) : (s.rset a v).evPend = s.evPend := rfl
@[simp] theorem State.rset_msi (a : Nat) (v : Reg64) : (s.rset a v).msi = s.msi := rfl
@[simp] theorem State.rset_tetherLead (a : Nat) (v : Reg64) : (s.rset a v).tetherLead = s.tetherLead := rfl
@[simp] theorem State.rset_ctlOut (a : Nat) (v : Reg64) : (s.rset a v).ctlOut = s.ctlOut := rfl
@[simp] theorem State.rset_hdReqs (a : Nat) (v : Reg64) : (s.rset a v).hdReqs = s.hdReqs := rfl
@[simp] theorem State.rset_portOut (a : Nat) (v : Reg64) : (s.rset a v).portOut = s.portOut := rfl
@[simp] theorem State.rset_pmbus (a : Nat) (v : Reg64) : (s.rset a v).pmbus = s.pmbus := rfl
@[simp] theorem State.rset_warpTx (a : Nat) (v : Reg64) : (s.rset a v).warpTx = s.warpTx := rfl
@[simp] theorem State.rset_warpRx (a : Nat) (v : Reg64) : (s.rset a v).warpRx = s.warpRx := rfl
@[simp] theorem State.rset_edge (a : Nat) (v : Reg64) : (s.rset a v).edge = s.edge := rfl
@[simp] theorem State.rset_warpOut (a : Nat) (v : Reg64) : (s.rset a v).warpOut = s.warpOut := rfl
@[simp] theorem State.rset_epIn (a : Nat) (v : Reg64) : (s.rset a v).epIn = s.epIn := rfl
@[simp] theorem State.rset_rings (a : Nat) (v : Reg64) : (s.rset a v).rings = s.rings := rfl
@[simp] theorem State.rset_lanes (a : Nat) (v : Reg64) : (s.rset a v).lanes = s.lanes := rfl
@[simp] theorem State.rset_slotRecs (a : Nat) (v : Reg64) : (s.rset a v).slotRecs = s.slotRecs := rfl
@[simp] theorem State.rset_standMap (a : Nat) (v : Reg64) : (s.rset a v).standMap = s.standMap := rfl
@[simp] theorem State.rset_switches (a : Nat) (v : Reg64) : (s.rset a v).switches = s.switches := rfl
@[simp] theorem State.rset_switchOut (a : Nat) (v : Reg64) : (s.rset a v).switchOut = s.switchOut := rfl
@[simp] theorem State.rset_bobbin (a : Nat) (v : Reg64) : (s.rset a v).bobbin = s.bobbin := rfl
@[simp] theorem State.rset_laserUp (a : Nat) (v : Reg64) : (s.rset a v).laserUp = s.laserUp := rfl
@[simp] theorem State.rset_calFront (a : Nat) (v : Reg64) : (s.rset a v).calFront = s.calFront := rfl
@[simp] theorem State.rset_erasedDie (a : Nat) (v : Reg64) : (s.rset a v).erasedDie = s.erasedDie := rfl
@[simp] theorem State.rset_remapFlash (a : Nat) (v : Reg64) : (s.rset a v).remapFlash = s.remapFlash := rfl
@[simp] theorem State.rset_badSpares (a : Nat) (v : Reg64) : (s.rset a v).badSpares = s.badSpares := rfl
@[simp] theorem State.rset_lastCorr (a : Nat) (v : Reg64) : (s.rset a v).lastCorr = s.lastCorr := rfl
@[simp] theorem State.rset_remapQual (a : Nat) (v : Reg64) : (s.rset a v).remapQual = s.remapQual := rfl
@[simp] theorem State.rset_writeBuf (a : Nat) (v : Reg64) : (s.rset a v).writeBuf = s.writeBuf := rfl
@[simp] theorem State.rset_scrubLine (a : Nat) (v : Reg64) : (s.rset a v).scrubLine = s.scrubLine := rfl
@[simp] theorem State.rset_scrubFrom (a : Nat) (v : Reg64) : (s.rset a v).scrubFrom = s.scrubFrom := rfl
@[simp] theorem State.rset_testLines (a : Nat) (v : Reg64) : (s.rset a v).testLines = s.testLines := rfl
@[simp] theorem State.rset_selfRun (a : Nat) (v : Reg64) : (s.rset a v).selfRun = s.selfRun := rfl
@[simp] theorem State.rset_pairEnd (a : Nat) (v : Reg64) : (s.rset a v).pairEnd = s.pairEnd := rfl
@[simp] theorem State.rset_ctlEnd (a : Nat) (v : Reg64) : (s.rset a v).ctlEnd = s.ctlEnd := rfl
@[simp] theorem State.rset_circOut (a : Nat) (v : Reg64) : (s.rset a v).circOut = s.circOut := rfl
@[simp] theorem State.rset_bulkCtl (a : Nat) (v : Reg64) : (s.rset a v).bulkCtl = s.bulkCtl := rfl
@[simp] theorem State.rset_filled (a : Nat) (v : Reg64) : (s.rset a v).filled = s.filled := rfl
@[simp] theorem State.rset_tags (a : Nat) (v : Reg64) : (s.rset a v).tags = s.tags := rfl
@[simp] theorem State.rset_chans (a : Nat) (v : Reg64) : (s.rset a v).chans = s.chans := rfl
@[simp] theorem State.rset_orderHeld (a : Nat) (v : Reg64) : (s.rset a v).orderHeld = s.orderHeld := rfl
@[simp] theorem State.rset_localHeld (a : Nat) (v : Reg64) : (s.rset a v).localHeld = s.localHeld := rfl
@[simp] theorem State.rset_filter (a : Nat) (v : Reg64) : (s.rset a v).filter = s.filter := rfl
@[simp] theorem State.rset_filterHot (a : Nat) (v : Reg64) : (s.rset a v).filterHot = s.filterHot := rfl
@[simp] theorem State.rset_coldHeld (a : Nat) (v : Reg64) : (s.rset a v).coldHeld = s.coldHeld := rfl
@[simp] theorem State.rset_stalled (a : Nat) (v : Reg64) : (s.rset a v).stalled = s.stalled := rfl
@[simp] theorem State.rset_dupHeld (a : Nat) (v : Reg64) : (s.rset a v).dupHeld = s.dupHeld := rfl
@[simp] theorem State.rset_atomRes (a : Nat) (v : Reg64) : (s.rset a v).atomRes = s.atomRes := rfl
@[simp] theorem State.rset_rrc (a : Nat) (v : Reg64) : (s.rset a v).rrc = s.rrc := rfl
@[simp] theorem State.rset_rrcGen (a : Nat) (v : Reg64) : (s.rset a v).rrcGen = s.rrcGen := rfl
@[simp] theorem State.rset_shch (a : Nat) (v : Reg64) : (s.rset a v).shch = s.shch := rfl
@[simp] theorem State.rset_arbs (a : Nat) (v : Reg64) : (s.rset a v).arbs = s.arbs := rfl
@[simp] theorem State.rset_sepochFlash (a : Nat) (v : Reg64) : (s.rset a v).sepochFlash = s.sepochFlash := rfl
@[simp] theorem State.rset_peerMiss (a : Nat) (v : Reg64) : (s.rset a v).peerMiss = s.peerMiss := rfl
@[simp] theorem State.rset_streams (a : Nat) (v : Reg64) : (s.rset a v).streams = s.streams := rfl
@[simp] theorem State.rset_colWait (a : Nat) (v : Reg64) : (s.rset a v).colWait = s.colWait := rfl
@[simp] theorem State.rset_combs (a : Nat) (v : Reg64) : (s.rset a v).combs = s.combs := rfl
@[simp] theorem State.rset_repls (a : Nat) (v : Reg64) : (s.rset a v).repls = s.repls := rfl
@[simp] theorem State.rset_mseq (a : Nat) (v : Reg64) : (s.rset a v).mseq = s.mseq := rfl
@[simp] theorem State.rset_streamSeq (a : Nat) (v : Reg64) : (s.rset a v).streamSeq = s.streamSeq := rfl
@[simp] theorem State.rset_mcFilter (a : Nat) (v : Reg64) : (s.rset a v).mcFilter = s.mcFilter := rfl
@[simp] theorem State.rset_segOut (a : Nat) (v : Reg64) : (s.rset a v).segOut = s.segOut := rfl
@[simp] theorem State.rset_resendOut (a : Nat) (v : Reg64) : (s.rset a v).resendOut = s.resendOut := rfl
@[simp] theorem State.rset_ports (a : Nat) (v : Reg64) : (s.rset a v).ports = s.ports := rfl
@[simp] theorem State.rset_links (a : Nat) (v : Reg64) : (s.rset a v).links = s.links := rfl
@[simp] theorem State.rset_sfOut (a : Nat) (v : Reg64) : (s.rset a v).sfOut = s.sfOut := rfl
@[simp] theorem State.rset_meters (a : Nat) (v : Reg64) : (s.rset a v).meters = s.meters := rfl
@[simp] theorem State.rset_mbQueue (a : Nat) (v : Reg64) : (s.rset a v).mbQueue = s.mbQueue := rfl
@[simp] theorem State.rset_smbOut (a : Nat) (v : Reg64) : (s.rset a v).smbOut = s.smbOut := rfl
@[simp] theorem State.rset_tethers (a : Nat) (v : Reg64) : (s.rset a v).tethers = s.tethers := rfl
@[simp] theorem State.rset_forwarded (a : Nat) (v : Reg64) : (s.rset a v).forwarded = s.forwarded := rfl
@[simp] theorem State.rset_tetherPolicy (a : Nat) (v : Reg64) : (s.rset a v).tetherPolicy = s.tetherPolicy := rfl
@[simp] theorem State.rset_stages (a : Nat) (v : Reg64) : (s.rset a v).stages = s.stages := rfl
@[simp] theorem State.rset_nextStage (a : Nat) (v : Reg64) : (s.rset a v).nextStage = s.nextStage := rfl
@[simp] theorem State.rset_stageTick (a : Nat) (v : Reg64) : (s.rset a v).stageTick = s.stageTick := rfl
@[simp] theorem State.rset_upTick (a : Nat) (v : Reg64) : (s.rset a v).upTick = s.upTick := rfl
@[simp] theorem State.rset_upCfg (a : Nat) (v : Reg64) : (s.rset a v).upCfg = s.upCfg := rfl
@[simp] theorem State.rset_storedCfg (a : Nat) (v : Reg64) : (s.rset a v).storedCfg = s.storedCfg := rfl
@[simp] theorem State.rset_runCfg (a : Nat) (v : Reg64) : (s.rset a v).runCfg = s.runCfg := rfl
@[simp] theorem State.rset_fw (a : Nat) (v : Reg64) : (s.rset a v).fw = s.fw := rfl
@[simp] theorem State.rset_lc (a : Nat) (v : Reg64) : (s.rset a v).lc = s.lc := rfl
@[simp] theorem State.rset_ide (a : Nat) (v : Reg64) : (s.rset a v).ide = s.ide := rfl
@[simp] theorem State.rset_spdm (a : Nat) (v : Reg64) : (s.rset a v).spdm = s.spdm := rfl
@[simp] theorem State.rset_spdmOut (a : Nat) (v : Reg64) : (s.rset a v).spdmOut = s.spdmOut := rfl
@[simp] theorem State.rset_eid (a : Nat) (v : Reg64) : (s.rset a v).eid = s.eid := rfl
@[simp] theorem State.rset_powerOff (a : Nat) (v : Reg64) : (s.rset a v).powerOff = s.powerOff := rfl
@[simp] theorem State.rset_inReset (a : Nat) (v : Reg64) : (s.rset a v).inReset = s.inReset := rfl
@[simp] theorem State.rset_brake (a : Nat) (v : Reg64) : (s.rset a v).brake = s.brake := rfl
@[simp] theorem State.rset_clock (a : Nat) (v : Reg64) : (s.rset a v).clock = s.clock := rfl
@[simp] theorem State.rset_capping (a : Nat) (v : Reg64) : (s.rset a v).capping = s.capping := rfl
@[simp] theorem State.rset_sensors (a : Nat) (v : Reg64) : (s.rset a v).sensors = s.sensors := rfl
@[simp] theorem State.rset_hotRun (a : Nat) (v : Reg64) : (s.rset a v).hotRun = s.hotRun := rfl
@[simp] theorem State.rset_thermCalm (a : Nat) (v : Reg64) : (s.rset a v).thermCalm = s.thermCalm := rfl
@[simp] theorem State.rset_stackTemp (a : Nat) (v : Reg64) : (s.rset a v).stackTemp = s.stackTemp := rfl
@[simp] theorem State.rset_shutTick (a : Nat) (v : Reg64) : (s.rset a v).shutTick = s.shutTick := rfl
@[simp] theorem State.rset_shutLog (a : Nat) (v : Reg64) : (s.rset a v).shutLog = s.shutLog := rfl
@[simp] theorem State.rset_wasShut (a : Nat) (v : Reg64) : (s.rset a v).wasShut = s.wasShut := rfl
@[simp] theorem State.rset_resetDue (a : Nat) (v : Reg64) : (s.rset a v).resetDue = s.resetDue := rfl
@[simp] theorem State.rset_readOut (a : Nat) (v : Reg64) : (s.rset a v).readOut = s.readOut := rfl
@[simp] theorem State.rset_late (a : Nat) (v : Reg64) : (s.rset a v).late = s.late := rfl

/-! ## `State.setCore` -/
@[simp] theorem State.setCore_slotEls (c : Nat) (k : Core) : (s.setCore c k).slotEls = s.slotEls := rfl
@[simp] theorem State.setCore_phaseEls (c : Nat) (k : Core) : (s.setCore c k).phaseEls = s.phaseEls := rfl
@[simp] theorem State.setCore_fanEls (c : Nat) (k : Core) : (s.setCore c k).fanEls = s.fanEls := rfl
@[simp] theorem State.setCore_stuEls (c : Nat) (k : Core) : (s.setCore c k).stuEls = s.stuEls := rfl
@[simp] theorem State.setCore_stdEls (c : Nat) (k : Core) : (s.setCore c k).stdEls = s.stdEls := rfl
@[simp] theorem State.setCore_standSince (c : Nat) (k : Core) : (s.setCore c k).standSince = s.standSince := rfl
@[simp] theorem State.setCore_weftIn (c : Nat) (k : Core) : (s.setCore c k).weftIn = s.weftIn := rfl
@[simp] theorem State.setCore_weftTx (c : Nat) (k : Core) : (s.setCore c k).weftTx = s.weftTx := rfl
@[simp] theorem State.setCore_weftOut (c : Nat) (k : Core) : (s.setCore c k).weftOut = s.weftOut := rfl
@[simp] theorem State.setCore_weftScr (c : Nat) (k : Core) : (s.setCore c k).weftScr = s.weftScr := rfl
@[simp] theorem State.setCore_weftBad (c : Nat) (k : Core) : (s.setCore c k).weftBad = s.weftBad := rfl
@[simp] theorem State.setCore_censusDone (c : Nat) (k : Core) : (s.setCore c k).censusDone = s.censusDone := rfl
@[simp] theorem State.setCore_censusAt (c : Nat) (k : Core) : (s.setCore c k).censusAt = s.censusAt := rfl
@[simp] theorem State.setCore_censusFrom (c : Nat) (k : Core) : (s.setCore c k).censusFrom = s.censusFrom := rfl
@[simp] theorem State.setCore_bootLc (c : Nat) (k : Core) : (s.setCore c k).bootLc = s.bootLc := rfl
@[simp] theorem State.setCore_bulkKeys (c : Nat) (k : Core) : (s.setCore c k).bulkKeys = s.bulkKeys := rfl
@[simp] theorem State.setCore_keySeq (c : Nat) (k : Core) : (s.setCore c k).keySeq = s.keySeq := rfl
@[simp] theorem State.setCore_draftMeas (c : Nat) (k : Core) : (s.setCore c k).draftMeas = s.draftMeas := rfl
@[simp] theorem State.setCore_meterSeq (c : Nat) (k : Core) : (s.setCore c k).meterSeq = s.meterSeq := rfl
@[simp] theorem State.setCore_spill (c : Nat) (k : Core) : (s.setCore c k).spill = s.spill := rfl
@[simp] theorem State.setCore_meterChk (c : Nat) (k : Core) : (s.setCore c k).meterChk = s.meterChk := rfl
@[simp] theorem State.setCore_energyTenths (c : Nat) (k : Core) : (s.setCore c k).energyTenths = s.energyTenths := rfl
@[simp] theorem State.setCore_meterPrev (c : Nat) (k : Core) : (s.setCore c k).meterPrev = s.meterPrev := rfl
@[simp] theorem State.setCore_pending (c : Nat) (k : Core) : (s.setCore c k).pending = s.pending := rfl
@[simp] theorem State.setCore_free (c : Nat) (k : Core) : (s.setCore c k).free = s.free := rfl
@[simp] theorem State.setCore_tick (c : Nat) (k : Core) : (s.setCore c k).tick = s.tick := rfl
@[simp] theorem State.setCore_nsPhase (c : Nat) (k : Core) : (s.setCore c k).nsPhase = s.nsPhase := rfl
@[simp] theorem State.setCore_beatPhase (c : Nat) (k : Core) : (s.setCore c k).beatPhase = s.beatPhase := rfl
@[simp] theorem State.setCore_regs (c : Nat) (k : Core) : (s.setCore c k).regs = s.regs := rfl
@[simp] theorem State.setCore_hwSet (c : Nat) (k : Core) : (s.setCore c k).hwSet = s.hwSet := rfl
@[simp] theorem State.setCore_evcSet (c : Nat) (k : Core) : (s.setCore c k).evcSet = s.evcSet := rfl
@[simp] theorem State.setCore_mem (c : Nat) (k : Core) : (s.setCore c k).mem = s.mem := rfl
@[simp] theorem State.setCore_ecc (c : Nat) (k : Core) : (s.setCore c k).ecc = s.ecc := rfl
@[simp] theorem State.setCore_dstore (c : Nat) (k : Core) : (s.setCore c k).dstore = s.dstore := rfl
@[simp] theorem State.setCore_scrub (c : Nat) (k : Core) : (s.setCore c k).scrub = s.scrub := rfl
@[simp] theorem State.setCore_pools (c : Nat) (k : Core) : (s.setCore c k).pools = s.pools := rfl
@[simp] theorem State.setCore_kpend (c : Nat) (k : Core) : (s.setCore c k).kpend = s.kpend := rfl
@[simp] theorem State.setCore_poolOps (c : Nat) (k : Core) : (s.setCore c k).poolOps = s.poolOps := rfl
@[simp] theorem State.setCore_pairs (c : Nat) (k : Core) : (s.setCore c k).pairs = s.pairs := rfl
@[simp] theorem State.setCore_groups (c : Nat) (k : Core) : (s.setCore c k).groups = s.groups := rfl
@[simp] theorem State.setCore_parts (c : Nat) (k : Core) : (s.setCore c k).parts = s.parts := rfl
@[simp] theorem State.setCore_gens (c : Nat) (k : Core) : (s.setCore c k).gens = s.gens := rfl
@[simp] theorem State.setCore_recSeq (c : Nat) (k : Core) : (s.setCore c k).recSeq = s.recSeq := rfl
@[simp] theorem State.setCore_recBuf (c : Nat) (k : Core) : (s.setCore c k).recBuf = s.recBuf := rfl
@[simp] theorem State.setCore_log (c : Nat) (k : Core) : (s.setCore c k).log = s.log := rfl
@[simp] theorem State.setCore_windows (c : Nat) (k : Core) : (s.setCore c k).windows = s.windows := rfl
@[simp] theorem State.setCore_evPend (c : Nat) (k : Core) : (s.setCore c k).evPend = s.evPend := rfl
@[simp] theorem State.setCore_msi (c : Nat) (k : Core) : (s.setCore c k).msi = s.msi := rfl
@[simp] theorem State.setCore_tetherLead (c : Nat) (k : Core) : (s.setCore c k).tetherLead = s.tetherLead := rfl
@[simp] theorem State.setCore_ctlOut (c : Nat) (k : Core) : (s.setCore c k).ctlOut = s.ctlOut := rfl
@[simp] theorem State.setCore_hdReqs (c : Nat) (k : Core) : (s.setCore c k).hdReqs = s.hdReqs := rfl
@[simp] theorem State.setCore_portOut (c : Nat) (k : Core) : (s.setCore c k).portOut = s.portOut := rfl
@[simp] theorem State.setCore_pmbus (c : Nat) (k : Core) : (s.setCore c k).pmbus = s.pmbus := rfl
@[simp] theorem State.setCore_warpTx (c : Nat) (k : Core) : (s.setCore c k).warpTx = s.warpTx := rfl
@[simp] theorem State.setCore_warpRx (c : Nat) (k : Core) : (s.setCore c k).warpRx = s.warpRx := rfl
@[simp] theorem State.setCore_edge (c : Nat) (k : Core) : (s.setCore c k).edge = s.edge := rfl
@[simp] theorem State.setCore_warpOut (c : Nat) (k : Core) : (s.setCore c k).warpOut = s.warpOut := rfl
@[simp] theorem State.setCore_epIn (c : Nat) (k : Core) : (s.setCore c k).epIn = s.epIn := rfl
@[simp] theorem State.setCore_rings (c : Nat) (k : Core) : (s.setCore c k).rings = s.rings := rfl
@[simp] theorem State.setCore_lanes (c : Nat) (k : Core) : (s.setCore c k).lanes = s.lanes := rfl
@[simp] theorem State.setCore_slotRecs (c : Nat) (k : Core) : (s.setCore c k).slotRecs = s.slotRecs := rfl
@[simp] theorem State.setCore_standMap (c : Nat) (k : Core) : (s.setCore c k).standMap = s.standMap := rfl
@[simp] theorem State.setCore_switches (c : Nat) (k : Core) : (s.setCore c k).switches = s.switches := rfl
@[simp] theorem State.setCore_switchOut (c : Nat) (k : Core) : (s.setCore c k).switchOut = s.switchOut := rfl
@[simp] theorem State.setCore_bobbin (c : Nat) (k : Core) : (s.setCore c k).bobbin = s.bobbin := rfl
@[simp] theorem State.setCore_laserUp (c : Nat) (k : Core) : (s.setCore c k).laserUp = s.laserUp := rfl
@[simp] theorem State.setCore_calFront (c : Nat) (k : Core) : (s.setCore c k).calFront = s.calFront := rfl
@[simp] theorem State.setCore_erasedDie (c : Nat) (k : Core) : (s.setCore c k).erasedDie = s.erasedDie := rfl
@[simp] theorem State.setCore_remapFlash (c : Nat) (k : Core) : (s.setCore c k).remapFlash = s.remapFlash := rfl
@[simp] theorem State.setCore_badSpares (c : Nat) (k : Core) : (s.setCore c k).badSpares = s.badSpares := rfl
@[simp] theorem State.setCore_lastCorr (c : Nat) (k : Core) : (s.setCore c k).lastCorr = s.lastCorr := rfl
@[simp] theorem State.setCore_remapQual (c : Nat) (k : Core) : (s.setCore c k).remapQual = s.remapQual := rfl
@[simp] theorem State.setCore_writeBuf (c : Nat) (k : Core) : (s.setCore c k).writeBuf = s.writeBuf := rfl
@[simp] theorem State.setCore_scrubLine (c : Nat) (k : Core) : (s.setCore c k).scrubLine = s.scrubLine := rfl
@[simp] theorem State.setCore_scrubFrom (c : Nat) (k : Core) : (s.setCore c k).scrubFrom = s.scrubFrom := rfl
@[simp] theorem State.setCore_testLines (c : Nat) (k : Core) : (s.setCore c k).testLines = s.testLines := rfl
@[simp] theorem State.setCore_selfRun (c : Nat) (k : Core) : (s.setCore c k).selfRun = s.selfRun := rfl
@[simp] theorem State.setCore_pairEnd (c : Nat) (k : Core) : (s.setCore c k).pairEnd = s.pairEnd := rfl
@[simp] theorem State.setCore_ctlEnd (c : Nat) (k : Core) : (s.setCore c k).ctlEnd = s.ctlEnd := rfl
@[simp] theorem State.setCore_circOut (c : Nat) (k : Core) : (s.setCore c k).circOut = s.circOut := rfl
@[simp] theorem State.setCore_bulkCtl (c : Nat) (k : Core) : (s.setCore c k).bulkCtl = s.bulkCtl := rfl
@[simp] theorem State.setCore_filled (c : Nat) (k : Core) : (s.setCore c k).filled = s.filled := rfl
@[simp] theorem State.setCore_tags (c : Nat) (k : Core) : (s.setCore c k).tags = s.tags := rfl
@[simp] theorem State.setCore_chans (c : Nat) (k : Core) : (s.setCore c k).chans = s.chans := rfl
@[simp] theorem State.setCore_orderHeld (c : Nat) (k : Core) : (s.setCore c k).orderHeld = s.orderHeld := rfl
@[simp] theorem State.setCore_localHeld (c : Nat) (k : Core) : (s.setCore c k).localHeld = s.localHeld := rfl
@[simp] theorem State.setCore_filter (c : Nat) (k : Core) : (s.setCore c k).filter = s.filter := rfl
@[simp] theorem State.setCore_filterHot (c : Nat) (k : Core) : (s.setCore c k).filterHot = s.filterHot := rfl
@[simp] theorem State.setCore_coldHeld (c : Nat) (k : Core) : (s.setCore c k).coldHeld = s.coldHeld := rfl
@[simp] theorem State.setCore_stalled (c : Nat) (k : Core) : (s.setCore c k).stalled = s.stalled := rfl
@[simp] theorem State.setCore_dupHeld (c : Nat) (k : Core) : (s.setCore c k).dupHeld = s.dupHeld := rfl
@[simp] theorem State.setCore_atomRes (c : Nat) (k : Core) : (s.setCore c k).atomRes = s.atomRes := rfl
@[simp] theorem State.setCore_rrc (c : Nat) (k : Core) : (s.setCore c k).rrc = s.rrc := rfl
@[simp] theorem State.setCore_rrcGen (c : Nat) (k : Core) : (s.setCore c k).rrcGen = s.rrcGen := rfl
@[simp] theorem State.setCore_shch (c : Nat) (k : Core) : (s.setCore c k).shch = s.shch := rfl
@[simp] theorem State.setCore_arbs (c : Nat) (k : Core) : (s.setCore c k).arbs = s.arbs := rfl
@[simp] theorem State.setCore_sepochFlash (c : Nat) (k : Core) : (s.setCore c k).sepochFlash = s.sepochFlash := rfl
@[simp] theorem State.setCore_peerMiss (c : Nat) (k : Core) : (s.setCore c k).peerMiss = s.peerMiss := rfl
@[simp] theorem State.setCore_streams (c : Nat) (k : Core) : (s.setCore c k).streams = s.streams := rfl
@[simp] theorem State.setCore_colWait (c : Nat) (k : Core) : (s.setCore c k).colWait = s.colWait := rfl
@[simp] theorem State.setCore_combs (c : Nat) (k : Core) : (s.setCore c k).combs = s.combs := rfl
@[simp] theorem State.setCore_repls (c : Nat) (k : Core) : (s.setCore c k).repls = s.repls := rfl
@[simp] theorem State.setCore_mseq (c : Nat) (k : Core) : (s.setCore c k).mseq = s.mseq := rfl
@[simp] theorem State.setCore_streamSeq (c : Nat) (k : Core) : (s.setCore c k).streamSeq = s.streamSeq := rfl
@[simp] theorem State.setCore_mcFilter (c : Nat) (k : Core) : (s.setCore c k).mcFilter = s.mcFilter := rfl
@[simp] theorem State.setCore_segOut (c : Nat) (k : Core) : (s.setCore c k).segOut = s.segOut := rfl
@[simp] theorem State.setCore_resendOut (c : Nat) (k : Core) : (s.setCore c k).resendOut = s.resendOut := rfl
@[simp] theorem State.setCore_ports (c : Nat) (k : Core) : (s.setCore c k).ports = s.ports := rfl
@[simp] theorem State.setCore_links (c : Nat) (k : Core) : (s.setCore c k).links = s.links := rfl
@[simp] theorem State.setCore_sfOut (c : Nat) (k : Core) : (s.setCore c k).sfOut = s.sfOut := rfl
@[simp] theorem State.setCore_meters (c : Nat) (k : Core) : (s.setCore c k).meters = s.meters := rfl
@[simp] theorem State.setCore_mbQueue (c : Nat) (k : Core) : (s.setCore c k).mbQueue = s.mbQueue := rfl
@[simp] theorem State.setCore_smbOut (c : Nat) (k : Core) : (s.setCore c k).smbOut = s.smbOut := rfl
@[simp] theorem State.setCore_tethers (c : Nat) (k : Core) : (s.setCore c k).tethers = s.tethers := rfl
@[simp] theorem State.setCore_forwarded (c : Nat) (k : Core) : (s.setCore c k).forwarded = s.forwarded := rfl
@[simp] theorem State.setCore_tetherPolicy (c : Nat) (k : Core) : (s.setCore c k).tetherPolicy = s.tetherPolicy := rfl
@[simp] theorem State.setCore_stages (c : Nat) (k : Core) : (s.setCore c k).stages = s.stages := rfl
@[simp] theorem State.setCore_nextStage (c : Nat) (k : Core) : (s.setCore c k).nextStage = s.nextStage := rfl
@[simp] theorem State.setCore_stageTick (c : Nat) (k : Core) : (s.setCore c k).stageTick = s.stageTick := rfl
@[simp] theorem State.setCore_upTick (c : Nat) (k : Core) : (s.setCore c k).upTick = s.upTick := rfl
@[simp] theorem State.setCore_upCfg (c : Nat) (k : Core) : (s.setCore c k).upCfg = s.upCfg := rfl
@[simp] theorem State.setCore_storedCfg (c : Nat) (k : Core) : (s.setCore c k).storedCfg = s.storedCfg := rfl
@[simp] theorem State.setCore_runCfg (c : Nat) (k : Core) : (s.setCore c k).runCfg = s.runCfg := rfl
@[simp] theorem State.setCore_fw (c : Nat) (k : Core) : (s.setCore c k).fw = s.fw := rfl
@[simp] theorem State.setCore_lc (c : Nat) (k : Core) : (s.setCore c k).lc = s.lc := rfl
@[simp] theorem State.setCore_ide (c : Nat) (k : Core) : (s.setCore c k).ide = s.ide := rfl
@[simp] theorem State.setCore_spdm (c : Nat) (k : Core) : (s.setCore c k).spdm = s.spdm := rfl
@[simp] theorem State.setCore_spdmOut (c : Nat) (k : Core) : (s.setCore c k).spdmOut = s.spdmOut := rfl
@[simp] theorem State.setCore_eid (c : Nat) (k : Core) : (s.setCore c k).eid = s.eid := rfl
@[simp] theorem State.setCore_powerOff (c : Nat) (k : Core) : (s.setCore c k).powerOff = s.powerOff := rfl
@[simp] theorem State.setCore_inReset (c : Nat) (k : Core) : (s.setCore c k).inReset = s.inReset := rfl
@[simp] theorem State.setCore_brake (c : Nat) (k : Core) : (s.setCore c k).brake = s.brake := rfl
@[simp] theorem State.setCore_clock (c : Nat) (k : Core) : (s.setCore c k).clock = s.clock := rfl
@[simp] theorem State.setCore_capping (c : Nat) (k : Core) : (s.setCore c k).capping = s.capping := rfl
@[simp] theorem State.setCore_sensors (c : Nat) (k : Core) : (s.setCore c k).sensors = s.sensors := rfl
@[simp] theorem State.setCore_hotRun (c : Nat) (k : Core) : (s.setCore c k).hotRun = s.hotRun := rfl
@[simp] theorem State.setCore_thermCalm (c : Nat) (k : Core) : (s.setCore c k).thermCalm = s.thermCalm := rfl
@[simp] theorem State.setCore_stackTemp (c : Nat) (k : Core) : (s.setCore c k).stackTemp = s.stackTemp := rfl
@[simp] theorem State.setCore_shutTick (c : Nat) (k : Core) : (s.setCore c k).shutTick = s.shutTick := rfl
@[simp] theorem State.setCore_shutLog (c : Nat) (k : Core) : (s.setCore c k).shutLog = s.shutLog := rfl
@[simp] theorem State.setCore_wasShut (c : Nat) (k : Core) : (s.setCore c k).wasShut = s.wasShut := rfl
@[simp] theorem State.setCore_resetDue (c : Nat) (k : Core) : (s.setCore c k).resetDue = s.resetDue := rfl
@[simp] theorem State.setCore_readOut (c : Nat) (k : Core) : (s.setCore c k).readOut = s.readOut := rfl
@[simp] theorem State.setCore_late (c : Nat) (k : Core) : (s.setCore c k).late = s.late := rfl

/-! ## `State.setPair` -/
@[simp] theorem State.setPair_slotEls (p : Nat) (k : Pair) : (s.setPair p k).slotEls = s.slotEls := rfl
@[simp] theorem State.setPair_phaseEls (p : Nat) (k : Pair) : (s.setPair p k).phaseEls = s.phaseEls := rfl
@[simp] theorem State.setPair_fanEls (p : Nat) (k : Pair) : (s.setPair p k).fanEls = s.fanEls := rfl
@[simp] theorem State.setPair_stuEls (p : Nat) (k : Pair) : (s.setPair p k).stuEls = s.stuEls := rfl
@[simp] theorem State.setPair_stdEls (p : Nat) (k : Pair) : (s.setPair p k).stdEls = s.stdEls := rfl
@[simp] theorem State.setPair_standSince (p : Nat) (k : Pair) : (s.setPair p k).standSince = s.standSince := rfl
@[simp] theorem State.setPair_weftIn (p : Nat) (k : Pair) : (s.setPair p k).weftIn = s.weftIn := rfl
@[simp] theorem State.setPair_weftTx (p : Nat) (k : Pair) : (s.setPair p k).weftTx = s.weftTx := rfl
@[simp] theorem State.setPair_weftOut (p : Nat) (k : Pair) : (s.setPair p k).weftOut = s.weftOut := rfl
@[simp] theorem State.setPair_weftScr (p : Nat) (k : Pair) : (s.setPair p k).weftScr = s.weftScr := rfl
@[simp] theorem State.setPair_weftBad (p : Nat) (k : Pair) : (s.setPair p k).weftBad = s.weftBad := rfl
@[simp] theorem State.setPair_censusDone (p : Nat) (k : Pair) : (s.setPair p k).censusDone = s.censusDone := rfl
@[simp] theorem State.setPair_censusAt (p : Nat) (k : Pair) : (s.setPair p k).censusAt = s.censusAt := rfl
@[simp] theorem State.setPair_censusFrom (p : Nat) (k : Pair) : (s.setPair p k).censusFrom = s.censusFrom := rfl
@[simp] theorem State.setPair_bootLc (p : Nat) (k : Pair) : (s.setPair p k).bootLc = s.bootLc := rfl
@[simp] theorem State.setPair_bulkKeys (p : Nat) (k : Pair) : (s.setPair p k).bulkKeys = s.bulkKeys := rfl
@[simp] theorem State.setPair_keySeq (p : Nat) (k : Pair) : (s.setPair p k).keySeq = s.keySeq := rfl
@[simp] theorem State.setPair_draftMeas (p : Nat) (k : Pair) : (s.setPair p k).draftMeas = s.draftMeas := rfl
@[simp] theorem State.setPair_meterSeq (p : Nat) (k : Pair) : (s.setPair p k).meterSeq = s.meterSeq := rfl
@[simp] theorem State.setPair_spill (p : Nat) (k : Pair) : (s.setPair p k).spill = s.spill := rfl
@[simp] theorem State.setPair_meterChk (p : Nat) (k : Pair) : (s.setPair p k).meterChk = s.meterChk := rfl
@[simp] theorem State.setPair_energyTenths (p : Nat) (k : Pair) : (s.setPair p k).energyTenths = s.energyTenths := rfl
@[simp] theorem State.setPair_meterPrev (p : Nat) (k : Pair) : (s.setPair p k).meterPrev = s.meterPrev := rfl
@[simp] theorem State.setPair_pending (p : Nat) (k : Pair) : (s.setPair p k).pending = s.pending := rfl
@[simp] theorem State.setPair_free (p : Nat) (k : Pair) : (s.setPair p k).free = s.free := rfl
@[simp] theorem State.setPair_tick (p : Nat) (k : Pair) : (s.setPair p k).tick = s.tick := rfl
@[simp] theorem State.setPair_nsPhase (p : Nat) (k : Pair) : (s.setPair p k).nsPhase = s.nsPhase := rfl
@[simp] theorem State.setPair_beatPhase (p : Nat) (k : Pair) : (s.setPair p k).beatPhase = s.beatPhase := rfl
@[simp] theorem State.setPair_regs (p : Nat) (k : Pair) : (s.setPair p k).regs = s.regs := rfl
@[simp] theorem State.setPair_hwSet (p : Nat) (k : Pair) : (s.setPair p k).hwSet = s.hwSet := rfl
@[simp] theorem State.setPair_evcSet (p : Nat) (k : Pair) : (s.setPair p k).evcSet = s.evcSet := rfl
@[simp] theorem State.setPair_mem (p : Nat) (k : Pair) : (s.setPair p k).mem = s.mem := rfl
@[simp] theorem State.setPair_ecc (p : Nat) (k : Pair) : (s.setPair p k).ecc = s.ecc := rfl
@[simp] theorem State.setPair_cores (p : Nat) (k : Pair) : (s.setPair p k).cores = s.cores := rfl
@[simp] theorem State.setPair_dstore (p : Nat) (k : Pair) : (s.setPair p k).dstore = s.dstore := rfl
@[simp] theorem State.setPair_scrub (p : Nat) (k : Pair) : (s.setPair p k).scrub = s.scrub := rfl
@[simp] theorem State.setPair_pools (p : Nat) (k : Pair) : (s.setPair p k).pools = s.pools := rfl
@[simp] theorem State.setPair_kpend (p : Nat) (k : Pair) : (s.setPair p k).kpend = s.kpend := rfl
@[simp] theorem State.setPair_poolOps (p : Nat) (k : Pair) : (s.setPair p k).poolOps = s.poolOps := rfl
@[simp] theorem State.setPair_groups (p : Nat) (k : Pair) : (s.setPair p k).groups = s.groups := rfl
@[simp] theorem State.setPair_parts (p : Nat) (k : Pair) : (s.setPair p k).parts = s.parts := rfl
@[simp] theorem State.setPair_gens (p : Nat) (k : Pair) : (s.setPair p k).gens = s.gens := rfl
@[simp] theorem State.setPair_recSeq (p : Nat) (k : Pair) : (s.setPair p k).recSeq = s.recSeq := rfl
@[simp] theorem State.setPair_recBuf (p : Nat) (k : Pair) : (s.setPair p k).recBuf = s.recBuf := rfl
@[simp] theorem State.setPair_log (p : Nat) (k : Pair) : (s.setPair p k).log = s.log := rfl
@[simp] theorem State.setPair_windows (p : Nat) (k : Pair) : (s.setPair p k).windows = s.windows := rfl
@[simp] theorem State.setPair_evPend (p : Nat) (k : Pair) : (s.setPair p k).evPend = s.evPend := rfl
@[simp] theorem State.setPair_msi (p : Nat) (k : Pair) : (s.setPair p k).msi = s.msi := rfl
@[simp] theorem State.setPair_tetherLead (p : Nat) (k : Pair) : (s.setPair p k).tetherLead = s.tetherLead := rfl
@[simp] theorem State.setPair_ctlOut (p : Nat) (k : Pair) : (s.setPair p k).ctlOut = s.ctlOut := rfl
@[simp] theorem State.setPair_hdReqs (p : Nat) (k : Pair) : (s.setPair p k).hdReqs = s.hdReqs := rfl
@[simp] theorem State.setPair_portOut (p : Nat) (k : Pair) : (s.setPair p k).portOut = s.portOut := rfl
@[simp] theorem State.setPair_pmbus (p : Nat) (k : Pair) : (s.setPair p k).pmbus = s.pmbus := rfl
@[simp] theorem State.setPair_warpTx (p : Nat) (k : Pair) : (s.setPair p k).warpTx = s.warpTx := rfl
@[simp] theorem State.setPair_warpRx (p : Nat) (k : Pair) : (s.setPair p k).warpRx = s.warpRx := rfl
@[simp] theorem State.setPair_edge (p : Nat) (k : Pair) : (s.setPair p k).edge = s.edge := rfl
@[simp] theorem State.setPair_warpOut (p : Nat) (k : Pair) : (s.setPair p k).warpOut = s.warpOut := rfl
@[simp] theorem State.setPair_epIn (p : Nat) (k : Pair) : (s.setPair p k).epIn = s.epIn := rfl
@[simp] theorem State.setPair_rings (p : Nat) (k : Pair) : (s.setPair p k).rings = s.rings := rfl
@[simp] theorem State.setPair_lanes (p : Nat) (k : Pair) : (s.setPair p k).lanes = s.lanes := rfl
@[simp] theorem State.setPair_slotRecs (p : Nat) (k : Pair) : (s.setPair p k).slotRecs = s.slotRecs := rfl
@[simp] theorem State.setPair_standMap (p : Nat) (k : Pair) : (s.setPair p k).standMap = s.standMap := rfl
@[simp] theorem State.setPair_switches (p : Nat) (k : Pair) : (s.setPair p k).switches = s.switches := rfl
@[simp] theorem State.setPair_switchOut (p : Nat) (k : Pair) : (s.setPair p k).switchOut = s.switchOut := rfl
@[simp] theorem State.setPair_bobbin (p : Nat) (k : Pair) : (s.setPair p k).bobbin = s.bobbin := rfl
@[simp] theorem State.setPair_laserUp (p : Nat) (k : Pair) : (s.setPair p k).laserUp = s.laserUp := rfl
@[simp] theorem State.setPair_calFront (p : Nat) (k : Pair) : (s.setPair p k).calFront = s.calFront := rfl
@[simp] theorem State.setPair_erasedDie (p : Nat) (k : Pair) : (s.setPair p k).erasedDie = s.erasedDie := rfl
@[simp] theorem State.setPair_remapFlash (p : Nat) (k : Pair) : (s.setPair p k).remapFlash = s.remapFlash := rfl
@[simp] theorem State.setPair_badSpares (p : Nat) (k : Pair) : (s.setPair p k).badSpares = s.badSpares := rfl
@[simp] theorem State.setPair_lastCorr (p : Nat) (k : Pair) : (s.setPair p k).lastCorr = s.lastCorr := rfl
@[simp] theorem State.setPair_remapQual (p : Nat) (k : Pair) : (s.setPair p k).remapQual = s.remapQual := rfl
@[simp] theorem State.setPair_writeBuf (p : Nat) (k : Pair) : (s.setPair p k).writeBuf = s.writeBuf := rfl
@[simp] theorem State.setPair_scrubLine (p : Nat) (k : Pair) : (s.setPair p k).scrubLine = s.scrubLine := rfl
@[simp] theorem State.setPair_scrubFrom (p : Nat) (k : Pair) : (s.setPair p k).scrubFrom = s.scrubFrom := rfl
@[simp] theorem State.setPair_testLines (p : Nat) (k : Pair) : (s.setPair p k).testLines = s.testLines := rfl
@[simp] theorem State.setPair_selfRun (p : Nat) (k : Pair) : (s.setPair p k).selfRun = s.selfRun := rfl
@[simp] theorem State.setPair_pairEnd (p : Nat) (k : Pair) : (s.setPair p k).pairEnd = s.pairEnd := rfl
@[simp] theorem State.setPair_ctlEnd (p : Nat) (k : Pair) : (s.setPair p k).ctlEnd = s.ctlEnd := rfl
@[simp] theorem State.setPair_circOut (p : Nat) (k : Pair) : (s.setPair p k).circOut = s.circOut := rfl
@[simp] theorem State.setPair_bulkCtl (p : Nat) (k : Pair) : (s.setPair p k).bulkCtl = s.bulkCtl := rfl
@[simp] theorem State.setPair_filled (p : Nat) (k : Pair) : (s.setPair p k).filled = s.filled := rfl
@[simp] theorem State.setPair_tags (p : Nat) (k : Pair) : (s.setPair p k).tags = s.tags := rfl
@[simp] theorem State.setPair_chans (p : Nat) (k : Pair) : (s.setPair p k).chans = s.chans := rfl
@[simp] theorem State.setPair_orderHeld (p : Nat) (k : Pair) : (s.setPair p k).orderHeld = s.orderHeld := rfl
@[simp] theorem State.setPair_localHeld (p : Nat) (k : Pair) : (s.setPair p k).localHeld = s.localHeld := rfl
@[simp] theorem State.setPair_filter (p : Nat) (k : Pair) : (s.setPair p k).filter = s.filter := rfl
@[simp] theorem State.setPair_filterHot (p : Nat) (k : Pair) : (s.setPair p k).filterHot = s.filterHot := rfl
@[simp] theorem State.setPair_coldHeld (p : Nat) (k : Pair) : (s.setPair p k).coldHeld = s.coldHeld := rfl
@[simp] theorem State.setPair_stalled (p : Nat) (k : Pair) : (s.setPair p k).stalled = s.stalled := rfl
@[simp] theorem State.setPair_dupHeld (p : Nat) (k : Pair) : (s.setPair p k).dupHeld = s.dupHeld := rfl
@[simp] theorem State.setPair_atomRes (p : Nat) (k : Pair) : (s.setPair p k).atomRes = s.atomRes := rfl
@[simp] theorem State.setPair_rrc (p : Nat) (k : Pair) : (s.setPair p k).rrc = s.rrc := rfl
@[simp] theorem State.setPair_rrcGen (p : Nat) (k : Pair) : (s.setPair p k).rrcGen = s.rrcGen := rfl
@[simp] theorem State.setPair_shch (p : Nat) (k : Pair) : (s.setPair p k).shch = s.shch := rfl
@[simp] theorem State.setPair_arbs (p : Nat) (k : Pair) : (s.setPair p k).arbs = s.arbs := rfl
@[simp] theorem State.setPair_sepochFlash (p : Nat) (k : Pair) : (s.setPair p k).sepochFlash = s.sepochFlash := rfl
@[simp] theorem State.setPair_peerMiss (p : Nat) (k : Pair) : (s.setPair p k).peerMiss = s.peerMiss := rfl
@[simp] theorem State.setPair_streams (p : Nat) (k : Pair) : (s.setPair p k).streams = s.streams := rfl
@[simp] theorem State.setPair_colWait (p : Nat) (k : Pair) : (s.setPair p k).colWait = s.colWait := rfl
@[simp] theorem State.setPair_combs (p : Nat) (k : Pair) : (s.setPair p k).combs = s.combs := rfl
@[simp] theorem State.setPair_repls (p : Nat) (k : Pair) : (s.setPair p k).repls = s.repls := rfl
@[simp] theorem State.setPair_mseq (p : Nat) (k : Pair) : (s.setPair p k).mseq = s.mseq := rfl
@[simp] theorem State.setPair_streamSeq (p : Nat) (k : Pair) : (s.setPair p k).streamSeq = s.streamSeq := rfl
@[simp] theorem State.setPair_mcFilter (p : Nat) (k : Pair) : (s.setPair p k).mcFilter = s.mcFilter := rfl
@[simp] theorem State.setPair_segOut (p : Nat) (k : Pair) : (s.setPair p k).segOut = s.segOut := rfl
@[simp] theorem State.setPair_resendOut (p : Nat) (k : Pair) : (s.setPair p k).resendOut = s.resendOut := rfl
@[simp] theorem State.setPair_ports (p : Nat) (k : Pair) : (s.setPair p k).ports = s.ports := rfl
@[simp] theorem State.setPair_links (p : Nat) (k : Pair) : (s.setPair p k).links = s.links := rfl
@[simp] theorem State.setPair_sfOut (p : Nat) (k : Pair) : (s.setPair p k).sfOut = s.sfOut := rfl
@[simp] theorem State.setPair_meters (p : Nat) (k : Pair) : (s.setPair p k).meters = s.meters := rfl
@[simp] theorem State.setPair_mbQueue (p : Nat) (k : Pair) : (s.setPair p k).mbQueue = s.mbQueue := rfl
@[simp] theorem State.setPair_smbOut (p : Nat) (k : Pair) : (s.setPair p k).smbOut = s.smbOut := rfl
@[simp] theorem State.setPair_tethers (p : Nat) (k : Pair) : (s.setPair p k).tethers = s.tethers := rfl
@[simp] theorem State.setPair_forwarded (p : Nat) (k : Pair) : (s.setPair p k).forwarded = s.forwarded := rfl
@[simp] theorem State.setPair_tetherPolicy (p : Nat) (k : Pair) : (s.setPair p k).tetherPolicy = s.tetherPolicy := rfl
@[simp] theorem State.setPair_stages (p : Nat) (k : Pair) : (s.setPair p k).stages = s.stages := rfl
@[simp] theorem State.setPair_nextStage (p : Nat) (k : Pair) : (s.setPair p k).nextStage = s.nextStage := rfl
@[simp] theorem State.setPair_stageTick (p : Nat) (k : Pair) : (s.setPair p k).stageTick = s.stageTick := rfl
@[simp] theorem State.setPair_upTick (p : Nat) (k : Pair) : (s.setPair p k).upTick = s.upTick := rfl
@[simp] theorem State.setPair_upCfg (p : Nat) (k : Pair) : (s.setPair p k).upCfg = s.upCfg := rfl
@[simp] theorem State.setPair_storedCfg (p : Nat) (k : Pair) : (s.setPair p k).storedCfg = s.storedCfg := rfl
@[simp] theorem State.setPair_runCfg (p : Nat) (k : Pair) : (s.setPair p k).runCfg = s.runCfg := rfl
@[simp] theorem State.setPair_fw (p : Nat) (k : Pair) : (s.setPair p k).fw = s.fw := rfl
@[simp] theorem State.setPair_lc (p : Nat) (k : Pair) : (s.setPair p k).lc = s.lc := rfl
@[simp] theorem State.setPair_ide (p : Nat) (k : Pair) : (s.setPair p k).ide = s.ide := rfl
@[simp] theorem State.setPair_spdm (p : Nat) (k : Pair) : (s.setPair p k).spdm = s.spdm := rfl
@[simp] theorem State.setPair_spdmOut (p : Nat) (k : Pair) : (s.setPair p k).spdmOut = s.spdmOut := rfl
@[simp] theorem State.setPair_eid (p : Nat) (k : Pair) : (s.setPair p k).eid = s.eid := rfl
@[simp] theorem State.setPair_powerOff (p : Nat) (k : Pair) : (s.setPair p k).powerOff = s.powerOff := rfl
@[simp] theorem State.setPair_inReset (p : Nat) (k : Pair) : (s.setPair p k).inReset = s.inReset := rfl
@[simp] theorem State.setPair_brake (p : Nat) (k : Pair) : (s.setPair p k).brake = s.brake := rfl
@[simp] theorem State.setPair_clock (p : Nat) (k : Pair) : (s.setPair p k).clock = s.clock := rfl
@[simp] theorem State.setPair_capping (p : Nat) (k : Pair) : (s.setPair p k).capping = s.capping := rfl
@[simp] theorem State.setPair_sensors (p : Nat) (k : Pair) : (s.setPair p k).sensors = s.sensors := rfl
@[simp] theorem State.setPair_hotRun (p : Nat) (k : Pair) : (s.setPair p k).hotRun = s.hotRun := rfl
@[simp] theorem State.setPair_thermCalm (p : Nat) (k : Pair) : (s.setPair p k).thermCalm = s.thermCalm := rfl
@[simp] theorem State.setPair_stackTemp (p : Nat) (k : Pair) : (s.setPair p k).stackTemp = s.stackTemp := rfl
@[simp] theorem State.setPair_shutTick (p : Nat) (k : Pair) : (s.setPair p k).shutTick = s.shutTick := rfl
@[simp] theorem State.setPair_shutLog (p : Nat) (k : Pair) : (s.setPair p k).shutLog = s.shutLog := rfl
@[simp] theorem State.setPair_wasShut (p : Nat) (k : Pair) : (s.setPair p k).wasShut = s.wasShut := rfl
@[simp] theorem State.setPair_resetDue (p : Nat) (k : Pair) : (s.setPair p k).resetDue = s.resetDue := rfl
@[simp] theorem State.setPair_readOut (p : Nat) (k : Pair) : (s.setPair p k).readOut = s.readOut := rfl
@[simp] theorem State.setPair_late (p : Nat) (k : Pair) : (s.setPair p k).late = s.late := rfl

/-! ## `State.setGrp` -/
@[simp] theorem State.setGrp_slotEls (g : Nat) (k : Grp) : (s.setGrp g k).slotEls = s.slotEls := rfl
@[simp] theorem State.setGrp_phaseEls (g : Nat) (k : Grp) : (s.setGrp g k).phaseEls = s.phaseEls := rfl
@[simp] theorem State.setGrp_fanEls (g : Nat) (k : Grp) : (s.setGrp g k).fanEls = s.fanEls := rfl
@[simp] theorem State.setGrp_stuEls (g : Nat) (k : Grp) : (s.setGrp g k).stuEls = s.stuEls := rfl
@[simp] theorem State.setGrp_stdEls (g : Nat) (k : Grp) : (s.setGrp g k).stdEls = s.stdEls := rfl
@[simp] theorem State.setGrp_standSince (g : Nat) (k : Grp) : (s.setGrp g k).standSince = s.standSince := rfl
@[simp] theorem State.setGrp_weftIn (g : Nat) (k : Grp) : (s.setGrp g k).weftIn = s.weftIn := rfl
@[simp] theorem State.setGrp_weftTx (g : Nat) (k : Grp) : (s.setGrp g k).weftTx = s.weftTx := rfl
@[simp] theorem State.setGrp_weftOut (g : Nat) (k : Grp) : (s.setGrp g k).weftOut = s.weftOut := rfl
@[simp] theorem State.setGrp_weftScr (g : Nat) (k : Grp) : (s.setGrp g k).weftScr = s.weftScr := rfl
@[simp] theorem State.setGrp_weftBad (g : Nat) (k : Grp) : (s.setGrp g k).weftBad = s.weftBad := rfl
@[simp] theorem State.setGrp_censusDone (g : Nat) (k : Grp) : (s.setGrp g k).censusDone = s.censusDone := rfl
@[simp] theorem State.setGrp_censusAt (g : Nat) (k : Grp) : (s.setGrp g k).censusAt = s.censusAt := rfl
@[simp] theorem State.setGrp_censusFrom (g : Nat) (k : Grp) : (s.setGrp g k).censusFrom = s.censusFrom := rfl
@[simp] theorem State.setGrp_bootLc (g : Nat) (k : Grp) : (s.setGrp g k).bootLc = s.bootLc := rfl
@[simp] theorem State.setGrp_bulkKeys (g : Nat) (k : Grp) : (s.setGrp g k).bulkKeys = s.bulkKeys := rfl
@[simp] theorem State.setGrp_keySeq (g : Nat) (k : Grp) : (s.setGrp g k).keySeq = s.keySeq := rfl
@[simp] theorem State.setGrp_draftMeas (g : Nat) (k : Grp) : (s.setGrp g k).draftMeas = s.draftMeas := rfl
@[simp] theorem State.setGrp_meterSeq (g : Nat) (k : Grp) : (s.setGrp g k).meterSeq = s.meterSeq := rfl
@[simp] theorem State.setGrp_spill (g : Nat) (k : Grp) : (s.setGrp g k).spill = s.spill := rfl
@[simp] theorem State.setGrp_meterChk (g : Nat) (k : Grp) : (s.setGrp g k).meterChk = s.meterChk := rfl
@[simp] theorem State.setGrp_energyTenths (g : Nat) (k : Grp) : (s.setGrp g k).energyTenths = s.energyTenths := rfl
@[simp] theorem State.setGrp_meterPrev (g : Nat) (k : Grp) : (s.setGrp g k).meterPrev = s.meterPrev := rfl
@[simp] theorem State.setGrp_pending (g : Nat) (k : Grp) : (s.setGrp g k).pending = s.pending := rfl
@[simp] theorem State.setGrp_free (g : Nat) (k : Grp) : (s.setGrp g k).free = s.free := rfl
@[simp] theorem State.setGrp_tick (g : Nat) (k : Grp) : (s.setGrp g k).tick = s.tick := rfl
@[simp] theorem State.setGrp_nsPhase (g : Nat) (k : Grp) : (s.setGrp g k).nsPhase = s.nsPhase := rfl
@[simp] theorem State.setGrp_beatPhase (g : Nat) (k : Grp) : (s.setGrp g k).beatPhase = s.beatPhase := rfl
@[simp] theorem State.setGrp_regs (g : Nat) (k : Grp) : (s.setGrp g k).regs = s.regs := rfl
@[simp] theorem State.setGrp_hwSet (g : Nat) (k : Grp) : (s.setGrp g k).hwSet = s.hwSet := rfl
@[simp] theorem State.setGrp_evcSet (g : Nat) (k : Grp) : (s.setGrp g k).evcSet = s.evcSet := rfl
@[simp] theorem State.setGrp_mem (g : Nat) (k : Grp) : (s.setGrp g k).mem = s.mem := rfl
@[simp] theorem State.setGrp_ecc (g : Nat) (k : Grp) : (s.setGrp g k).ecc = s.ecc := rfl
@[simp] theorem State.setGrp_cores (g : Nat) (k : Grp) : (s.setGrp g k).cores = s.cores := rfl
@[simp] theorem State.setGrp_dstore (g : Nat) (k : Grp) : (s.setGrp g k).dstore = s.dstore := rfl
@[simp] theorem State.setGrp_scrub (g : Nat) (k : Grp) : (s.setGrp g k).scrub = s.scrub := rfl
@[simp] theorem State.setGrp_pools (g : Nat) (k : Grp) : (s.setGrp g k).pools = s.pools := rfl
@[simp] theorem State.setGrp_kpend (g : Nat) (k : Grp) : (s.setGrp g k).kpend = s.kpend := rfl
@[simp] theorem State.setGrp_poolOps (g : Nat) (k : Grp) : (s.setGrp g k).poolOps = s.poolOps := rfl
@[simp] theorem State.setGrp_pairs (g : Nat) (k : Grp) : (s.setGrp g k).pairs = s.pairs := rfl
@[simp] theorem State.setGrp_parts (g : Nat) (k : Grp) : (s.setGrp g k).parts = s.parts := rfl
@[simp] theorem State.setGrp_gens (g : Nat) (k : Grp) : (s.setGrp g k).gens = s.gens := rfl
@[simp] theorem State.setGrp_recSeq (g : Nat) (k : Grp) : (s.setGrp g k).recSeq = s.recSeq := rfl
@[simp] theorem State.setGrp_recBuf (g : Nat) (k : Grp) : (s.setGrp g k).recBuf = s.recBuf := rfl
@[simp] theorem State.setGrp_log (g : Nat) (k : Grp) : (s.setGrp g k).log = s.log := rfl
@[simp] theorem State.setGrp_windows (g : Nat) (k : Grp) : (s.setGrp g k).windows = s.windows := rfl
@[simp] theorem State.setGrp_evPend (g : Nat) (k : Grp) : (s.setGrp g k).evPend = s.evPend := rfl
@[simp] theorem State.setGrp_msi (g : Nat) (k : Grp) : (s.setGrp g k).msi = s.msi := rfl
@[simp] theorem State.setGrp_tetherLead (g : Nat) (k : Grp) : (s.setGrp g k).tetherLead = s.tetherLead := rfl
@[simp] theorem State.setGrp_ctlOut (g : Nat) (k : Grp) : (s.setGrp g k).ctlOut = s.ctlOut := rfl
@[simp] theorem State.setGrp_hdReqs (g : Nat) (k : Grp) : (s.setGrp g k).hdReqs = s.hdReqs := rfl
@[simp] theorem State.setGrp_portOut (g : Nat) (k : Grp) : (s.setGrp g k).portOut = s.portOut := rfl
@[simp] theorem State.setGrp_pmbus (g : Nat) (k : Grp) : (s.setGrp g k).pmbus = s.pmbus := rfl
@[simp] theorem State.setGrp_warpTx (g : Nat) (k : Grp) : (s.setGrp g k).warpTx = s.warpTx := rfl
@[simp] theorem State.setGrp_warpRx (g : Nat) (k : Grp) : (s.setGrp g k).warpRx = s.warpRx := rfl
@[simp] theorem State.setGrp_edge (g : Nat) (k : Grp) : (s.setGrp g k).edge = s.edge := rfl
@[simp] theorem State.setGrp_warpOut (g : Nat) (k : Grp) : (s.setGrp g k).warpOut = s.warpOut := rfl
@[simp] theorem State.setGrp_epIn (g : Nat) (k : Grp) : (s.setGrp g k).epIn = s.epIn := rfl
@[simp] theorem State.setGrp_rings (g : Nat) (k : Grp) : (s.setGrp g k).rings = s.rings := rfl
@[simp] theorem State.setGrp_lanes (g : Nat) (k : Grp) : (s.setGrp g k).lanes = s.lanes := rfl
@[simp] theorem State.setGrp_slotRecs (g : Nat) (k : Grp) : (s.setGrp g k).slotRecs = s.slotRecs := rfl
@[simp] theorem State.setGrp_standMap (g : Nat) (k : Grp) : (s.setGrp g k).standMap = s.standMap := rfl
@[simp] theorem State.setGrp_switches (g : Nat) (k : Grp) : (s.setGrp g k).switches = s.switches := rfl
@[simp] theorem State.setGrp_switchOut (g : Nat) (k : Grp) : (s.setGrp g k).switchOut = s.switchOut := rfl
@[simp] theorem State.setGrp_bobbin (g : Nat) (k : Grp) : (s.setGrp g k).bobbin = s.bobbin := rfl
@[simp] theorem State.setGrp_laserUp (g : Nat) (k : Grp) : (s.setGrp g k).laserUp = s.laserUp := rfl
@[simp] theorem State.setGrp_calFront (g : Nat) (k : Grp) : (s.setGrp g k).calFront = s.calFront := rfl
@[simp] theorem State.setGrp_erasedDie (g : Nat) (k : Grp) : (s.setGrp g k).erasedDie = s.erasedDie := rfl
@[simp] theorem State.setGrp_remapFlash (g : Nat) (k : Grp) : (s.setGrp g k).remapFlash = s.remapFlash := rfl
@[simp] theorem State.setGrp_badSpares (g : Nat) (k : Grp) : (s.setGrp g k).badSpares = s.badSpares := rfl
@[simp] theorem State.setGrp_lastCorr (g : Nat) (k : Grp) : (s.setGrp g k).lastCorr = s.lastCorr := rfl
@[simp] theorem State.setGrp_remapQual (g : Nat) (k : Grp) : (s.setGrp g k).remapQual = s.remapQual := rfl
@[simp] theorem State.setGrp_writeBuf (g : Nat) (k : Grp) : (s.setGrp g k).writeBuf = s.writeBuf := rfl
@[simp] theorem State.setGrp_scrubLine (g : Nat) (k : Grp) : (s.setGrp g k).scrubLine = s.scrubLine := rfl
@[simp] theorem State.setGrp_scrubFrom (g : Nat) (k : Grp) : (s.setGrp g k).scrubFrom = s.scrubFrom := rfl
@[simp] theorem State.setGrp_testLines (g : Nat) (k : Grp) : (s.setGrp g k).testLines = s.testLines := rfl
@[simp] theorem State.setGrp_selfRun (g : Nat) (k : Grp) : (s.setGrp g k).selfRun = s.selfRun := rfl
@[simp] theorem State.setGrp_pairEnd (g : Nat) (k : Grp) : (s.setGrp g k).pairEnd = s.pairEnd := rfl
@[simp] theorem State.setGrp_ctlEnd (g : Nat) (k : Grp) : (s.setGrp g k).ctlEnd = s.ctlEnd := rfl
@[simp] theorem State.setGrp_circOut (g : Nat) (k : Grp) : (s.setGrp g k).circOut = s.circOut := rfl
@[simp] theorem State.setGrp_bulkCtl (g : Nat) (k : Grp) : (s.setGrp g k).bulkCtl = s.bulkCtl := rfl
@[simp] theorem State.setGrp_filled (g : Nat) (k : Grp) : (s.setGrp g k).filled = s.filled := rfl
@[simp] theorem State.setGrp_tags (g : Nat) (k : Grp) : (s.setGrp g k).tags = s.tags := rfl
@[simp] theorem State.setGrp_chans (g : Nat) (k : Grp) : (s.setGrp g k).chans = s.chans := rfl
@[simp] theorem State.setGrp_orderHeld (g : Nat) (k : Grp) : (s.setGrp g k).orderHeld = s.orderHeld := rfl
@[simp] theorem State.setGrp_localHeld (g : Nat) (k : Grp) : (s.setGrp g k).localHeld = s.localHeld := rfl
@[simp] theorem State.setGrp_filter (g : Nat) (k : Grp) : (s.setGrp g k).filter = s.filter := rfl
@[simp] theorem State.setGrp_filterHot (g : Nat) (k : Grp) : (s.setGrp g k).filterHot = s.filterHot := rfl
@[simp] theorem State.setGrp_coldHeld (g : Nat) (k : Grp) : (s.setGrp g k).coldHeld = s.coldHeld := rfl
@[simp] theorem State.setGrp_stalled (g : Nat) (k : Grp) : (s.setGrp g k).stalled = s.stalled := rfl
@[simp] theorem State.setGrp_dupHeld (g : Nat) (k : Grp) : (s.setGrp g k).dupHeld = s.dupHeld := rfl
@[simp] theorem State.setGrp_atomRes (g : Nat) (k : Grp) : (s.setGrp g k).atomRes = s.atomRes := rfl
@[simp] theorem State.setGrp_rrc (g : Nat) (k : Grp) : (s.setGrp g k).rrc = s.rrc := rfl
@[simp] theorem State.setGrp_rrcGen (g : Nat) (k : Grp) : (s.setGrp g k).rrcGen = s.rrcGen := rfl
@[simp] theorem State.setGrp_shch (g : Nat) (k : Grp) : (s.setGrp g k).shch = s.shch := rfl
@[simp] theorem State.setGrp_arbs (g : Nat) (k : Grp) : (s.setGrp g k).arbs = s.arbs := rfl
@[simp] theorem State.setGrp_sepochFlash (g : Nat) (k : Grp) : (s.setGrp g k).sepochFlash = s.sepochFlash := rfl
@[simp] theorem State.setGrp_peerMiss (g : Nat) (k : Grp) : (s.setGrp g k).peerMiss = s.peerMiss := rfl
@[simp] theorem State.setGrp_streams (g : Nat) (k : Grp) : (s.setGrp g k).streams = s.streams := rfl
@[simp] theorem State.setGrp_colWait (g : Nat) (k : Grp) : (s.setGrp g k).colWait = s.colWait := rfl
@[simp] theorem State.setGrp_combs (g : Nat) (k : Grp) : (s.setGrp g k).combs = s.combs := rfl
@[simp] theorem State.setGrp_repls (g : Nat) (k : Grp) : (s.setGrp g k).repls = s.repls := rfl
@[simp] theorem State.setGrp_mseq (g : Nat) (k : Grp) : (s.setGrp g k).mseq = s.mseq := rfl
@[simp] theorem State.setGrp_streamSeq (g : Nat) (k : Grp) : (s.setGrp g k).streamSeq = s.streamSeq := rfl
@[simp] theorem State.setGrp_mcFilter (g : Nat) (k : Grp) : (s.setGrp g k).mcFilter = s.mcFilter := rfl
@[simp] theorem State.setGrp_segOut (g : Nat) (k : Grp) : (s.setGrp g k).segOut = s.segOut := rfl
@[simp] theorem State.setGrp_resendOut (g : Nat) (k : Grp) : (s.setGrp g k).resendOut = s.resendOut := rfl
@[simp] theorem State.setGrp_ports (g : Nat) (k : Grp) : (s.setGrp g k).ports = s.ports := rfl
@[simp] theorem State.setGrp_links (g : Nat) (k : Grp) : (s.setGrp g k).links = s.links := rfl
@[simp] theorem State.setGrp_sfOut (g : Nat) (k : Grp) : (s.setGrp g k).sfOut = s.sfOut := rfl
@[simp] theorem State.setGrp_meters (g : Nat) (k : Grp) : (s.setGrp g k).meters = s.meters := rfl
@[simp] theorem State.setGrp_mbQueue (g : Nat) (k : Grp) : (s.setGrp g k).mbQueue = s.mbQueue := rfl
@[simp] theorem State.setGrp_smbOut (g : Nat) (k : Grp) : (s.setGrp g k).smbOut = s.smbOut := rfl
@[simp] theorem State.setGrp_tethers (g : Nat) (k : Grp) : (s.setGrp g k).tethers = s.tethers := rfl
@[simp] theorem State.setGrp_forwarded (g : Nat) (k : Grp) : (s.setGrp g k).forwarded = s.forwarded := rfl
@[simp] theorem State.setGrp_tetherPolicy (g : Nat) (k : Grp) : (s.setGrp g k).tetherPolicy = s.tetherPolicy := rfl
@[simp] theorem State.setGrp_stages (g : Nat) (k : Grp) : (s.setGrp g k).stages = s.stages := rfl
@[simp] theorem State.setGrp_nextStage (g : Nat) (k : Grp) : (s.setGrp g k).nextStage = s.nextStage := rfl
@[simp] theorem State.setGrp_stageTick (g : Nat) (k : Grp) : (s.setGrp g k).stageTick = s.stageTick := rfl
@[simp] theorem State.setGrp_upTick (g : Nat) (k : Grp) : (s.setGrp g k).upTick = s.upTick := rfl
@[simp] theorem State.setGrp_upCfg (g : Nat) (k : Grp) : (s.setGrp g k).upCfg = s.upCfg := rfl
@[simp] theorem State.setGrp_storedCfg (g : Nat) (k : Grp) : (s.setGrp g k).storedCfg = s.storedCfg := rfl
@[simp] theorem State.setGrp_runCfg (g : Nat) (k : Grp) : (s.setGrp g k).runCfg = s.runCfg := rfl
@[simp] theorem State.setGrp_fw (g : Nat) (k : Grp) : (s.setGrp g k).fw = s.fw := rfl
@[simp] theorem State.setGrp_lc (g : Nat) (k : Grp) : (s.setGrp g k).lc = s.lc := rfl
@[simp] theorem State.setGrp_ide (g : Nat) (k : Grp) : (s.setGrp g k).ide = s.ide := rfl
@[simp] theorem State.setGrp_spdm (g : Nat) (k : Grp) : (s.setGrp g k).spdm = s.spdm := rfl
@[simp] theorem State.setGrp_spdmOut (g : Nat) (k : Grp) : (s.setGrp g k).spdmOut = s.spdmOut := rfl
@[simp] theorem State.setGrp_eid (g : Nat) (k : Grp) : (s.setGrp g k).eid = s.eid := rfl
@[simp] theorem State.setGrp_powerOff (g : Nat) (k : Grp) : (s.setGrp g k).powerOff = s.powerOff := rfl
@[simp] theorem State.setGrp_inReset (g : Nat) (k : Grp) : (s.setGrp g k).inReset = s.inReset := rfl
@[simp] theorem State.setGrp_brake (g : Nat) (k : Grp) : (s.setGrp g k).brake = s.brake := rfl
@[simp] theorem State.setGrp_clock (g : Nat) (k : Grp) : (s.setGrp g k).clock = s.clock := rfl
@[simp] theorem State.setGrp_capping (g : Nat) (k : Grp) : (s.setGrp g k).capping = s.capping := rfl
@[simp] theorem State.setGrp_sensors (g : Nat) (k : Grp) : (s.setGrp g k).sensors = s.sensors := rfl
@[simp] theorem State.setGrp_hotRun (g : Nat) (k : Grp) : (s.setGrp g k).hotRun = s.hotRun := rfl
@[simp] theorem State.setGrp_thermCalm (g : Nat) (k : Grp) : (s.setGrp g k).thermCalm = s.thermCalm := rfl
@[simp] theorem State.setGrp_stackTemp (g : Nat) (k : Grp) : (s.setGrp g k).stackTemp = s.stackTemp := rfl
@[simp] theorem State.setGrp_shutTick (g : Nat) (k : Grp) : (s.setGrp g k).shutTick = s.shutTick := rfl
@[simp] theorem State.setGrp_shutLog (g : Nat) (k : Grp) : (s.setGrp g k).shutLog = s.shutLog := rfl
@[simp] theorem State.setGrp_wasShut (g : Nat) (k : Grp) : (s.setGrp g k).wasShut = s.wasShut := rfl
@[simp] theorem State.setGrp_resetDue (g : Nat) (k : Grp) : (s.setGrp g k).resetDue = s.resetDue := rfl
@[simp] theorem State.setGrp_readOut (g : Nat) (k : Grp) : (s.setGrp g k).readOut = s.readOut := rfl
@[simp] theorem State.setGrp_late (g : Nat) (k : Grp) : (s.setGrp g k).late = s.late := rfl

/-! ## `State.setKp` -/
@[simp] theorem State.setKp_slotEls (a : Nat) (k : KnotPend) : (s.setKp a k).slotEls = s.slotEls := rfl
@[simp] theorem State.setKp_phaseEls (a : Nat) (k : KnotPend) : (s.setKp a k).phaseEls = s.phaseEls := rfl
@[simp] theorem State.setKp_fanEls (a : Nat) (k : KnotPend) : (s.setKp a k).fanEls = s.fanEls := rfl
@[simp] theorem State.setKp_stuEls (a : Nat) (k : KnotPend) : (s.setKp a k).stuEls = s.stuEls := rfl
@[simp] theorem State.setKp_stdEls (a : Nat) (k : KnotPend) : (s.setKp a k).stdEls = s.stdEls := rfl
@[simp] theorem State.setKp_standSince (a : Nat) (k : KnotPend) : (s.setKp a k).standSince = s.standSince := rfl
@[simp] theorem State.setKp_weftIn (a : Nat) (k : KnotPend) : (s.setKp a k).weftIn = s.weftIn := rfl
@[simp] theorem State.setKp_weftTx (a : Nat) (k : KnotPend) : (s.setKp a k).weftTx = s.weftTx := rfl
@[simp] theorem State.setKp_weftOut (a : Nat) (k : KnotPend) : (s.setKp a k).weftOut = s.weftOut := rfl
@[simp] theorem State.setKp_weftScr (a : Nat) (k : KnotPend) : (s.setKp a k).weftScr = s.weftScr := rfl
@[simp] theorem State.setKp_weftBad (a : Nat) (k : KnotPend) : (s.setKp a k).weftBad = s.weftBad := rfl
@[simp] theorem State.setKp_censusDone (a : Nat) (k : KnotPend) : (s.setKp a k).censusDone = s.censusDone := rfl
@[simp] theorem State.setKp_censusAt (a : Nat) (k : KnotPend) : (s.setKp a k).censusAt = s.censusAt := rfl
@[simp] theorem State.setKp_censusFrom (a : Nat) (k : KnotPend) : (s.setKp a k).censusFrom = s.censusFrom := rfl
@[simp] theorem State.setKp_bootLc (a : Nat) (k : KnotPend) : (s.setKp a k).bootLc = s.bootLc := rfl
@[simp] theorem State.setKp_bulkKeys (a : Nat) (k : KnotPend) : (s.setKp a k).bulkKeys = s.bulkKeys := rfl
@[simp] theorem State.setKp_keySeq (a : Nat) (k : KnotPend) : (s.setKp a k).keySeq = s.keySeq := rfl
@[simp] theorem State.setKp_draftMeas (a : Nat) (k : KnotPend) : (s.setKp a k).draftMeas = s.draftMeas := rfl
@[simp] theorem State.setKp_meterSeq (a : Nat) (k : KnotPend) : (s.setKp a k).meterSeq = s.meterSeq := rfl
@[simp] theorem State.setKp_spill (a : Nat) (k : KnotPend) : (s.setKp a k).spill = s.spill := rfl
@[simp] theorem State.setKp_meterChk (a : Nat) (k : KnotPend) : (s.setKp a k).meterChk = s.meterChk := rfl
@[simp] theorem State.setKp_energyTenths (a : Nat) (k : KnotPend) : (s.setKp a k).energyTenths = s.energyTenths := rfl
@[simp] theorem State.setKp_meterPrev (a : Nat) (k : KnotPend) : (s.setKp a k).meterPrev = s.meterPrev := rfl
@[simp] theorem State.setKp_pending (a : Nat) (k : KnotPend) : (s.setKp a k).pending = s.pending := rfl
@[simp] theorem State.setKp_free (a : Nat) (k : KnotPend) : (s.setKp a k).free = s.free := rfl
@[simp] theorem State.setKp_tick (a : Nat) (k : KnotPend) : (s.setKp a k).tick = s.tick := rfl
@[simp] theorem State.setKp_nsPhase (a : Nat) (k : KnotPend) : (s.setKp a k).nsPhase = s.nsPhase := rfl
@[simp] theorem State.setKp_beatPhase (a : Nat) (k : KnotPend) : (s.setKp a k).beatPhase = s.beatPhase := rfl
@[simp] theorem State.setKp_regs (a : Nat) (k : KnotPend) : (s.setKp a k).regs = s.regs := rfl
@[simp] theorem State.setKp_hwSet (a : Nat) (k : KnotPend) : (s.setKp a k).hwSet = s.hwSet := rfl
@[simp] theorem State.setKp_evcSet (a : Nat) (k : KnotPend) : (s.setKp a k).evcSet = s.evcSet := rfl
@[simp] theorem State.setKp_mem (a : Nat) (k : KnotPend) : (s.setKp a k).mem = s.mem := rfl
@[simp] theorem State.setKp_ecc (a : Nat) (k : KnotPend) : (s.setKp a k).ecc = s.ecc := rfl
@[simp] theorem State.setKp_cores (a : Nat) (k : KnotPend) : (s.setKp a k).cores = s.cores := rfl
@[simp] theorem State.setKp_dstore (a : Nat) (k : KnotPend) : (s.setKp a k).dstore = s.dstore := rfl
@[simp] theorem State.setKp_scrub (a : Nat) (k : KnotPend) : (s.setKp a k).scrub = s.scrub := rfl
@[simp] theorem State.setKp_pools (a : Nat) (k : KnotPend) : (s.setKp a k).pools = s.pools := rfl
@[simp] theorem State.setKp_poolOps (a : Nat) (k : KnotPend) : (s.setKp a k).poolOps = s.poolOps := rfl
@[simp] theorem State.setKp_pairs (a : Nat) (k : KnotPend) : (s.setKp a k).pairs = s.pairs := rfl
@[simp] theorem State.setKp_groups (a : Nat) (k : KnotPend) : (s.setKp a k).groups = s.groups := rfl
@[simp] theorem State.setKp_parts (a : Nat) (k : KnotPend) : (s.setKp a k).parts = s.parts := rfl
@[simp] theorem State.setKp_gens (a : Nat) (k : KnotPend) : (s.setKp a k).gens = s.gens := rfl
@[simp] theorem State.setKp_recSeq (a : Nat) (k : KnotPend) : (s.setKp a k).recSeq = s.recSeq := rfl
@[simp] theorem State.setKp_recBuf (a : Nat) (k : KnotPend) : (s.setKp a k).recBuf = s.recBuf := rfl
@[simp] theorem State.setKp_log (a : Nat) (k : KnotPend) : (s.setKp a k).log = s.log := rfl
@[simp] theorem State.setKp_windows (a : Nat) (k : KnotPend) : (s.setKp a k).windows = s.windows := rfl
@[simp] theorem State.setKp_evPend (a : Nat) (k : KnotPend) : (s.setKp a k).evPend = s.evPend := rfl
@[simp] theorem State.setKp_msi (a : Nat) (k : KnotPend) : (s.setKp a k).msi = s.msi := rfl
@[simp] theorem State.setKp_tetherLead (a : Nat) (k : KnotPend) : (s.setKp a k).tetherLead = s.tetherLead := rfl
@[simp] theorem State.setKp_ctlOut (a : Nat) (k : KnotPend) : (s.setKp a k).ctlOut = s.ctlOut := rfl
@[simp] theorem State.setKp_hdReqs (a : Nat) (k : KnotPend) : (s.setKp a k).hdReqs = s.hdReqs := rfl
@[simp] theorem State.setKp_portOut (a : Nat) (k : KnotPend) : (s.setKp a k).portOut = s.portOut := rfl
@[simp] theorem State.setKp_pmbus (a : Nat) (k : KnotPend) : (s.setKp a k).pmbus = s.pmbus := rfl
@[simp] theorem State.setKp_warpTx (a : Nat) (k : KnotPend) : (s.setKp a k).warpTx = s.warpTx := rfl
@[simp] theorem State.setKp_warpRx (a : Nat) (k : KnotPend) : (s.setKp a k).warpRx = s.warpRx := rfl
@[simp] theorem State.setKp_edge (a : Nat) (k : KnotPend) : (s.setKp a k).edge = s.edge := rfl
@[simp] theorem State.setKp_warpOut (a : Nat) (k : KnotPend) : (s.setKp a k).warpOut = s.warpOut := rfl
@[simp] theorem State.setKp_epIn (a : Nat) (k : KnotPend) : (s.setKp a k).epIn = s.epIn := rfl
@[simp] theorem State.setKp_rings (a : Nat) (k : KnotPend) : (s.setKp a k).rings = s.rings := rfl
@[simp] theorem State.setKp_lanes (a : Nat) (k : KnotPend) : (s.setKp a k).lanes = s.lanes := rfl
@[simp] theorem State.setKp_slotRecs (a : Nat) (k : KnotPend) : (s.setKp a k).slotRecs = s.slotRecs := rfl
@[simp] theorem State.setKp_standMap (a : Nat) (k : KnotPend) : (s.setKp a k).standMap = s.standMap := rfl
@[simp] theorem State.setKp_switches (a : Nat) (k : KnotPend) : (s.setKp a k).switches = s.switches := rfl
@[simp] theorem State.setKp_switchOut (a : Nat) (k : KnotPend) : (s.setKp a k).switchOut = s.switchOut := rfl
@[simp] theorem State.setKp_bobbin (a : Nat) (k : KnotPend) : (s.setKp a k).bobbin = s.bobbin := rfl
@[simp] theorem State.setKp_laserUp (a : Nat) (k : KnotPend) : (s.setKp a k).laserUp = s.laserUp := rfl
@[simp] theorem State.setKp_calFront (a : Nat) (k : KnotPend) : (s.setKp a k).calFront = s.calFront := rfl
@[simp] theorem State.setKp_erasedDie (a : Nat) (k : KnotPend) : (s.setKp a k).erasedDie = s.erasedDie := rfl
@[simp] theorem State.setKp_remapFlash (a : Nat) (k : KnotPend) : (s.setKp a k).remapFlash = s.remapFlash := rfl
@[simp] theorem State.setKp_badSpares (a : Nat) (k : KnotPend) : (s.setKp a k).badSpares = s.badSpares := rfl
@[simp] theorem State.setKp_lastCorr (a : Nat) (k : KnotPend) : (s.setKp a k).lastCorr = s.lastCorr := rfl
@[simp] theorem State.setKp_remapQual (a : Nat) (k : KnotPend) : (s.setKp a k).remapQual = s.remapQual := rfl
@[simp] theorem State.setKp_writeBuf (a : Nat) (k : KnotPend) : (s.setKp a k).writeBuf = s.writeBuf := rfl
@[simp] theorem State.setKp_scrubLine (a : Nat) (k : KnotPend) : (s.setKp a k).scrubLine = s.scrubLine := rfl
@[simp] theorem State.setKp_scrubFrom (a : Nat) (k : KnotPend) : (s.setKp a k).scrubFrom = s.scrubFrom := rfl
@[simp] theorem State.setKp_testLines (a : Nat) (k : KnotPend) : (s.setKp a k).testLines = s.testLines := rfl
@[simp] theorem State.setKp_selfRun (a : Nat) (k : KnotPend) : (s.setKp a k).selfRun = s.selfRun := rfl
@[simp] theorem State.setKp_pairEnd (a : Nat) (k : KnotPend) : (s.setKp a k).pairEnd = s.pairEnd := rfl
@[simp] theorem State.setKp_ctlEnd (a : Nat) (k : KnotPend) : (s.setKp a k).ctlEnd = s.ctlEnd := rfl
@[simp] theorem State.setKp_circOut (a : Nat) (k : KnotPend) : (s.setKp a k).circOut = s.circOut := rfl
@[simp] theorem State.setKp_bulkCtl (a : Nat) (k : KnotPend) : (s.setKp a k).bulkCtl = s.bulkCtl := rfl
@[simp] theorem State.setKp_filled (a : Nat) (k : KnotPend) : (s.setKp a k).filled = s.filled := rfl
@[simp] theorem State.setKp_tags (a : Nat) (k : KnotPend) : (s.setKp a k).tags = s.tags := rfl
@[simp] theorem State.setKp_chans (a : Nat) (k : KnotPend) : (s.setKp a k).chans = s.chans := rfl
@[simp] theorem State.setKp_orderHeld (a : Nat) (k : KnotPend) : (s.setKp a k).orderHeld = s.orderHeld := rfl
@[simp] theorem State.setKp_localHeld (a : Nat) (k : KnotPend) : (s.setKp a k).localHeld = s.localHeld := rfl
@[simp] theorem State.setKp_filter (a : Nat) (k : KnotPend) : (s.setKp a k).filter = s.filter := rfl
@[simp] theorem State.setKp_filterHot (a : Nat) (k : KnotPend) : (s.setKp a k).filterHot = s.filterHot := rfl
@[simp] theorem State.setKp_coldHeld (a : Nat) (k : KnotPend) : (s.setKp a k).coldHeld = s.coldHeld := rfl
@[simp] theorem State.setKp_stalled (a : Nat) (k : KnotPend) : (s.setKp a k).stalled = s.stalled := rfl
@[simp] theorem State.setKp_dupHeld (a : Nat) (k : KnotPend) : (s.setKp a k).dupHeld = s.dupHeld := rfl
@[simp] theorem State.setKp_atomRes (a : Nat) (k : KnotPend) : (s.setKp a k).atomRes = s.atomRes := rfl
@[simp] theorem State.setKp_rrc (a : Nat) (k : KnotPend) : (s.setKp a k).rrc = s.rrc := rfl
@[simp] theorem State.setKp_rrcGen (a : Nat) (k : KnotPend) : (s.setKp a k).rrcGen = s.rrcGen := rfl
@[simp] theorem State.setKp_shch (a : Nat) (k : KnotPend) : (s.setKp a k).shch = s.shch := rfl
@[simp] theorem State.setKp_arbs (a : Nat) (k : KnotPend) : (s.setKp a k).arbs = s.arbs := rfl
@[simp] theorem State.setKp_sepochFlash (a : Nat) (k : KnotPend) : (s.setKp a k).sepochFlash = s.sepochFlash := rfl
@[simp] theorem State.setKp_peerMiss (a : Nat) (k : KnotPend) : (s.setKp a k).peerMiss = s.peerMiss := rfl
@[simp] theorem State.setKp_streams (a : Nat) (k : KnotPend) : (s.setKp a k).streams = s.streams := rfl
@[simp] theorem State.setKp_colWait (a : Nat) (k : KnotPend) : (s.setKp a k).colWait = s.colWait := rfl
@[simp] theorem State.setKp_combs (a : Nat) (k : KnotPend) : (s.setKp a k).combs = s.combs := rfl
@[simp] theorem State.setKp_repls (a : Nat) (k : KnotPend) : (s.setKp a k).repls = s.repls := rfl
@[simp] theorem State.setKp_mseq (a : Nat) (k : KnotPend) : (s.setKp a k).mseq = s.mseq := rfl
@[simp] theorem State.setKp_streamSeq (a : Nat) (k : KnotPend) : (s.setKp a k).streamSeq = s.streamSeq := rfl
@[simp] theorem State.setKp_mcFilter (a : Nat) (k : KnotPend) : (s.setKp a k).mcFilter = s.mcFilter := rfl
@[simp] theorem State.setKp_segOut (a : Nat) (k : KnotPend) : (s.setKp a k).segOut = s.segOut := rfl
@[simp] theorem State.setKp_resendOut (a : Nat) (k : KnotPend) : (s.setKp a k).resendOut = s.resendOut := rfl
@[simp] theorem State.setKp_ports (a : Nat) (k : KnotPend) : (s.setKp a k).ports = s.ports := rfl
@[simp] theorem State.setKp_links (a : Nat) (k : KnotPend) : (s.setKp a k).links = s.links := rfl
@[simp] theorem State.setKp_sfOut (a : Nat) (k : KnotPend) : (s.setKp a k).sfOut = s.sfOut := rfl
@[simp] theorem State.setKp_meters (a : Nat) (k : KnotPend) : (s.setKp a k).meters = s.meters := rfl
@[simp] theorem State.setKp_mbQueue (a : Nat) (k : KnotPend) : (s.setKp a k).mbQueue = s.mbQueue := rfl
@[simp] theorem State.setKp_smbOut (a : Nat) (k : KnotPend) : (s.setKp a k).smbOut = s.smbOut := rfl
@[simp] theorem State.setKp_tethers (a : Nat) (k : KnotPend) : (s.setKp a k).tethers = s.tethers := rfl
@[simp] theorem State.setKp_forwarded (a : Nat) (k : KnotPend) : (s.setKp a k).forwarded = s.forwarded := rfl
@[simp] theorem State.setKp_tetherPolicy (a : Nat) (k : KnotPend) : (s.setKp a k).tetherPolicy = s.tetherPolicy := rfl
@[simp] theorem State.setKp_stages (a : Nat) (k : KnotPend) : (s.setKp a k).stages = s.stages := rfl
@[simp] theorem State.setKp_nextStage (a : Nat) (k : KnotPend) : (s.setKp a k).nextStage = s.nextStage := rfl
@[simp] theorem State.setKp_stageTick (a : Nat) (k : KnotPend) : (s.setKp a k).stageTick = s.stageTick := rfl
@[simp] theorem State.setKp_upTick (a : Nat) (k : KnotPend) : (s.setKp a k).upTick = s.upTick := rfl
@[simp] theorem State.setKp_upCfg (a : Nat) (k : KnotPend) : (s.setKp a k).upCfg = s.upCfg := rfl
@[simp] theorem State.setKp_storedCfg (a : Nat) (k : KnotPend) : (s.setKp a k).storedCfg = s.storedCfg := rfl
@[simp] theorem State.setKp_runCfg (a : Nat) (k : KnotPend) : (s.setKp a k).runCfg = s.runCfg := rfl
@[simp] theorem State.setKp_fw (a : Nat) (k : KnotPend) : (s.setKp a k).fw = s.fw := rfl
@[simp] theorem State.setKp_lc (a : Nat) (k : KnotPend) : (s.setKp a k).lc = s.lc := rfl
@[simp] theorem State.setKp_ide (a : Nat) (k : KnotPend) : (s.setKp a k).ide = s.ide := rfl
@[simp] theorem State.setKp_spdm (a : Nat) (k : KnotPend) : (s.setKp a k).spdm = s.spdm := rfl
@[simp] theorem State.setKp_spdmOut (a : Nat) (k : KnotPend) : (s.setKp a k).spdmOut = s.spdmOut := rfl
@[simp] theorem State.setKp_eid (a : Nat) (k : KnotPend) : (s.setKp a k).eid = s.eid := rfl
@[simp] theorem State.setKp_powerOff (a : Nat) (k : KnotPend) : (s.setKp a k).powerOff = s.powerOff := rfl
@[simp] theorem State.setKp_inReset (a : Nat) (k : KnotPend) : (s.setKp a k).inReset = s.inReset := rfl
@[simp] theorem State.setKp_brake (a : Nat) (k : KnotPend) : (s.setKp a k).brake = s.brake := rfl
@[simp] theorem State.setKp_clock (a : Nat) (k : KnotPend) : (s.setKp a k).clock = s.clock := rfl
@[simp] theorem State.setKp_capping (a : Nat) (k : KnotPend) : (s.setKp a k).capping = s.capping := rfl
@[simp] theorem State.setKp_sensors (a : Nat) (k : KnotPend) : (s.setKp a k).sensors = s.sensors := rfl
@[simp] theorem State.setKp_hotRun (a : Nat) (k : KnotPend) : (s.setKp a k).hotRun = s.hotRun := rfl
@[simp] theorem State.setKp_thermCalm (a : Nat) (k : KnotPend) : (s.setKp a k).thermCalm = s.thermCalm := rfl
@[simp] theorem State.setKp_stackTemp (a : Nat) (k : KnotPend) : (s.setKp a k).stackTemp = s.stackTemp := rfl
@[simp] theorem State.setKp_shutTick (a : Nat) (k : KnotPend) : (s.setKp a k).shutTick = s.shutTick := rfl
@[simp] theorem State.setKp_shutLog (a : Nat) (k : KnotPend) : (s.setKp a k).shutLog = s.shutLog := rfl
@[simp] theorem State.setKp_wasShut (a : Nat) (k : KnotPend) : (s.setKp a k).wasShut = s.wasShut := rfl
@[simp] theorem State.setKp_resetDue (a : Nat) (k : KnotPend) : (s.setKp a k).resetDue = s.resetDue := rfl
@[simp] theorem State.setKp_readOut (a : Nat) (k : KnotPend) : (s.setKp a k).readOut = s.readOut := rfl
@[simp] theorem State.setKp_late (a : Nat) (k : KnotPend) : (s.setKp a k).late = s.late := rfl

/-! ## `State.setPart` -/
@[simp] theorem State.setPart_slotEls (n : Nat) (p : Part) : (s.setPart n p).slotEls = s.slotEls := rfl
@[simp] theorem State.setPart_phaseEls (n : Nat) (p : Part) : (s.setPart n p).phaseEls = s.phaseEls := rfl
@[simp] theorem State.setPart_fanEls (n : Nat) (p : Part) : (s.setPart n p).fanEls = s.fanEls := rfl
@[simp] theorem State.setPart_stuEls (n : Nat) (p : Part) : (s.setPart n p).stuEls = s.stuEls := rfl
@[simp] theorem State.setPart_stdEls (n : Nat) (p : Part) : (s.setPart n p).stdEls = s.stdEls := rfl
@[simp] theorem State.setPart_standSince (n : Nat) (p : Part) : (s.setPart n p).standSince = s.standSince := rfl
@[simp] theorem State.setPart_weftIn (n : Nat) (p : Part) : (s.setPart n p).weftIn = s.weftIn := rfl
@[simp] theorem State.setPart_weftTx (n : Nat) (p : Part) : (s.setPart n p).weftTx = s.weftTx := rfl
@[simp] theorem State.setPart_weftOut (n : Nat) (p : Part) : (s.setPart n p).weftOut = s.weftOut := rfl
@[simp] theorem State.setPart_weftScr (n : Nat) (p : Part) : (s.setPart n p).weftScr = s.weftScr := rfl
@[simp] theorem State.setPart_weftBad (n : Nat) (p : Part) : (s.setPart n p).weftBad = s.weftBad := rfl
@[simp] theorem State.setPart_censusDone (n : Nat) (p : Part) : (s.setPart n p).censusDone = s.censusDone := rfl
@[simp] theorem State.setPart_censusAt (n : Nat) (p : Part) : (s.setPart n p).censusAt = s.censusAt := rfl
@[simp] theorem State.setPart_censusFrom (n : Nat) (p : Part) : (s.setPart n p).censusFrom = s.censusFrom := rfl
@[simp] theorem State.setPart_bootLc (n : Nat) (p : Part) : (s.setPart n p).bootLc = s.bootLc := rfl
@[simp] theorem State.setPart_bulkKeys (n : Nat) (p : Part) : (s.setPart n p).bulkKeys = s.bulkKeys := rfl
@[simp] theorem State.setPart_keySeq (n : Nat) (p : Part) : (s.setPart n p).keySeq = s.keySeq := rfl
@[simp] theorem State.setPart_draftMeas (n : Nat) (p : Part) : (s.setPart n p).draftMeas = s.draftMeas := rfl
@[simp] theorem State.setPart_meterSeq (n : Nat) (p : Part) : (s.setPart n p).meterSeq = s.meterSeq := rfl
@[simp] theorem State.setPart_spill (n : Nat) (p : Part) : (s.setPart n p).spill = s.spill := rfl
@[simp] theorem State.setPart_meterChk (n : Nat) (p : Part) : (s.setPart n p).meterChk = s.meterChk := rfl
@[simp] theorem State.setPart_energyTenths (n : Nat) (p : Part) : (s.setPart n p).energyTenths = s.energyTenths := rfl
@[simp] theorem State.setPart_meterPrev (n : Nat) (p : Part) : (s.setPart n p).meterPrev = s.meterPrev := rfl
@[simp] theorem State.setPart_pending (n : Nat) (p : Part) : (s.setPart n p).pending = s.pending := rfl
@[simp] theorem State.setPart_free (n : Nat) (p : Part) : (s.setPart n p).free = s.free := rfl
@[simp] theorem State.setPart_tick (n : Nat) (p : Part) : (s.setPart n p).tick = s.tick := rfl
@[simp] theorem State.setPart_nsPhase (n : Nat) (p : Part) : (s.setPart n p).nsPhase = s.nsPhase := rfl
@[simp] theorem State.setPart_beatPhase (n : Nat) (p : Part) : (s.setPart n p).beatPhase = s.beatPhase := rfl
@[simp] theorem State.setPart_regs (n : Nat) (p : Part) : (s.setPart n p).regs = s.regs := rfl
@[simp] theorem State.setPart_hwSet (n : Nat) (p : Part) : (s.setPart n p).hwSet = s.hwSet := rfl
@[simp] theorem State.setPart_evcSet (n : Nat) (p : Part) : (s.setPart n p).evcSet = s.evcSet := rfl
@[simp] theorem State.setPart_mem (n : Nat) (p : Part) : (s.setPart n p).mem = s.mem := rfl
@[simp] theorem State.setPart_ecc (n : Nat) (p : Part) : (s.setPart n p).ecc = s.ecc := rfl
@[simp] theorem State.setPart_cores (n : Nat) (p : Part) : (s.setPart n p).cores = s.cores := rfl
@[simp] theorem State.setPart_dstore (n : Nat) (p : Part) : (s.setPart n p).dstore = s.dstore := rfl
@[simp] theorem State.setPart_scrub (n : Nat) (p : Part) : (s.setPart n p).scrub = s.scrub := rfl
@[simp] theorem State.setPart_pools (n : Nat) (p : Part) : (s.setPart n p).pools = s.pools := rfl
@[simp] theorem State.setPart_kpend (n : Nat) (p : Part) : (s.setPart n p).kpend = s.kpend := rfl
@[simp] theorem State.setPart_poolOps (n : Nat) (p : Part) : (s.setPart n p).poolOps = s.poolOps := rfl
@[simp] theorem State.setPart_pairs (n : Nat) (p : Part) : (s.setPart n p).pairs = s.pairs := rfl
@[simp] theorem State.setPart_groups (n : Nat) (p : Part) : (s.setPart n p).groups = s.groups := rfl
@[simp] theorem State.setPart_gens (n : Nat) (p : Part) : (s.setPart n p).gens = s.gens := rfl
@[simp] theorem State.setPart_recSeq (n : Nat) (p : Part) : (s.setPart n p).recSeq = s.recSeq := rfl
@[simp] theorem State.setPart_recBuf (n : Nat) (p : Part) : (s.setPart n p).recBuf = s.recBuf := rfl
@[simp] theorem State.setPart_log (n : Nat) (p : Part) : (s.setPart n p).log = s.log := rfl
@[simp] theorem State.setPart_windows (n : Nat) (p : Part) : (s.setPart n p).windows = s.windows := rfl
@[simp] theorem State.setPart_evPend (n : Nat) (p : Part) : (s.setPart n p).evPend = s.evPend := rfl
@[simp] theorem State.setPart_msi (n : Nat) (p : Part) : (s.setPart n p).msi = s.msi := rfl
@[simp] theorem State.setPart_tetherLead (n : Nat) (p : Part) : (s.setPart n p).tetherLead = s.tetherLead := rfl
@[simp] theorem State.setPart_ctlOut (n : Nat) (p : Part) : (s.setPart n p).ctlOut = s.ctlOut := rfl
@[simp] theorem State.setPart_hdReqs (n : Nat) (p : Part) : (s.setPart n p).hdReqs = s.hdReqs := rfl
@[simp] theorem State.setPart_portOut (n : Nat) (p : Part) : (s.setPart n p).portOut = s.portOut := rfl
@[simp] theorem State.setPart_pmbus (n : Nat) (p : Part) : (s.setPart n p).pmbus = s.pmbus := rfl
@[simp] theorem State.setPart_warpTx (n : Nat) (p : Part) : (s.setPart n p).warpTx = s.warpTx := rfl
@[simp] theorem State.setPart_warpRx (n : Nat) (p : Part) : (s.setPart n p).warpRx = s.warpRx := rfl
@[simp] theorem State.setPart_edge (n : Nat) (p : Part) : (s.setPart n p).edge = s.edge := rfl
@[simp] theorem State.setPart_warpOut (n : Nat) (p : Part) : (s.setPart n p).warpOut = s.warpOut := rfl
@[simp] theorem State.setPart_epIn (n : Nat) (p : Part) : (s.setPart n p).epIn = s.epIn := rfl
@[simp] theorem State.setPart_rings (n : Nat) (p : Part) : (s.setPart n p).rings = s.rings := rfl
@[simp] theorem State.setPart_lanes (n : Nat) (p : Part) : (s.setPart n p).lanes = s.lanes := rfl
@[simp] theorem State.setPart_slotRecs (n : Nat) (p : Part) : (s.setPart n p).slotRecs = s.slotRecs := rfl
@[simp] theorem State.setPart_standMap (n : Nat) (p : Part) : (s.setPart n p).standMap = s.standMap := rfl
@[simp] theorem State.setPart_switches (n : Nat) (p : Part) : (s.setPart n p).switches = s.switches := rfl
@[simp] theorem State.setPart_switchOut (n : Nat) (p : Part) : (s.setPart n p).switchOut = s.switchOut := rfl
@[simp] theorem State.setPart_bobbin (n : Nat) (p : Part) : (s.setPart n p).bobbin = s.bobbin := rfl
@[simp] theorem State.setPart_laserUp (n : Nat) (p : Part) : (s.setPart n p).laserUp = s.laserUp := rfl
@[simp] theorem State.setPart_calFront (n : Nat) (p : Part) : (s.setPart n p).calFront = s.calFront := rfl
@[simp] theorem State.setPart_erasedDie (n : Nat) (p : Part) : (s.setPart n p).erasedDie = s.erasedDie := rfl
@[simp] theorem State.setPart_remapFlash (n : Nat) (p : Part) : (s.setPart n p).remapFlash = s.remapFlash := rfl
@[simp] theorem State.setPart_badSpares (n : Nat) (p : Part) : (s.setPart n p).badSpares = s.badSpares := rfl
@[simp] theorem State.setPart_lastCorr (n : Nat) (p : Part) : (s.setPart n p).lastCorr = s.lastCorr := rfl
@[simp] theorem State.setPart_remapQual (n : Nat) (p : Part) : (s.setPart n p).remapQual = s.remapQual := rfl
@[simp] theorem State.setPart_writeBuf (n : Nat) (p : Part) : (s.setPart n p).writeBuf = s.writeBuf := rfl
@[simp] theorem State.setPart_scrubLine (n : Nat) (p : Part) : (s.setPart n p).scrubLine = s.scrubLine := rfl
@[simp] theorem State.setPart_scrubFrom (n : Nat) (p : Part) : (s.setPart n p).scrubFrom = s.scrubFrom := rfl
@[simp] theorem State.setPart_testLines (n : Nat) (p : Part) : (s.setPart n p).testLines = s.testLines := rfl
@[simp] theorem State.setPart_selfRun (n : Nat) (p : Part) : (s.setPart n p).selfRun = s.selfRun := rfl
@[simp] theorem State.setPart_pairEnd (n : Nat) (p : Part) : (s.setPart n p).pairEnd = s.pairEnd := rfl
@[simp] theorem State.setPart_ctlEnd (n : Nat) (p : Part) : (s.setPart n p).ctlEnd = s.ctlEnd := rfl
@[simp] theorem State.setPart_circOut (n : Nat) (p : Part) : (s.setPart n p).circOut = s.circOut := rfl
@[simp] theorem State.setPart_bulkCtl (n : Nat) (p : Part) : (s.setPart n p).bulkCtl = s.bulkCtl := rfl
@[simp] theorem State.setPart_filled (n : Nat) (p : Part) : (s.setPart n p).filled = s.filled := rfl
@[simp] theorem State.setPart_tags (n : Nat) (p : Part) : (s.setPart n p).tags = s.tags := rfl
@[simp] theorem State.setPart_chans (n : Nat) (p : Part) : (s.setPart n p).chans = s.chans := rfl
@[simp] theorem State.setPart_orderHeld (n : Nat) (p : Part) : (s.setPart n p).orderHeld = s.orderHeld := rfl
@[simp] theorem State.setPart_localHeld (n : Nat) (p : Part) : (s.setPart n p).localHeld = s.localHeld := rfl
@[simp] theorem State.setPart_filter (n : Nat) (p : Part) : (s.setPart n p).filter = s.filter := rfl
@[simp] theorem State.setPart_filterHot (n : Nat) (p : Part) : (s.setPart n p).filterHot = s.filterHot := rfl
@[simp] theorem State.setPart_coldHeld (n : Nat) (p : Part) : (s.setPart n p).coldHeld = s.coldHeld := rfl
@[simp] theorem State.setPart_stalled (n : Nat) (p : Part) : (s.setPart n p).stalled = s.stalled := rfl
@[simp] theorem State.setPart_dupHeld (n : Nat) (p : Part) : (s.setPart n p).dupHeld = s.dupHeld := rfl
@[simp] theorem State.setPart_atomRes (n : Nat) (p : Part) : (s.setPart n p).atomRes = s.atomRes := rfl
@[simp] theorem State.setPart_rrc (n : Nat) (p : Part) : (s.setPart n p).rrc = s.rrc := rfl
@[simp] theorem State.setPart_rrcGen (n : Nat) (p : Part) : (s.setPart n p).rrcGen = s.rrcGen := rfl
@[simp] theorem State.setPart_shch (n : Nat) (p : Part) : (s.setPart n p).shch = s.shch := rfl
@[simp] theorem State.setPart_arbs (n : Nat) (p : Part) : (s.setPart n p).arbs = s.arbs := rfl
@[simp] theorem State.setPart_sepochFlash (n : Nat) (p : Part) : (s.setPart n p).sepochFlash = s.sepochFlash := rfl
@[simp] theorem State.setPart_peerMiss (n : Nat) (p : Part) : (s.setPart n p).peerMiss = s.peerMiss := rfl
@[simp] theorem State.setPart_streams (n : Nat) (p : Part) : (s.setPart n p).streams = s.streams := rfl
@[simp] theorem State.setPart_colWait (n : Nat) (p : Part) : (s.setPart n p).colWait = s.colWait := rfl
@[simp] theorem State.setPart_combs (n : Nat) (p : Part) : (s.setPart n p).combs = s.combs := rfl
@[simp] theorem State.setPart_repls (n : Nat) (p : Part) : (s.setPart n p).repls = s.repls := rfl
@[simp] theorem State.setPart_mseq (n : Nat) (p : Part) : (s.setPart n p).mseq = s.mseq := rfl
@[simp] theorem State.setPart_streamSeq (n : Nat) (p : Part) : (s.setPart n p).streamSeq = s.streamSeq := rfl
@[simp] theorem State.setPart_mcFilter (n : Nat) (p : Part) : (s.setPart n p).mcFilter = s.mcFilter := rfl
@[simp] theorem State.setPart_segOut (n : Nat) (p : Part) : (s.setPart n p).segOut = s.segOut := rfl
@[simp] theorem State.setPart_resendOut (n : Nat) (p : Part) : (s.setPart n p).resendOut = s.resendOut := rfl
@[simp] theorem State.setPart_ports (n : Nat) (p : Part) : (s.setPart n p).ports = s.ports := rfl
@[simp] theorem State.setPart_links (n : Nat) (p : Part) : (s.setPart n p).links = s.links := rfl
@[simp] theorem State.setPart_sfOut (n : Nat) (p : Part) : (s.setPart n p).sfOut = s.sfOut := rfl
@[simp] theorem State.setPart_meters (n : Nat) (p : Part) : (s.setPart n p).meters = s.meters := rfl
@[simp] theorem State.setPart_mbQueue (n : Nat) (p : Part) : (s.setPart n p).mbQueue = s.mbQueue := rfl
@[simp] theorem State.setPart_smbOut (n : Nat) (p : Part) : (s.setPart n p).smbOut = s.smbOut := rfl
@[simp] theorem State.setPart_tethers (n : Nat) (p : Part) : (s.setPart n p).tethers = s.tethers := rfl
@[simp] theorem State.setPart_forwarded (n : Nat) (p : Part) : (s.setPart n p).forwarded = s.forwarded := rfl
@[simp] theorem State.setPart_tetherPolicy (n : Nat) (p : Part) : (s.setPart n p).tetherPolicy = s.tetherPolicy := rfl
@[simp] theorem State.setPart_stages (n : Nat) (p : Part) : (s.setPart n p).stages = s.stages := rfl
@[simp] theorem State.setPart_nextStage (n : Nat) (p : Part) : (s.setPart n p).nextStage = s.nextStage := rfl
@[simp] theorem State.setPart_stageTick (n : Nat) (p : Part) : (s.setPart n p).stageTick = s.stageTick := rfl
@[simp] theorem State.setPart_upTick (n : Nat) (p : Part) : (s.setPart n p).upTick = s.upTick := rfl
@[simp] theorem State.setPart_upCfg (n : Nat) (p : Part) : (s.setPart n p).upCfg = s.upCfg := rfl
@[simp] theorem State.setPart_storedCfg (n : Nat) (p : Part) : (s.setPart n p).storedCfg = s.storedCfg := rfl
@[simp] theorem State.setPart_runCfg (n : Nat) (p : Part) : (s.setPart n p).runCfg = s.runCfg := rfl
@[simp] theorem State.setPart_fw (n : Nat) (p : Part) : (s.setPart n p).fw = s.fw := rfl
@[simp] theorem State.setPart_lc (n : Nat) (p : Part) : (s.setPart n p).lc = s.lc := rfl
@[simp] theorem State.setPart_ide (n : Nat) (p : Part) : (s.setPart n p).ide = s.ide := rfl
@[simp] theorem State.setPart_spdm (n : Nat) (p : Part) : (s.setPart n p).spdm = s.spdm := rfl
@[simp] theorem State.setPart_spdmOut (n : Nat) (p : Part) : (s.setPart n p).spdmOut = s.spdmOut := rfl
@[simp] theorem State.setPart_eid (n : Nat) (p : Part) : (s.setPart n p).eid = s.eid := rfl
@[simp] theorem State.setPart_powerOff (n : Nat) (p : Part) : (s.setPart n p).powerOff = s.powerOff := rfl
@[simp] theorem State.setPart_inReset (n : Nat) (p : Part) : (s.setPart n p).inReset = s.inReset := rfl
@[simp] theorem State.setPart_brake (n : Nat) (p : Part) : (s.setPart n p).brake = s.brake := rfl
@[simp] theorem State.setPart_clock (n : Nat) (p : Part) : (s.setPart n p).clock = s.clock := rfl
@[simp] theorem State.setPart_capping (n : Nat) (p : Part) : (s.setPart n p).capping = s.capping := rfl
@[simp] theorem State.setPart_sensors (n : Nat) (p : Part) : (s.setPart n p).sensors = s.sensors := rfl
@[simp] theorem State.setPart_hotRun (n : Nat) (p : Part) : (s.setPart n p).hotRun = s.hotRun := rfl
@[simp] theorem State.setPart_thermCalm (n : Nat) (p : Part) : (s.setPart n p).thermCalm = s.thermCalm := rfl
@[simp] theorem State.setPart_stackTemp (n : Nat) (p : Part) : (s.setPart n p).stackTemp = s.stackTemp := rfl
@[simp] theorem State.setPart_shutTick (n : Nat) (p : Part) : (s.setPart n p).shutTick = s.shutTick := rfl
@[simp] theorem State.setPart_shutLog (n : Nat) (p : Part) : (s.setPart n p).shutLog = s.shutLog := rfl
@[simp] theorem State.setPart_wasShut (n : Nat) (p : Part) : (s.setPart n p).wasShut = s.wasShut := rfl
@[simp] theorem State.setPart_resetDue (n : Nat) (p : Part) : (s.setPart n p).resetDue = s.resetDue := rfl
@[simp] theorem State.setPart_readOut (n : Nat) (p : Part) : (s.setPart n p).readOut = s.readOut := rfl
@[simp] theorem State.setPart_late (n : Nat) (p : Part) : (s.setPart n p).late = s.late := rfl

/-! ## `State.used` -/
@[simp] theorem State.used_slotEls : (s.used).slotEls = s.slotEls := rfl
@[simp] theorem State.used_phaseEls : (s.used).phaseEls = s.phaseEls := rfl
@[simp] theorem State.used_fanEls : (s.used).fanEls = s.fanEls := rfl
@[simp] theorem State.used_stuEls : (s.used).stuEls = s.stuEls := rfl
@[simp] theorem State.used_stdEls : (s.used).stdEls = s.stdEls := rfl
@[simp] theorem State.used_standSince : (s.used).standSince = s.standSince := rfl
@[simp] theorem State.used_weftIn : (s.used).weftIn = s.weftIn := rfl
@[simp] theorem State.used_weftTx : (s.used).weftTx = s.weftTx := rfl
@[simp] theorem State.used_weftOut : (s.used).weftOut = s.weftOut := rfl
@[simp] theorem State.used_weftScr : (s.used).weftScr = s.weftScr := rfl
@[simp] theorem State.used_weftBad : (s.used).weftBad = s.weftBad := rfl
@[simp] theorem State.used_censusDone : (s.used).censusDone = s.censusDone := rfl
@[simp] theorem State.used_censusAt : (s.used).censusAt = s.censusAt := rfl
@[simp] theorem State.used_censusFrom : (s.used).censusFrom = s.censusFrom := rfl
@[simp] theorem State.used_bootLc : (s.used).bootLc = s.bootLc := rfl
@[simp] theorem State.used_bulkKeys : (s.used).bulkKeys = s.bulkKeys := rfl
@[simp] theorem State.used_keySeq : (s.used).keySeq = s.keySeq := rfl
@[simp] theorem State.used_draftMeas : (s.used).draftMeas = s.draftMeas := rfl
@[simp] theorem State.used_meterSeq : (s.used).meterSeq = s.meterSeq := rfl
@[simp] theorem State.used_spill : (s.used).spill = s.spill := rfl
@[simp] theorem State.used_meterChk : (s.used).meterChk = s.meterChk := rfl
@[simp] theorem State.used_energyTenths : (s.used).energyTenths = s.energyTenths := rfl
@[simp] theorem State.used_meterPrev : (s.used).meterPrev = s.meterPrev := rfl
@[simp] theorem State.used_pending : (s.used).pending = s.pending := rfl
@[simp] theorem State.used_tick : (s.used).tick = s.tick := rfl
@[simp] theorem State.used_nsPhase : (s.used).nsPhase = s.nsPhase := rfl
@[simp] theorem State.used_beatPhase : (s.used).beatPhase = s.beatPhase := rfl
@[simp] theorem State.used_regs : (s.used).regs = s.regs := rfl
@[simp] theorem State.used_hwSet : (s.used).hwSet = s.hwSet := rfl
@[simp] theorem State.used_evcSet : (s.used).evcSet = s.evcSet := rfl
@[simp] theorem State.used_mem : (s.used).mem = s.mem := rfl
@[simp] theorem State.used_ecc : (s.used).ecc = s.ecc := rfl
@[simp] theorem State.used_cores : (s.used).cores = s.cores := rfl
@[simp] theorem State.used_dstore : (s.used).dstore = s.dstore := rfl
@[simp] theorem State.used_scrub : (s.used).scrub = s.scrub := rfl
@[simp] theorem State.used_pools : (s.used).pools = s.pools := rfl
@[simp] theorem State.used_kpend : (s.used).kpend = s.kpend := rfl
@[simp] theorem State.used_poolOps : (s.used).poolOps = s.poolOps := rfl
@[simp] theorem State.used_pairs : (s.used).pairs = s.pairs := rfl
@[simp] theorem State.used_groups : (s.used).groups = s.groups := rfl
@[simp] theorem State.used_parts : (s.used).parts = s.parts := rfl
@[simp] theorem State.used_gens : (s.used).gens = s.gens := rfl
@[simp] theorem State.used_recSeq : (s.used).recSeq = s.recSeq := rfl
@[simp] theorem State.used_recBuf : (s.used).recBuf = s.recBuf := rfl
@[simp] theorem State.used_log : (s.used).log = s.log := rfl
@[simp] theorem State.used_windows : (s.used).windows = s.windows := rfl
@[simp] theorem State.used_evPend : (s.used).evPend = s.evPend := rfl
@[simp] theorem State.used_msi : (s.used).msi = s.msi := rfl
@[simp] theorem State.used_tetherLead : (s.used).tetherLead = s.tetherLead := rfl
@[simp] theorem State.used_ctlOut : (s.used).ctlOut = s.ctlOut := rfl
@[simp] theorem State.used_hdReqs : (s.used).hdReqs = s.hdReqs := rfl
@[simp] theorem State.used_portOut : (s.used).portOut = s.portOut := rfl
@[simp] theorem State.used_pmbus : (s.used).pmbus = s.pmbus := rfl
@[simp] theorem State.used_warpTx : (s.used).warpTx = s.warpTx := rfl
@[simp] theorem State.used_warpRx : (s.used).warpRx = s.warpRx := rfl
@[simp] theorem State.used_edge : (s.used).edge = s.edge := rfl
@[simp] theorem State.used_warpOut : (s.used).warpOut = s.warpOut := rfl
@[simp] theorem State.used_epIn : (s.used).epIn = s.epIn := rfl
@[simp] theorem State.used_rings : (s.used).rings = s.rings := rfl
@[simp] theorem State.used_lanes : (s.used).lanes = s.lanes := rfl
@[simp] theorem State.used_slotRecs : (s.used).slotRecs = s.slotRecs := rfl
@[simp] theorem State.used_standMap : (s.used).standMap = s.standMap := rfl
@[simp] theorem State.used_switches : (s.used).switches = s.switches := rfl
@[simp] theorem State.used_switchOut : (s.used).switchOut = s.switchOut := rfl
@[simp] theorem State.used_bobbin : (s.used).bobbin = s.bobbin := rfl
@[simp] theorem State.used_laserUp : (s.used).laserUp = s.laserUp := rfl
@[simp] theorem State.used_calFront : (s.used).calFront = s.calFront := rfl
@[simp] theorem State.used_erasedDie : (s.used).erasedDie = s.erasedDie := rfl
@[simp] theorem State.used_remapFlash : (s.used).remapFlash = s.remapFlash := rfl
@[simp] theorem State.used_badSpares : (s.used).badSpares = s.badSpares := rfl
@[simp] theorem State.used_lastCorr : (s.used).lastCorr = s.lastCorr := rfl
@[simp] theorem State.used_remapQual : (s.used).remapQual = s.remapQual := rfl
@[simp] theorem State.used_writeBuf : (s.used).writeBuf = s.writeBuf := rfl
@[simp] theorem State.used_scrubLine : (s.used).scrubLine = s.scrubLine := rfl
@[simp] theorem State.used_scrubFrom : (s.used).scrubFrom = s.scrubFrom := rfl
@[simp] theorem State.used_testLines : (s.used).testLines = s.testLines := rfl
@[simp] theorem State.used_selfRun : (s.used).selfRun = s.selfRun := rfl
@[simp] theorem State.used_pairEnd : (s.used).pairEnd = s.pairEnd := rfl
@[simp] theorem State.used_ctlEnd : (s.used).ctlEnd = s.ctlEnd := rfl
@[simp] theorem State.used_circOut : (s.used).circOut = s.circOut := rfl
@[simp] theorem State.used_bulkCtl : (s.used).bulkCtl = s.bulkCtl := rfl
@[simp] theorem State.used_filled : (s.used).filled = s.filled := rfl
@[simp] theorem State.used_tags : (s.used).tags = s.tags := rfl
@[simp] theorem State.used_chans : (s.used).chans = s.chans := rfl
@[simp] theorem State.used_orderHeld : (s.used).orderHeld = s.orderHeld := rfl
@[simp] theorem State.used_localHeld : (s.used).localHeld = s.localHeld := rfl
@[simp] theorem State.used_filter : (s.used).filter = s.filter := rfl
@[simp] theorem State.used_filterHot : (s.used).filterHot = s.filterHot := rfl
@[simp] theorem State.used_coldHeld : (s.used).coldHeld = s.coldHeld := rfl
@[simp] theorem State.used_stalled : (s.used).stalled = s.stalled := rfl
@[simp] theorem State.used_dupHeld : (s.used).dupHeld = s.dupHeld := rfl
@[simp] theorem State.used_atomRes : (s.used).atomRes = s.atomRes := rfl
@[simp] theorem State.used_rrc : (s.used).rrc = s.rrc := rfl
@[simp] theorem State.used_rrcGen : (s.used).rrcGen = s.rrcGen := rfl
@[simp] theorem State.used_shch : (s.used).shch = s.shch := rfl
@[simp] theorem State.used_arbs : (s.used).arbs = s.arbs := rfl
@[simp] theorem State.used_sepochFlash : (s.used).sepochFlash = s.sepochFlash := rfl
@[simp] theorem State.used_peerMiss : (s.used).peerMiss = s.peerMiss := rfl
@[simp] theorem State.used_streams : (s.used).streams = s.streams := rfl
@[simp] theorem State.used_colWait : (s.used).colWait = s.colWait := rfl
@[simp] theorem State.used_combs : (s.used).combs = s.combs := rfl
@[simp] theorem State.used_repls : (s.used).repls = s.repls := rfl
@[simp] theorem State.used_mseq : (s.used).mseq = s.mseq := rfl
@[simp] theorem State.used_streamSeq : (s.used).streamSeq = s.streamSeq := rfl
@[simp] theorem State.used_mcFilter : (s.used).mcFilter = s.mcFilter := rfl
@[simp] theorem State.used_segOut : (s.used).segOut = s.segOut := rfl
@[simp] theorem State.used_resendOut : (s.used).resendOut = s.resendOut := rfl
@[simp] theorem State.used_ports : (s.used).ports = s.ports := rfl
@[simp] theorem State.used_links : (s.used).links = s.links := rfl
@[simp] theorem State.used_sfOut : (s.used).sfOut = s.sfOut := rfl
@[simp] theorem State.used_meters : (s.used).meters = s.meters := rfl
@[simp] theorem State.used_mbQueue : (s.used).mbQueue = s.mbQueue := rfl
@[simp] theorem State.used_smbOut : (s.used).smbOut = s.smbOut := rfl
@[simp] theorem State.used_tethers : (s.used).tethers = s.tethers := rfl
@[simp] theorem State.used_forwarded : (s.used).forwarded = s.forwarded := rfl
@[simp] theorem State.used_tetherPolicy : (s.used).tetherPolicy = s.tetherPolicy := rfl
@[simp] theorem State.used_stages : (s.used).stages = s.stages := rfl
@[simp] theorem State.used_nextStage : (s.used).nextStage = s.nextStage := rfl
@[simp] theorem State.used_stageTick : (s.used).stageTick = s.stageTick := rfl
@[simp] theorem State.used_upTick : (s.used).upTick = s.upTick := rfl
@[simp] theorem State.used_upCfg : (s.used).upCfg = s.upCfg := rfl
@[simp] theorem State.used_storedCfg : (s.used).storedCfg = s.storedCfg := rfl
@[simp] theorem State.used_runCfg : (s.used).runCfg = s.runCfg := rfl
@[simp] theorem State.used_fw : (s.used).fw = s.fw := rfl
@[simp] theorem State.used_lc : (s.used).lc = s.lc := rfl
@[simp] theorem State.used_ide : (s.used).ide = s.ide := rfl
@[simp] theorem State.used_spdm : (s.used).spdm = s.spdm := rfl
@[simp] theorem State.used_spdmOut : (s.used).spdmOut = s.spdmOut := rfl
@[simp] theorem State.used_eid : (s.used).eid = s.eid := rfl
@[simp] theorem State.used_powerOff : (s.used).powerOff = s.powerOff := rfl
@[simp] theorem State.used_inReset : (s.used).inReset = s.inReset := rfl
@[simp] theorem State.used_brake : (s.used).brake = s.brake := rfl
@[simp] theorem State.used_clock : (s.used).clock = s.clock := rfl
@[simp] theorem State.used_capping : (s.used).capping = s.capping := rfl
@[simp] theorem State.used_sensors : (s.used).sensors = s.sensors := rfl
@[simp] theorem State.used_hotRun : (s.used).hotRun = s.hotRun := rfl
@[simp] theorem State.used_thermCalm : (s.used).thermCalm = s.thermCalm := rfl
@[simp] theorem State.used_stackTemp : (s.used).stackTemp = s.stackTemp := rfl
@[simp] theorem State.used_shutTick : (s.used).shutTick = s.shutTick := rfl
@[simp] theorem State.used_shutLog : (s.used).shutLog = s.shutLog := rfl
@[simp] theorem State.used_wasShut : (s.used).wasShut = s.wasShut := rfl
@[simp] theorem State.used_resetDue : (s.used).resetDue = s.resetDue := rfl
@[simp] theorem State.used_readOut : (s.used).readOut = s.readOut := rfl
@[simp] theorem State.used_late : (s.used).late = s.late := rfl

/-! ## `State.sendMsi` -/
@[simp] theorem State.sendMsi_slotEls (f v : Nat) : (s.sendMsi f v).slotEls = s.slotEls := rfl
@[simp] theorem State.sendMsi_phaseEls (f v : Nat) : (s.sendMsi f v).phaseEls = s.phaseEls := rfl
@[simp] theorem State.sendMsi_fanEls (f v : Nat) : (s.sendMsi f v).fanEls = s.fanEls := rfl
@[simp] theorem State.sendMsi_stuEls (f v : Nat) : (s.sendMsi f v).stuEls = s.stuEls := rfl
@[simp] theorem State.sendMsi_stdEls (f v : Nat) : (s.sendMsi f v).stdEls = s.stdEls := rfl
@[simp] theorem State.sendMsi_standSince (f v : Nat) : (s.sendMsi f v).standSince = s.standSince := rfl
@[simp] theorem State.sendMsi_weftIn (f v : Nat) : (s.sendMsi f v).weftIn = s.weftIn := rfl
@[simp] theorem State.sendMsi_weftTx (f v : Nat) : (s.sendMsi f v).weftTx = s.weftTx := rfl
@[simp] theorem State.sendMsi_weftOut (f v : Nat) : (s.sendMsi f v).weftOut = s.weftOut := rfl
@[simp] theorem State.sendMsi_weftScr (f v : Nat) : (s.sendMsi f v).weftScr = s.weftScr := rfl
@[simp] theorem State.sendMsi_weftBad (f v : Nat) : (s.sendMsi f v).weftBad = s.weftBad := rfl
@[simp] theorem State.sendMsi_censusDone (f v : Nat) : (s.sendMsi f v).censusDone = s.censusDone := rfl
@[simp] theorem State.sendMsi_censusAt (f v : Nat) : (s.sendMsi f v).censusAt = s.censusAt := rfl
@[simp] theorem State.sendMsi_censusFrom (f v : Nat) : (s.sendMsi f v).censusFrom = s.censusFrom := rfl
@[simp] theorem State.sendMsi_bootLc (f v : Nat) : (s.sendMsi f v).bootLc = s.bootLc := rfl
@[simp] theorem State.sendMsi_bulkKeys (f v : Nat) : (s.sendMsi f v).bulkKeys = s.bulkKeys := rfl
@[simp] theorem State.sendMsi_keySeq (f v : Nat) : (s.sendMsi f v).keySeq = s.keySeq := rfl
@[simp] theorem State.sendMsi_draftMeas (f v : Nat) : (s.sendMsi f v).draftMeas = s.draftMeas := rfl
@[simp] theorem State.sendMsi_meterSeq (f v : Nat) : (s.sendMsi f v).meterSeq = s.meterSeq := rfl
@[simp] theorem State.sendMsi_spill (f v : Nat) : (s.sendMsi f v).spill = s.spill := rfl
@[simp] theorem State.sendMsi_meterChk (f v : Nat) : (s.sendMsi f v).meterChk = s.meterChk := rfl
@[simp] theorem State.sendMsi_energyTenths (f v : Nat) : (s.sendMsi f v).energyTenths = s.energyTenths := rfl
@[simp] theorem State.sendMsi_meterPrev (f v : Nat) : (s.sendMsi f v).meterPrev = s.meterPrev := rfl
@[simp] theorem State.sendMsi_pending (f v : Nat) : (s.sendMsi f v).pending = s.pending := rfl
@[simp] theorem State.sendMsi_free (f v : Nat) : (s.sendMsi f v).free = s.free := rfl
@[simp] theorem State.sendMsi_tick (f v : Nat) : (s.sendMsi f v).tick = s.tick := rfl
@[simp] theorem State.sendMsi_nsPhase (f v : Nat) : (s.sendMsi f v).nsPhase = s.nsPhase := rfl
@[simp] theorem State.sendMsi_beatPhase (f v : Nat) : (s.sendMsi f v).beatPhase = s.beatPhase := rfl
@[simp] theorem State.sendMsi_regs (f v : Nat) : (s.sendMsi f v).regs = s.regs := rfl
@[simp] theorem State.sendMsi_hwSet (f v : Nat) : (s.sendMsi f v).hwSet = s.hwSet := rfl
@[simp] theorem State.sendMsi_evcSet (f v : Nat) : (s.sendMsi f v).evcSet = s.evcSet := rfl
@[simp] theorem State.sendMsi_mem (f v : Nat) : (s.sendMsi f v).mem = s.mem := rfl
@[simp] theorem State.sendMsi_ecc (f v : Nat) : (s.sendMsi f v).ecc = s.ecc := rfl
@[simp] theorem State.sendMsi_cores (f v : Nat) : (s.sendMsi f v).cores = s.cores := rfl
@[simp] theorem State.sendMsi_dstore (f v : Nat) : (s.sendMsi f v).dstore = s.dstore := rfl
@[simp] theorem State.sendMsi_scrub (f v : Nat) : (s.sendMsi f v).scrub = s.scrub := rfl
@[simp] theorem State.sendMsi_pools (f v : Nat) : (s.sendMsi f v).pools = s.pools := rfl
@[simp] theorem State.sendMsi_kpend (f v : Nat) : (s.sendMsi f v).kpend = s.kpend := rfl
@[simp] theorem State.sendMsi_poolOps (f v : Nat) : (s.sendMsi f v).poolOps = s.poolOps := rfl
@[simp] theorem State.sendMsi_pairs (f v : Nat) : (s.sendMsi f v).pairs = s.pairs := rfl
@[simp] theorem State.sendMsi_groups (f v : Nat) : (s.sendMsi f v).groups = s.groups := rfl
@[simp] theorem State.sendMsi_parts (f v : Nat) : (s.sendMsi f v).parts = s.parts := rfl
@[simp] theorem State.sendMsi_gens (f v : Nat) : (s.sendMsi f v).gens = s.gens := rfl
@[simp] theorem State.sendMsi_recSeq (f v : Nat) : (s.sendMsi f v).recSeq = s.recSeq := rfl
@[simp] theorem State.sendMsi_recBuf (f v : Nat) : (s.sendMsi f v).recBuf = s.recBuf := rfl
@[simp] theorem State.sendMsi_log (f v : Nat) : (s.sendMsi f v).log = s.log := rfl
@[simp] theorem State.sendMsi_windows (f v : Nat) : (s.sendMsi f v).windows = s.windows := rfl
@[simp] theorem State.sendMsi_evPend (f v : Nat) : (s.sendMsi f v).evPend = s.evPend := rfl
@[simp] theorem State.sendMsi_tetherLead (f v : Nat) : (s.sendMsi f v).tetherLead = s.tetherLead := rfl
@[simp] theorem State.sendMsi_ctlOut (f v : Nat) : (s.sendMsi f v).ctlOut = s.ctlOut := rfl
@[simp] theorem State.sendMsi_hdReqs (f v : Nat) : (s.sendMsi f v).hdReqs = s.hdReqs := rfl
@[simp] theorem State.sendMsi_portOut (f v : Nat) : (s.sendMsi f v).portOut = s.portOut := rfl
@[simp] theorem State.sendMsi_pmbus (f v : Nat) : (s.sendMsi f v).pmbus = s.pmbus := rfl
@[simp] theorem State.sendMsi_warpTx (f v : Nat) : (s.sendMsi f v).warpTx = s.warpTx := rfl
@[simp] theorem State.sendMsi_warpRx (f v : Nat) : (s.sendMsi f v).warpRx = s.warpRx := rfl
@[simp] theorem State.sendMsi_edge (f v : Nat) : (s.sendMsi f v).edge = s.edge := rfl
@[simp] theorem State.sendMsi_warpOut (f v : Nat) : (s.sendMsi f v).warpOut = s.warpOut := rfl
@[simp] theorem State.sendMsi_epIn (f v : Nat) : (s.sendMsi f v).epIn = s.epIn := rfl
@[simp] theorem State.sendMsi_rings (f v : Nat) : (s.sendMsi f v).rings = s.rings := rfl
@[simp] theorem State.sendMsi_lanes (f v : Nat) : (s.sendMsi f v).lanes = s.lanes := rfl
@[simp] theorem State.sendMsi_slotRecs (f v : Nat) : (s.sendMsi f v).slotRecs = s.slotRecs := rfl
@[simp] theorem State.sendMsi_standMap (f v : Nat) : (s.sendMsi f v).standMap = s.standMap := rfl
@[simp] theorem State.sendMsi_switches (f v : Nat) : (s.sendMsi f v).switches = s.switches := rfl
@[simp] theorem State.sendMsi_switchOut (f v : Nat) : (s.sendMsi f v).switchOut = s.switchOut := rfl
@[simp] theorem State.sendMsi_bobbin (f v : Nat) : (s.sendMsi f v).bobbin = s.bobbin := rfl
@[simp] theorem State.sendMsi_laserUp (f v : Nat) : (s.sendMsi f v).laserUp = s.laserUp := rfl
@[simp] theorem State.sendMsi_calFront (f v : Nat) : (s.sendMsi f v).calFront = s.calFront := rfl
@[simp] theorem State.sendMsi_erasedDie (f v : Nat) : (s.sendMsi f v).erasedDie = s.erasedDie := rfl
@[simp] theorem State.sendMsi_remapFlash (f v : Nat) : (s.sendMsi f v).remapFlash = s.remapFlash := rfl
@[simp] theorem State.sendMsi_badSpares (f v : Nat) : (s.sendMsi f v).badSpares = s.badSpares := rfl
@[simp] theorem State.sendMsi_lastCorr (f v : Nat) : (s.sendMsi f v).lastCorr = s.lastCorr := rfl
@[simp] theorem State.sendMsi_remapQual (f v : Nat) : (s.sendMsi f v).remapQual = s.remapQual := rfl
@[simp] theorem State.sendMsi_writeBuf (f v : Nat) : (s.sendMsi f v).writeBuf = s.writeBuf := rfl
@[simp] theorem State.sendMsi_scrubLine (f v : Nat) : (s.sendMsi f v).scrubLine = s.scrubLine := rfl
@[simp] theorem State.sendMsi_scrubFrom (f v : Nat) : (s.sendMsi f v).scrubFrom = s.scrubFrom := rfl
@[simp] theorem State.sendMsi_testLines (f v : Nat) : (s.sendMsi f v).testLines = s.testLines := rfl
@[simp] theorem State.sendMsi_selfRun (f v : Nat) : (s.sendMsi f v).selfRun = s.selfRun := rfl
@[simp] theorem State.sendMsi_pairEnd (f v : Nat) : (s.sendMsi f v).pairEnd = s.pairEnd := rfl
@[simp] theorem State.sendMsi_ctlEnd (f v : Nat) : (s.sendMsi f v).ctlEnd = s.ctlEnd := rfl
@[simp] theorem State.sendMsi_circOut (f v : Nat) : (s.sendMsi f v).circOut = s.circOut := rfl
@[simp] theorem State.sendMsi_bulkCtl (f v : Nat) : (s.sendMsi f v).bulkCtl = s.bulkCtl := rfl
@[simp] theorem State.sendMsi_filled (f v : Nat) : (s.sendMsi f v).filled = s.filled := rfl
@[simp] theorem State.sendMsi_tags (f v : Nat) : (s.sendMsi f v).tags = s.tags := rfl
@[simp] theorem State.sendMsi_chans (f v : Nat) : (s.sendMsi f v).chans = s.chans := rfl
@[simp] theorem State.sendMsi_orderHeld (f v : Nat) : (s.sendMsi f v).orderHeld = s.orderHeld := rfl
@[simp] theorem State.sendMsi_localHeld (f v : Nat) : (s.sendMsi f v).localHeld = s.localHeld := rfl
@[simp] theorem State.sendMsi_filter (f v : Nat) : (s.sendMsi f v).filter = s.filter := rfl
@[simp] theorem State.sendMsi_filterHot (f v : Nat) : (s.sendMsi f v).filterHot = s.filterHot := rfl
@[simp] theorem State.sendMsi_coldHeld (f v : Nat) : (s.sendMsi f v).coldHeld = s.coldHeld := rfl
@[simp] theorem State.sendMsi_stalled (f v : Nat) : (s.sendMsi f v).stalled = s.stalled := rfl
@[simp] theorem State.sendMsi_dupHeld (f v : Nat) : (s.sendMsi f v).dupHeld = s.dupHeld := rfl
@[simp] theorem State.sendMsi_atomRes (f v : Nat) : (s.sendMsi f v).atomRes = s.atomRes := rfl
@[simp] theorem State.sendMsi_rrc (f v : Nat) : (s.sendMsi f v).rrc = s.rrc := rfl
@[simp] theorem State.sendMsi_rrcGen (f v : Nat) : (s.sendMsi f v).rrcGen = s.rrcGen := rfl
@[simp] theorem State.sendMsi_shch (f v : Nat) : (s.sendMsi f v).shch = s.shch := rfl
@[simp] theorem State.sendMsi_arbs (f v : Nat) : (s.sendMsi f v).arbs = s.arbs := rfl
@[simp] theorem State.sendMsi_sepochFlash (f v : Nat) : (s.sendMsi f v).sepochFlash = s.sepochFlash := rfl
@[simp] theorem State.sendMsi_peerMiss (f v : Nat) : (s.sendMsi f v).peerMiss = s.peerMiss := rfl
@[simp] theorem State.sendMsi_streams (f v : Nat) : (s.sendMsi f v).streams = s.streams := rfl
@[simp] theorem State.sendMsi_colWait (f v : Nat) : (s.sendMsi f v).colWait = s.colWait := rfl
@[simp] theorem State.sendMsi_combs (f v : Nat) : (s.sendMsi f v).combs = s.combs := rfl
@[simp] theorem State.sendMsi_repls (f v : Nat) : (s.sendMsi f v).repls = s.repls := rfl
@[simp] theorem State.sendMsi_mseq (f v : Nat) : (s.sendMsi f v).mseq = s.mseq := rfl
@[simp] theorem State.sendMsi_streamSeq (f v : Nat) : (s.sendMsi f v).streamSeq = s.streamSeq := rfl
@[simp] theorem State.sendMsi_mcFilter (f v : Nat) : (s.sendMsi f v).mcFilter = s.mcFilter := rfl
@[simp] theorem State.sendMsi_segOut (f v : Nat) : (s.sendMsi f v).segOut = s.segOut := rfl
@[simp] theorem State.sendMsi_resendOut (f v : Nat) : (s.sendMsi f v).resendOut = s.resendOut := rfl
@[simp] theorem State.sendMsi_ports (f v : Nat) : (s.sendMsi f v).ports = s.ports := rfl
@[simp] theorem State.sendMsi_links (f v : Nat) : (s.sendMsi f v).links = s.links := rfl
@[simp] theorem State.sendMsi_sfOut (f v : Nat) : (s.sendMsi f v).sfOut = s.sfOut := rfl
@[simp] theorem State.sendMsi_meters (f v : Nat) : (s.sendMsi f v).meters = s.meters := rfl
@[simp] theorem State.sendMsi_mbQueue (f v : Nat) : (s.sendMsi f v).mbQueue = s.mbQueue := rfl
@[simp] theorem State.sendMsi_smbOut (f v : Nat) : (s.sendMsi f v).smbOut = s.smbOut := rfl
@[simp] theorem State.sendMsi_tethers (f v : Nat) : (s.sendMsi f v).tethers = s.tethers := rfl
@[simp] theorem State.sendMsi_forwarded (f v : Nat) : (s.sendMsi f v).forwarded = s.forwarded := rfl
@[simp] theorem State.sendMsi_tetherPolicy (f v : Nat) : (s.sendMsi f v).tetherPolicy = s.tetherPolicy := rfl
@[simp] theorem State.sendMsi_stages (f v : Nat) : (s.sendMsi f v).stages = s.stages := rfl
@[simp] theorem State.sendMsi_nextStage (f v : Nat) : (s.sendMsi f v).nextStage = s.nextStage := rfl
@[simp] theorem State.sendMsi_stageTick (f v : Nat) : (s.sendMsi f v).stageTick = s.stageTick := rfl
@[simp] theorem State.sendMsi_upTick (f v : Nat) : (s.sendMsi f v).upTick = s.upTick := rfl
@[simp] theorem State.sendMsi_upCfg (f v : Nat) : (s.sendMsi f v).upCfg = s.upCfg := rfl
@[simp] theorem State.sendMsi_storedCfg (f v : Nat) : (s.sendMsi f v).storedCfg = s.storedCfg := rfl
@[simp] theorem State.sendMsi_runCfg (f v : Nat) : (s.sendMsi f v).runCfg = s.runCfg := rfl
@[simp] theorem State.sendMsi_fw (f v : Nat) : (s.sendMsi f v).fw = s.fw := rfl
@[simp] theorem State.sendMsi_lc (f v : Nat) : (s.sendMsi f v).lc = s.lc := rfl
@[simp] theorem State.sendMsi_ide (f v : Nat) : (s.sendMsi f v).ide = s.ide := rfl
@[simp] theorem State.sendMsi_spdm (f v : Nat) : (s.sendMsi f v).spdm = s.spdm := rfl
@[simp] theorem State.sendMsi_spdmOut (f v : Nat) : (s.sendMsi f v).spdmOut = s.spdmOut := rfl
@[simp] theorem State.sendMsi_eid (f v : Nat) : (s.sendMsi f v).eid = s.eid := rfl
@[simp] theorem State.sendMsi_powerOff (f v : Nat) : (s.sendMsi f v).powerOff = s.powerOff := rfl
@[simp] theorem State.sendMsi_inReset (f v : Nat) : (s.sendMsi f v).inReset = s.inReset := rfl
@[simp] theorem State.sendMsi_brake (f v : Nat) : (s.sendMsi f v).brake = s.brake := rfl
@[simp] theorem State.sendMsi_clock (f v : Nat) : (s.sendMsi f v).clock = s.clock := rfl
@[simp] theorem State.sendMsi_capping (f v : Nat) : (s.sendMsi f v).capping = s.capping := rfl
@[simp] theorem State.sendMsi_sensors (f v : Nat) : (s.sendMsi f v).sensors = s.sensors := rfl
@[simp] theorem State.sendMsi_hotRun (f v : Nat) : (s.sendMsi f v).hotRun = s.hotRun := rfl
@[simp] theorem State.sendMsi_thermCalm (f v : Nat) : (s.sendMsi f v).thermCalm = s.thermCalm := rfl
@[simp] theorem State.sendMsi_stackTemp (f v : Nat) : (s.sendMsi f v).stackTemp = s.stackTemp := rfl
@[simp] theorem State.sendMsi_shutTick (f v : Nat) : (s.sendMsi f v).shutTick = s.shutTick := rfl
@[simp] theorem State.sendMsi_shutLog (f v : Nat) : (s.sendMsi f v).shutLog = s.shutLog := rfl
@[simp] theorem State.sendMsi_wasShut (f v : Nat) : (s.sendMsi f v).wasShut = s.wasShut := rfl
@[simp] theorem State.sendMsi_resetDue (f v : Nat) : (s.sendMsi f v).resetDue = s.resetDue := rfl
@[simp] theorem State.sendMsi_readOut (f v : Nat) : (s.sendMsi f v).readOut = s.readOut := rfl
@[simp] theorem State.sendMsi_late (f v : Nat) : (s.sendMsi f v).late = s.late := rfl

/-! ## `State.note` -/
@[simp] theorem State.note_slotEls (a : Nat) (m : Reg64) : (s.note a m).slotEls = s.slotEls := rfl
@[simp] theorem State.note_phaseEls (a : Nat) (m : Reg64) : (s.note a m).phaseEls = s.phaseEls := rfl
@[simp] theorem State.note_fanEls (a : Nat) (m : Reg64) : (s.note a m).fanEls = s.fanEls := rfl
@[simp] theorem State.note_stuEls (a : Nat) (m : Reg64) : (s.note a m).stuEls = s.stuEls := rfl
@[simp] theorem State.note_stdEls (a : Nat) (m : Reg64) : (s.note a m).stdEls = s.stdEls := rfl
@[simp] theorem State.note_standSince (a : Nat) (m : Reg64) : (s.note a m).standSince = s.standSince := rfl
@[simp] theorem State.note_weftIn (a : Nat) (m : Reg64) : (s.note a m).weftIn = s.weftIn := rfl
@[simp] theorem State.note_weftTx (a : Nat) (m : Reg64) : (s.note a m).weftTx = s.weftTx := rfl
@[simp] theorem State.note_weftOut (a : Nat) (m : Reg64) : (s.note a m).weftOut = s.weftOut := rfl
@[simp] theorem State.note_weftScr (a : Nat) (m : Reg64) : (s.note a m).weftScr = s.weftScr := rfl
@[simp] theorem State.note_weftBad (a : Nat) (m : Reg64) : (s.note a m).weftBad = s.weftBad := rfl
@[simp] theorem State.note_censusDone (a : Nat) (m : Reg64) : (s.note a m).censusDone = s.censusDone := rfl
@[simp] theorem State.note_censusAt (a : Nat) (m : Reg64) : (s.note a m).censusAt = s.censusAt := rfl
@[simp] theorem State.note_censusFrom (a : Nat) (m : Reg64) : (s.note a m).censusFrom = s.censusFrom := rfl
@[simp] theorem State.note_bootLc (a : Nat) (m : Reg64) : (s.note a m).bootLc = s.bootLc := rfl
@[simp] theorem State.note_bulkKeys (a : Nat) (m : Reg64) : (s.note a m).bulkKeys = s.bulkKeys := rfl
@[simp] theorem State.note_keySeq (a : Nat) (m : Reg64) : (s.note a m).keySeq = s.keySeq := rfl
@[simp] theorem State.note_draftMeas (a : Nat) (m : Reg64) : (s.note a m).draftMeas = s.draftMeas := rfl
@[simp] theorem State.note_meterSeq (a : Nat) (m : Reg64) : (s.note a m).meterSeq = s.meterSeq := rfl
@[simp] theorem State.note_spill (a : Nat) (m : Reg64) : (s.note a m).spill = s.spill := rfl
@[simp] theorem State.note_meterChk (a : Nat) (m : Reg64) : (s.note a m).meterChk = s.meterChk := rfl
@[simp] theorem State.note_energyTenths (a : Nat) (m : Reg64) : (s.note a m).energyTenths = s.energyTenths := rfl
@[simp] theorem State.note_meterPrev (a : Nat) (m : Reg64) : (s.note a m).meterPrev = s.meterPrev := rfl
@[simp] theorem State.note_pending (a : Nat) (m : Reg64) : (s.note a m).pending = s.pending := rfl
@[simp] theorem State.note_free (a : Nat) (m : Reg64) : (s.note a m).free = s.free := rfl
@[simp] theorem State.note_tick (a : Nat) (m : Reg64) : (s.note a m).tick = s.tick := rfl
@[simp] theorem State.note_nsPhase (a : Nat) (m : Reg64) : (s.note a m).nsPhase = s.nsPhase := rfl
@[simp] theorem State.note_beatPhase (a : Nat) (m : Reg64) : (s.note a m).beatPhase = s.beatPhase := rfl
@[simp] theorem State.note_regs (a : Nat) (m : Reg64) : (s.note a m).regs = s.regs := rfl
@[simp] theorem State.note_evcSet (a : Nat) (m : Reg64) : (s.note a m).evcSet = s.evcSet := rfl
@[simp] theorem State.note_mem (a : Nat) (m : Reg64) : (s.note a m).mem = s.mem := rfl
@[simp] theorem State.note_ecc (a : Nat) (m : Reg64) : (s.note a m).ecc = s.ecc := rfl
@[simp] theorem State.note_cores (a : Nat) (m : Reg64) : (s.note a m).cores = s.cores := rfl
@[simp] theorem State.note_dstore (a : Nat) (m : Reg64) : (s.note a m).dstore = s.dstore := rfl
@[simp] theorem State.note_scrub (a : Nat) (m : Reg64) : (s.note a m).scrub = s.scrub := rfl
@[simp] theorem State.note_pools (a : Nat) (m : Reg64) : (s.note a m).pools = s.pools := rfl
@[simp] theorem State.note_kpend (a : Nat) (m : Reg64) : (s.note a m).kpend = s.kpend := rfl
@[simp] theorem State.note_poolOps (a : Nat) (m : Reg64) : (s.note a m).poolOps = s.poolOps := rfl
@[simp] theorem State.note_pairs (a : Nat) (m : Reg64) : (s.note a m).pairs = s.pairs := rfl
@[simp] theorem State.note_groups (a : Nat) (m : Reg64) : (s.note a m).groups = s.groups := rfl
@[simp] theorem State.note_parts (a : Nat) (m : Reg64) : (s.note a m).parts = s.parts := rfl
@[simp] theorem State.note_gens (a : Nat) (m : Reg64) : (s.note a m).gens = s.gens := rfl
@[simp] theorem State.note_recSeq (a : Nat) (m : Reg64) : (s.note a m).recSeq = s.recSeq := rfl
@[simp] theorem State.note_recBuf (a : Nat) (m : Reg64) : (s.note a m).recBuf = s.recBuf := rfl
@[simp] theorem State.note_log (a : Nat) (m : Reg64) : (s.note a m).log = s.log := rfl
@[simp] theorem State.note_windows (a : Nat) (m : Reg64) : (s.note a m).windows = s.windows := rfl
@[simp] theorem State.note_evPend (a : Nat) (m : Reg64) : (s.note a m).evPend = s.evPend := rfl
@[simp] theorem State.note_msi (a : Nat) (m : Reg64) : (s.note a m).msi = s.msi := rfl
@[simp] theorem State.note_tetherLead (a : Nat) (m : Reg64) : (s.note a m).tetherLead = s.tetherLead := rfl
@[simp] theorem State.note_ctlOut (a : Nat) (m : Reg64) : (s.note a m).ctlOut = s.ctlOut := rfl
@[simp] theorem State.note_hdReqs (a : Nat) (m : Reg64) : (s.note a m).hdReqs = s.hdReqs := rfl
@[simp] theorem State.note_portOut (a : Nat) (m : Reg64) : (s.note a m).portOut = s.portOut := rfl
@[simp] theorem State.note_pmbus (a : Nat) (m : Reg64) : (s.note a m).pmbus = s.pmbus := rfl
@[simp] theorem State.note_warpTx (a : Nat) (m : Reg64) : (s.note a m).warpTx = s.warpTx := rfl
@[simp] theorem State.note_warpRx (a : Nat) (m : Reg64) : (s.note a m).warpRx = s.warpRx := rfl
@[simp] theorem State.note_edge (a : Nat) (m : Reg64) : (s.note a m).edge = s.edge := rfl
@[simp] theorem State.note_warpOut (a : Nat) (m : Reg64) : (s.note a m).warpOut = s.warpOut := rfl
@[simp] theorem State.note_epIn (a : Nat) (m : Reg64) : (s.note a m).epIn = s.epIn := rfl
@[simp] theorem State.note_rings (a : Nat) (m : Reg64) : (s.note a m).rings = s.rings := rfl
@[simp] theorem State.note_lanes (a : Nat) (m : Reg64) : (s.note a m).lanes = s.lanes := rfl
@[simp] theorem State.note_slotRecs (a : Nat) (m : Reg64) : (s.note a m).slotRecs = s.slotRecs := rfl
@[simp] theorem State.note_standMap (a : Nat) (m : Reg64) : (s.note a m).standMap = s.standMap := rfl
@[simp] theorem State.note_switches (a : Nat) (m : Reg64) : (s.note a m).switches = s.switches := rfl
@[simp] theorem State.note_switchOut (a : Nat) (m : Reg64) : (s.note a m).switchOut = s.switchOut := rfl
@[simp] theorem State.note_bobbin (a : Nat) (m : Reg64) : (s.note a m).bobbin = s.bobbin := rfl
@[simp] theorem State.note_laserUp (a : Nat) (m : Reg64) : (s.note a m).laserUp = s.laserUp := rfl
@[simp] theorem State.note_calFront (a : Nat) (m : Reg64) : (s.note a m).calFront = s.calFront := rfl
@[simp] theorem State.note_erasedDie (a : Nat) (m : Reg64) : (s.note a m).erasedDie = s.erasedDie := rfl
@[simp] theorem State.note_remapFlash (a : Nat) (m : Reg64) : (s.note a m).remapFlash = s.remapFlash := rfl
@[simp] theorem State.note_badSpares (a : Nat) (m : Reg64) : (s.note a m).badSpares = s.badSpares := rfl
@[simp] theorem State.note_lastCorr (a : Nat) (m : Reg64) : (s.note a m).lastCorr = s.lastCorr := rfl
@[simp] theorem State.note_remapQual (a : Nat) (m : Reg64) : (s.note a m).remapQual = s.remapQual := rfl
@[simp] theorem State.note_writeBuf (a : Nat) (m : Reg64) : (s.note a m).writeBuf = s.writeBuf := rfl
@[simp] theorem State.note_scrubLine (a : Nat) (m : Reg64) : (s.note a m).scrubLine = s.scrubLine := rfl
@[simp] theorem State.note_scrubFrom (a : Nat) (m : Reg64) : (s.note a m).scrubFrom = s.scrubFrom := rfl
@[simp] theorem State.note_testLines (a : Nat) (m : Reg64) : (s.note a m).testLines = s.testLines := rfl
@[simp] theorem State.note_selfRun (a : Nat) (m : Reg64) : (s.note a m).selfRun = s.selfRun := rfl
@[simp] theorem State.note_pairEnd (a : Nat) (m : Reg64) : (s.note a m).pairEnd = s.pairEnd := rfl
@[simp] theorem State.note_ctlEnd (a : Nat) (m : Reg64) : (s.note a m).ctlEnd = s.ctlEnd := rfl
@[simp] theorem State.note_circOut (a : Nat) (m : Reg64) : (s.note a m).circOut = s.circOut := rfl
@[simp] theorem State.note_bulkCtl (a : Nat) (m : Reg64) : (s.note a m).bulkCtl = s.bulkCtl := rfl
@[simp] theorem State.note_filled (a : Nat) (m : Reg64) : (s.note a m).filled = s.filled := rfl
@[simp] theorem State.note_tags (a : Nat) (m : Reg64) : (s.note a m).tags = s.tags := rfl
@[simp] theorem State.note_chans (a : Nat) (m : Reg64) : (s.note a m).chans = s.chans := rfl
@[simp] theorem State.note_orderHeld (a : Nat) (m : Reg64) : (s.note a m).orderHeld = s.orderHeld := rfl
@[simp] theorem State.note_localHeld (a : Nat) (m : Reg64) : (s.note a m).localHeld = s.localHeld := rfl
@[simp] theorem State.note_filter (a : Nat) (m : Reg64) : (s.note a m).filter = s.filter := rfl
@[simp] theorem State.note_filterHot (a : Nat) (m : Reg64) : (s.note a m).filterHot = s.filterHot := rfl
@[simp] theorem State.note_coldHeld (a : Nat) (m : Reg64) : (s.note a m).coldHeld = s.coldHeld := rfl
@[simp] theorem State.note_stalled (a : Nat) (m : Reg64) : (s.note a m).stalled = s.stalled := rfl
@[simp] theorem State.note_dupHeld (a : Nat) (m : Reg64) : (s.note a m).dupHeld = s.dupHeld := rfl
@[simp] theorem State.note_atomRes (a : Nat) (m : Reg64) : (s.note a m).atomRes = s.atomRes := rfl
@[simp] theorem State.note_rrc (a : Nat) (m : Reg64) : (s.note a m).rrc = s.rrc := rfl
@[simp] theorem State.note_rrcGen (a : Nat) (m : Reg64) : (s.note a m).rrcGen = s.rrcGen := rfl
@[simp] theorem State.note_shch (a : Nat) (m : Reg64) : (s.note a m).shch = s.shch := rfl
@[simp] theorem State.note_arbs (a : Nat) (m : Reg64) : (s.note a m).arbs = s.arbs := rfl
@[simp] theorem State.note_sepochFlash (a : Nat) (m : Reg64) : (s.note a m).sepochFlash = s.sepochFlash := rfl
@[simp] theorem State.note_peerMiss (a : Nat) (m : Reg64) : (s.note a m).peerMiss = s.peerMiss := rfl
@[simp] theorem State.note_streams (a : Nat) (m : Reg64) : (s.note a m).streams = s.streams := rfl
@[simp] theorem State.note_colWait (a : Nat) (m : Reg64) : (s.note a m).colWait = s.colWait := rfl
@[simp] theorem State.note_combs (a : Nat) (m : Reg64) : (s.note a m).combs = s.combs := rfl
@[simp] theorem State.note_repls (a : Nat) (m : Reg64) : (s.note a m).repls = s.repls := rfl
@[simp] theorem State.note_mseq (a : Nat) (m : Reg64) : (s.note a m).mseq = s.mseq := rfl
@[simp] theorem State.note_streamSeq (a : Nat) (m : Reg64) : (s.note a m).streamSeq = s.streamSeq := rfl
@[simp] theorem State.note_mcFilter (a : Nat) (m : Reg64) : (s.note a m).mcFilter = s.mcFilter := rfl
@[simp] theorem State.note_segOut (a : Nat) (m : Reg64) : (s.note a m).segOut = s.segOut := rfl
@[simp] theorem State.note_resendOut (a : Nat) (m : Reg64) : (s.note a m).resendOut = s.resendOut := rfl
@[simp] theorem State.note_ports (a : Nat) (m : Reg64) : (s.note a m).ports = s.ports := rfl
@[simp] theorem State.note_links (a : Nat) (m : Reg64) : (s.note a m).links = s.links := rfl
@[simp] theorem State.note_sfOut (a : Nat) (m : Reg64) : (s.note a m).sfOut = s.sfOut := rfl
@[simp] theorem State.note_meters (a : Nat) (m : Reg64) : (s.note a m).meters = s.meters := rfl
@[simp] theorem State.note_mbQueue (a : Nat) (m : Reg64) : (s.note a m).mbQueue = s.mbQueue := rfl
@[simp] theorem State.note_smbOut (a : Nat) (m : Reg64) : (s.note a m).smbOut = s.smbOut := rfl
@[simp] theorem State.note_tethers (a : Nat) (m : Reg64) : (s.note a m).tethers = s.tethers := rfl
@[simp] theorem State.note_forwarded (a : Nat) (m : Reg64) : (s.note a m).forwarded = s.forwarded := rfl
@[simp] theorem State.note_tetherPolicy (a : Nat) (m : Reg64) : (s.note a m).tetherPolicy = s.tetherPolicy := rfl
@[simp] theorem State.note_stages (a : Nat) (m : Reg64) : (s.note a m).stages = s.stages := rfl
@[simp] theorem State.note_nextStage (a : Nat) (m : Reg64) : (s.note a m).nextStage = s.nextStage := rfl
@[simp] theorem State.note_stageTick (a : Nat) (m : Reg64) : (s.note a m).stageTick = s.stageTick := rfl
@[simp] theorem State.note_upTick (a : Nat) (m : Reg64) : (s.note a m).upTick = s.upTick := rfl
@[simp] theorem State.note_upCfg (a : Nat) (m : Reg64) : (s.note a m).upCfg = s.upCfg := rfl
@[simp] theorem State.note_storedCfg (a : Nat) (m : Reg64) : (s.note a m).storedCfg = s.storedCfg := rfl
@[simp] theorem State.note_runCfg (a : Nat) (m : Reg64) : (s.note a m).runCfg = s.runCfg := rfl
@[simp] theorem State.note_fw (a : Nat) (m : Reg64) : (s.note a m).fw = s.fw := rfl
@[simp] theorem State.note_lc (a : Nat) (m : Reg64) : (s.note a m).lc = s.lc := rfl
@[simp] theorem State.note_ide (a : Nat) (m : Reg64) : (s.note a m).ide = s.ide := rfl
@[simp] theorem State.note_spdm (a : Nat) (m : Reg64) : (s.note a m).spdm = s.spdm := rfl
@[simp] theorem State.note_spdmOut (a : Nat) (m : Reg64) : (s.note a m).spdmOut = s.spdmOut := rfl
@[simp] theorem State.note_eid (a : Nat) (m : Reg64) : (s.note a m).eid = s.eid := rfl
@[simp] theorem State.note_powerOff (a : Nat) (m : Reg64) : (s.note a m).powerOff = s.powerOff := rfl
@[simp] theorem State.note_inReset (a : Nat) (m : Reg64) : (s.note a m).inReset = s.inReset := rfl
@[simp] theorem State.note_brake (a : Nat) (m : Reg64) : (s.note a m).brake = s.brake := rfl
@[simp] theorem State.note_clock (a : Nat) (m : Reg64) : (s.note a m).clock = s.clock := rfl
@[simp] theorem State.note_capping (a : Nat) (m : Reg64) : (s.note a m).capping = s.capping := rfl
@[simp] theorem State.note_sensors (a : Nat) (m : Reg64) : (s.note a m).sensors = s.sensors := rfl
@[simp] theorem State.note_hotRun (a : Nat) (m : Reg64) : (s.note a m).hotRun = s.hotRun := rfl
@[simp] theorem State.note_thermCalm (a : Nat) (m : Reg64) : (s.note a m).thermCalm = s.thermCalm := rfl
@[simp] theorem State.note_stackTemp (a : Nat) (m : Reg64) : (s.note a m).stackTemp = s.stackTemp := rfl
@[simp] theorem State.note_shutTick (a : Nat) (m : Reg64) : (s.note a m).shutTick = s.shutTick := rfl
@[simp] theorem State.note_shutLog (a : Nat) (m : Reg64) : (s.note a m).shutLog = s.shutLog := rfl
@[simp] theorem State.note_wasShut (a : Nat) (m : Reg64) : (s.note a m).wasShut = s.wasShut := rfl
@[simp] theorem State.note_resetDue (a : Nat) (m : Reg64) : (s.note a m).resetDue = s.resetDue := rfl
@[simp] theorem State.note_readOut (a : Nat) (m : Reg64) : (s.note a m).readOut = s.readOut := rfl
@[simp] theorem State.note_late (a : Nat) (m : Reg64) : (s.note a m).late = s.late := rfl

/-! ## The field an update writes -/
@[simp] theorem State.rset_regs (a : Nat) (v : Reg64) : (s.rset a v).regs = Tab.set (regReset a) s.regs a v := rfl
@[simp] theorem State.setCore_cores (c : Nat) (k : Core) : (s.setCore c k).cores = Tab.set Core.reset s.cores c k := rfl
@[simp] theorem State.setPair_pairs (p : Nat) (k : Pair) : (s.setPair p k).pairs = Tab.set Pair.reset s.pairs p k := rfl
@[simp] theorem State.setGrp_groups (g : Nat) (k : Grp) : (s.setGrp g k).groups = Tab.set Grp.none s.groups g k := rfl
@[simp] theorem State.setKp_kpend (a : Nat) (k : KnotPend) : (s.setKp a k).kpend = Tab.set KnotPend.none s.kpend a k := rfl
@[simp] theorem State.used_free : s.used.free = s.free + 1 := rfl
@[simp] theorem State.sendMsi_msi (f v : Nat) : (s.sendMsi f v).msi = s.msi ++ [(f, v)] := rfl
@[simp] theorem State.setPart_parts (n : Nat) (p : Part) :
    (s.setPart n p).parts = s.parts.map fun e => if e.1 = n then (n, p) else e := rfl
@[simp] theorem State.note_hwSet (a : Nat) (m : Reg64) :
    (s.note a m).hwSet = Tab.set 0 s.hwSet a (Tab.get 0 s.hwSet a ||| m) := rfl

end Sys2Proof.Machine
end

