-- ==== Sys2Proof/Laws/Table.lean ====
section
/-! SUPPORT. Laws of the sparse tables: what a read gives after a write, and that writing keeps the canonical form. -/
namespace Sys2Proof.Machine

variable {α : Type}

theorem Tab.get_nil (d : α) (k : Nat) : Tab.get d [] k = d := rfl

theorem Tab.get_put_same (d : α) (t : List (Nat × α)) (k : Nat) (v : α) : Tab.get d (Tab.put t k v) k = v := by
  induction t with
  | nil => simp [Tab.put, Tab.get]
  | cons e r ih =>
    obtain ⟨k', v'⟩ := e
    simp only [Tab.put]
    split
    · simp [Tab.get]
    · split
      · simp [Tab.get]
      · rename_i h; simp [Tab.get, Ne.symm h, ih]

theorem Tab.get_put_other (d : α) (t : List (Nat × α)) {k j : Nat} (v : α) (h : j ≠ k) :
    Tab.get d (Tab.put t k v) j = Tab.get d t j := by
  induction t with
  | nil => simp [Tab.put, Tab.get, Ne.symm h]
  | cons e r ih =>
    obtain ⟨k', v'⟩ := e
    simp only [Tab.put]
    split
    · simp [Tab.get, Ne.symm h]
    · split
      · rename_i h1 h2; subst h2; simp [Tab.get, Ne.symm h]
      · simp [Tab.get, ih]

theorem Tab.get_filter_self (d : α) (t : List (Nat × α)) (f : Nat → Bool) (k : Nat) :
    Tab.get d (t.filter fun e => f e.1) k = if f k then Tab.get d t k else d := by
  induction t with
  | nil => simp [Tab.get]
  | cons e r ih =>
    obtain ⟨k', v'⟩ := e
    by_cases hf : f k'
    · rw [List.filter_cons_of_pos (by simpa using hf)]
      simp only [Tab.get, ih]
      by_cases hk : k' = k
      · subst hk; simp [hf]
      · simp [hk]
    · rw [List.filter_cons_of_neg (by simpa using hf), ih]
      simp only [Tab.get]
      by_cases hk : k' = k
      · subst hk; simp [hf]
      · simp [hk]

@[simp] theorem Tab.get_set_same [DecidableEq α] (d : α) (t : List (Nat × α)) (k : Nat) (v : α) :
    Tab.get d (Tab.set d t k v) k = v := by
  unfold Tab.set
  split
  · rename_i h
    have := Tab.get_filter_self d t (fun j => !decide (j = k)) k
    simpa [h] using this
  · exact Tab.get_put_same d t k v

theorem Tab.get_set_other [DecidableEq α] (d d' : α) (t : List (Nat × α)) {k j : Nat} (v : α) (h : j ≠ k) :
    Tab.get d' (Tab.set d t k v) j = Tab.get d' t j := by
  unfold Tab.set
  split
  · have := Tab.get_filter_self d' t (fun j => !decide (j = k)) j
    simpa [h] using this
  · exact Tab.get_put_other d' t v h

theorem Tab.get_drop (d : α) (t : List (Nat × α)) (lo hi k : Nat) :
    Tab.get d (Tab.drop t lo hi) k = if lo ≤ k ∧ k < hi then d else Tab.get d t k := by
  have := Tab.get_filter_self d t (fun j => !(decide (lo ≤ j) && decide (j < hi))) k
  simp only [Tab.drop, this]
  by_cases h : lo ≤ k ∧ k < hi
  · simp [h]
  · rw [if_neg h]; split
    · rfl
    · rename_i h2; simp at h2; exact absurd ⟨h2.1, h2.2⟩ h

/-! ## Canonical form -/

/-- Rising keys as pairwise order. -/
theorem Tab.sorted_iff (t : List (Nat × α)) : Tab.sorted t = true ↔ (t.map Prod.fst).Pairwise (· < ·) := by
  induction t with
  | nil => simp [Tab.sorted]
  | cons e r ih =>
    obtain ⟨k, v⟩ := e
    cases r with
    | nil => simp [Tab.sorted]
    | cons e' r' =>
      obtain ⟨k', v'⟩ := e'
      simp only [Tab.sorted, Bool.and_eq_true, decide_eq_true_eq, ih, List.map_cons, List.pairwise_cons]
      constructor
      · rintro ⟨h1, h2, h3⟩
        refine ⟨fun a ha => ?_, h2, h3⟩
        rcases List.mem_cons.1 ha with rfl | ha
        · exact h1
        · exact Nat.lt_trans h1 (h2 a ha)
      · rintro ⟨h1, h2, h3⟩
        exact ⟨h1 k' (by simp), h2, h3⟩

theorem Tab.canon_iff [DecidableEq α] (d : Nat → α) (t : List (Nat × α)) :
    Tab.canon d t = true ↔ (t.map Prod.fst).Pairwise (· < ·) ∧ ∀ e ∈ t, e.2 ≠ d e.1 := by
  simp [Tab.canon, Tab.sorted_iff, List.all_eq_true]

theorem Tab.canon_filter [DecidableEq α] (d : Nat → α) {t : List (Nat × α)} (f : Nat × α → Bool) (h : Tab.canon d t = true) :
    Tab.canon d (t.filter f) = true := by
  rw [Tab.canon_iff] at h ⊢
  refine ⟨List.Pairwise.sublist (List.Sublist.map _ List.filter_sublist) h.1, fun e he => h.2 e (List.mem_filter.1 he).1⟩

theorem Tab.mem_put {t : List (Nat × α)} {k : Nat} {v : α} {e : Nat × α} (h : e ∈ Tab.put t k v) : e = (k, v) ∨ e ∈ t := by
  induction t with
  | nil => simpa [Tab.put] using h
  | cons a r ih =>
    obtain ⟨k', v'⟩ := a
    simp only [Tab.put] at h
    split at h
    · simpa using h
    · split at h
      · rcases List.mem_cons.1 h with h | h
        · exact .inl h
        · exact .inr (List.mem_cons_of_mem _ h)
      · rcases List.mem_cons.1 h with h | h
        · exact .inr (by simp [h])
        · rcases ih h with h | h
          · exact .inl h
          · exact .inr (List.mem_cons_of_mem _ h)

theorem Tab.pairwise_put {t : List (Nat × α)} (k : Nat) (v : α) (h : (t.map Prod.fst).Pairwise (· < ·)) :
    ((Tab.put t k v).map Prod.fst).Pairwise (· < ·) := by
  induction t with
  | nil => simp [Tab.put]
  | cons a r ih =>
    obtain ⟨k', v'⟩ := a
    simp only [Tab.put]
    simp only [List.map_cons, List.pairwise_cons] at h
    split
    · rename_i hk
      simp only [List.map_cons, List.pairwise_cons]
      refine ⟨fun a ha => ?_, h⟩
      rcases List.mem_cons.1 ha with rfl | ha
      · exact hk
      · exact Nat.lt_trans hk (h.1 a ha)
    · split
      · rename_i hk; subst hk
        simpa using h
      · rename_i h1 h2
        simp only [List.map_cons, List.pairwise_cons]
        refine ⟨fun a ha => ?_, ih h.2⟩
        obtain ⟨e, he, rfl⟩ := List.mem_map.1 ha
        rcases Tab.mem_put he with rfl | he
        · show k' < k; omega
        · exact h.1 _ (List.mem_map.2 ⟨e, he, rfl⟩)

theorem Tab.canon_set [DecidableEq α] (d : Nat → α) {t : List (Nat × α)} (k : Nat) (v : α) (h : Tab.canon d t = true) :
    Tab.canon d (Tab.set (d k) t k v) = true := by
  unfold Tab.set
  split
  · exact Tab.canon_filter d _ h
  · rename_i hv
    rw [Tab.canon_iff] at h ⊢
    refine ⟨Tab.pairwise_put k v h.1, fun e he => ?_⟩
    rcases Tab.mem_put he with rfl | he
    · exact hv
    · exact h.2 e he

theorem Tab.canon_drop [DecidableEq α] (d : Nat → α) {t : List (Nat × α)} (lo hi : Nat) (h : Tab.canon d t = true) :
    Tab.canon d (Tab.drop t lo hi) = true := Tab.canon_filter d _ h

end Sys2Proof.Machine
end

