-- ==== Sys2Proof/Laws/Memory.lean ====
section
/-! SUPPORT. Laws of the memory: a read after a write, writes elsewhere, and that every memory operation keeps the
canonical form. -/
namespace Sys2Proof.Machine

theorem memPut_get (bs : List Byte) : ∀ (m : List Host.Cell) (a x : Nat),
    Tab.get 0 (memPut m a bs) x = if a ≤ x ∧ x < a + bs.length then bs.getD (x - a) 0 else Tab.get 0 m x := by
  induction bs with
  | nil => intro m a x; simp [memPut]
  | cons b r ih =>
    intro m a x
    simp only [memPut, ih, List.length_cons]
    by_cases h0 : x = a
    · subst h0
      rw [if_neg (by omega), if_pos (by omega), Tab.get_set_same]; simp
    · by_cases h1 : a + 1 ≤ x ∧ x < a + 1 + r.length
      · rw [if_pos h1, if_pos (by omega)]
        have : x - a = (x - (a + 1)) + 1 := by omega
        rw [this, List.getD_cons_succ]
      · rw [if_neg h1, if_neg (by omega), Tab.get_set_other _ _ _ _ h0]

/-- A byte after a store: the stored byte inside it, the byte before outside it. -/
theorem State.byte_putBytes (s : State) (a : Nat) (bs : List Byte) (x : Nat) :
    (s.putBytes a bs).byte x = if a ≤ x ∧ x < a + bs.length then bs.getD (x - a) 0 else s.byte x := memPut_get bs s.mem a x
theorem State.byte_putBytes_other (s : State) (a : Nat) (bs : List Byte) (x : Nat) (h : x < a ∨ a + bs.length ≤ x) :
    (s.putBytes a bs).byte x = s.byte x := by rw [State.byte_putBytes, if_neg (by omega)]
@[simp] theorem State.length_bytes (s : State) (n : Nat) : ∀ a, (s.bytes a n).length = n := by
  induction n with
  | zero => intro a; rfl
  | succ n ih => intro a; simp [State.bytes, ih]
theorem State.bytes_getD (s : State) (n : Nat) : ∀ a i, i < n → (s.bytes a n).getD i 0 = s.byte (a + i) := by
  induction n with
  | zero => intro a i h; omega
  | succ n ih =>
    intro a i h
    cases i with
    | zero => rfl
    | succ i =>
      simp only [State.bytes, List.getD_cons_succ]
      rw [ih (a + 1) i (by omega)]; congr 1; omega
/-- A read after a store to the same place gives what was stored. -/
theorem State.bytes_putBytes_same (s : State) (a : Nat) (bs : List Byte) : (s.putBytes a bs).bytes a bs.length = bs := by
  apply List.ext_getElem (by simp)
  intro i h1 h2
  have e1 := State.bytes_getD (s.putBytes a bs) bs.length a i h2
  rw [State.byte_putBytes, if_pos (by omega)] at e1
  simpa [List.getD, List.getElem?_eq_getElem h1, List.getElem?_eq_getElem h2] using e1

/-! ## Canonical form -/

theorem Memory.wf_put (bs : List Byte) : ∀ (m : List Host.Cell) (a : Nat), Memory.wf m = true → Memory.wf (memPut m a bs) = true := by
  induction bs with
  | nil => intro m a h; exact h
  | cons b r ih => intro m a h; exact ih _ _ (Tab.canon_set (fun _ => (0 : Byte)) a b h)
theorem Memory.wf_drop {m : List Host.Cell} (lo hi : Nat) (h : Memory.wf m = true) : Memory.wf (Tab.drop m lo hi) = true :=
  Tab.canon_drop _ lo hi h
theorem State.putBytes_wf (s : State) (a : Nat) (bs : List Byte) (h : Memory.wf s.mem = true) :
    Memory.wf (s.putBytes a bs).mem = true := Memory.wf_put bs s.mem a h
theorem State.putLines_wf (ls : List Line) : ∀ (s : State) (a : Nat), Memory.wf s.mem = true → Memory.wf (s.putLines a ls).mem = true := by
  induction ls with
  | nil => intro s a h; exact h
  | cons l r ih => intro s a h; exact ih _ _ (State.putBytes_wf s a _ h)
theorem Regs.wf_set {r : List (Nat × Reg64)} (a : Nat) (v : Reg64) (h : Regs.wf r = true) :
    Regs.wf (Tab.set (regReset a) r a v) = true := Tab.canon_set regReset a v h
theorem Regs.wf_filter {r : List (Nat × Reg64)} (f : Nat × Reg64 → Bool) (h : Regs.wf r = true) : Regs.wf (r.filter f) = true :=
  Tab.canon_filter regReset f h

end Sys2Proof.Machine
end

