-- ==== Sys2Proof/Laws/Regs.lean ====
section
/-! SUPPORT. Laws of registers, cores, pairs, groups and knots as the operations read and write them, and of the event
counters: they change counter registers and nothing else. -/
namespace Sys2Proof.Machine

variable (s : State)

/-! ## Registers -/

@[simp] theorem State.rget_rset_same (a : Nat) (v : Reg64) : (s.rset a v).rget a = v := Tab.get_set_same ..
theorem State.rget_rset_other {a b : Nat} (v : Reg64) (h : b ≠ a) : (s.rset a v).rget b = s.rget b := Tab.get_set_other _ _ _ _ h
theorem State.rget_wf_other {a b : Nat} (f : Fld) (v : Nat) (h : b ≠ a) : (s.wf a f v).rget b = s.rget b := s.rget_rset_other _ h
@[simp] theorem State.rget_wf_same (a : Nat) (f : Fld) (v : Nat) : (s.wf a f v).rget a = f.put (s.rget a) v := s.rget_rset_same ..
theorem State.rf_wf_same (a : Nat) (f : Fld) (v : Nat) (h : f.lo + f.w ≤ 64) : (s.wf a f v).rf a f = v % 2 ^ f.w := by
  simp [State.rf, Fld.get_put_same _ _ _ h]
theorem State.rf_wf_field (a : Nat) (f g : Fld) (v : Nat) (hg : g.lo + g.w ≤ 64) (h : f.lo + f.w ≤ g.lo ∨ g.lo + g.w ≤ f.lo) :
    (s.wf a f v).rf a g = s.rf a g := by
  simp [State.rf, Fld.get_put_other _ _ _ _ hg h]
theorem State.rf_wf_other {a b : Nat} (f g : Fld) (v : Nat) (h : b ≠ a) : (s.wf a f v).rf b g = s.rf b g := by
  simp [State.rf, s.rget_wf_other f v h]
theorem State.rf_rset_other {a b : Nat} (g : Fld) (v : Reg64) (h : b ≠ a) : (s.rset a v).rf b g = s.rf b g := by
  simp [State.rf, s.rget_rset_other v h]
theorem State.rf_rset_same (a : Nat) (g : Fld) (v : Reg64) : (s.rset a v).rf a g = g.get v := by simp [State.rf]
theorem State.rf_bump_same (a : Nat) (f : Fld) (n : Nat) (h : f.lo + f.w ≤ 64) :
    (s.bump a f n).rf a f = min (s.rf a f + n) f.max := by
  rw [State.bump, s.rf_wf_same a f _ h, Nat.mod_eq_of_lt]
  have : f.max < 2 ^ f.w := by have := Nat.two_pow_pos f.w; unfold Fld.max; omega
  omega

/-! ## Cores, pairs, groups, knots -/

@[simp] theorem State.core_setCore_same (c : Nat) (k : Core) : (s.setCore c k).core c = k := Tab.get_set_same ..
theorem State.core_setCore_other {c d : Nat} (k : Core) (h : d ≠ c) : (s.setCore c k).core d = s.core d := Tab.get_set_other _ _ _ _ h
@[simp] theorem State.pair_setPair_same (p : Nat) (k : Pair) : (s.setPair p k).pair p = k := Tab.get_set_same ..
theorem State.pair_setPair_other {p q : Nat} (k : Pair) (h : q ≠ p) : (s.setPair p k).pair q = s.pair q := Tab.get_set_other _ _ _ _ h
@[simp] theorem State.grp_setGrp_same (g : Nat) (k : Grp) : (s.setGrp g k).grp g = k := Tab.get_set_same ..
theorem State.grp_setGrp_other {g h : Nat} (k : Grp) (n : h ≠ g) : (s.setGrp g k).grp h = s.grp h := Tab.get_set_other _ _ _ _ n
@[simp] theorem State.kp_setKp_same (a : Nat) (k : KnotPend) : (s.setKp a k).kp a = k := Tab.get_set_same ..
theorem State.kp_setKp_other {a b : Nat} (k : KnotPend) (h : b ≠ a) : (s.setKp a k).kp b = s.kp b := Tab.get_set_other _ _ _ _ h

/-! ## Event counters -/

/-- A counter that meets an event changes registers and the bits hardware has set, nothing else. -/
theorem State.evcOne_only (a code : Nat) (sc : Nat → Bool) (n : Nat) :
    ∃ r w, s.evcOne a code sc n = { s with regs := r, hwSet := w } := by
  unfold State.evcOne
  split
  · exact ⟨s.regs, s.hwSet, rfl⟩
  · dsimp only
    split
    · exact ⟨_, _, rfl⟩
    · exact ⟨_, s.hwSet, rfl⟩
theorem State.rget_evcOne (a b code : Nat) (sc : Nat → Bool) (n : Nat) (h : b ≠ a) : (s.evcOne a code sc n).rget b = s.rget b := by
  unfold State.evcOne
  split
  · rfl
  · dsimp only
    split
    · exact s.rget_rset_other _ h
    · exact s.rget_rset_other _ h
theorem State.evc_fold (sc : Nat → Bool) (base code n : Nat) (l : List Nat) : ∀ s : State,
    ∃ r w, l.foldl (fun s i => s.evcOne (base + 8 * i) code sc n) s = { s with regs := r, hwSet := w } := by
  induction l with
  | nil => intro s; exact ⟨s.regs, s.hwSet, rfl⟩
  | cons i l ih =>
    intro s
    obtain ⟨r, w, h⟩ := ih (s.evcOne (base + 8 * i) code sc n)
    obtain ⟨r', w', h'⟩ := s.evcOne_only (base + 8 * i) code sc n
    exact ⟨r, w, by rw [List.foldl_cons, h, h']⟩
/-- Counting changes registers and the bits hardware has set, nothing else. -/
theorem State.evc_only (base k code : Nat) (sc : Nat → Bool) (n : Nat) :
    ∃ r w, s.evc base k code sc n = { s with regs := r, hwSet := w } := by
  unfold State.evc
  split
  · exact State.evc_fold ..
  · exact ⟨s.regs, s.hwSet, rfl⟩
theorem State.evc_fold_rget (sc : Nat → Bool) (base code n a : Nat) (l : List Nat) (h : ∀ i ∈ l, a ≠ base + 8 * i) : ∀ s : State,
    (l.foldl (fun s i => s.evcOne (base + 8 * i) code sc n) s).rget a = s.rget a := by
  induction l with
  | nil => intro s; rfl
  | cons i l ih =>
    intro s
    rw [List.foldl_cons, ih (fun j hj => h j (List.mem_cons_of_mem _ hj)), State.rget_evcOne _ _ _ _ _ _ (h i (by simp))]
/-- A register that is none of the counters stands. -/
theorem State.rget_evc (base k code : Nat) (sc : Nat → Bool) (n a : Nat) (h : a < base ∨ base + 8 * k ≤ a) :
    (s.evc base k code sc n).rget a = s.rget a := by
  unfold State.evc
  split
  · apply State.evc_fold_rget
    intro i hi
    have := List.mem_range.1 hi
    omega
  · rfl
theorem State.rf_evc (base k code : Nat) (sc : Nat → Bool) (n a : Nat) (f : Fld) (h : a < base ∨ base + 8 * k ≤ a) :
    (s.evc base k code sc n).rf a f = s.rf a f := by simp [State.rf, s.rget_evc base k code sc n a h]
@[simp] theorem State.rget_note (a b : Nat) (m : Reg64) : (s.note a m).rget b = s.rget b := rfl
@[simp] theorem State.rf_note (a b : Nat) (m : Reg64) (f : Fld) : (s.note a m).rf b f = s.rf b f := rfl
/-- A flag the hardware raises reads so. -/
theorem State.rf_raise_same (a : Nat) (f : Fld) (v : Nat) (h : f.lo + f.w ≤ 64) :
    (s.raise a f v).rf a f = (s.rf a f ||| v) % 2 ^ f.w := by simp [State.raise, s.rf_wf_same a f _ h]
theorem State.rget_raise_other {a b : Nat} (f : Fld) (v : Nat) (h : b ≠ a) : (s.raise a f v).rget b = s.rget b :=
  s.rget_wf_other f _ h

/-! ## What counting and writing a field leave -/

@[simp] theorem State.evc_slotEls (base k code : Nat) (sc : Nat → Bool) (n : Nat) : (s.evc base k code sc n).slotEls = s.slotEls := by
  obtain ⟨r, w, h⟩ := s.evc_only base k code sc n; rw [h]
@[simp] theorem State.evc_phaseEls (base k code : Nat) (sc : Nat → Bool) (n : Nat) : (s.evc base k code sc n).phaseEls = s.phaseEls := by
  obtain ⟨r, w, h⟩ := s.evc_only base k code sc n; rw [h]
@[simp] theorem State.evc_fanEls (base k code : Nat) (sc : Nat → Bool) (n : Nat) : (s.evc base k code sc n).fanEls = s.fanEls := by
  obtain ⟨r, w, h⟩ := s.evc_only base k code sc n; rw [h]
@[simp] theorem State.evc_stuEls (base k code : Nat) (sc : Nat → Bool) (n : Nat) : (s.evc base k code sc n).stuEls = s.stuEls := by
  obtain ⟨r, w, h⟩ := s.evc_only base k code sc n; rw [h]
@[simp] theorem State.evc_stdEls (base k code : Nat) (sc : Nat → Bool) (n : Nat) : (s.evc base k code sc n).stdEls = s.stdEls := by
  obtain ⟨r, w, h⟩ := s.evc_only base k code sc n; rw [h]
@[simp] theorem State.evc_standSince (base k code : Nat) (sc : Nat → Bool) (n : Nat) : (s.evc base k code sc n).standSince = s.standSince := by
  obtain ⟨r, w, h⟩ := s.evc_only base k code sc n; rw [h]
@[simp] theorem State.evc_weftIn (base k code : Nat) (sc : Nat → Bool) (n : Nat) : (s.evc base k code sc n).weftIn = s.weftIn := by
  obtain ⟨r, w, h⟩ := s.evc_only base k code sc n; rw [h]
@[simp] theorem State.evc_weftTx (base k code : Nat) (sc : Nat → Bool) (n : Nat) : (s.evc base k code sc n).weftTx = s.weftTx := by
  obtain ⟨r, w, h⟩ := s.evc_only base k code sc n; rw [h]
@[simp] theorem State.evc_weftOut (base k code : Nat) (sc : Nat → Bool) (n : Nat) : (s.evc base k code sc n).weftOut = s.weftOut := by
  obtain ⟨r, w, h⟩ := s.evc_only base k code sc n; rw [h]
@[simp] theorem State.evc_weftScr (base k code : Nat) (sc : Nat → Bool) (n : Nat) : (s.evc base k code sc n).weftScr = s.weftScr := by
  obtain ⟨r, w, h⟩ := s.evc_only base k code sc n; rw [h]
@[simp] theorem State.evc_weftBad (base k code : Nat) (sc : Nat → Bool) (n : Nat) : (s.evc base k code sc n).weftBad = s.weftBad := by
  obtain ⟨r, w, h⟩ := s.evc_only base k code sc n; rw [h]
@[simp] theorem State.evc_censusDone (base k code : Nat) (sc : Nat → Bool) (n : Nat) : (s.evc base k code sc n).censusDone = s.censusDone := by
  obtain ⟨r, w, h⟩ := s.evc_only base k code sc n; rw [h]
@[simp] theorem State.evc_censusAt (base k code : Nat) (sc : Nat → Bool) (n : Nat) : (s.evc base k code sc n).censusAt = s.censusAt := by
  obtain ⟨r, w, h⟩ := s.evc_only base k code sc n; rw [h]
@[simp] theorem State.evc_censusFrom (base k code : Nat) (sc : Nat → Bool) (n : Nat) : (s.evc base k code sc n).censusFrom = s.censusFrom := by
  obtain ⟨r, w, h⟩ := s.evc_only base k code sc n; rw [h]
@[simp] theorem State.evc_bootLc (base k code : Nat) (sc : Nat → Bool) (n : Nat) : (s.evc base k code sc n).bootLc = s.bootLc := by
  obtain ⟨r, w, h⟩ := s.evc_only base k code sc n; rw [h]
@[simp] theorem State.evc_bulkKeys (base k code : Nat) (sc : Nat → Bool) (n : Nat) : (s.evc base k code sc n).bulkKeys = s.bulkKeys := by
  obtain ⟨r, w, h⟩ := s.evc_only base k code sc n; rw [h]
@[simp] theorem State.evc_keySeq (base k code : Nat) (sc : Nat → Bool) (n : Nat) : (s.evc base k code sc n).keySeq = s.keySeq := by
  obtain ⟨r, w, h⟩ := s.evc_only base k code sc n; rw [h]
@[simp] theorem State.evc_draftMeas (base k code : Nat) (sc : Nat → Bool) (n : Nat) : (s.evc base k code sc n).draftMeas = s.draftMeas := by
  obtain ⟨r, w, h⟩ := s.evc_only base k code sc n; rw [h]
@[simp] theorem State.evc_meterSeq (base k code : Nat) (sc : Nat → Bool) (n : Nat) : (s.evc base k code sc n).meterSeq = s.meterSeq := by
  obtain ⟨r, w, h⟩ := s.evc_only base k code sc n; rw [h]
@[simp] theorem State.evc_spill (base k code : Nat) (sc : Nat → Bool) (n : Nat) : (s.evc base k code sc n).spill = s.spill := by
  obtain ⟨r, w, h⟩ := s.evc_only base k code sc n; rw [h]
@[simp] theorem State.evc_meterChk (base k code : Nat) (sc : Nat → Bool) (n : Nat) : (s.evc base k code sc n).meterChk = s.meterChk := by
  obtain ⟨r, w, h⟩ := s.evc_only base k code sc n; rw [h]
@[simp] theorem State.evc_energyTenths (base k code : Nat) (sc : Nat → Bool) (n : Nat) : (s.evc base k code sc n).energyTenths = s.energyTenths := by
  obtain ⟨r, w, h⟩ := s.evc_only base k code sc n; rw [h]
@[simp] theorem State.evc_meterPrev (base k code : Nat) (sc : Nat → Bool) (n : Nat) : (s.evc base k code sc n).meterPrev = s.meterPrev := by
  obtain ⟨r, w, h⟩ := s.evc_only base k code sc n; rw [h]
@[simp] theorem State.evc_pending (base k code : Nat) (sc : Nat → Bool) (n : Nat) : (s.evc base k code sc n).pending = s.pending := by
  obtain ⟨r, w, h⟩ := s.evc_only base k code sc n; rw [h]
@[simp] theorem State.evc_free (base k code : Nat) (sc : Nat → Bool) (n : Nat) : (s.evc base k code sc n).free = s.free := by
  obtain ⟨r, w, h⟩ := s.evc_only base k code sc n; rw [h]
@[simp] theorem State.evc_tick (base k code : Nat) (sc : Nat → Bool) (n : Nat) : (s.evc base k code sc n).tick = s.tick := by
  obtain ⟨r, w, h⟩ := s.evc_only base k code sc n; rw [h]
@[simp] theorem State.evc_nsPhase (base k code : Nat) (sc : Nat → Bool) (n : Nat) : (s.evc base k code sc n).nsPhase = s.nsPhase := by
  obtain ⟨r, w, h⟩ := s.evc_only base k code sc n; rw [h]
@[simp] theorem State.evc_beatPhase (base k code : Nat) (sc : Nat → Bool) (n : Nat) : (s.evc base k code sc n).beatPhase = s.beatPhase := by
  obtain ⟨r, w, h⟩ := s.evc_only base k code sc n; rw [h]
@[simp] theorem State.evc_evcSet (base k code : Nat) (sc : Nat → Bool) (n : Nat) : (s.evc base k code sc n).evcSet = s.evcSet := by
  obtain ⟨r, w, h⟩ := s.evc_only base k code sc n; rw [h]
@[simp] theorem State.evc_mem (base k code : Nat) (sc : Nat → Bool) (n : Nat) : (s.evc base k code sc n).mem = s.mem := by
  obtain ⟨r, w, h⟩ := s.evc_only base k code sc n; rw [h]
@[simp] theorem State.evc_ecc (base k code : Nat) (sc : Nat → Bool) (n : Nat) : (s.evc base k code sc n).ecc = s.ecc := by
  obtain ⟨r, w, h⟩ := s.evc_only base k code sc n; rw [h]
@[simp] theorem State.evc_cores (base k code : Nat) (sc : Nat → Bool) (n : Nat) : (s.evc base k code sc n).cores = s.cores := by
  obtain ⟨r, w, h⟩ := s.evc_only base k code sc n; rw [h]
@[simp] theorem State.evc_dstore (base k code : Nat) (sc : Nat → Bool) (n : Nat) : (s.evc base k code sc n).dstore = s.dstore := by
  obtain ⟨r, w, h⟩ := s.evc_only base k code sc n; rw [h]
@[simp] theorem State.evc_scrub (base k code : Nat) (sc : Nat → Bool) (n : Nat) : (s.evc base k code sc n).scrub = s.scrub := by
  obtain ⟨r, w, h⟩ := s.evc_only base k code sc n; rw [h]
@[simp] theorem State.evc_pools (base k code : Nat) (sc : Nat → Bool) (n : Nat) : (s.evc base k code sc n).pools = s.pools := by
  obtain ⟨r, w, h⟩ := s.evc_only base k code sc n; rw [h]
@[simp] theorem State.evc_kpend (base k code : Nat) (sc : Nat → Bool) (n : Nat) : (s.evc base k code sc n).kpend = s.kpend := by
  obtain ⟨r, w, h⟩ := s.evc_only base k code sc n; rw [h]
@[simp] theorem State.evc_poolOps (base k code : Nat) (sc : Nat → Bool) (n : Nat) : (s.evc base k code sc n).poolOps = s.poolOps := by
  obtain ⟨r, w, h⟩ := s.evc_only base k code sc n; rw [h]
@[simp] theorem State.evc_pairs (base k code : Nat) (sc : Nat → Bool) (n : Nat) : (s.evc base k code sc n).pairs = s.pairs := by
  obtain ⟨r, w, h⟩ := s.evc_only base k code sc n; rw [h]
@[simp] theorem State.evc_groups (base k code : Nat) (sc : Nat → Bool) (n : Nat) : (s.evc base k code sc n).groups = s.groups := by
  obtain ⟨r, w, h⟩ := s.evc_only base k code sc n; rw [h]
@[simp] theorem State.evc_parts (base k code : Nat) (sc : Nat → Bool) (n : Nat) : (s.evc base k code sc n).parts = s.parts := by
  obtain ⟨r, w, h⟩ := s.evc_only base k code sc n; rw [h]
@[simp] theorem State.evc_gens (base k code : Nat) (sc : Nat → Bool) (n : Nat) : (s.evc base k code sc n).gens = s.gens := by
  obtain ⟨r, w, h⟩ := s.evc_only base k code sc n; rw [h]
@[simp] theorem State.evc_recSeq (base k code : Nat) (sc : Nat → Bool) (n : Nat) : (s.evc base k code sc n).recSeq = s.recSeq := by
  obtain ⟨r, w, h⟩ := s.evc_only base k code sc n; rw [h]
@[simp] theorem State.evc_recBuf (base k code : Nat) (sc : Nat → Bool) (n : Nat) : (s.evc base k code sc n).recBuf = s.recBuf := by
  obtain ⟨r, w, h⟩ := s.evc_only base k code sc n; rw [h]
@[simp] theorem State.evc_log (base k code : Nat) (sc : Nat → Bool) (n : Nat) : (s.evc base k code sc n).log = s.log := by
  obtain ⟨r, w, h⟩ := s.evc_only base k code sc n; rw [h]
@[simp] theorem State.evc_windows (base k code : Nat) (sc : Nat → Bool) (n : Nat) : (s.evc base k code sc n).windows = s.windows := by
  obtain ⟨r, w, h⟩ := s.evc_only base k code sc n; rw [h]
@[simp] theorem State.evc_evPend (base k code : Nat) (sc : Nat → Bool) (n : Nat) : (s.evc base k code sc n).evPend = s.evPend := by
  obtain ⟨r, w, h⟩ := s.evc_only base k code sc n; rw [h]
@[simp] theorem State.evc_msi (base k code : Nat) (sc : Nat → Bool) (n : Nat) : (s.evc base k code sc n).msi = s.msi := by
  obtain ⟨r, w, h⟩ := s.evc_only base k code sc n; rw [h]
@[simp] theorem State.evc_tetherLead (base k code : Nat) (sc : Nat → Bool) (n : Nat) : (s.evc base k code sc n).tetherLead = s.tetherLead := by
  obtain ⟨r, w, h⟩ := s.evc_only base k code sc n; rw [h]
@[simp] theorem State.evc_ctlOut (base k code : Nat) (sc : Nat → Bool) (n : Nat) : (s.evc base k code sc n).ctlOut = s.ctlOut := by
  obtain ⟨r, w, h⟩ := s.evc_only base k code sc n; rw [h]
@[simp] theorem State.evc_hdReqs (base k code : Nat) (sc : Nat → Bool) (n : Nat) : (s.evc base k code sc n).hdReqs = s.hdReqs := by
  obtain ⟨r, w, h⟩ := s.evc_only base k code sc n; rw [h]
@[simp] theorem State.evc_portOut (base k code : Nat) (sc : Nat → Bool) (n : Nat) : (s.evc base k code sc n).portOut = s.portOut := by
  obtain ⟨r, w, h⟩ := s.evc_only base k code sc n; rw [h]
@[simp] theorem State.evc_pmbus (base k code : Nat) (sc : Nat → Bool) (n : Nat) : (s.evc base k code sc n).pmbus = s.pmbus := by
  obtain ⟨r, w, h⟩ := s.evc_only base k code sc n; rw [h]
@[simp] theorem State.evc_warpTx (base k code : Nat) (sc : Nat → Bool) (n : Nat) : (s.evc base k code sc n).warpTx = s.warpTx := by
  obtain ⟨r, w, h⟩ := s.evc_only base k code sc n; rw [h]
@[simp] theorem State.evc_warpRx (base k code : Nat) (sc : Nat → Bool) (n : Nat) : (s.evc base k code sc n).warpRx = s.warpRx := by
  obtain ⟨r, w, h⟩ := s.evc_only base k code sc n; rw [h]
@[simp] theorem State.evc_edge (base k code : Nat) (sc : Nat → Bool) (n : Nat) : (s.evc base k code sc n).edge = s.edge := by
  obtain ⟨r, w, h⟩ := s.evc_only base k code sc n; rw [h]
@[simp] theorem State.evc_warpOut (base k code : Nat) (sc : Nat → Bool) (n : Nat) : (s.evc base k code sc n).warpOut = s.warpOut := by
  obtain ⟨r, w, h⟩ := s.evc_only base k code sc n; rw [h]
@[simp] theorem State.evc_epIn (base k code : Nat) (sc : Nat → Bool) (n : Nat) : (s.evc base k code sc n).epIn = s.epIn := by
  obtain ⟨r, w, h⟩ := s.evc_only base k code sc n; rw [h]
@[simp] theorem State.evc_rings (base k code : Nat) (sc : Nat → Bool) (n : Nat) : (s.evc base k code sc n).rings = s.rings := by
  obtain ⟨r, w, h⟩ := s.evc_only base k code sc n; rw [h]
@[simp] theorem State.evc_lanes (base k code : Nat) (sc : Nat → Bool) (n : Nat) : (s.evc base k code sc n).lanes = s.lanes := by
  obtain ⟨r, w, h⟩ := s.evc_only base k code sc n; rw [h]
@[simp] theorem State.evc_slotRecs (base k code : Nat) (sc : Nat → Bool) (n : Nat) : (s.evc base k code sc n).slotRecs = s.slotRecs := by
  obtain ⟨r, w, h⟩ := s.evc_only base k code sc n; rw [h]
@[simp] theorem State.evc_standMap (base k code : Nat) (sc : Nat → Bool) (n : Nat) : (s.evc base k code sc n).standMap = s.standMap := by
  obtain ⟨r, w, h⟩ := s.evc_only base k code sc n; rw [h]
@[simp] theorem State.evc_switches (base k code : Nat) (sc : Nat → Bool) (n : Nat) : (s.evc base k code sc n).switches = s.switches := by
  obtain ⟨r, w, h⟩ := s.evc_only base k code sc n; rw [h]
@[simp] theorem State.evc_switchOut (base k code : Nat) (sc : Nat → Bool) (n : Nat) : (s.evc base k code sc n).switchOut = s.switchOut := by
  obtain ⟨r, w, h⟩ := s.evc_only base k code sc n; rw [h]
@[simp] theorem State.evc_bobbin (base k code : Nat) (sc : Nat → Bool) (n : Nat) : (s.evc base k code sc n).bobbin = s.bobbin := by
  obtain ⟨r, w, h⟩ := s.evc_only base k code sc n; rw [h]
@[simp] theorem State.evc_laserUp (base k code : Nat) (sc : Nat → Bool) (n : Nat) : (s.evc base k code sc n).laserUp = s.laserUp := by
  obtain ⟨r, w, h⟩ := s.evc_only base k code sc n; rw [h]
@[simp] theorem State.evc_calFront (base k code : Nat) (sc : Nat → Bool) (n : Nat) : (s.evc base k code sc n).calFront = s.calFront := by
  obtain ⟨r, w, h⟩ := s.evc_only base k code sc n; rw [h]
@[simp] theorem State.evc_erasedDie (base k code : Nat) (sc : Nat → Bool) (n : Nat) : (s.evc base k code sc n).erasedDie = s.erasedDie := by
  obtain ⟨r, w, h⟩ := s.evc_only base k code sc n; rw [h]
@[simp] theorem State.evc_remapFlash (base k code : Nat) (sc : Nat → Bool) (n : Nat) : (s.evc base k code sc n).remapFlash = s.remapFlash := by
  obtain ⟨r, w, h⟩ := s.evc_only base k code sc n; rw [h]
@[simp] theorem State.evc_badSpares (base k code : Nat) (sc : Nat → Bool) (n : Nat) : (s.evc base k code sc n).badSpares = s.badSpares := by
  obtain ⟨r, w, h⟩ := s.evc_only base k code sc n; rw [h]
@[simp] theorem State.evc_lastCorr (base k code : Nat) (sc : Nat → Bool) (n : Nat) : (s.evc base k code sc n).lastCorr = s.lastCorr := by
  obtain ⟨r, w, h⟩ := s.evc_only base k code sc n; rw [h]
@[simp] theorem State.evc_remapQual (base k code : Nat) (sc : Nat → Bool) (n : Nat) : (s.evc base k code sc n).remapQual = s.remapQual := by
  obtain ⟨r, w, h⟩ := s.evc_only base k code sc n; rw [h]
@[simp] theorem State.evc_writeBuf (base k code : Nat) (sc : Nat → Bool) (n : Nat) : (s.evc base k code sc n).writeBuf = s.writeBuf := by
  obtain ⟨r, w, h⟩ := s.evc_only base k code sc n; rw [h]
@[simp] theorem State.evc_scrubLine (base k code : Nat) (sc : Nat → Bool) (n : Nat) : (s.evc base k code sc n).scrubLine = s.scrubLine := by
  obtain ⟨r, w, h⟩ := s.evc_only base k code sc n; rw [h]
@[simp] theorem State.evc_scrubFrom (base k code : Nat) (sc : Nat → Bool) (n : Nat) : (s.evc base k code sc n).scrubFrom = s.scrubFrom := by
  obtain ⟨r, w, h⟩ := s.evc_only base k code sc n; rw [h]
@[simp] theorem State.evc_testLines (base k code : Nat) (sc : Nat → Bool) (n : Nat) : (s.evc base k code sc n).testLines = s.testLines := by
  obtain ⟨r, w, h⟩ := s.evc_only base k code sc n; rw [h]
@[simp] theorem State.evc_selfRun (base k code : Nat) (sc : Nat → Bool) (n : Nat) : (s.evc base k code sc n).selfRun = s.selfRun := by
  obtain ⟨r, w, h⟩ := s.evc_only base k code sc n; rw [h]
@[simp] theorem State.evc_pairEnd (base k code : Nat) (sc : Nat → Bool) (n : Nat) : (s.evc base k code sc n).pairEnd = s.pairEnd := by
  obtain ⟨r, w, h⟩ := s.evc_only base k code sc n; rw [h]
@[simp] theorem State.evc_ctlEnd (base k code : Nat) (sc : Nat → Bool) (n : Nat) : (s.evc base k code sc n).ctlEnd = s.ctlEnd := by
  obtain ⟨r, w, h⟩ := s.evc_only base k code sc n; rw [h]
@[simp] theorem State.evc_circOut (base k code : Nat) (sc : Nat → Bool) (n : Nat) : (s.evc base k code sc n).circOut = s.circOut := by
  obtain ⟨r, w, h⟩ := s.evc_only base k code sc n; rw [h]
@[simp] theorem State.evc_bulkCtl (base k code : Nat) (sc : Nat → Bool) (n : Nat) : (s.evc base k code sc n).bulkCtl = s.bulkCtl := by
  obtain ⟨r, w, h⟩ := s.evc_only base k code sc n; rw [h]
@[simp] theorem State.evc_filled (base k code : Nat) (sc : Nat → Bool) (n : Nat) : (s.evc base k code sc n).filled = s.filled := by
  obtain ⟨r, w, h⟩ := s.evc_only base k code sc n; rw [h]
@[simp] theorem State.evc_tags (base k code : Nat) (sc : Nat → Bool) (n : Nat) : (s.evc base k code sc n).tags = s.tags := by
  obtain ⟨r, w, h⟩ := s.evc_only base k code sc n; rw [h]
@[simp] theorem State.evc_chans (base k code : Nat) (sc : Nat → Bool) (n : Nat) : (s.evc base k code sc n).chans = s.chans := by
  obtain ⟨r, w, h⟩ := s.evc_only base k code sc n; rw [h]
@[simp] theorem State.evc_orderHeld (base k code : Nat) (sc : Nat → Bool) (n : Nat) : (s.evc base k code sc n).orderHeld = s.orderHeld := by
  obtain ⟨r, w, h⟩ := s.evc_only base k code sc n; rw [h]
@[simp] theorem State.evc_localHeld (base k code : Nat) (sc : Nat → Bool) (n : Nat) : (s.evc base k code sc n).localHeld = s.localHeld := by
  obtain ⟨r, w, h⟩ := s.evc_only base k code sc n; rw [h]
@[simp] theorem State.evc_filter (base k code : Nat) (sc : Nat → Bool) (n : Nat) : (s.evc base k code sc n).filter = s.filter := by
  obtain ⟨r, w, h⟩ := s.evc_only base k code sc n; rw [h]
@[simp] theorem State.evc_filterHot (base k code : Nat) (sc : Nat → Bool) (n : Nat) : (s.evc base k code sc n).filterHot = s.filterHot := by
  obtain ⟨r, w, h⟩ := s.evc_only base k code sc n; rw [h]
@[simp] theorem State.evc_coldHeld (base k code : Nat) (sc : Nat → Bool) (n : Nat) : (s.evc base k code sc n).coldHeld = s.coldHeld := by
  obtain ⟨r, w, h⟩ := s.evc_only base k code sc n; rw [h]
@[simp] theorem State.evc_stalled (base k code : Nat) (sc : Nat → Bool) (n : Nat) : (s.evc base k code sc n).stalled = s.stalled := by
  obtain ⟨r, w, h⟩ := s.evc_only base k code sc n; rw [h]
@[simp] theorem State.evc_dupHeld (base k code : Nat) (sc : Nat → Bool) (n : Nat) : (s.evc base k code sc n).dupHeld = s.dupHeld := by
  obtain ⟨r, w, h⟩ := s.evc_only base k code sc n; rw [h]
@[simp] theorem State.evc_atomRes (base k code : Nat) (sc : Nat → Bool) (n : Nat) : (s.evc base k code sc n).atomRes = s.atomRes := by
  obtain ⟨r, w, h⟩ := s.evc_only base k code sc n; rw [h]
@[simp] theorem State.evc_rrc (base k code : Nat) (sc : Nat → Bool) (n : Nat) : (s.evc base k code sc n).rrc = s.rrc := by
  obtain ⟨r, w, h⟩ := s.evc_only base k code sc n; rw [h]
@[simp] theorem State.evc_rrcGen (base k code : Nat) (sc : Nat → Bool) (n : Nat) : (s.evc base k code sc n).rrcGen = s.rrcGen := by
  obtain ⟨r, w, h⟩ := s.evc_only base k code sc n; rw [h]
@[simp] theorem State.evc_shch (base k code : Nat) (sc : Nat → Bool) (n : Nat) : (s.evc base k code sc n).shch = s.shch := by
  obtain ⟨r, w, h⟩ := s.evc_only base k code sc n; rw [h]
@[simp] theorem State.evc_arbs (base k code : Nat) (sc : Nat → Bool) (n : Nat) : (s.evc base k code sc n).arbs = s.arbs := by
  obtain ⟨r, w, h⟩ := s.evc_only base k code sc n; rw [h]
@[simp] theorem State.evc_sepochFlash (base k code : Nat) (sc : Nat → Bool) (n : Nat) : (s.evc base k code sc n).sepochFlash = s.sepochFlash := by
  obtain ⟨r, w, h⟩ := s.evc_only base k code sc n; rw [h]
@[simp] theorem State.evc_peerMiss (base k code : Nat) (sc : Nat → Bool) (n : Nat) : (s.evc base k code sc n).peerMiss = s.peerMiss := by
  obtain ⟨r, w, h⟩ := s.evc_only base k code sc n; rw [h]
@[simp] theorem State.evc_streams (base k code : Nat) (sc : Nat → Bool) (n : Nat) : (s.evc base k code sc n).streams = s.streams := by
  obtain ⟨r, w, h⟩ := s.evc_only base k code sc n; rw [h]
@[simp] theorem State.evc_colWait (base k code : Nat) (sc : Nat → Bool) (n : Nat) : (s.evc base k code sc n).colWait = s.colWait := by
  obtain ⟨r, w, h⟩ := s.evc_only base k code sc n; rw [h]
@[simp] theorem State.evc_combs (base k code : Nat) (sc : Nat → Bool) (n : Nat) : (s.evc base k code sc n).combs = s.combs := by
  obtain ⟨r, w, h⟩ := s.evc_only base k code sc n; rw [h]
@[simp] theorem State.evc_repls (base k code : Nat) (sc : Nat → Bool) (n : Nat) : (s.evc base k code sc n).repls = s.repls := by
  obtain ⟨r, w, h⟩ := s.evc_only base k code sc n; rw [h]
@[simp] theorem State.evc_mseq (base k code : Nat) (sc : Nat → Bool) (n : Nat) : (s.evc base k code sc n).mseq = s.mseq := by
  obtain ⟨r, w, h⟩ := s.evc_only base k code sc n; rw [h]
@[simp] theorem State.evc_streamSeq (base k code : Nat) (sc : Nat → Bool) (n : Nat) : (s.evc base k code sc n).streamSeq = s.streamSeq := by
  obtain ⟨r, w, h⟩ := s.evc_only base k code sc n; rw [h]
@[simp] theorem State.evc_mcFilter (base k code : Nat) (sc : Nat → Bool) (n : Nat) : (s.evc base k code sc n).mcFilter = s.mcFilter := by
  obtain ⟨r, w, h⟩ := s.evc_only base k code sc n; rw [h]
@[simp] theorem State.evc_segOut (base k code : Nat) (sc : Nat → Bool) (n : Nat) : (s.evc base k code sc n).segOut = s.segOut := by
  obtain ⟨r, w, h⟩ := s.evc_only base k code sc n; rw [h]
@[simp] theorem State.evc_resendOut (base k code : Nat) (sc : Nat → Bool) (n : Nat) : (s.evc base k code sc n).resendOut = s.resendOut := by
  obtain ⟨r, w, h⟩ := s.evc_only base k code sc n; rw [h]
@[simp] theorem State.evc_ports (base k code : Nat) (sc : Nat → Bool) (n : Nat) : (s.evc base k code sc n).ports = s.ports := by
  obtain ⟨r, w, h⟩ := s.evc_only base k code sc n; rw [h]
@[simp] theorem State.evc_links (base k code : Nat) (sc : Nat → Bool) (n : Nat) : (s.evc base k code sc n).links = s.links := by
  obtain ⟨r, w, h⟩ := s.evc_only base k code sc n; rw [h]
@[simp] theorem State.evc_sfOut (base k code : Nat) (sc : Nat → Bool) (n : Nat) : (s.evc base k code sc n).sfOut = s.sfOut := by
  obtain ⟨r, w, h⟩ := s.evc_only base k code sc n; rw [h]
@[simp] theorem State.evc_meters (base k code : Nat) (sc : Nat → Bool) (n : Nat) : (s.evc base k code sc n).meters = s.meters := by
  obtain ⟨r, w, h⟩ := s.evc_only base k code sc n; rw [h]
@[simp] theorem State.evc_mbQueue (base k code : Nat) (sc : Nat → Bool) (n : Nat) : (s.evc base k code sc n).mbQueue = s.mbQueue := by
  obtain ⟨r, w, h⟩ := s.evc_only base k code sc n; rw [h]
@[simp] theorem State.evc_smbOut (base k code : Nat) (sc : Nat → Bool) (n : Nat) : (s.evc base k code sc n).smbOut = s.smbOut := by
  obtain ⟨r, w, h⟩ := s.evc_only base k code sc n; rw [h]
@[simp] theorem State.evc_tethers (base k code : Nat) (sc : Nat → Bool) (n : Nat) : (s.evc base k code sc n).tethers = s.tethers := by
  obtain ⟨r, w, h⟩ := s.evc_only base k code sc n; rw [h]
@[simp] theorem State.evc_forwarded (base k code : Nat) (sc : Nat → Bool) (n : Nat) : (s.evc base k code sc n).forwarded = s.forwarded := by
  obtain ⟨r, w, h⟩ := s.evc_only base k code sc n; rw [h]
@[simp] theorem State.evc_tetherPolicy (base k code : Nat) (sc : Nat → Bool) (n : Nat) : (s.evc base k code sc n).tetherPolicy = s.tetherPolicy := by
  obtain ⟨r, w, h⟩ := s.evc_only base k code sc n; rw [h]
@[simp] theorem State.evc_stages (base k code : Nat) (sc : Nat → Bool) (n : Nat) : (s.evc base k code sc n).stages = s.stages := by
  obtain ⟨r, w, h⟩ := s.evc_only base k code sc n; rw [h]
@[simp] theorem State.evc_nextStage (base k code : Nat) (sc : Nat → Bool) (n : Nat) : (s.evc base k code sc n).nextStage = s.nextStage := by
  obtain ⟨r, w, h⟩ := s.evc_only base k code sc n; rw [h]
@[simp] theorem State.evc_stageTick (base k code : Nat) (sc : Nat → Bool) (n : Nat) : (s.evc base k code sc n).stageTick = s.stageTick := by
  obtain ⟨r, w, h⟩ := s.evc_only base k code sc n; rw [h]
@[simp] theorem State.evc_upTick (base k code : Nat) (sc : Nat → Bool) (n : Nat) : (s.evc base k code sc n).upTick = s.upTick := by
  obtain ⟨r, w, h⟩ := s.evc_only base k code sc n; rw [h]
@[simp] theorem State.evc_upCfg (base k code : Nat) (sc : Nat → Bool) (n : Nat) : (s.evc base k code sc n).upCfg = s.upCfg := by
  obtain ⟨r, w, h⟩ := s.evc_only base k code sc n; rw [h]
@[simp] theorem State.evc_storedCfg (base k code : Nat) (sc : Nat → Bool) (n : Nat) : (s.evc base k code sc n).storedCfg = s.storedCfg := by
  obtain ⟨r, w, h⟩ := s.evc_only base k code sc n; rw [h]
@[simp] theorem State.evc_runCfg (base k code : Nat) (sc : Nat → Bool) (n : Nat) : (s.evc base k code sc n).runCfg = s.runCfg := by
  obtain ⟨r, w, h⟩ := s.evc_only base k code sc n; rw [h]
@[simp] theorem State.evc_fw (base k code : Nat) (sc : Nat → Bool) (n : Nat) : (s.evc base k code sc n).fw = s.fw := by
  obtain ⟨r, w, h⟩ := s.evc_only base k code sc n; rw [h]
@[simp] theorem State.evc_lc (base k code : Nat) (sc : Nat → Bool) (n : Nat) : (s.evc base k code sc n).lc = s.lc := by
  obtain ⟨r, w, h⟩ := s.evc_only base k code sc n; rw [h]
@[simp] theorem State.evc_ide (base k code : Nat) (sc : Nat → Bool) (n : Nat) : (s.evc base k code sc n).ide = s.ide := by
  obtain ⟨r, w, h⟩ := s.evc_only base k code sc n; rw [h]
@[simp] theorem State.evc_spdm (base k code : Nat) (sc : Nat → Bool) (n : Nat) : (s.evc base k code sc n).spdm = s.spdm := by
  obtain ⟨r, w, h⟩ := s.evc_only base k code sc n; rw [h]
@[simp] theorem State.evc_spdmOut (base k code : Nat) (sc : Nat → Bool) (n : Nat) : (s.evc base k code sc n).spdmOut = s.spdmOut := by
  obtain ⟨r, w, h⟩ := s.evc_only base k code sc n; rw [h]
@[simp] theorem State.evc_eid (base k code : Nat) (sc : Nat → Bool) (n : Nat) : (s.evc base k code sc n).eid = s.eid := by
  obtain ⟨r, w, h⟩ := s.evc_only base k code sc n; rw [h]
@[simp] theorem State.evc_powerOff (base k code : Nat) (sc : Nat → Bool) (n : Nat) : (s.evc base k code sc n).powerOff = s.powerOff := by
  obtain ⟨r, w, h⟩ := s.evc_only base k code sc n; rw [h]
@[simp] theorem State.evc_inReset (base k code : Nat) (sc : Nat → Bool) (n : Nat) : (s.evc base k code sc n).inReset = s.inReset := by
  obtain ⟨r, w, h⟩ := s.evc_only base k code sc n; rw [h]
@[simp] theorem State.evc_brake (base k code : Nat) (sc : Nat → Bool) (n : Nat) : (s.evc base k code sc n).brake = s.brake := by
  obtain ⟨r, w, h⟩ := s.evc_only base k code sc n; rw [h]
@[simp] theorem State.evc_clock (base k code : Nat) (sc : Nat → Bool) (n : Nat) : (s.evc base k code sc n).clock = s.clock := by
  obtain ⟨r, w, h⟩ := s.evc_only base k code sc n; rw [h]
@[simp] theorem State.evc_capping (base k code : Nat) (sc : Nat → Bool) (n : Nat) : (s.evc base k code sc n).capping = s.capping := by
  obtain ⟨r, w, h⟩ := s.evc_only base k code sc n; rw [h]
@[simp] theorem State.evc_sensors (base k code : Nat) (sc : Nat → Bool) (n : Nat) : (s.evc base k code sc n).sensors = s.sensors := by
  obtain ⟨r, w, h⟩ := s.evc_only base k code sc n; rw [h]
@[simp] theorem State.evc_hotRun (base k code : Nat) (sc : Nat → Bool) (n : Nat) : (s.evc base k code sc n).hotRun = s.hotRun := by
  obtain ⟨r, w, h⟩ := s.evc_only base k code sc n; rw [h]
@[simp] theorem State.evc_thermCalm (base k code : Nat) (sc : Nat → Bool) (n : Nat) : (s.evc base k code sc n).thermCalm = s.thermCalm := by
  obtain ⟨r, w, h⟩ := s.evc_only base k code sc n; rw [h]
@[simp] theorem State.evc_stackTemp (base k code : Nat) (sc : Nat → Bool) (n : Nat) : (s.evc base k code sc n).stackTemp = s.stackTemp := by
  obtain ⟨r, w, h⟩ := s.evc_only base k code sc n; rw [h]
@[simp] theorem State.evc_shutTick (base k code : Nat) (sc : Nat → Bool) (n : Nat) : (s.evc base k code sc n).shutTick = s.shutTick := by
  obtain ⟨r, w, h⟩ := s.evc_only base k code sc n; rw [h]
@[simp] theorem State.evc_shutLog (base k code : Nat) (sc : Nat → Bool) (n : Nat) : (s.evc base k code sc n).shutLog = s.shutLog := by
  obtain ⟨r, w, h⟩ := s.evc_only base k code sc n; rw [h]
@[simp] theorem State.evc_wasShut (base k code : Nat) (sc : Nat → Bool) (n : Nat) : (s.evc base k code sc n).wasShut = s.wasShut := by
  obtain ⟨r, w, h⟩ := s.evc_only base k code sc n; rw [h]
@[simp] theorem State.evc_resetDue (base k code : Nat) (sc : Nat → Bool) (n : Nat) : (s.evc base k code sc n).resetDue = s.resetDue := by
  obtain ⟨r, w, h⟩ := s.evc_only base k code sc n; rw [h]
@[simp] theorem State.evc_readOut (base k code : Nat) (sc : Nat → Bool) (n : Nat) : (s.evc base k code sc n).readOut = s.readOut := by
  obtain ⟨r, w, h⟩ := s.evc_only base k code sc n; rw [h]
@[simp] theorem State.evc_late (base k code : Nat) (sc : Nat → Bool) (n : Nat) : (s.evc base k code sc n).late = s.late := by
  obtain ⟨r, w, h⟩ := s.evc_only base k code sc n; rw [h]
@[simp] theorem State.wf_slotEls (a : Nat) (f : Fld) (v : Nat) : (s.wf a f v).slotEls = s.slotEls := rfl
@[simp] theorem State.wf_phaseEls (a : Nat) (f : Fld) (v : Nat) : (s.wf a f v).phaseEls = s.phaseEls := rfl
@[simp] theorem State.wf_fanEls (a : Nat) (f : Fld) (v : Nat) : (s.wf a f v).fanEls = s.fanEls := rfl
@[simp] theorem State.wf_stuEls (a : Nat) (f : Fld) (v : Nat) : (s.wf a f v).stuEls = s.stuEls := rfl
@[simp] theorem State.wf_stdEls (a : Nat) (f : Fld) (v : Nat) : (s.wf a f v).stdEls = s.stdEls := rfl
@[simp] theorem State.wf_standSince (a : Nat) (f : Fld) (v : Nat) : (s.wf a f v).standSince = s.standSince := rfl
@[simp] theorem State.wf_weftIn (a : Nat) (f : Fld) (v : Nat) : (s.wf a f v).weftIn = s.weftIn := rfl
@[simp] theorem State.wf_weftTx (a : Nat) (f : Fld) (v : Nat) : (s.wf a f v).weftTx = s.weftTx := rfl
@[simp] theorem State.wf_weftOut (a : Nat) (f : Fld) (v : Nat) : (s.wf a f v).weftOut = s.weftOut := rfl
@[simp] theorem State.wf_weftScr (a : Nat) (f : Fld) (v : Nat) : (s.wf a f v).weftScr = s.weftScr := rfl
@[simp] theorem State.wf_weftBad (a : Nat) (f : Fld) (v : Nat) : (s.wf a f v).weftBad = s.weftBad := rfl
@[simp] theorem State.wf_censusDone (a : Nat) (f : Fld) (v : Nat) : (s.wf a f v).censusDone = s.censusDone := rfl
@[simp] theorem State.wf_censusAt (a : Nat) (f : Fld) (v : Nat) : (s.wf a f v).censusAt = s.censusAt := rfl
@[simp] theorem State.wf_censusFrom (a : Nat) (f : Fld) (v : Nat) : (s.wf a f v).censusFrom = s.censusFrom := rfl
@[simp] theorem State.wf_bootLc (a : Nat) (f : Fld) (v : Nat) : (s.wf a f v).bootLc = s.bootLc := rfl
@[simp] theorem State.wf_bulkKeys (a : Nat) (f : Fld) (v : Nat) : (s.wf a f v).bulkKeys = s.bulkKeys := rfl
@[simp] theorem State.wf_keySeq (a : Nat) (f : Fld) (v : Nat) : (s.wf a f v).keySeq = s.keySeq := rfl
@[simp] theorem State.wf_draftMeas (a : Nat) (f : Fld) (v : Nat) : (s.wf a f v).draftMeas = s.draftMeas := rfl
@[simp] theorem State.wf_meterSeq (a : Nat) (f : Fld) (v : Nat) : (s.wf a f v).meterSeq = s.meterSeq := rfl
@[simp] theorem State.wf_spill (a : Nat) (f : Fld) (v : Nat) : (s.wf a f v).spill = s.spill := rfl
@[simp] theorem State.wf_meterChk (a : Nat) (f : Fld) (v : Nat) : (s.wf a f v).meterChk = s.meterChk := rfl
@[simp] theorem State.wf_energyTenths (a : Nat) (f : Fld) (v : Nat) : (s.wf a f v).energyTenths = s.energyTenths := rfl
@[simp] theorem State.wf_meterPrev (a : Nat) (f : Fld) (v : Nat) : (s.wf a f v).meterPrev = s.meterPrev := rfl
@[simp] theorem State.wf_pending (a : Nat) (f : Fld) (v : Nat) : (s.wf a f v).pending = s.pending := rfl
@[simp] theorem State.wf_free (a : Nat) (f : Fld) (v : Nat) : (s.wf a f v).free = s.free := rfl
@[simp] theorem State.wf_tick (a : Nat) (f : Fld) (v : Nat) : (s.wf a f v).tick = s.tick := rfl
@[simp] theorem State.wf_nsPhase (a : Nat) (f : Fld) (v : Nat) : (s.wf a f v).nsPhase = s.nsPhase := rfl
@[simp] theorem State.wf_beatPhase (a : Nat) (f : Fld) (v : Nat) : (s.wf a f v).beatPhase = s.beatPhase := rfl
@[simp] theorem State.wf_hwSet (a : Nat) (f : Fld) (v : Nat) : (s.wf a f v).hwSet = s.hwSet := rfl
@[simp] theorem State.wf_evcSet (a : Nat) (f : Fld) (v : Nat) : (s.wf a f v).evcSet = s.evcSet := rfl
@[simp] theorem State.wf_mem (a : Nat) (f : Fld) (v : Nat) : (s.wf a f v).mem = s.mem := rfl
@[simp] theorem State.wf_ecc (a : Nat) (f : Fld) (v : Nat) : (s.wf a f v).ecc = s.ecc := rfl
@[simp] theorem State.wf_cores (a : Nat) (f : Fld) (v : Nat) : (s.wf a f v).cores = s.cores := rfl
@[simp] theorem State.wf_dstore (a : Nat) (f : Fld) (v : Nat) : (s.wf a f v).dstore = s.dstore := rfl
@[simp] theorem State.wf_scrub (a : Nat) (f : Fld) (v : Nat) : (s.wf a f v).scrub = s.scrub := rfl
@[simp] theorem State.wf_pools (a : Nat) (f : Fld) (v : Nat) : (s.wf a f v).pools = s.pools := rfl
@[simp] theorem State.wf_kpend (a : Nat) (f : Fld) (v : Nat) : (s.wf a f v).kpend = s.kpend := rfl
@[simp] theorem State.wf_poolOps (a : Nat) (f : Fld) (v : Nat) : (s.wf a f v).poolOps = s.poolOps := rfl
@[simp] theorem State.wf_pairs (a : Nat) (f : Fld) (v : Nat) : (s.wf a f v).pairs = s.pairs := rfl
@[simp] theorem State.wf_groups (a : Nat) (f : Fld) (v : Nat) : (s.wf a f v).groups = s.groups := rfl
@[simp] theorem State.wf_parts (a : Nat) (f : Fld) (v : Nat) : (s.wf a f v).parts = s.parts := rfl
@[simp] theorem State.wf_gens (a : Nat) (f : Fld) (v : Nat) : (s.wf a f v).gens = s.gens := rfl
@[simp] theorem State.wf_recSeq (a : Nat) (f : Fld) (v : Nat) : (s.wf a f v).recSeq = s.recSeq := rfl
@[simp] theorem State.wf_recBuf (a : Nat) (f : Fld) (v : Nat) : (s.wf a f v).recBuf = s.recBuf := rfl
@[simp] theorem State.wf_log (a : Nat) (f : Fld) (v : Nat) : (s.wf a f v).log = s.log := rfl
@[simp] theorem State.wf_windows (a : Nat) (f : Fld) (v : Nat) : (s.wf a f v).windows = s.windows := rfl
@[simp] theorem State.wf_evPend (a : Nat) (f : Fld) (v : Nat) : (s.wf a f v).evPend = s.evPend := rfl
@[simp] theorem State.wf_msi (a : Nat) (f : Fld) (v : Nat) : (s.wf a f v).msi = s.msi := rfl
@[simp] theorem State.wf_tetherLead (a : Nat) (f : Fld) (v : Nat) : (s.wf a f v).tetherLead = s.tetherLead := rfl
@[simp] theorem State.wf_ctlOut (a : Nat) (f : Fld) (v : Nat) : (s.wf a f v).ctlOut = s.ctlOut := rfl
@[simp] theorem State.wf_hdReqs (a : Nat) (f : Fld) (v : Nat) : (s.wf a f v).hdReqs = s.hdReqs := rfl
@[simp] theorem State.wf_portOut (a : Nat) (f : Fld) (v : Nat) : (s.wf a f v).portOut = s.portOut := rfl
@[simp] theorem State.wf_pmbus (a : Nat) (f : Fld) (v : Nat) : (s.wf a f v).pmbus = s.pmbus := rfl
@[simp] theorem State.wf_warpTx (a : Nat) (f : Fld) (v : Nat) : (s.wf a f v).warpTx = s.warpTx := rfl
@[simp] theorem State.wf_warpRx (a : Nat) (f : Fld) (v : Nat) : (s.wf a f v).warpRx = s.warpRx := rfl
@[simp] theorem State.wf_edge (a : Nat) (f : Fld) (v : Nat) : (s.wf a f v).edge = s.edge := rfl
@[simp] theorem State.wf_warpOut (a : Nat) (f : Fld) (v : Nat) : (s.wf a f v).warpOut = s.warpOut := rfl
@[simp] theorem State.wf_epIn (a : Nat) (f : Fld) (v : Nat) : (s.wf a f v).epIn = s.epIn := rfl
@[simp] theorem State.wf_rings (a : Nat) (f : Fld) (v : Nat) : (s.wf a f v).rings = s.rings := rfl
@[simp] theorem State.wf_lanes (a : Nat) (f : Fld) (v : Nat) : (s.wf a f v).lanes = s.lanes := rfl
@[simp] theorem State.wf_slotRecs (a : Nat) (f : Fld) (v : Nat) : (s.wf a f v).slotRecs = s.slotRecs := rfl
@[simp] theorem State.wf_standMap (a : Nat) (f : Fld) (v : Nat) : (s.wf a f v).standMap = s.standMap := rfl
@[simp] theorem State.wf_switches (a : Nat) (f : Fld) (v : Nat) : (s.wf a f v).switches = s.switches := rfl
@[simp] theorem State.wf_switchOut (a : Nat) (f : Fld) (v : Nat) : (s.wf a f v).switchOut = s.switchOut := rfl
@[simp] theorem State.wf_bobbin (a : Nat) (f : Fld) (v : Nat) : (s.wf a f v).bobbin = s.bobbin := rfl
@[simp] theorem State.wf_laserUp (a : Nat) (f : Fld) (v : Nat) : (s.wf a f v).laserUp = s.laserUp := rfl
@[simp] theorem State.wf_calFront (a : Nat) (f : Fld) (v : Nat) : (s.wf a f v).calFront = s.calFront := rfl
@[simp] theorem State.wf_erasedDie (a : Nat) (f : Fld) (v : Nat) : (s.wf a f v).erasedDie = s.erasedDie := rfl
@[simp] theorem State.wf_remapFlash (a : Nat) (f : Fld) (v : Nat) : (s.wf a f v).remapFlash = s.remapFlash := rfl
@[simp] theorem State.wf_badSpares (a : Nat) (f : Fld) (v : Nat) : (s.wf a f v).badSpares = s.badSpares := rfl
@[simp] theorem State.wf_lastCorr (a : Nat) (f : Fld) (v : Nat) : (s.wf a f v).lastCorr = s.lastCorr := rfl
@[simp] theorem State.wf_remapQual (a : Nat) (f : Fld) (v : Nat) : (s.wf a f v).remapQual = s.remapQual := rfl
@[simp] theorem State.wf_writeBuf (a : Nat) (f : Fld) (v : Nat) : (s.wf a f v).writeBuf = s.writeBuf := rfl
@[simp] theorem State.wf_scrubLine (a : Nat) (f : Fld) (v : Nat) : (s.wf a f v).scrubLine = s.scrubLine := rfl
@[simp] theorem State.wf_scrubFrom (a : Nat) (f : Fld) (v : Nat) : (s.wf a f v).scrubFrom = s.scrubFrom := rfl
@[simp] theorem State.wf_testLines (a : Nat) (f : Fld) (v : Nat) : (s.wf a f v).testLines = s.testLines := rfl
@[simp] theorem State.wf_selfRun (a : Nat) (f : Fld) (v : Nat) : (s.wf a f v).selfRun = s.selfRun := rfl
@[simp] theorem State.wf_pairEnd (a : Nat) (f : Fld) (v : Nat) : (s.wf a f v).pairEnd = s.pairEnd := rfl
@[simp] theorem State.wf_ctlEnd (a : Nat) (f : Fld) (v : Nat) : (s.wf a f v).ctlEnd = s.ctlEnd := rfl
@[simp] theorem State.wf_circOut (a : Nat) (f : Fld) (v : Nat) : (s.wf a f v).circOut = s.circOut := rfl
@[simp] theorem State.wf_bulkCtl (a : Nat) (f : Fld) (v : Nat) : (s.wf a f v).bulkCtl = s.bulkCtl := rfl
@[simp] theorem State.wf_filled (a : Nat) (f : Fld) (v : Nat) : (s.wf a f v).filled = s.filled := rfl
@[simp] theorem State.wf_tags (a : Nat) (f : Fld) (v : Nat) : (s.wf a f v).tags = s.tags := rfl
@[simp] theorem State.wf_chans (a : Nat) (f : Fld) (v : Nat) : (s.wf a f v).chans = s.chans := rfl
@[simp] theorem State.wf_orderHeld (a : Nat) (f : Fld) (v : Nat) : (s.wf a f v).orderHeld = s.orderHeld := rfl
@[simp] theorem State.wf_localHeld (a : Nat) (f : Fld) (v : Nat) : (s.wf a f v).localHeld = s.localHeld := rfl
@[simp] theorem State.wf_filter (a : Nat) (f : Fld) (v : Nat) : (s.wf a f v).filter = s.filter := rfl
@[simp] theorem State.wf_filterHot (a : Nat) (f : Fld) (v : Nat) : (s.wf a f v).filterHot = s.filterHot := rfl
@[simp] theorem State.wf_coldHeld (a : Nat) (f : Fld) (v : Nat) : (s.wf a f v).coldHeld = s.coldHeld := rfl
@[simp] theorem State.wf_stalled (a : Nat) (f : Fld) (v : Nat) : (s.wf a f v).stalled = s.stalled := rfl
@[simp] theorem State.wf_dupHeld (a : Nat) (f : Fld) (v : Nat) : (s.wf a f v).dupHeld = s.dupHeld := rfl
@[simp] theorem State.wf_atomRes (a : Nat) (f : Fld) (v : Nat) : (s.wf a f v).atomRes = s.atomRes := rfl
@[simp] theorem State.wf_rrc (a : Nat) (f : Fld) (v : Nat) : (s.wf a f v).rrc = s.rrc := rfl
@[simp] theorem State.wf_rrcGen (a : Nat) (f : Fld) (v : Nat) : (s.wf a f v).rrcGen = s.rrcGen := rfl
@[simp] theorem State.wf_shch (a : Nat) (f : Fld) (v : Nat) : (s.wf a f v).shch = s.shch := rfl
@[simp] theorem State.wf_arbs (a : Nat) (f : Fld) (v : Nat) : (s.wf a f v).arbs = s.arbs := rfl
@[simp] theorem State.wf_sepochFlash (a : Nat) (f : Fld) (v : Nat) : (s.wf a f v).sepochFlash = s.sepochFlash := rfl
@[simp] theorem State.wf_peerMiss (a : Nat) (f : Fld) (v : Nat) : (s.wf a f v).peerMiss = s.peerMiss := rfl
@[simp] theorem State.wf_streams (a : Nat) (f : Fld) (v : Nat) : (s.wf a f v).streams = s.streams := rfl
@[simp] theorem State.wf_colWait (a : Nat) (f : Fld) (v : Nat) : (s.wf a f v).colWait = s.colWait := rfl
@[simp] theorem State.wf_combs (a : Nat) (f : Fld) (v : Nat) : (s.wf a f v).combs = s.combs := rfl
@[simp] theorem State.wf_repls (a : Nat) (f : Fld) (v : Nat) : (s.wf a f v).repls = s.repls := rfl
@[simp] theorem State.wf_mseq (a : Nat) (f : Fld) (v : Nat) : (s.wf a f v).mseq = s.mseq := rfl
@[simp] theorem State.wf_streamSeq (a : Nat) (f : Fld) (v : Nat) : (s.wf a f v).streamSeq = s.streamSeq := rfl
@[simp] theorem State.wf_mcFilter (a : Nat) (f : Fld) (v : Nat) : (s.wf a f v).mcFilter = s.mcFilter := rfl
@[simp] theorem State.wf_segOut (a : Nat) (f : Fld) (v : Nat) : (s.wf a f v).segOut = s.segOut := rfl
@[simp] theorem State.wf_resendOut (a : Nat) (f : Fld) (v : Nat) : (s.wf a f v).resendOut = s.resendOut := rfl
@[simp] theorem State.wf_ports (a : Nat) (f : Fld) (v : Nat) : (s.wf a f v).ports = s.ports := rfl
@[simp] theorem State.wf_links (a : Nat) (f : Fld) (v : Nat) : (s.wf a f v).links = s.links := rfl
@[simp] theorem State.wf_sfOut (a : Nat) (f : Fld) (v : Nat) : (s.wf a f v).sfOut = s.sfOut := rfl
@[simp] theorem State.wf_meters (a : Nat) (f : Fld) (v : Nat) : (s.wf a f v).meters = s.meters := rfl
@[simp] theorem State.wf_mbQueue (a : Nat) (f : Fld) (v : Nat) : (s.wf a f v).mbQueue = s.mbQueue := rfl
@[simp] theorem State.wf_smbOut (a : Nat) (f : Fld) (v : Nat) : (s.wf a f v).smbOut = s.smbOut := rfl
@[simp] theorem State.wf_tethers (a : Nat) (f : Fld) (v : Nat) : (s.wf a f v).tethers = s.tethers := rfl
@[simp] theorem State.wf_forwarded (a : Nat) (f : Fld) (v : Nat) : (s.wf a f v).forwarded = s.forwarded := rfl
@[simp] theorem State.wf_tetherPolicy (a : Nat) (f : Fld) (v : Nat) : (s.wf a f v).tetherPolicy = s.tetherPolicy := rfl
@[simp] theorem State.wf_stages (a : Nat) (f : Fld) (v : Nat) : (s.wf a f v).stages = s.stages := rfl
@[simp] theorem State.wf_nextStage (a : Nat) (f : Fld) (v : Nat) : (s.wf a f v).nextStage = s.nextStage := rfl
@[simp] theorem State.wf_stageTick (a : Nat) (f : Fld) (v : Nat) : (s.wf a f v).stageTick = s.stageTick := rfl
@[simp] theorem State.wf_upTick (a : Nat) (f : Fld) (v : Nat) : (s.wf a f v).upTick = s.upTick := rfl
@[simp] theorem State.wf_upCfg (a : Nat) (f : Fld) (v : Nat) : (s.wf a f v).upCfg = s.upCfg := rfl
@[simp] theorem State.wf_storedCfg (a : Nat) (f : Fld) (v : Nat) : (s.wf a f v).storedCfg = s.storedCfg := rfl
@[simp] theorem State.wf_runCfg (a : Nat) (f : Fld) (v : Nat) : (s.wf a f v).runCfg = s.runCfg := rfl
@[simp] theorem State.wf_fw (a : Nat) (f : Fld) (v : Nat) : (s.wf a f v).fw = s.fw := rfl
@[simp] theorem State.wf_lc (a : Nat) (f : Fld) (v : Nat) : (s.wf a f v).lc = s.lc := rfl
@[simp] theorem State.wf_ide (a : Nat) (f : Fld) (v : Nat) : (s.wf a f v).ide = s.ide := rfl
@[simp] theorem State.wf_spdm (a : Nat) (f : Fld) (v : Nat) : (s.wf a f v).spdm = s.spdm := rfl
@[simp] theorem State.wf_spdmOut (a : Nat) (f : Fld) (v : Nat) : (s.wf a f v).spdmOut = s.spdmOut := rfl
@[simp] theorem State.wf_eid (a : Nat) (f : Fld) (v : Nat) : (s.wf a f v).eid = s.eid := rfl
@[simp] theorem State.wf_powerOff (a : Nat) (f : Fld) (v : Nat) : (s.wf a f v).powerOff = s.powerOff := rfl
@[simp] theorem State.wf_inReset (a : Nat) (f : Fld) (v : Nat) : (s.wf a f v).inReset = s.inReset := rfl
@[simp] theorem State.wf_brake (a : Nat) (f : Fld) (v : Nat) : (s.wf a f v).brake = s.brake := rfl
@[simp] theorem State.wf_clock (a : Nat) (f : Fld) (v : Nat) : (s.wf a f v).clock = s.clock := rfl
@[simp] theorem State.wf_capping (a : Nat) (f : Fld) (v : Nat) : (s.wf a f v).capping = s.capping := rfl
@[simp] theorem State.wf_sensors (a : Nat) (f : Fld) (v : Nat) : (s.wf a f v).sensors = s.sensors := rfl
@[simp] theorem State.wf_hotRun (a : Nat) (f : Fld) (v : Nat) : (s.wf a f v).hotRun = s.hotRun := rfl
@[simp] theorem State.wf_thermCalm (a : Nat) (f : Fld) (v : Nat) : (s.wf a f v).thermCalm = s.thermCalm := rfl
@[simp] theorem State.wf_stackTemp (a : Nat) (f : Fld) (v : Nat) : (s.wf a f v).stackTemp = s.stackTemp := rfl
@[simp] theorem State.wf_shutTick (a : Nat) (f : Fld) (v : Nat) : (s.wf a f v).shutTick = s.shutTick := rfl
@[simp] theorem State.wf_shutLog (a : Nat) (f : Fld) (v : Nat) : (s.wf a f v).shutLog = s.shutLog := rfl
@[simp] theorem State.wf_wasShut (a : Nat) (f : Fld) (v : Nat) : (s.wf a f v).wasShut = s.wasShut := rfl
@[simp] theorem State.wf_resetDue (a : Nat) (f : Fld) (v : Nat) : (s.wf a f v).resetDue = s.resetDue := rfl
@[simp] theorem State.wf_readOut (a : Nat) (f : Fld) (v : Nat) : (s.wf a f v).readOut = s.readOut := rfl
@[simp] theorem State.wf_late (a : Nat) (f : Fld) (v : Nat) : (s.wf a f v).late = s.late := rfl

end Sys2Proof.Machine
end

