-- ==== Sys2Proof/Tests/States.lean ====
section
/-! SUPPORT. Small states and operands that the tests and witnesses share. -/
namespace Sys2Proof.Tests
open Machine

/-- A state with registers set. -/
def withRegs (s : State) (ws : List (Nat × Nat)) : State := ws.foldl (fun s w => s.rset w.1 (BitVec.ofNat 64 w.2)) s
/-- A partition of one pair, without bulk memory. -/
def onePair (first : Nat) (st : DState) : Part :=
  { first := first, pairs := 1, domain := 1, bulkBase := 0, bulkGib := 0, state := st, cores := [], groups := [], knots := [],
    origins := [], level := 0, bounded := false, stopping := false, enc := false, draftId := 0, dump := none }
/-- Partition 1 on pair 0. -/
def inPart (st : DState) : State := { State.reset with parts := [(1, onePair 0 st)] }
/-- Core 0 runs in group 0 of pair 0. -/
def running0 : State :=
  { withRegs State.reset [(CD_SEQ_STATUS 0, CD_SEQ_STATUS_STATE.put 0 1 |>.toNat)] with
    cores := [(0, { Core.reset with bundles := 4 })], groups := [(0, { Grp.none with clusters := 1, part := 1 })] }
/-- M-slot address of one line at register 0. -/
def line0 : MAddr := ⟨0, 0, 0, false⟩
/-- V-slot fields all 0, but the format and the immediate. -/
def vf (fmt : BitVec 4) (imm : BitVec 16) : VFields := ⟨1, 0, 0, 0, 0, imm, fmt, 0, false⟩
/-- The header of a mailbox command with a payload of `len` bytes. -/
def mbHdr (op part len flags : Nat) : MbHdr :=
  ⟨BitVec.ofNat 16 op, BitVec.ofNat 8 flags, BitVec.ofNat 8 part, 0, 7, BitVec.ofNat 32 len, 0, 0, 0⟩
/-- A mailbox command of PF0. -/
def mb (op part : Nat) (pl : List Byte) : Mail := ⟨0, mbHdr op part pl.length 0, pl⟩
/-- A packet of a class with the given TXN and data flits. -/
def pkt (cls txn n : Nat) : Pkt := mkPkt cls txn (List.replicate n 0) 5 7
/-- A DRAM read without errors. -/
def cleanRead : DramRead := ⟨[], [], 0⟩

end Sys2Proof.Tests
end

