-- ==== Sys2Proof/WellFormed.lean ====
section
/-! DEFINITION. The commands that the spec's own rules let stand: legal slot encodings (R66, R71, R110), operands whose parts
agree (a packet and its row, a payload and its length, granules and their mask, data and its alignment), and numbers in
range. The machine takes every command; one that is not well formed has the effect its meaning gives it. -/
namespace Sys2Proof
open Machine

/-- No entry stands twice. -/
def distinct : List Nat → Bool
  | [] => true
  | x :: r => !r.contains x && distinct r
/-- At most one upset strikes a word (R62). -/
def upsWf (up : List Upset) : Bool := distinct (up.map Upset.word)
/-- An M-slot operation that a loaded draft may hold in a core (R66, R110). -/
def mWf (c : CoreIx) (op : MOp) : Bool := (checkM op).isNone && (checkPst (clusterOf c) op).isNone
/-- An error pattern names each symbol once and changes it (R290). -/
def symWf (l : List SymErr) : Bool := distinct (l.map fun e => 72 * e.w.val + e.x.val) && l.all fun e => e.e != 0
/-- What the DRAM returns for a line. -/
def dramWf (e : DramRead) : Bool := symWf e.first && symWf e.second
/-- One granule of 64 bytes for each bit of the mask, which names at least one (R296). -/
def granWf (mask : BitVec 8) (gran : List (BitVec 512)) : Bool :=
  mask != 0 && gran.length == ((List.range 8).filter mask.getLsbD).length
/-- What comes with a request: at most one upset a word, and DRAM answers in order. -/
def arrWf (a : Arrival) : Bool := upsWf a.up && a.dram.all dramWf
/-- A COL packet of a type (R280). -/
def colWf (ty : Nat) (p : Pkt) : Bool := p.cls == 3 && kType p == ty
/-- A mailbox request of an opcode, with the payload its header announces (R339). -/
def mailWf (op : Nat) (m : Mail) : Bool := m.hdr.opcode.toNat == op && m.payload.length == m.hdr.length.toNat
/-- A host access of a size that PCIe gives (R335). -/
def accWf (x : HostAcc) : Bool := [1, 2, 4, 8].contains x.size

/-- The command is well formed. -/
def Instr.wf : Instr → Bool
  | .bundleIssue _ up => upsWf up
  | .vld c _ a v => mWf c (.vld a v)
  | .vst c _ a v => mWf c (.vst a v)
  | .tld c _ a bline mask buf => mWf c (.tld a bline mask buf)
  | .ald c _ a aline mask => mWf c (.ald a aline mask)
  | .tst c _ a set eng => mWf c (.tst a set eng)
  | .tla c _ a set eng => mWf c (.tla a set eng)
  | .arset c _ ar val => mWf c (.arset ar val)
  | .pld c _ a pr pinc pofs => mWf c (.pld a pr pinc pofs)
  | .pst c _ a pr pinc dcl ddie pofs => mWf c (.pst a pr pinc dcl ddie pofs)
  | .esa c _ a slot first wide sofs => mWf c (.esa a slot first wide sofs)
  | .prset c _ pr val => mWf c (.prset pr val)
  | .mmv _ f => (checkMmv f).isNone
  | .spec _ _ _ tspec => specOk tspec
  | .zero _ _ _ => true
  | .fadd _ f => (checkV .fadd f).isNone
  | .fsub _ f => (checkV .fsub f).isNone
  | .fmul _ f => (checkV .fmul f).isNone
  | .fma _ f => (checkV .fma f).isNone
  | .fmax _ f => (checkV .fmax f).isNone
  | .fmin _ f => (checkV .fmin f).isNone
  | .fcmplt _ f => (checkV .fcmplt f).isNone
  | .fcmpeq _ f => (checkV .fcmpeq f).isNone
  | .sel _ f => (checkV .sel f).isNone
  | .fabs _ f => (checkV .fabs f).isNone
  | .fneg _ f => (checkV .fneg f).isNone
  | .fred _ f => (checkV .fred f).isNone
  | .fredmax _ f => (checkV .fredmax f).isNone
  | .cvt _ f => (checkV .cvt f).isNone
  | .tcvt _ f => (checkV .tcvt f).isNone
  | .tpack _ f => (checkV .tpack f).isNone
  | .tadd _ f => (checkV .tadd f).isNone
  | .treq _ f => (checkV .treq f).isNone
  | .tfrom _ f => (checkV .tfrom f).isNone
  | .iadd _ f => (checkV .iadd f).isNone
  | .isub _ f => (checkV .isub f).isNone
  | .iand _ f => (checkV .iand f).isNone
  | .ior _ f => (checkV .ior f).isNone
  | .ixor _ f => (checkV .ixor f).isNone
  | .ishl _ f => (checkV .ishl f).isNone
  | .isra _ f => (checkV .isra f).isNone
  | .movi _ f => (checkV .movi f).isNone
  | .movf _ f => (checkV .movf f).isNone
  | .perm _ f => (checkV .perm f).isNone
  | .exp _ _ _ _ => true
  | .rcp _ _ _ _ => true
  | .rsqrt _ _ _ _ => true
  | .jmp _ _ => true
  | .loop _ _ _ => true
  | .halt _ => true
  | .kwait _ _ _ _ => true
  | .ksig _ _ n => n != 0
  | .kset _ _ _ => true
  | .lzopen _ _ => true
  | .lzclose _ _ => true
  | .flagmv _ _ => true
  | .flagclr _ _ => true
  | .shkick _ _ count => count != 0
  | .bound _ => true
  | .pipelineWriteback _ => true
  | .bankBeat _ up => upsWf up
  | .linkClaim _ => true
  | .poolBankBeat _ up => upsWf up
  | .slotBeat _ _ => true
  | .knotUpdate _ _ => true
  | .kwaitSuccess _ => true
  | .groupRelease _ _ => true
  | .waitLimit _ => true
  | .heldBeatScrub _ up => upsWf up
  | .landingPortScrub _ up => upsWf up
  | .landingWrite _ a => a.data != [] && a.addr.toNat % landWidth a == 0 && a.data.length % landWidth a == 0
  | .landingBufferDrain _ _ => true
  | .groupStop _ _ => true
  | .partStop part => part.val != 0
  | .groupDrainEnd _ _ => true
  | .poolPortAccess _ a up => a.addr.toNat % 64 == 0 && a.data.length == (if a.write then 64 else 0) && upsWf up
  | .poolScrub _ up => upsWf up
  | .gearLatch _ => true
  | .gearAckCheck _ _ => true
  | .gearBoundary _ _ => true
  | .voltConfirm _ _ => true
  | .voltTimeout _ _ _ => true
  | .crossingMarginLow _ _ => true
  | .crossingSlip _ _ => true
  | .warpPacketSend _ _ _ => true
  | .warpPacketReceive _ _ _ _ _ => true
  | .warpAckSend _ _ _ => true
  | .warpReplayTimeout _ _ => true
  | .weftFrameReceive _ lanes _ => !lanes.isEmpty && decide (lanes.length ≤ 32)
  | .laneFlood _ _ => true
  | .phaseSwitchRequest part _ _ => part.val != 0
  | .phaseSwitchSettled part => part.val != 0
  | .phaseSwitchVerify part _ => part.val != 0
  | .laneMapStep _ _ => true
  | .laserTapSample _ _ => true
  | .laserOverTimeout _ => true
  | .ringTrackIteration _ _ _ => true
  | .ringSearchEnd _ _ => true
  | .censusRingDone _ _ => true
  | .censusRestart => true
  | .lmDacCtlWrite _ _ => true
  | .bobbinPoll acks _ => !acks.isEmpty && decide (acks.length ≤ 4)
  | .bobbinOkLow => true
  | .bobbinTimeout => true
  | .laserEnRetry => true
  | .lightHoldEnter => true
  | .lightHoldExit _ _ => true
  | .lightHoldTimeout => true
  | .recalStart _ => true
  | .recalDone _ _ _ => true
  | .portLaneBerLimit _ _ _ _ => true
  | .superframeSend _ => true
  | .controlBlockReceive _ raw _ => raw.length == 544
  | .dataBlockReceive _ raw _ => raw.length == 544
  | .blockReplayTimeout _ => true
  | .retryExhausted _ => true
  | .downNoticeEnd _ => true
  | .portLaneMapStep _ _ => true
  | .keyEpochStep _ _ => true
  | .portPacketReceive _ _ _ _ => true
  | .attemptStart _ => true
  | .alignDone _ => true
  | .attemptStepLimit _ _ => true
  | .train _ _ => true
  | .exchange _ _ => true
  | .exchangeAck _ _ => true
  | .keyx _ _ => true
  | .rekeyMessage _ _ => true
  | .portActive _ => true
  | .portEnable _ _ => true
  | .restart _ => true
  | .rekey _ => true
  | .hbSend _ => true
  | .heartbeatMiss _ _ => true
  | .switchOver _ => true
  | .switch _ => true
  | .selftestStart _ => true
  | .selftestDone _ => true
  | .xpSelCtlWrite _ _ => true
  | .read a => a.pk.cls == 0 && a.pk.op == 1 && arrWf a
  | .write a => a.pk.cls == 0 && a.pk.op == 2 && arrWf a
  | .copy a => a.pk.cls == 0 && a.pk.op == 3 && arrWf a
  | .add a => a.pk.cls == 0 && a.pk.op == 4 && arrWf a
  | .min a => a.pk.cls == 0 && a.pk.op == 5 && arrWf a
  | .max a => a.pk.cls == 0 && a.pk.op == 6 && arrWf a
  | .cas a => a.pk.cls == 0 && a.pk.op == 7 && arrWf a
  | .swap a => a.pk.cls == 0 && a.pk.op == 8 && arrWf a
  | .fwdWrite a => a.pk.cls == 1 && a.pk.op == 2 && arrWf a
  | .rspReceive pk => pk.cls == 2
  | .filterFill _ _ => true
  | .reissue _ => true
  | .timeout _ => true
  | .quarantineEnd _ => true
  | .orderHoldRelease _ _ => true
  | .arbDecision _ => true
  | .arbBackoffEnd _ _ => true
  | .csend d => colOp d.raw == 1
  | .crecv d => colOp d.raw == 2
  | .ccomb d => colOp d.raw == 3
  | .data _ pk => colWf 1 pk
  | .grant _ pk => colWf 2 pk
  | .ack _ pk => colWf 3 pk
  | .rej _ pk => colWf 4 pk
  | .ready _ _ => true
  | .switchOutcome part _ => part.val != 0
  | .readyTimeout part => part.val != 0
  | .segmentReceive _ _ => true
  | .resendRequest _ _ => true
  | .mcastRetry _ _ _ => true
  | .streamTimeout _ _ => true
  | .combTimeout _ _ => true
  | .streamComplete _ _ => true
  | .loomInputWrite _ _ chunk => decide (chunk < 65536)
  | .bulkLineRead _ n e => lineOk n.toNat && dramWf e
  | .bulkWrite _ n mask gran e => lineOk n.toNat && granWf mask gran && dramWf e
  | .writeBufferDrain _ _ => true
  | .rd _ _ _ e => dramWf e
  | .wr _ _ u gran e => granWf (uMask u) gran && dramWf e
  | .rdata _ _ u gran => gran.isEmpty || granWf (uMask u) gran
  | .wack _ _ _ => true
  | .ackonly _ _ _ _ => true
  | .standingResendTimeout _ _ _ => true
  | .standingReportRepeat _ _ _ => true
  | .bulkScrub _ e => dramWf e
  | .remap _ _ _ => true
  | .bulkSelftest _ _ => true
  | .bulkSelftestResume _ => true
  | .packageFillDone => true
  | .regionFillDone part => part.val != 0
  | .writeLine _ _ => true
  | .writeData _ _ => true
  | .writeCheck _ _ => true
  | .writeRaw _ _ => true
  | .readRaw _ _ => true
  | .readDecode _ _ e => dramWf e
  | .shRingWrite _ _ _ => true
  | .kick _ _ _ _ => true
  | .hostFree _ _ _ _ => true
  | .channelEnable _ _ _ => true
  | .descriptorStart _ _ => true
  | .fence _ _ _ => true
  | .inv _ _ _ _ => true
  | .move _ _ _ => true
  | .take _ _ _ => true
  | .free _ _ _ => true
  | .nop _ _ => true
  | .descriptorComplete _ _ _ => true
  | .resume _ => true
  | .channelStopped _ _ => true
  | .knCountWrite _ _ _ => true
  | .knAddWrite _ _ _ => true
  | .shuttleTurn _ _ _ => true
  | .info m => mailWf 0x01 m
  | .logRead m => mailWf 0x02 m
  | .partitionCreate m => mailWf 0x10 m
  | .partitionDelete m => mailWf 0x11 m
  | .partitionReset m _ => mailWf 0x12 m
  | .partitionQuery m => mailWf 0x13 m
  | .draftLoad m _ _ => mailWf 0x20 m
  | .draftStart m => mailWf 0x21 m
  | .draftStop m => mailWf 0x22 m
  | .weftSlotWrite m => mailWf 0x30 m
  | .weftStandingSet m => mailWf 0x31 m
  | .routeTableSet m => mailWf 0x40 m
  | .fabricTimeoutSet m => mailWf 0x41 m
  | .nodeDeadSet m => mailWf 0x42 m
  | .gearSet m => mailWf 0x50 m
  | .packageReset m => mailWf 0x51 m
  | .fwWrite m _ => mailWf 0x60 m
  | .fwActivate m => mailWf 0x61 m
  | .draftKeyGet m => mailWf 0x71 m
  | .timeGet m => mailWf 0x80 m
  | .timeStepArm m => mailWf 0x81 m && m.n 0 1 == 0
  | .timeStepDelta m => mailWf 0x81 m && m.n 0 1 == 1
  | .timeStepCancel m => mailWf 0x81 m && m.n 0 1 == 2
  | .meterRead m => mailWf 0x90 m
  | .bringupStart m => mailWf 0xA0 m
  | .bringupReport m => mailWf 0xA1 m
  | .tetherAdd m _ => mailWf 0xB0 m
  | .tetherRemove m => mailWf 0xB1 m
  | .tetherPolicySet m => mailWf 0xB2 m
  | .tetherList m => mailWf 0xB3 m
  | .tetherDoorbell _ => true
  | .returnDoorbell _ => true
  | .tetherEvent _ _ => true
  | .openMsg _ => true
  | .closeMsg _ => true
  | .heartbeat _ => true
  | .tetherHeartbeatSend => true
  | .tetherLost _ => true
  | .tetherReopen _ => true
  | .functionLevelReset _ => true
  | .perstN => true
  | .hdKwatchWrite _ _ _ => true
  | .knotWatchFire _ _ => true
  | .eventIrq _ => true
  | .registerWrite x _ => accWf x
  | .doorbell _ => true
  | .registerRead x => accWf x
  | .s0Newt _ => true
  | .s1Host _ _ _ => true
  | .s2Clocks _ _ => true
  | .s3Dies _ => true
  | .s4Bulk ids => decide (ids.length = 8)
  | .s5Light acks => !acks.isEmpty && decide (acks.length ≤ 4)
  | .s6Weave _ _ => true
  | .s7Cores _ _ => true
  | .s8Config => true
  | .s9Ports _ => true
  | .s10Ready => true
  | .timeLimit => true
  | .warmReset => true
  | .coldReset => true
  | .powerOn => true
  | .powerGoodFall _ => true
  | .watchdog => true
  | .hardResetNFall _ _ => true
  | .hardResetNHeld => true
  | .hardResetNRelease => true
  | .hang part => part.val != 0
  | .dumpWrite part => part.val != 0
  | .hdDumpSelWrite _ => true
  | .summaryWindowEnd => true
  | .logFlashWrite => true
  | .ideIntegrityFailure => true
  | .getVersion _ => true
  | .getCapabilities _ => true
  | .negotiateAlgorithms _ => true
  | .getDigests _ => true
  | .getCertificate _ => true
  | .challenge _ => true
  | .getMeasurements _ => true
  | .keyExchange _ => true
  | .finish _ => true
  | .spdmHeartbeat _ => true
  | .keyUpdate _ => true
  | .endSession _ => true
  | .chunkSend _ => true
  | .chunkGet _ => true
  | .vendorDefinedRequest _ _ => true
  | .setEndpointId _ => true
  | .regRead _ _ _ => true
  | .regWrite _ _ _ => true
  | .mailbox _ hdr payload => payload.length == hdr.length.toNat
  | .query m => mailWf 0x70 m && m.n 0 1 == 0
  | .claim m => mailWf 0x70 m && m.n 0 1 == 1
  | .deploy m => mailWf 0x70 m && m.n 0 1 == 2
  | .recall m => mailWf 0x70 m && m.n 0 1 == 3
  | .restore m => mailWf 0x70 m && m.n 0 1 == 4
  | .release m => mailWf 0x70 m && m.n 0 1 == 5
  | .retire m => mailWf 0x70 m && m.n 0 1 == 6
  | .keyAdd m => mailWf 0x70 m && m.n 0 1 == 7
  | .keyRevoke m => mailWf 0x70 m && m.n 0 1 == 8
  | .floorSet m => mailWf 0x70 m && m.n 0 1 == 9
  | .idePolicy m => mailWf 0x70 m && m.n 0 1 == 10
  | .ppsInEdge => true
  | .ppsInMissing => true
  | .slewEnd => true
  | .ppsOutRise => true
  | .ppsOutFall => true
  | .refclkLost => true
  | .refclkReturn => true
  | .capSample _ pairs => pairs.length == 8
  | .pwrBrakeAssert => true
  | .pwrBrakeRelease => true
  | .tempSample _ _ => true
  | .stackTempRead _ _ => true
  | .thermReqFall _ => true
  | .clear => true
  | .evcClear => true
  | .epochClose _ => true
  | .meterCheckpoint => true

end Sys2Proof
end

