-- ==== Sys2Proof/Tests/Slice0.lean ====
section
/-! SUPPORT. Tests: the checks of WellFormed refuse an ill-formed command each, slot words written out bit by bit from the
encoding tables decode to their operations, and the spec's worked examples come out as it says. -/
set_option Elab.async false
namespace Sys2Proof.Tests
open Machine

/-! ## WellFormed (R66, R71, R110 and the operands' own rules): one ill-formed command for each check -/

theorem test_wf_ups : (Instr.bundleIssue 0 [⟨3, true⟩, ⟨3, false⟩]).wf = false ∧ (Instr.bundleIssue 0 [⟨3, true⟩, ⟨4, false⟩]).wf = true := by
  decide +kernel
/-- TLD lines past 24 (R64), ESA with three lines (R110), PST of three lines to another cluster (R110). -/
theorem test_wf_mslot :
    (Instr.tld 0 .m0 ⟨0, 0, 2, false⟩ 23 1 false).wf = false ∧ (Instr.tld 0 .m0 ⟨0, 0, 1, false⟩ 23 1 false).wf = true ∧
    (Instr.esa 0 .m0 ⟨0, 0, 2, false⟩ 0 false false 0).wf = false ∧
    (Instr.pst 0 .m0 ⟨0, 0, 2, false⟩ 0 false 1 false 0).wf = false ∧
    (Instr.pst 0 .m0 ⟨0, 0, 2, false⟩ 0 false 0 false 0).wf = true := by decide +kernel
/-- MMV of a pair of formats that R49 does not give, SPEC with q = 300 (R36), FADD with an immediate (R66). -/
theorem test_wf_slots :
    (Instr.mmv 0 ⟨1, false, 0, 0, false, 0, 4, 1⟩).wf = true ∧ (Instr.mmv 0 ⟨1, false, 0, 0, false, 0, 4, 5⟩).wf = false ∧
    (Instr.spec 0 1 0 300).wf = false ∧ (Instr.spec 0 1 0 255).wf = true ∧
    (Instr.fadd 0 (vf 0 1)).wf = false ∧ (Instr.fadd 0 (vf 0 0)).wf = true := by decide +kernel
/-- KSIG by 0 and SHKICK of none (R71). -/
theorem test_wf_control : (Instr.ksig 0 1 0).wf = false ∧ (Instr.ksig 0 1 1).wf = true ∧ (Instr.shkick 0 0 0).wf = false := by
  decide +kernel
/-- No stack reported of eight (R287), and a Bobbin row without an attempt (R165). -/
theorem test_wf_bringup : (Instr.s4Bulk []).wf = false ∧ (Instr.s5Light []).wf = false ∧ (Instr.s5Light [true]).wf = true := by
  decide +kernel
/-- A landing write of no bytes, and one that is not aligned (R60). -/
theorem test_wf_landing :
    (Instr.landingWrite 0 ⟨0, [], false, none⟩).wf = false ∧ (Instr.landingWrite 0 ⟨4, List.replicate 8 0, false, none⟩).wf = false ∧
    (Instr.landingWrite 0 ⟨8, List.replicate 8 0, false, none⟩).wf = true := by decide +kernel
/-- Partition 0 names none (R4). -/
theorem test_wf_part : (Instr.partStop 0).wf = false ∧ (Instr.partStop 8).wf = true := by decide +kernel
/-- Pool accesses move granules of 64 bytes (R107). -/
theorem test_wf_pool :
    (Instr.poolPortAccess 0 ⟨64, true, [1]⟩ []).wf = false ∧ (Instr.poolPortAccess 0 ⟨32, false, []⟩ []).wf = false ∧
    (Instr.poolPortAccess 0 ⟨64, false, []⟩ []).wf = true := by decide +kernel
theorem test_wf_planes :
    (Instr.weftFrameReceive ⟨0, 0⟩ [] false).wf = false ∧ (Instr.bobbinPoll [] ⟨0, 0, 0, 0, 0, 0⟩).wf = false ∧
    (Instr.bobbinPoll [false, false, false, false, true] ⟨0, 0, 0, 0, 0, 0⟩).wf = false ∧
    (Instr.dataBlockReceive 0 [] false).wf = false := by decide +kernel
/-- A request row with a packet of another class or another operation (R129, R209). -/
theorem test_wf_requests :
    (Instr.read ⟨0, 0, pkt 1 (2 ^ 64) 0, [], []⟩).wf = false ∧ (Instr.read ⟨0, 0, pkt 0 (2 * 2 ^ 64) 0, [], []⟩).wf = false ∧
    (Instr.read ⟨0, 0, pkt 0 (2 ^ 64) 0, [], []⟩).wf = true ∧ (Instr.rspReceive (pkt 0 0 0)).wf = false := by decide +kernel
theorem test_wf_collectives :
    (Instr.csend ⟨0, 0, 2⟩).wf = false ∧ (Instr.csend ⟨0, 0, 1⟩).wf = true ∧ (Instr.data 0 (pkt 3 2 1)).wf = false ∧
    (Instr.data 0 (pkt 3 1 1)).wf = true ∧ (Instr.crecv ⟨0, 0, 1⟩).wf = false ∧ (Instr.ccomb ⟨0, 0, 3⟩).wf = true ∧
    (Instr.loomInputWrite 0 0 65536).wf = false ∧ (Instr.loomInputWrite 0 0 65535).wf = true := by decide +kernel
/-- A symbol pattern that names a symbol twice or changes nothing (R290), a mask of two granules with one (R296). -/
theorem test_wf_bulk :
    (Instr.bulkScrub 0 ⟨[⟨0, 1, 5⟩, ⟨0, 1, 6⟩], [], 0⟩).wf = false ∧ (Instr.bulkScrub 0 ⟨[⟨0, 1, 0⟩], [], 0⟩).wf = false ∧
    (Instr.bulkScrub 0 ⟨[⟨0, 1, 5⟩], [], 0⟩).wf = true ∧ (Instr.bulkWrite 0 74565 3 [0] cleanRead).wf = false ∧
    (Instr.bulkWrite 0 74565 3 [0, 0] cleanRead).wf = true ∧ (Instr.wr 0 0 0 [] cleanRead).wf = false := by decide +kernel
/-- A mailbox command with another opcode, or a payload that its LENGTH does not announce (R339). -/
theorem test_wf_mailbox :
    (Instr.info (mb 2 0 [])).wf = false ∧ (Instr.info (mb 1 0 [])).wf = true ∧ (Instr.info ⟨0, mbHdr 1 0 4 0, []⟩).wf = false ∧
    (Instr.timeStepCancel (mb 0x81 0 [1])).wf = false ∧ (Instr.claim (mb 0x70 0 [2])).wf = false ∧
    (Instr.mailbox ⟨true, 0⟩ (mbHdr 1 0 3 0) []).wf = false := by decide +kernel
/-- An access of three bytes (R335), and seven pair powers of eight (R420). -/
theorem test_wf_host :
    (Instr.registerWrite ⟨0, false, 0, 3⟩ 0).wf = false ∧ (Instr.registerRead ⟨0, false, 0, 8⟩).wf = true ∧
    (Instr.capSample 0 [0, 0, 0, 0, 0, 0, 0]).wf = false := by decide +kernel

/-! ## Slot words, written bit by bit from R66, R71 and R110 -/

/-- The table gives no row bits. -/
theorem test_decodeTableWord : decodeTableWord 256 0 = none := rfl
/-- VLD: OP 1, AR 5, OFFSET 0x123, LEN 2 (three lines), INC, V = 7. -/
theorem test_decode_vld : decodeM (0b00000000000_00111_1_010_000100100011_0101_0001 : BitVec 40) = some (.vld ⟨5, 0x123, 2, true⟩ 7) := by
  decide +kernel
/-- TLD: OP 3, AR 1, OFFSET 4, LEN 1, B line 20, MASK 1010, BUF 1. -/
theorem test_decode_tld :
    decodeM (0b000000_1_1010_10100_0_001_000000000100_0001_0011 : BitVec 40) = some (.tld ⟨1, 4, 1, false⟩ 20 0b1010 true) := by
  decide +kernel
/-- PST: OP 9, AR 2, OFFSET 0, LEN 0, PR 3, PINC, DCL 12, DDIE, POFS 65. -/
theorem test_decode_pst :
    decodeM (0b0_1000001_1_1100_1_11_0_000_000000000000_0010_1001 : BitVec 40) = some (.pst ⟨2, 0, 0, false⟩ 3 true 12 true 65) := by
  decide +kernel
/-- Operation 12 is reserved, and a bit above VLD's fields must be 0. -/
theorem test_decode_m_reserved : decodeM 12 = none ∧ decodeM (0b00000000001_00000_0_000_000000000000_0000_0001 : BitVec 40) = none := by
  decide +kernel
/-- MMV: OP 1, MASK 1111, BUF 1, SLICE 2, SET 5, CLR, AOFS 300, WFMT 3, AFMT 1. -/
theorem test_decode_mmv :
    decodeE (0b00000000_0001_0011_100101100_1_101_10_1_1111_0001 : BitVec 40) =
      some (.mmv ⟨0b1111, true, 2, 5, true, 300, 3, 1⟩) := by decide +kernel
/-- SPEC: OP 2, MASK 0011, SET 4, q = −8 in [9:0]. -/
theorem test_decode_spec :
    decodeE (0b0000000000000_000000_1111111000_100_0011_0010 : BitVec 40) = some (.spec 0b0011 4 0b1111111000) ∧
    specQ 0b1111111000 = -8 ∧ specWide 0b1111111000 = false := by decide +kernel
/-- FMA: OP 4, VD 1, VA 2, VB 3, VC 4, BF. -/
theorem test_decode_fma :
    decodeV (0b000_1_00_0000_0000000000000000_0000_00100_00011_00010_00001_000100 : BitVec 56) =
      some (.op .fma ⟨1, 2, 3, 4, 0, 0, 0, 0, true⟩) := by decide +kernel
/-- RCP: OP 2, VD 9, VA 8, Q 3. -/
theorem test_decode_rcp : decodeS (0b00000000_11_01000_01001_0010 : BitVec 24) = some (.op .rcp 9 8 3) := by decide +kernel
/-- KWAIT with SCRUB: OP 4, knot 33, CONSUME, N 6; JMP to bundle 7; LOOP to bundle 3, 1,000 times. -/
theorem test_decode_control :
    decodeC (0b000000000_00000000000000000000000000000110_1_100001_0_1_000100 : BitVec 56) = some (true, .kwait 33 true 6) ∧
    decodeC (0b0000000000000000000000000000000000000_00000000111_0_0_000001 : BitVec 56) = some (false, .jmp 7) ∧
    decodeC (0b000000000000000000000_0000001111101000_00000000011_0_0_000010 : BitVec 56) = some (false, .loop 3 1000) ∧
    decodeC 13 = none := by decide +kernel
/-- The slots of a bundle: C [55:0], M0 [95:56], M1 [135:96], E [175:136], V [231:176], S [255:232]. -/
theorem test_decode_bundle :
    decodeBundle (BitVec.ofNat 256 (3 + 2 ^ 56 * 0x01000001 + 2 ^ 96 * 0x02000002 + 2 ^ 136 * 0x103 + 2 ^ 176 * 0x26 + 2 ^ 232 * 1)) =
      { scrub := false, c := .halt, m0 := .vld ⟨0, 0, 0, false⟩ 1, m1 := .vst ⟨0, 0, 0, false⟩ 2, e := .zero 0 1,
        v := (decodeV 0x26).getD .nop, s := .op .exp 0 0 0 } := by decide +kernel

/-! ## The spec's worked examples -/

/-- The four products of the BF16 dot product place at 1, −2, 256 and −48 with q = −8 (R37). -/
theorem test_place :
    ((List.zipWith (fun a b => (place false (-8) (xmul (fmtBF16.decode a) (fmtBF16.decode b))).val)
      [0x3FC0, 0xBFC0, 0x4000, 0xC040] [0x3B40, 0x3B40, 0x3F00, 0x3D80]) = [some 1, some (-2), some 256, some (-48)]) ∧
    encodeTally false (some (-48)) = 0xFFFFFFFFFFFFFFD0 := by decide +kernel
/-- Their sum is 207, in two halves of −1 and 208 too (R46). -/
theorem test_sum :
    (accumulate false (some 0) [some 1, some (-2), some 256, some (-48)]).val = some 207 ∧
    (accumulate false (some (-1)) [some 208]).val = some 207 := by decide +kernel
/-- 207/256 is BF16 0x3F4F and F8E4 0x35; the tie of 200/256 goes to the even F8E4 0x34 (R43). -/
theorem test_convert :
    (fmtBF16.convert (tallyValue (-8) (some 207))).val = 0x3F4F ∧ (fmtF8E4.convert (tallyValue (-8) (some 207))).val = 0x35 ∧
    (fmtF8E4.convert (tallyValue (-8) (some 200))).val = 0x34 := by decide +kernel
/-- The BS4 block of 80, −43 and 3 at q = −4: scale byte 0x7F, elements 0b0110, 0b1101 and 0, no flag (R44). -/
theorem test_pack :
    convertBlock 4 ([80, -43, 3].map (fun t => tallyValue (-4) (some t)) ++ List.replicate 29 (tallyValue (-4) (some 0))) =
      ⟨([0b0110, 0b1101, 0b0000] ++ List.replicate 29 0, 0x7F), 0⟩ := by decide +kernel
/-- 1/3 in FP32 rounds to 0x3EAA_AAAB, and 1/0 is infinity with VDZ (R58). -/
theorem test_rcp : (sfRcp 0x40400000).val = 0x3EAAAAAB ∧ sfRcp 0 = ⟨0x7F800000, flVDZ⟩ := by decide +kernel
/-- e^0 is 1, and e^1 rounds to 0x402D_F854 (R58). -/
theorem test_exp : (sfExp 0).val = 0x3F800000 ∧ (sfExp 0x3F800000).val = 0x402DF854 := by decide +kernel
/-- The atomic of the worked example: 256 + 37 = 293, nothing clamps (R213). -/
theorem test_atomic_add : atomNew 4 2 0x100 0x25 0 = (293, false) := by decide +kernel
/-- THERM_REQ at 95, 96, 100, 105 and 110 °C, in eighths of a degree (R428). -/
theorem test_thermReq : [95, 96, 100, 105, 110].map (fun t => thermReq (8 * t)) = [0, 2, 8, 16, 24] := by decide +kernel
/-- BOUND_NS in HOLDOVER, 1.00005 s and 3,600 s after the last accepted edge (R414). -/
theorem test_boundNs :
    let s : State := withRegs State.reset [(HD_TIME_STAT, 2)]
    State.boundNs { s with tick := 1500075000 } = 12001 ∧ State.boundNs { s with tick := 5400000000000 } = 36002000 := by
  decide +kernel
/-- Stack line 74,565: slot 0 at q 45, die 13, block 10,485 of row 655; slot 1 on die 14; slot 8 at q 53, die 5 (R288). -/
theorem test_placeOf :
    placeOf 74565 0 = ⟨45, 10485, 13, 655⟩ ∧ (placeOf 74565 1).die = 14 ∧ placeOf 74565 8 = ⟨53, 10485, 5, 655⟩ := by decide +kernel
/-- From XS05 to PS3 on WL14, back on WL18 (R126). -/
theorem test_warp_wavelength : warpLane 21 3 0 = ringKey 21 (selOf 0 0 0 14) ∧ warpLane 3 21 0 = ringKey 3 (selOf 0 0 0 18) := by
  decide +kernel
/-- The sweep of the worked example, 24 lines up to WL31, the marker and 14 of the next order: WL13 at 142,592, and a second
time at 1,038,592 (R158). -/
theorem test_census :
    censusLines false 13 ((List.range 38).map fun i =>
      ⟨BitVec.ofNat 20 (14592 + 25600 * i + if i < 24 then 0 else 76800), i == 24⟩) = some [142592, 1038592] := by decide +kernel
/-- Of paths 3 and 7, tied, 3 wins (R259). -/
theorem test_arbiter : arbPick { Arb.none with req := [7, 3] } = some 3 := by decide +kernel
/-- Step 6 of the ring at its limits: of 12 kicked, 10 are added, and OVERRUN is set (R310). -/
theorem test_kick :
    let s := (withRegs State.reset [(SH_CH_STAT 810 1, 6 * 8 + 6 * 2 ^ 40)]).kick 810 1 12 0 0
    s.rf (SH_CH_STAT 810 1) SH_CH_STAT_READY = 16 ∧ s.rf (SH_CH_STAT 810 1) SH_CH_STAT_INUSE = 16 ∧
    s.rb (SH_CH_STAT 810 1) SH_CH_STAT_OVERRUN = true := by decide +kernel
/-- The request of the worked example: PARTITION_CREATE of partition 2 at the tethered node 0x0126 (R339). -/
theorem test_mailbox_header :
    hdrOf ([0x10, 0, 0, 2, 0x26, 0x81, 0x42, 0, 8] ++ List.replicate 23 0) = ⟨0x0010, 0, 2, 0x8126, 0x42, 8, 0, 0, 0⟩ := by
  decide +kernel
/-- CRC-32C of 32 zero bytes, and of "123456789" (RFC 3720). -/
theorem test_crc32c :
    crc32c (List.replicate 32 0) = 0x8A9136AA ∧
    crc32c [0x31, 0x32, 0x33, 0x34, 0x35, 0x36, 0x37, 0x38, 0x39] = 0xE3069283 := by decide +kernel
/-- The first and last round constants of SHA-512 (FIPS 180-4); the S-box of AES (FIPS 197). -/
theorem test_cipher_parts :
    shaK 0 = 0x428A2F98D728AE22 ∧ shaK 79 = 0x6C44198C4A475817 ∧ sBox 0x53 = 0xED ∧ sBoxInv 0xED = 0x53 := by decide +kernel
/-- Twice the generator of P-384, and its order (FIPS 186-4). -/
theorem test_p384 :
    (ecAdd p384G p384G).map Prod.fst =
      some 0x08D999057BA3D2D969260045C55B97F089025959A6F434D651D207D19FB96E9E4FE0E86EBE0E64F85B96A9C75295DF61 ∧
      ecPoint (ecBytes p384G) = p384G := by decide +kernel
/-- Data fibre 2 of XP13 leaves at position 7 and comes in at position 10 of DF6; LI19 is position 8 of LF1 (R444, R445). -/
theorem test_fibres : dataFibre 13 2 true = (6, 7) ∧ dataFibre 13 2 false = (6, 10) ∧ laserFibre 19 = (1, 8) := by decide
/-- Mesh hops of the worked example: C05 to C07 two, C11 to C07 one (R102). -/
theorem test_meshHops : meshHops 5 7 = 2 ∧ meshHops (16 + 11) (16 + 7) = 1 := by decide +kernel
/-- Reset leaves time UNSET, with the bound that says so (R414, R420), and no command waiting. -/
theorem test_reset : State.reset.pending = [] ∧ State.reset.timeState = 0 ∧ State.reset.boundNs = 0xFFFFFFFF := by decide +kernel

end Sys2Proof.Tests
end

