-- ==== Sys2Proof/Tests/Witness1.lean ====
section
/-! SUPPORT. States and operands that meet the hypotheses of the statements about steps, cores, beats and gears. -/
set_option Elab.async false
namespace Sys2Proof.Tests
open Machine

/-! ## Steps -/

theorem witness_StepRunsFrontCommand :
    ({ State.reset with pending := [.halt 0, .censusRestart] } : State).pending = .halt 0 :: [.censusRestart] := rfl
theorem witness_IdleStepIsATick : State.reset.pending = [] ∧ Still State.reset := by unfold Still; decide +kernel
/-- An unpowered pair; a powered one at phase 39 and gear 24, and at gear 0. -/
theorem witness_PairBeatAtGear :
    State.reset.pairPowered 0 = false ∧
      (∀ g ∈ [0, 24], ∀ s, s = { withRegs State.reset [(HD_PWR_DOM0, 1), (CD_GEAR_CTL 0, g)] with beatPhase := [(0, 39)] } →
        s.pending = [] ∧ Still s ∧ s.pairPowered 0 = true ∧ Tab.get 0 s.beatPhase 0 < 40 ∧ s.rf (CD_GEAR_CTL 0) CD_GEAR_CTL_CUR ≤ 24) := by
  refine ⟨by decide, ?_⟩
  simp only [forall_eq, Still]
  decide +kernel
/-- A refused command: KSIG of count 0. -/
theorem witness_OnlyIllegalEncodingsAreRefused : exec (.ksig 0 0 0) State.reset = .refused .illegalEncoding := rfl
theorem witness_BundleEncodingRoundTrip : cLegal (.ksig 63 1) = true ∧ cLegal (.shkick 3 4095) = true ∧ cLegal .bound = true := by decide
theorem witness_SlotEncodingsExact :
    decodeM 0x000000001F = none ∧ decodeM 0 = some .nop ∧ decodeE 0 = some .nop ∧ decodeV 0 = some .nop ∧ decodeS 0 = some .nop ∧
      decodeC 0 = some (false, .nop) := by decide

/-! ## Vector, special functions, memory slots, engines -/

/-- Every operation of the V slot has a legal encoding. -/
theorem witness_VectorOperationIssues :
    ∀ code ∈ [VCode.fadd, .fsub, .fmul, .fma, .fmax, .fmin, .fcmplt, .fcmpeq, .sel, .fabs, .fneg, .fred, .fredmax, .cvt, .tcvt, .tadd, .treq,
      .tfrom, .iadd, .isub, .iand, .ior, .ixor, .ishl, .isra, .movi, .movf, .perm], checkV code (vf 0 0) = none := by decide
theorem witness_VectorOperationIssues_tpack : checkV .tpack (vf 4 0) = none ∧ checkV .tpack { vf 3 0 with slotk := 9 } = none := by decide
/-- Core 0 in state 1, and halted. -/
theorem witness_VectorOperationIssues_state :
    running0.seqState 0 < 2 ∧ 2 ≤ (withRegs State.reset [(CD_SEQ_STATUS 0, CD_SEQ_STATUS_STATE.put 0 2 |>.toNat)]).seqState 0 := by
  decide +kernel
theorem witness_VectorResultVisibleAtLatency :
    checkV .fma (vf 0 0) = none ∧ running0.seqState 0 < 2 ∧ running0.bc 0 ≤ 0 ∧ 31 < 32 := by decide +kernel
theorem witness_IntegerLaneResults : 63 < 64 := by decide
theorem witness_NanComparesFalse : fmtFP32.decode 0x7FC00000 = .nan ∧ fmtBF16.decode 0x7F81 = .nan := by decide
theorem witness_SpecialFunctionIssues : running0.seqState 0 < 2 ∧ running0.bc 0 ≤ 12 ∧ 31 < 32 ∧ 63 < 64 := by decide +kernel
/-- Every operation of the M slots, at the last line of the buffers it names. -/
theorem witness_MemoryOperationIssues :
    ∀ op ∈ [MOp.vld line0 0, .vst line0 31, .tld line0 24 15 true, .ald line0 127 1, .tst line0 7 3, .tla line0 0 0, .arset 15 0x7FFF,
      .pld line0 3 true 0xFFF, .pst line0 0 true 15 true 0, .esa line0 31 true false 15, .prset 3 0xFFFF],
      (mInstr 0 .m1 op).isSome = true ∧ checkM op = none ∧ checkPst (clusterOf 0) op = none ∧ rangeFault (running0.core 0) op = none := by
  decide +kernel
/-- Line 24,575 is the last of a scratchpad; an access one line on faults, and one past the pool too. -/
theorem witness_RangeFaultStopsCore :
    let k : Core := { Core.reset with ar := [(0, 24575)], pr := [(0, 0xFFFF)] }
    rangeFault k (.vld line0 0) = none ∧ rangeFault k (.vld { line0 with offset := 1 } 0) = some 24576 ∧
      rangeFault k (.pld { line0 with ar := 1 } 0 false 0) = none ∧ (rangeFault k (.pld { line0 with ar := 1 } 0 false 1)).isSome = true ∧
      checkM (.vld { line0 with offset := 1 } 0) = none ∧ ({ running0 with cores := [(0, k)] } : State).seqState 0 < 2 ∧
      running0.rf (CD_CORE_FAULT 0) CD_CORE_FAULT_CAUSE = 0 := by decide +kernel
theorem witness_RangeFaultStopsCore_second :
    (withRegs State.reset [(CD_CORE_FAULT 0, 2)]).rf (CD_CORE_FAULT 0) CD_CORE_FAULT_CAUSE ≠ 0 := by decide +kernel
/-- The last slice of a weight format, the last activation offset; the ends of the specifications' range. -/
theorem witness_EngineOperations :
    3 < 4 ∧ 7 < 8 ∧ checkMmv ⟨15, true, 0, 7, true, 511, 0, 0⟩ = none ∧ specOk 255 = true ∧ specOk (BitVec.ofInt 10 (-300)).toNat = true := by
  decide +kernel

/-- A code section of one bundle whose SPEC has q = 256. -/
theorem witness_EngineOperations_load :
    let w := BitVec.ofNat 256 (2 ^ 136 * (encodeE (.spec 1 0 256)).toNat)
    let l : List SecData := [(⟨0, 1, 0, 0, 0, 32, 0⟩, leBytes 32 w.toNat)]
    (0, [w]) ∈ codesOf l ∧ decodeE (w.extractLsb' 136 40) = some (.spec 1 0 256) ∧ 255 < specQ 256 := by decide +kernel

/-! ## Control -/

/-- A kick that fills the ring; a knot at its threshold, and one short of it. -/
theorem witness_ControlOperations :
    let s := withRegs State.reset [(SH_RING 0 3, 0), (KN_COUNT 0 63, 5)]
    (1 : BitVec 12) ≠ 0 ∧ (1 : BitVec 12).toNat ≤ s.ringSlots 0 3 - s.rf (SH_CH_STAT 0 3) SH_CH_STAT_INUSE ∧ s.ringSlots 0 3 ≤ 4096 ∧
      s.rf (SH_CH_STAT 0 3) SH_CH_STAT_READY ≤ s.rf (SH_CH_STAT 0 3) SH_CH_STAT_INUSE ∧
      (5 : BitVec 32).toNat ≤ s.knotLeft (gclusterOf 0) 63 ∧ s.knotLeft (gclusterOf 0) 63 < (6 : BitVec 32).toNat := by decide +kernel
/-- A KWAIT behind a lower core's ready wait on its knot. -/
theorem witness_ControlOperations_wait :
    let s := withRegs State.reset [(KN_COUNT 0 0, 5)]
    s.lowerReady [⟨0, 0, 0, 1, false, 0, none⟩] ⟨1, 0, 0, 1, false, 0, none⟩ = true ∧ s.lowerReady [] ⟨1, 0, 0, 1, false, 0, none⟩ = false := by
  decide +kernel
/-- A bundle of NOPs issues; a pending wait 8 counts back holds the core. -/
theorem witness_BundleIssueCompletes :
    let b : Bundle := ⟨true, .nop, .nop, .nop, .nop, .nop, .nop⟩
    let s : State := { running0 with dstore := [(0, encodeBundle b)] }
    s.running 0 = true ∧ (s.grp (s.grpOf 0)).stop = none ∧ s.held 0 = false ∧ decodeBundle (Tab.get 0 s.dstore 0) = b ∧
      ((s.land 0 (s.bc 0)).strikes (dsWord 0 0) 4 []).issueFault 0 b 0 = none := by decide +kernel
theorem witness_BundleIssueCompletes_held :
    let w : Wait := ⟨0, 0, 0, 1, false, 0, none⟩
    let s : State := { withRegs running0 [(CD_BEAT_COUNT 0, 8)] with groups := [(0, { Grp.none with clusters := 1, part := 1, waits := [w] })] }
    s.running 0 = true ∧ (s.grp (s.grpOf 0)).stop = none ∧ s.held 0 = true := by decide +kernel
/-- A halted core, and a running one 8 counts past its group's stop. -/
theorem witness_BundleIssueCompletes_stopped :
    (withRegs running0 [(CD_SEQ_STATUS 0, CD_SEQ_STATUS_STATE.put 0 2 |>.toNat)]).seqState 0 = 2 ∧
      (let s : State := { withRegs running0 [(CD_BEAT_COUNT 0, 8)] with groups := [(0, { Grp.none with clusters := 1, part := 1, stop := some 0 })] }
       s.running 0 = true ∧ (s.grp (s.grpOf 0)).stop = some 0 ∧ 0 + 8 ≤ s.bc 0) := by decide +kernel

/-! ## Beats -/

/-- A store to the last line of bank 7 and a VLD of bank 0 in one bank beat: neither loses. -/
theorem witness_BeatRowsPerform_bank :
    let bs : List BankAcc := [⟨0, 0, 0, 24575, 1, false, .write [5]⟩, ⟨0, 0, 1, 0, 1, false, .vld 31⟩]
    let s : State := { running0 with cores := [(0, { Core.reset with bundles := 4, banks := bs })] }
    (s.spStrikes 0 []).bankDue 0 = bs ∧
      bankLosers (s.openBanks 0) (bs.any fun a => a.kind = .scrub) (bs.filter fun a => a.kind ≠ .scrub) = [] ∧
      (∀ a ∈ bs, s.accUe 0 a = false) ∧ ∀ a ∈ bs, a.n ≤ 8 := by decide +kernel
theorem witness_BeatRowsPerform_link :
    let x : Xfer := ⟨0, 0, 0, 0, [], [(0, 3), (1, 4)], .pool 0 0⟩
    let s : State := { running0 with pairs := [(0, { Pair.reset with xfers := [x] })] }
    s.claimBeat (s.pair 0).xfers = [x] ∧ s.claimClash [x] x = false := by decide +kernel
theorem witness_BeatRowsPerform_pool :
    let o : PoolOp := ⟨0, 0, 0, 0, 0, 65535, 1, some [9], 0⟩
    let q : PoolOp := ⟨0, 0, 1, 0, 0, 0, 1, none, 0⟩
    let s : State := { running0 with poolOps := [o, q] }
    (s.poolStrikes 0 []).poolDue 0 = [o, q] ∧ poolClash o q = false ∧ poolClash q o = false ∧
      s.ues (poolWord 0 q.pline) (16 * q.n) = [] := by decide +kernel
theorem witness_BeatRowsPerform_slot :
    let s : State := { running0 with pairs := [(7, { Pair.reset with slotIn := [⟨3, 31, true, false, 0, []⟩] })] }
    minBeat (((s.pair 7).slotIn.filter fun i => i.slot = 31).map SlotIn.beat) = some 3 := by decide +kernel
theorem witness_BankConflictFaults :
    let bs : List BankAcc := [⟨0, 0, 0, 0, 1, false, .write [1]⟩, ⟨0, 0, 1, 8, 1, false, .write [2]⟩]
    let s : State := { running0 with cores := [(0, { Core.reset with bundles := 4, banks := bs })] }
    (s.spStrikes 0 []).bankDue 0 = bs ∧ earliest (bankLosers (s.openBanks 0) false bs) = some ⟨0, 0, 0, 0, 1, false, .write [1]⟩ ∧
      s.rf (CD_CORE_FAULT 0) CD_CORE_FAULT_CAUSE = 0 := by decide +kernel
/-- A knot with a KSET, a KSIG and an outside increment that reach 2^32 − 1; one with consumption alone. -/
theorem witness_KnotUpdateCounts :
    let q : KnotPend := ⟨[(3, 2 ^ 32 - 4)], [(1, 2)], 1, 0, 1⟩
    let s : State := { State.reset with kpend := [(knotKey 0 63, q)] }
    s.kp (knotKey 0 63) = q ∧ s.streamsOf 0 = [] ∧ (∃ x ∈ q.sets, ∀ y ∈ q.sets, x.1 < y.1 ∨ x = y) ∧ (∃ x ∈ q.sigs, ∀ y ∈ q.sigs, x.1 ≤ y.1) ∧
      2 ^ 32 - 4 + (q.sigs.map Prod.snd).sum + q.outside ≤ 2 ^ 32 - 1 := by decide +kernel
theorem witness_KnotUpdateCounts_consumed :
    let q : KnotPend := ⟨[], [], 0, 5, 0⟩
    let s : State := { withRegs State.reset [(KN_COUNT 0 0, 5)] with kpend := [(knotKey 0 0, q)] }
    s.kp (knotKey 0 0) = q ∧ q.sets = [] ∧ s.knotCount 0 0 - q.consumed = 0 := by decide +kernel
theorem witness_WaitsAndHolds :
    let w : Wait := ⟨0, 0, 5, 7, true, 0, none⟩
    let s : State := { withRegs running0 [(KN_COUNT 0 5, 7), (CD_HOLD_LIMIT 0, 1)] with groups := [(0, { Grp.none with clusters := 1, part := 1, waits := [w] })] }
    (s.grp (s.grpOf 0)).waits.find? (fun v => v.core = 0 && v.succ.isNone && s.waitOk v && !s.lowerReady [w] v) = some w ∧
      (s.grp (0 * 32 + 0)).stop = none := by decide +kernel
/-- A wait that has lasted the limit of 1 beat exactly, its knot one short. -/
theorem witness_WaitsAndHolds_limit :
    let w : Wait := ⟨0, 0, 5, 7, false, 0, none⟩
    let s : State := { withRegs running0 [(KN_COUNT 0 5, 6), (CD_HOLD_LIMIT 0, 1), (CD_PAIR_BEAT 0, 1)] with
      groups := [(0, { Grp.none with clusters := 1, part := 1, waits := [w] })] }
    s.rf (CD_HOLD_LIMIT 0) CD_HOLD_LIMIT_LIMIT ≠ 0 ∧ w ∈ (s.grp (s.grpOf 0)).waits ∧ s.knotLeft (gclusterOf 0) w.knot < w.thr ∧
      w.since + s.rf (CD_HOLD_LIMIT 0) CD_HOLD_LIMIT_LIMIT ≤ s.pb (pairOf 0) ∧ s.rf (CD_CORE_FAULT 0) CD_CORE_FAULT_CAUSE = 0 := by decide +kernel
/-- A held beat and none; a pool bank that is free. -/
theorem witness_ScrubAdvances :
    7 < 8 ∧ 15 < 16 ∧ running0.rb (CD_SEQ_STATUS 0) CD_SEQ_STATUS_HELD = false ∧ running0.portFree 255 15 = true ∧
      (withRegs running0 [(CD_SEQ_STATUS 0, CD_SEQ_STATUS_HELD.put 0 1 |>.toNat)]).rb (CD_SEQ_STATUS 0) CD_SEQ_STATUS_HELD = true := by
  decide +kernel

/-! ## Landing ports, stops, pools -/

/-- Zone 7 of core 0 is the last row of its scratchpad; it is open, or closed. -/
def zoned (open_ : Nat) : State :=
  withRegs running0 [(CD_ZONE 0 7, CD_ZONE_BANKS.put (CD_ZONE_FIRST_ROW.put (CD_ZONE_ROWS.put 0 1) 3071) 255 |>.toNat),
    (CD_SEQ_STATUS 0, CD_SEQ_STATUS_ZOPEN.put 0 open_ |>.toNat)]
/-- The last 64 bytes of the scratchpad, with a knot. -/
def land64 : LandAcc := ⟨0x2FFFC0, List.replicate 64 1, false, some 63⟩
theorem witness_LandingPort :
    land64.data ≠ [] ∧ land64.addr.toNat % landWidth land64 = 0 ∧ land64.data.length % landWidth land64 = 0 ∧
      (zoned 128).accessZone 0 land64.addr.toNat land64.data.length = some 7 ∧ ((zoned 128).zopen 0).getLsbD 7 = true ∧
      (zoned 0).accessZone 0 land64.addr.toNat land64.data.length = some 7 ∧ ((zoned 0).zopen 0).getLsbD 7 = false ∧
      landLines (((zoned 0).core 0).lbuf ++ [.acc land64]) ≤ 16 ∧
      running0.accessZone 0 land64.addr.toNat land64.data.length = none := by decide +kernel
/-- An atomic of 8 bytes waits in the buffer as its zone opens. -/
theorem witness_LandingPort_drain :
    let a : LandAcc := ⟨0x2FFFF8, List.replicate 8 2, false, none⟩
    let s := (zoned 128).setCore 0 { (zoned 128).core 0 with lbuf := [.acc a] }
    a.addr.toNat % landWidth a = 0 ∧ a.data.length % landWidth a = 0 ∧ s.accessZone 0 a.addr.toNat a.data.length = some 7 ∧
      (s.zopen 0).getLsbD 7 = true ∧ (s.core 0).lbuf = [.acc a] := by decide +kernel
theorem witness_GroupAndPartitionStops_group :
    let s : State := { running0 with groups := [(0, { Grp.none with clusters := 1, part := 1, stop := some 0 })] }
    (s.grp 0).stop = some 0 ∧ (s.grp 0).draining = false ∧ 0 ∈ s.grpCores 0 ∧ s.seqState 0 = 1 ∧ 8 ∉ s.grpCores 0 := by decide +kernel
theorem witness_GroupAndPartitionStops_part :
    let p : Part := { onePair 0 .running with origins := [0] }
    let s : State := { running0 with parts := [(8, p)] }
    s.part? 8 = some p ∧ p.origins ≠ [] ∧ (0, s.core 0) ∈ s.cores ∧ (s.core 0).bundles ≠ 0 ∧ p.hasPair 0 = true ∧ s.seqState 0 = 1 := by
  decide +kernel
theorem witness_GroupAndPartitionStops_drain :
    let s : State := { State.reset with groups := [(255, { Grp.none with clusters := 1, part := 8 })] }
    (s.grp (7 * 32 + 31)).part ≠ 0 ∧ (s.grp 255).halted = false ∧ (s.grp 255).stop = none ∧ (s.grp 255).waits = [] ∧
      (s.grpCores 255).any s.running = false ∧ ((s.drainBeats 255 64).grp 255).stop = none := by decide +kernel
/-- The last 64 bytes of a pool, written and read, while another bank's access waits; a misaligned place. -/
theorem witness_PoolPort :
    let w : PoolAcc := ⟨0x7FFFC0, true, List.replicate 64 3⟩
    let s : State := { State.reset with pools := [(255, { State.reset.pool 255 with wait := [⟨0, false, []⟩] })] }
    s.portFree 255 (w.addr.toNat / 128 % 16) = true ∧ (s.pool 255).atoms = [] ∧ (s.pool 255).reps = [] ∧ w.addr.toNat % 64 = 0 ∧
      (∀ b ∈ (s.pool 255).wait, b.addr.toNat / 128 % 16 ≠ w.addr.toNat / 128 % 16 ∧ b.addr.toNat % 64 = 0 ∧ b.data.length ≤ 64) ∧
      w.data.length = 64 ∧ s.ues ((poolBase 255 + w.addr.toNat) / 8) 8 = [] ∧ (0x7FFFC1 : BitVec 23).toNat % 64 ≠ 0 := by decide +kernel
/-- A bank with a static claimant, and one the port used in this wall beat. -/
theorem witness_PoolPort_busy :
    let s : State := { running0 with poolOps := [⟨0, 0, 0, 0, 0, 15, 1, none, 0⟩] }
    let u : State := { running0 with pools := [(0, { running0.pool 0 with used := [(15, 1)] })] }
    s.portFree 0 (0x780 / 128 % 16) = false ∧ u.portFree 0 (0x780 / 128 % 16) = false := by decide +kernel

/-! ## Gears -/

theorem witness_GearController :
    (withRegs State.reset [(CD_PAIR_BEAT 7, 3840)]).pb 7 % 4096 = 3840 ∧
      (let s : State := { State.reset with pairs := [(7, { Pair.reset with changing := true })] }
       (s.pair 7).changing = true ∧ s.pb 7 % 4096 = 0) ∧
      (let s : State := { withRegs State.reset [(CD_PAIR_BEAT 7, 4095)] with pairs := [(7, { Pair.reset with changing := true })] }
       (s.pair 7).changing = true ∧ s.pb 7 % 4096 = 4095 ∧ (0 : BitVec 32) ≠ BitVec.allOnes 32) ∧
      (let s : State := { withRegs State.reset [(CD_PAIR_BEAT 7, 1)] with pairs := [(7, { Pair.reset with lower := true })] }
       (s.pair 7).lower = true ∧ s.pb 7 % 4096 = 1) := by decide +kernel
theorem witness_CrossingSlipStopsPartition :
    let s := inPart .running
    s.part? (s.partOfPair (31 / 32)) = some (onePair 0 .running) ∧ (onePair 0 .running).state = .running ∧
      s.part? (s.partOfPair (255 / 32)) = none ∧
      (inPart .loaded).part? ((inPart .loaded).partOfPair 0) = some (onePair 0 .loaded) := by decide +kernel

end Sys2Proof.Tests
end

