-- ==== Sys2Proof/Tests/Witness2.lean ====
section
/-! SUPPORT. States and operands that meet the hypotheses of the statements about the planes, the optics, the ports and the
logical links. -/
set_option Elab.async false
namespace Sys2Proof.Tests
open Machine

/-! ## Warp and weft planes -/

/-- A packet from site 0 to site 31, to start on waveguide 15, behind 255 unacknowledged flits; and one due for a replay that
left on waveguide 15 last. -/
theorem witness_WarpPlaneTraffic_send :
    let o : WOffer := ⟨15, pkt 0 5 0⟩
    let s := State.reset.setTx (siteKey 0 31) { WarpTx.reset with queue := [(4095, o)], sent := (List.range 51).map fun i => ⟨i, ⟨0, pkt 0 5 4⟩, 1, 0, false⟩ }
    let w : WSent := ⟨4094, o, 1, 15, true⟩
    let u := State.reset.setTx (siteKey 0 31) { WarpTx.reset with sent := [w] }
    s.lightHold = false ∧ s.isDown 0 31 = false ∧
      (let T := (s.tx (siteKey 0 31)).accept (s.tx (siteKey 0 31)).offer.length
       T.sent.find? WSent.again = none ∧ T.queue = [(4095, o)] ∧ T.sent.length < 1024 ∧
         (T.sent.map fun x => x.off.pk.flits).sum + o.pk.flits = 256 ∧ s.freeLane 0 31 o.start 0x7FFF none = some 15) ∧
      ((u.tx (siteKey 0 31)).accept 0).sent.find? WSent.again = some w ∧ u.freeLane 0 31 o.start 0x7FFE (some 15) = some 0 := by
  decide +kernel
/-- A good packet of PSEQ 0, and the window around the next PSEQ: next, stale by 1 and by 2,048, ahead by 1 and by 2,047. -/
theorem witness_WarpPlaneTraffic_receive :
    let pk := (mkPkt 0 5 [] 0 0).sealed
    pk.crcOk = true ∧ warpMalformed 0 pk = false ∧ pk.linkonly = false ∧ pk.f 81 1 = 0 ∧ pk.pseq = 0 ∧
      ∀ n ∈ [(0 : Nat), 1, 2048, 4095, 2049],
        let s := State.reset.setRx (siteKey 0 31) { WarpRx.reset with next := n }
        (n = 0 ↔ pk.pseq = (s.rx (siteKey 0 31)).next) ∧ (s.rx (siteKey 0 31)).held = [] ∧ pk.dep < 2 ∧
        ((pk.pseq + 4096 - (s.rx (siteKey 0 31)).next) % 4096 ≥ 2048 ↔ n = 1 ∨ n = 2048) := by decide +kernel
/-- A packet whose CRC is wrong; at a memory site, where it is malformed for its SITE. -/
theorem witness_WarpPlaneTraffic_crc :
    (mkPkt 0 5 [] 0 0).crcOk = false ∧ (mkPkt 0 5 [] 0 0).sealed.crcOk = true ∧ warpMalformed 31 (mkPkt 0 5 [] 0 0).sealed = true := by
  decide +kernel
theorem witness_WarpPlaneTraffic_ack :
    let s := State.reset.setRx (siteKey 31 0) { WarpRx.reset with owe := true }
    (s.rx (siteKey 31 0)).owe = true ∧ s.lightHold = false ∧ s.isDown 31 0 = false ∧ s.freeLane 31 0 0 1 none = some 1 := by
  decide +kernel
/-- The oldest packet after 8 and after 9 sendings. -/
theorem witness_WarpPlaneTraffic_timeout :
    ∀ n ∈ [8, 9], let w : WSent := ⟨3, ⟨0, pkt 0 5 0⟩, n, 0, false⟩
      let s := State.reset.setTx (siteKey 0 1) { WarpTx.reset with sent := [w] }
      s.lightHold = false ∧ (s.tx (siteKey 0 1)).sent.find? (fun x => !x.again) = some w ∧
        (s.tx (siteKey 0 1)).sent.find? (fun x => x.pseq = w.pseq) = some w ∧ s.isDown 0 1 = false := by decide +kernel

/-- Partition 1 with slot 15 valid, and a phase switch in a given state. -/
def switching (sw : Switch) : State :=
  { (inPart .running).wf (LM_WEFT_SLOTVALID 0) LM_WEFT_SLOTVALID_VALID 0x8000 with switches := [(1, sw)] }
/-- An invalid slot, a valid one, a switch under way with and without one queued. -/
theorem witness_WeftPlaneSwitchesAndFrames_request :
    let p := onePair 0 .running
    let valid (s : State) (n : Nat) := p.groupIx.all fun g => (s.rf (LM_WEFT_SLOTVALID g) LM_WEFT_SLOTVALID_VALID).testBit n
    let on := { Switch.none with on := true, asker := some false }
    (switching Switch.none).part? 1 = some p ∧ valid (switching Switch.none) 14 = false ∧ valid (switching Switch.none) 15 = true ∧
      ((switching Switch.none).sw 1).on = false ∧ 15 ≠ (switching Switch.none).gget p LM_WEFT_GSTAT_CUR ∧
      (switching Switch.none).gget p LM_WEFT_GSTAT_STATE = 0 ∧ ((switching on).sw 1).queue = none ∧
      ((switching on).sw 1).asker = some false ∧ ((switching on).sw 1).from_ = (switching on).tick ∧ ((switching on).sw 1).roll = false ∧
      15 ≠ ((switching on).sw 1).old ∧ ((switching { on with queue := some (15, false) }).sw 1).queue = some (15, false) ∧
      ((switching { on with queue := some (15, false) }).sw 1).qFrom = (switching on).tick ∧
      ((switching { on with queue := some (15, true) }).sw 1).queue ≠ none := by decide +kernel
/-- The slot in force, asked for again. -/
theorem witness_WeftPlaneSwitchesAndFrames_same :
    let p := onePair 0 .running
    let s := (switching Switch.none).wf (LM_WEFT_GSTAT 0) LM_WEFT_GSTAT_CUR 15
    15 = s.gget p LM_WEFT_GSTAT_CUR ∧ s.gget p LM_WEFT_GSTAT_STATE = 0 := by decide +kernel
/-- A switch to slot 15 whose outputs all measure right, with nothing to verify; one with a named output that measures nothing. -/
theorem witness_WeftPlaneSwitchesAndFrames_verify :
    let p := onePair 0 .running
    let s := switching { Switch.none with on := true, target := 15, asker := some true }
    let u : State := { s with slotRecs := [(15, 0x80)] }
    (s.sw 1).on = true ∧ (s.sw 1).roll = false ∧ (s.sw 1).queue = none ∧ (s.sw 1).target < 16 ∧ s.badOuts p 15 [] = [] ∧
      u.badOuts p 15 [] = [0] ∧ (switching { Switch.none with on := true, roll := true }).badOuts p 0 [] = [] ∧
      ((switching { Switch.none with on := true, queue := some (15, true) }).sw 1).target ≠ 15 ∧ 0 < p.pairs := by decide +kernel
/-- The bits of a lane block of TYPE `ty` from a scrambler that has sent nothing. -/
def rawBlock (ty : Nat) : BitVec 544 := BitVec.ofNat 544 (scramble 0 (mkBlock 5 ty [7]).bits 16).1
/-- A standing unit and a phase circuit's data frame on 32 lanes; a frame with a lane short. -/
theorem witness_WeftPlaneSwitchesAndFrames_frame :
    let s : State := { withRegs State.reset [(LM_WEFT_GSTAT 0, LM_WEFT_GSTAT_CUR.put 0 1 |>.toNat)] with slotRecs := [(1, 0x80)] }
    let bs (ty : Nat) := (s.unscramble 0 8 (List.range 32) (List.replicate 32 (rawBlock ty))).1
    s.lightHold = false ∧ s.phasePart 0 8 = 0 ∧ s.rxLanes 0 8 = List.range 32 ∧ s.rxLanes 0 0 = List.range 32 ∧ s.standAt 0 8 = none ∧
      s.standAt 0 0 = some (true, 0, 0) ∧ frameOk 32 false (bs 1) = true ∧
      (((bs 1).headD ⟨0, 0⟩).tail.extractLsb' 12 2).toNat = 1 ∧ (List.replicate 31 (rawBlock 1)).length ≠ 32 := by decide +kernel
/-- Idle frames and a standing unit's: TYPE 2 and 0. -/
theorem witness_WeftPlaneSwitchesAndFrames_types :
    ∀ ty ∈ [0, 2], (((State.reset.unscramble 0 0 [0] [rawBlock ty]).1.headD ⟨0, 0⟩).tail.extractLsb' 12 2).toNat = ty := by decide +kernel
/-- A locked warp ring whose lane nothing keeps out of service. -/
theorem witness_WeftPlaneSwitchesAndFrames_lanes :
    let l : RingRef := ⟨0, 0x80⟩
    let k := laneKey l.key
    let u : State := { State.reset with rings := (ringsOf k).foldl (fun t r => Tab.set Ring.reset t r { Ring.reset with lock := 1 }) [] }
    l.isRing = true ∧ l.plane = 0 ∧ (u.lane k).out = 0 ∧ u.laneFit k = true ∧ (u.ring l.key).lock = 1 ∧ u.lightHold = false := by
  decide +kernel

/-! ## Light, rings, census -/

/-- Both sides of the limits of a tap: DARK below 5 dBm, LOW below 15.1 dBm, OVER above 21 dBm. -/
theorem witness_LaserInputsAndBobbin_tap :
    State.reset.rb (LM_LASER_IN 7) LM_LASER_IN_DARK = false ∧ (499 : BitVec 16).toInt < 500 ∧ ¬ (500 : BitVec 16).toInt < 500 ∧
      (1509 : BitVec 16).toInt < 1510 ∧ 2100 < (2101 : BitVec 16).toInt ∧ (7 : Nat) < 8 := by decide +kernel
theorem witness_LaserInputsAndBobbin_over :
    (State.reset.wf (LM_LASER_IN 23) LM_LASER_IN_OVER 1).rb (LM_LASER_IN 23) LM_LASER_IN_OVER = true := by decide +kernel
theorem witness_LaserInputsAndBobbin_poll :
    true ∈ [false, false, false, true].take 4 ∧ true ∉ [false, false, false, false].take 4 := by decide
theorem witness_LaserInputsAndBobbin_bobbin :
    let s := State.reset.wf LM_BOBBIN LM_BOBBIN_LASER_EN 1
    let u : State := { State.reset.wf HD_BRINGUP HD_BRINGUP_STAGE 5 with laserUp := 2 }
    s.rb LM_BOBBIN LM_BOBBIN_LASER_EN = true ∧ s.rb LM_BOBBIN LM_BOBBIN_BOBBIN_OK = false ∧ s.lightHold = false ∧
      u.laserUp = 2 ∧ State.reset.laserUp ≠ 2 ∧ u.rf HD_BRINGUP HD_BRINGUP_STAGE = 5 ∧ u.rf HD_BRINGUP HD_BRINGUP_OUTCOME = 0 := by
  decide +kernel
theorem witness_LaserInputsAndBobbin_hold :
    let s := ((inPart .halted).wf LM_BOBBIN LM_BOBBIN_LIGHT_HOLD 1).setRing (RingRef.mk 0 0x80).key { Ring.reset with lock := 1 }
    s.lightHold = true ∧ (∀ e ∈ s.parts, e.2.state ≠ .running) ∧ (RingRef.mk 0 0x80).isRing = true ∧
      (s.ring (RingRef.mk 0 0x80).key).lock = 1 := by decide +kernel
/-- An input that was DARK feeds a locked ring. -/
theorem witness_LaserInputsAndBobbin_light :
    let k := (fedRings 0).headD 0
    let s := (State.reset.wf (LM_LASER_IN 0) LM_LASER_IN_DARK 1).setRing k { Ring.reset with lock := 1 }
    k ∈ fedRings 0 ∧ s.rb (LM_LASER_IN 0) LM_LASER_IN_DARK = true ∧ (s.ring k).lock = 1 := by decide +kernel
/-- A lane in service may move by 8; the heater may come to within 16,384 of its ends. -/
theorem witness_RingTrackingMoves :
    ∀ h ∈ [16384, 2 ^ 20 - 1 - 16384], let r : RingRef := ⟨0, 0x80⟩
      let s := (State.reset.setRing r.key { Ring.reset with lock := 1, heater := h - 8, ref := 301 }).setLane (laneKey r.key) { Lane.reset with insv := true }
      r.isRing = true ∧ (s.ring r.key).lock = 1 ∧ s.lightHold = false ∧ s.dark r.key = false ∧
        (s.lane (laneKey r.key)).out &&& whyRecal = 0 ∧ (s.lane (laneKey r.key)).insv = true ∧ r.rx = false ∧
        (h : Int) = min (2 ^ 20 - 1) (max 0 (((s.ring r.key).heater : Int) + max (-8) (min 8 9))) := by decide +kernel
/-- The fourth reading more than 3.01 dB below the reference; a code past the guard, with and without a second occurrence. -/
theorem witness_RingTrackingMoves_ends :
    let g : Ring := { Ring.reset with lock := 1, ref := 302, low := 3 }
    g.stale = false ∧ (0 : BitVec 16).toInt < g.ref - 301 ∧ g.low + 1 = 4 ∧ g.second = none ∧ (16383 : Nat) < 16384 ∧
      2 ^ 20 - 1 - 16384 < 2 ^ 20 - 16384 ∧ { g with second := some 9 }.second ≠ none := by decide
theorem witness_RingTrackingMoves_idle : (State.reset.ring (RingRef.mk 0 0x80).key).lock ≠ 1 := by decide +kernel
/-- A ring in search, found 25,600 codes away, or as far from its second occurrence; in light hold. -/
theorem witness_RingsCensusAndRecalibration_search :
    let r : RingRef := ⟨0, 0x80⟩
    let s := State.reset.setRing r.key { Ring.reset with lock := 2, heater := 25600, second := some 500000 }
    r.isRing = true ∧ (s.ring r.key).lock = 2 ∧ s.dark r.key = false ∧ s.lightHold = false ∧
      (51200 : BitVec 20).toNat ≤ (s.ring r.key).heater + 25600 ∧ (s.ring r.key).heater ≤ (0 : BitVec 20).toNat + 25600 ∧
      (525600 : BitVec 20).toNat ≤ 500000 + 25600 ∧ (s.wf LM_BOBBIN LM_BOBBIN_LIGHT_HOLD 1).lightHold = true := by decide +kernel
/-- A sweep with the marker, the order gap and its target line; one without a crossing; a ring whose turn it is, and one later. -/
theorem witness_RingsCensusAndRecalibration_census :
    let r : RingRef := ⟨0, 1⟩
    let s : State := { State.reset.wf LM_CENSUS LM_CENSUS_STATE 1 with censusDone := 51199 }
    s.rf LM_CENSUS LM_CENSUS_STATE = 1 ∧ r.isRing = true ∧ r.plane = 1 ∧ s.censusDone + 1 = 51200 ∧ s.censusTurn r.key = true ∧
      s.censusTurn (RingRef.mk 0 0x81).key = false ∧
      censusLines false r.wl [⟨1000, true⟩, ⟨26600, false⟩, ⟨129000, false⟩] = some [1000] ∧ censusLines false r.wl [] = none ∧
      (State.reset.wf LM_CENSUS LM_CENSUS_STATE 3).rf LM_CENSUS LM_CENSUS_STATE = 3 := by decide +kernel
/-- A receive ring, and a transmit ring whose lane is out of service. -/
theorem witness_RingsCensusAndRecalibration_dac :
    let u := withRegs State.reset [(LM_RING_SEL 0, 4)]
    let s := withRegs State.reset [(LM_RING_SEL 0, 1)]
    u.selRing 0 = some ⟨0, 4⟩ ∧ (RingRef.mk 0 4).rx = true ∧ s.selRing 0 = some ⟨0, 1⟩ ∧ (RingRef.mk 0 1).rx = false ∧
      (s.lane (laneKey (RingRef.mk 0 1).key)).insv = false ∧ LM_DAC_CTL_ENABLE.get (LM_DAC_CTL_ENABLE.put 0 1) = 1 := by decide +kernel
/-- A weft lane that may start, one of its fibre in DAC mode, and one under way whose rings are locked. -/
theorem witness_RingsCensusAndRecalibration_recal :
    let l : RingRef := ⟨0, 1⟩
    let s := (State.reset.setRing l.key { Ring.reset with lock := 1 }).setLane (laneKey l.key) { Lane.reset with out := whyRecal }
    l.isRing = true ∧ l.plane = 1 ∧ State.reset.lightHold = false ∧ State.reset.dark (laneKey l.key) = false ∧
      (∀ e ∈ State.reset.lanes, sameTurn (laneKey l.key) e.1 = true → e.2.out &&& whyRecal = 0) ∧
      (∀ r ∈ ringsOf (laneKey l.key), (State.reset.ring r).dac = false) ∧ (s.lane (laneKey l.key)).out &&& whyRecal ≠ 0 ∧
      (∀ r ∈ ringsOf (laneKey l.key), (s.ring r).lock = 1) ∧
      (State.reset.wf LM_BOBBIN LM_BOBBIN_LIGHT_HOLD 1).lightHold = true := by decide +kernel
/-- A weft lane in a circuit, which its recalibration leaves 64 frames later. -/
theorem witness_RingsCensusAndRecalibration_circuit : (State.reset.circuitOf (laneKey (RingRef.mk 0 1).key)).isSome = true := by decide +kernel

/-! ## Ports and links -/

/-- A port in a given state, with the rest of it given. -/
def portAt (p st : Nat) (q : Port) : State := (State.reset.wf (XP_PORT_STAT p) XP_PORT_STAT_STATE st).setPort p q
/-- A training message of a type from node 3, port 31, with the SELVEDGE byte, RXMAP and the key part's fields. -/
def tmsg (ty mode sel rx part ix n : Nat) : BitVec 512 :=
  BitVec.ofNat 512 (ty + 2 ^ 8 + 3 * 2 ^ 16 + 31 * 2 ^ 32 + mode * 2 ^ 40 + sel * 2 ^ 48 + rx * 2 ^ 64 + part * 2 ^ 96 + ix * 2 ^ 104 + n * 2 ^ 112)
theorem witness_PortTraining_states :
    (∀ st ∈ List.range 6, ∀ p ∈ [0, 31], (portAt p st Port.reset).portState p = st) ∧ State.reset.lightHold = false ∧
      ({ State.reset with nextStage := 9 } : State).portsHeld = false ∧ ((portAt 0 1 Port.reset).link 15).prim < 32 ∧
      ((portAt 0 1 { Port.reset with sel := some 15, notice := true }).port 0).sel = some 15 ∧
      ((portAt 0 1 { Port.reset with sel := some 15, notice := true }).port 0).notice = true := by decide +kernel
theorem witness_PortTraining_messages :
    msgOk (tmsg 1 0 0 0xFFFFFFFF 0 0 0) 1 false = true ∧ msgOk (tmsg 3 0 0 0 0 0 0) 3 false = true ∧ msgOk (tmsg 5 0 0 0 1 0 1) 5 true = true ∧
      msgOk (tmsg 4 0 0 0 0 0 2) 4 true = true ∧ fragsWhole (fragKeep [] (tmsg 4 0 0 0 0 0 2)) 0 = none := by decide +kernel
/-- The EXCHANGE of a partner that receives on every lane, and of one that receives on none. -/
theorem witness_PortTraining_exchange :
    ∀ rx ∈ [0, 0xFFFFFFFF], let m := tmsg 2 0 0 rx 0 0 0
      let s := portAt 31 3 Port.reset
      let u := s.msgNote 31 m
      s.portState 31 = 3 ∧ msgOk m 2 false = true ∧ u.wantMap 31 true ≠ 0 ∧ (u.wantMap 31 false ≠ 0 ↔ rx ≠ 0) ∧
        msgNat m 5 1 = s.calMode.toNat ∧ u.selDisagree 31 m = false := by decide +kernel
/-- A whole key part of another owner; of this one, with the generator as the partner's point. The certificate chain's key is
Config's, so the verdicts that use it stay hypotheses (log entry 7). -/
theorem witness_PortTraining_keyx :
    let p0 : List Byte := ecBytes p384G ++ List.replicate 16 0
    let q0 : List Byte := ecBytes p384G ++ List.replicate 16 1
    let m := tmsg 4 0 0 0 1 0 1
    let s := portAt 0 4 { Port.reset with frags := [(0, 0, 1, p0)], eph := 1 }
    let fs := fragKeep (s.port 0).frags m
    s.portState 0 = 4 ∧ msgOk m 4 true = true ∧ fragsWhole fs 0 = some p0 ∧ (fragsWhole fs 1).isSome = true ∧
      ((part0Of p0).drop 97).take 16 = fitBytes 16 s.ownerHash ∧ ((part0Of q0).drop 97).take 16 ≠ fitBytes 16 s.ownerHash ∧
      (ecdh 1 ((part0Of p0).take 97)).isSome = true := by decide +kernel
theorem witness_PortTraining_epochs :
    let s := portAt 0 5 { Port.reset with rekey := true, atTx := some 9, atRx := some 10 }
    s.portState 0 = 5 ∧ (s.port 0).rekey = true ∧ (s.port 0).atTx = some 9 ∧ (s.port 0).atRx = some 10 ∧ (portAt 0 5 Port.reset).portState 0 = 5 ∧
      ((portAt 0 5 Port.reset).port 0).rekey = false := by decide +kernel

/-- A control block with the MARKER and ENC; the state before its tag has come, and with all its data blocks held. -/
theorem witness_PortTraffic_control :
    let cb : BitVec 4096 := BitVec.ofNat 4096 (0xA55AC33C0FF09669 + 2 ^ 123)
    let s := portAt 0 5 { Port.reset with cur := some cb, held := List.replicate 20 (some []) }
    cbOk cb = true ∧ cbFlag cb 3 = true ∧ ((portAt 0 5 Port.reset).port 0).cur = none ∧ s.portState 0 ≠ 0 ∧ (s.port 0).cur = some cb ∧
      (s.port 0).held.length = 20 ∧ (∀ x ∈ (s.port 0).held, x ≠ none) ∧
      ((s.port 0).authAt.filter fun a => decide (s.tick < a + 1500000)).length < 3 ∧
      ((portAt 0 5 { Port.reset with cur := some cb }).port 0).held.length < 20 := by decide +kernel
/-- The code word of zeros decodes, to no marker; one with many bytes changed does not. -/
theorem witness_PortTraffic_data :
    fecDecode (List.replicate 544 0) = some (List.replicate 512 0, []) ∧ fecDecode (List.replicate 100 1 ++ List.replicate 444 0) = none := by
  decide +kernel
/-- A control block as it is sent decodes to itself: in ALIGN without TAG and ENC. -/
theorem witness_PortTraffic_sent :
    let cb : BitVec 4096 := BitVec.ofNat 4096 0xA55AC33C0FF09669
    cbOk cb = true ∧ cbFlag cb 3 = false ∧ cbFlag cb 4 = false ∧ (portAt 0 2 Port.reset).portState 0 = 2 := by decide +kernel
theorem witness_PortTraffic_replay :
    ∀ n ∈ [8, 9], let b : TxBlock := ⟨4095, [], [], n, false, false⟩
      let s := portAt 0 5 { Port.reset with store := [{ b with acked := true }, b] }
      (s.port 0).store = [{ b with acked := true }] ++ b :: [] ∧ b.acked = false ∧ b.tries ≠ 0 ∧ s.portState 0 = 5 ∧ (s.port 0).sel = none := by
  decide +kernel
theorem witness_PortTraffic_maps :
    let s := portAt 0 5 { Port.reset with txNext := some (0xFEFEFEFE, 3), rxNext := some (0xFEFEFEFE, 3), partnerRx := 0xFFFFFFFF }
    (s.port 0).rxNext = some (0xFEFEFEFE, 3) ∧ (s.port 0).txNext = some (0xFEFEFEFE, 3) ∧
      ((s.setPort 0 { s.port 0 with txNext := none }).setMap 0 false 0xFEFEFEFE).wantMap 0 false ≠ 0 := by decide +kernel
/-- A response to this node that ends at another site than the port's; without its CRC it is malformed. -/
theorem witness_PortTraffic_packet :
    let h : Flit := BitVec.ofNat 512 (2 * 2 ^ 36)
    let hdr : Flit := BitVec.ofNat 512 (setBits h.toNat 96 32 (crc32c (flitBytes [h])).toNat)
    nbits hdr.toNat 96 32 = (crc32c (flitBytes (BitVec.ofNat 512 (setBits hdr.toNat 96 32 0) :: []))).toNat ∧
      nbits h.toNat 96 32 ≠ (crc32c (flitBytes (BitVec.ofNat 512 (setBits h.toNat 96 32 0) :: []))).toNat ∧
      nbits hdr.toNat 32 3 ≤ 4 ∧ nbits hdr.toNat 35 3 ≤ 4 ∧ nbits hdr.toNat 39 9 = 0 ∧ nbits hdr.toNat 64 32 = 0 ∧ hdr.getLsbD 31 = false ∧
      hdr.getLsbD 38 = false ∧ (State.reset.port 0).sel = none ∧ (fromPort hdr []).dnode.toNat = State.reset.ownNode ∧
      (State.reset.endOf (fromPort hdr [])).1 ≠ siteOfPort 0 := by decide +kernel
/-- On a link's path: a claim that is the link's, after a newer sequence number. -/
theorem witness_PortTraffic_link :
    let s := (((State.reset.setPort 0 { Port.reset with sel := some 15 }).setLink 15 { Link.reset with rxSeq := some 0xFFFF }).wf
      (XP_SEL_STAT 15) XP_SEL_STAT_RXCLAIM 7)
    (s.port 0).sel = some 15 ∧ (7 : BitVec 16).toNat = s.rf (XP_SEL_STAT 15) XP_SEL_STAT_RXCLAIM ∧ (s.link 15).rxPath = s.isAlt 15 0 ∧
      newer16 0 0xFFFF = true ∧ newer16 0xFFFF 0xFFFF = false := by decide +kernel

/-- Logical link 0 over ports 0 and 2, which are in given states, in HB mode or not. -/
def linked (a b : Nat) (hb : Bool) (l : Link) : State :=
  (((State.reset.wf (XP_PORT_STAT 0) XP_PORT_STAT_STATE a).wf (XP_PORT_STAT 2) XP_PORT_STAT_STATE b).setPort 0
    { Port.reset with sel := some 0, hb := hb }).setPort 2 { Port.reset with sel := some 0, hb := hb, alt := true } |>.setLink 0
      { l with prim := 0, alt := 2 }
theorem witness_LogicalLinkSwitchOver_up :
    let s := linked 5 5 true { Link.reset with up := true }
    s.pathUp 0 false = true ∧ s.pathUp 0 true = true ∧ s.pathHb 0 false = true ∧ s.activePath 0 = false ∧ (s.link 0).up = true ∧
      (s.wf (XP_SEL_STAT 0) XP_SEL_STAT_STATE 1).rf (XP_SEL_STAT 0) XP_SEL_STAT_STATE = 1 := by decide +kernel
/-- Outside HB mode the active port is lost, with and without a standby path. -/
theorem witness_LogicalLinkSwitchOver_down :
    let s := linked 1 5 false { Link.reset with up := true }
    let u := linked 1 1 false { Link.reset with up := true }
    s.pathUp 0 (s.activePath 0) = false ∧ s.pathHb 0 (s.activePath 0) = false ∧ s.pathUp 0 (!s.activePath 0) = true ∧
      u.pathUp 0 (u.activePath 0) = false ∧ u.pathUp 0 (!u.activePath 0) = false ∧
      ((State.reset.setLink 15 { Link.reset with testing := true }).link 15).testing = true := by decide +kernel
/-- Ports 0 and 1 share a site; ports 0 and 2 do not. -/
theorem witness_LogicalLinkSwitchOver_write :
    let v (a : Nat) := XP_SEL_CTL_ALTERNATE.put (XP_SEL_CTL_ENABLE.put 0 1) a
    XP_SEL_CTL_SWITCH.get (v 1) = 0 ∧ XP_SEL_CTL_ENABLE.get (v 1) = 1 ∧ XP_SEL_CTL_PRIMARY.get (v 1) / 2 = XP_SEL_CTL_ALTERNATE.get (v 1) / 2 ∧
      XP_SEL_CTL_SWITCH.get (v 2) = 0 ∧ XP_SEL_CTL_ENABLE.get (v 2) = 1 ∧ XP_SEL_CTL_PRIMARY.get (v 2) / 2 ≠ XP_SEL_CTL_ALTERNATE.get (v 2) / 2 ∧
      ∀ m ∈ List.range 16, m ≠ 0 → State.reset.rf (XP_SEL_CTL m) XP_SEL_CTL_ENABLE = 0 := by decide +kernel

end Sys2Proof.Tests
end

