-- ==== Sys2Proof/Tests/Witness3.lean ====
section
/-! SUPPORT. States and operands that meet the hypotheses of the statements about requests, bulk memory, shuttles and
collectives. -/
set_option Elab.async false
namespace Sys2Proof.Tests
open Machine

/-! ## Requests -/

/-- A request of node 5 in domain 1: class, OP, SIZE, ADDR and the rest of its TXN. -/
def reqOf (cls op size addr rest : Nat) (n : Nat) : Arrival :=
  ⟨0, 0, pkt cls (addr + op * 2 ^ 64 + size * 2 ^ 72 + 2 ^ 144 + rest) n, [], []⟩
/-- Partition 1 on pair 0 owns 1 GiB of bulk, and every stack is in service. -/
def owned (st : DState) : State :=
  withRegs { State.reset with parts := [(1, { onePair 0 st with bulkGib := 1 })] }
    ((List.range 8).map fun k => (BM_STAT k, (BM_STAT_STATE.put 0 2).toNat))
/-- Every OP on the last bytes of a pool, the widest READ on bulk, and a WRITE to an open zone; the atomics of 4 and 8 bytes. -/
theorem witness_RequestsArePerformed :
    (∀ op ∈ [1, 2, 3], Performs (owned .loaded) (reqOf 0 op 0 (poolBase 31 + 0x7FFFC0) 0 (if op = 2 then 1 else 0)) 0 op) ∧
      Performs (owned .halted) (reqOf 0 1 3 0x3FFFFF00 0 0) 0 1 ∧
      Performs (owned .empty) (reqOf 1 2 0 0 (1 * 2 ^ 160 + 2 ^ 14 * 2 ^ 160) 1) 1 2 ∧
      (∀ op ∈ [4, 5, 6, 7, 8], ∀ ty ∈ [0, 1], Performs (owned .running) (reqOf 0 op ty (poolBase 0 + 8) (7 * 2 ^ 192) 0) 0 op) := by
  unfold Performs
  decide +kernel
theorem witness_RequestsArePerformed_notify :
    notifyOf (reqOf 1 2 0 0 (1 * 2 ^ 160 + 2 ^ 14 * 2 ^ 160) 1).pk = some (1, 0) := by decide +kernel
/-- COPY to node 9. -/
theorem witness_RequestsArePerformed_copy :
    let a := reqOf 0 3 0 0 (9 * 2 ^ 50 * 2 ^ 320) 0
    Performs (owned .running) a 0 3 ∧ nodeOf a.pk.dest ≠ (owned .running).ownNode := by
  unfold Performs
  decide +kernel
/-- A request outside every region, one of a wrong domain and a misaligned one; a WRITE to a scratchpad without a zone. -/
theorem witness_RefusedRequestsChangeNothing_checks :
    ∀ a ∈ [reqOf 0 2 0 (2 ^ 48) 0 1, reqOf 0 1 0 0x40000000 0 0, reqOf 0 1 0 32 0 0, reqOf 0 4 1 0 (2 ^ 144) 0],
      a.pk.cls = 0 ∧ 1 ≤ a.pk.op ∧ a.pk.op ≤ 8 ∧ a.pk.snode.toNat ≠ (owned .running).ownNode ∧ txnReserved a.pk = false ∧
        (owned .running).fentry (filterKey a.pk) = none ∧ isCtl a.pk = false ∧
        ((owned .running).reqCheck a.pk ≠ stOK ∨ (owned .running).reqGate a.pk = .refuse) := by decide +kernel
theorem witness_RefusedRequestsChangeNothing_zone :
    let a := reqOf 0 2 0 (2 ^ 48) 0 1
    (owned .running).reqCheck a.pk = stOK ∧ (owned .running).endFull a.pk = false ∧ (owned .running).reqGate a.pk = .refuse := by
  decide +kernel
/-- A zone that is closed makes a WRITE wait; in a full write buffer a bulk WRITE stays at its endpoint. -/
theorem witness_RefusedRequestsChangeNothing_waits :
    let a := reqOf 0 2 0 (2 ^ 48) 0 1
    let z := ((owned .running).rset (CD_ZONE 0 7) (CD_ZONE_BANKS.put (CD_ZONE_ROWS.put 0 1) 255))
    let b := reqOf 0 2 0 0 0 1
    let f : State := { owned .running with writeBuf := (List.range 256).map fun i => (0, 1000 + i) }
    z.reqCheck a.pk = stOK ∧ z.endFull a.pk = false ∧ z.reqGate a.pk = .wait 0 ∧ txnReserved b.pk = false ∧ f.endFull b.pk = true := by
  decide +kernel
/-- A filter entry that has performed SEQ 300: SEQ 300 again is a duplicate, SEQ 44 is stale, and so is an older SEPOCH. -/
theorem witness_RefusedRequestsChangeNothing_filter :
    let e : FEntry := ⟨1, 300, [(300, ⟨some stOK, 0, none⟩)]⟩
    let a (q ep : Nat) := reqOf 0 2 0 0 (q * 2 ^ 96 + ep * 2 ^ 128) 1
    let s : State := { owned .running with filter := [(filterKey (a 0 0).pk, some e)], filterHot := [filterKey (a 0 0).pk] }
    txnReserved (a 300 1).pk = false ∧ s.fentry (filterKey (a 300 1).pk) = some e ∧ s.filterHot.contains (filterKey (a 300 1).pk) = true ∧
      s.endFull (a 300 1).pk = false ∧ (filterDecide (some e) (a 300 1).pk.sepoch (a 300 1).pk.seqNo).1 = .dup ⟨some stOK, 0, none⟩ ∧
      (filterDecide (some e) (a 44 1).pk.sepoch (a 44 1).pk.seqNo).1 = .stale ∧
      (filterDecide (some e) (a 300 0).pk.sepoch (a 300 0).pk.seqNo).1 = .stale ∧ s.endFull (a 44 1).pk = false ∧
      s.endFull (a 300 0).pk = false ∧ { s with filterHot := [] }.filterHot.contains (filterKey (a 300 1).pk) = false := by
  decide +kernel
/-- A duplicate atomic whose result is kept. -/
theorem witness_RefusedRequestsChangeNothing_atomic :
    let a := reqOf 0 4 1 0 (300 * 2 ^ 96) 0
    let v : AtomRes := ⟨filterKey a.pk, 300, 9, stOK, 0⟩
    let s : State := { owned .running with filter := [(filterKey a.pk, some ⟨0, 300, [(300, ⟨some stOK, 0, none⟩)]⟩)],
                                           filterHot := [filterKey a.pk], atomRes := [v] }
    txnReserved a.pk = false ∧ s.endFull a.pk = false ∧
      (filterDecide (s.fentry (filterKey a.pk)) a.pk.sepoch a.pk.seqNo).1 = .dup ⟨some stOK, 0, none⟩ ∧
      s.atomRes.find? (fun y => y.key = filterKey a.pk && y.seq = a.pk.seqNo) = some v := by decide +kernel
theorem witness_RefusedRequestsChangeNothing_reserved : txnReserved (reqOf 0 2 0 0 (2 ^ 15 * 2 ^ 160) 1).pk = true := by decide +kernel

/-! ## Tags, the filter's fills, order, arbiters -/

/-- A descriptor of core 2047's channel 3 in ring slot 0 with a given raw value, and its tag 31. -/
def tagged (raw : BitVec 512) (x : Tag) : State :=
  { State.reset with
    tags := [(2047 * 32 + 31, some x)]
    shch := [(2047 * 4 + 3, { ShCh.none with inflight := [{ newDesc 0 raw false with tag := some 31 }] })] }
def tag0 : Tag := ⟨3, 0, 5, 77, 0, pkt 0 0 0, none, false, false, false, []⟩
/-- The response to SEQ 77 for tag 31 of core 2047, with a data flit. -/
def rsp77 : Pkt := pkt 2 (2047 + 31 * 2048 + 77 * 2 ^ 32) 1
/-- A READ with its LOCAL word: the first bytes of the last pool of the pair, or of the last scratchpad. -/
def readRaw0 (lcl : Nat) : BitVec 512 := BitVec.ofNat 512 (1 + lcl * 2 ^ 32)
theorem witness_RequesterTagsAndArbiters_rsp :
    rsp77.rTag % 2048 = 2047 ∧ rsp77.rTag / 2048 = 31 ∧ rsp77.cls = 2 ∧ rsp77.t 3 1 / 4 = 0 ∧ rsp77.t 0x10 32 = 0 ∧
      ¬ (rsp77.dsite = 8 ∧ rsp77.dep = 1) ∧ State.reset.tag? (2047 * 32 + 31) = none ∧ rsp77.rSeq = tag0.seq := by decide +kernel
theorem witness_RequesterTagsAndArbiters_read :
    (newDesc 0 2 false).op ≠ 1 ∧ rsp77.rStatus = stOK ∧ (∀ l ∈ [125, 1020], (newDesc 0 (readRaw0 l) false).op = 1 ∧
        (tagged (readRaw0 l) tag0).tag? (2047 * 32 + 31) = some tag0 ∧
        (tagged (readRaw0 l) tag0).desc? 2047 3 0 = some { newDesc 0 (readRaw0 l) false with tag := some 31 }) ∧
      localOf 2047 (newDesc 0 (readRaw0 125) false).lcl = some (.pool 255 0) ∧
      localOf 2047 (newDesc 0 (readRaw0 1020) false).lcl = some (.sp 2047 0) := by decide +kernel
theorem witness_RequesterTagsAndArbiters_lands :
    State.reset.portCan 255 0 64 true = true ∧
      (let s := (State.reset.rset (CD_ZONE 2047 7) (CD_ZONE_BANKS.put (CD_ZONE_ROWS.put 0 1) 255)).wf (CD_SEQ_STATUS 2047) CD_SEQ_STATUS_ZOPEN 128
       s.accessZone 2047 0 64 = some 7 ∧ (s.zopen 2047).getLsbD 7 = true) := by decide +kernel
theorem witness_RequesterTagsAndArbiters_tag :
    tag0.quar = false ∧ tag0.unsent = false ∧ tag0.reissued = false ∧ tag0.site = none ∧ tag0.move = false ∧ tag0.node < 2 ^ 14 ∧
      (tagged 2 { tag0 with quar := true }).tag? (2047 * 32 + 31) = some { tag0 with quar := true } := by decide +kernel
/-- The Heddle's own request to node 5, and the reply to it at MS0 EP1. -/
theorem witness_RequesterTagsAndArbiters_heddle :
    let q : HdReq := ⟨5, 77, pkt 0 0 0, false, false⟩
    let s : State := { State.reset with hdReqs := [q] }
    let pk : Pkt := { rsp77 with hdr := rsp77.hdr ||| BitVec.ofNat 512 (8 * 2 ^ 32 + 2 ^ 37) }
    s.hdFind (5 : BitVec 14).toNat (77 : BitVec 32).toNat = some q ∧ q.quar = false ∧ q.reissued = false ∧ pk.dsite = 8 ∧ pk.dep = 1 ∧
      pk.cls = 2 ∧ s.hdReq? pk = some q := by decide +kernel
theorem witness_RequesterTagsAndArbiters_order :
    let s : State := { State.reset with filter := [(16383 * 2 + 1, some ⟨0, 0, []⟩)], orderHeld := [(128, pkt 0 0 0)] }
    let a := reqOf 0 1 0 0 0 0
    let v : State := { State.reset with localHeld := [a] }
    s.fentry ((16383 : BitVec 14).toNat * 2 + true.toNat) ≠ none ∧ s.fentry 0 = none ∧ s.orderHeld = [(128, pkt 0 0 0)] ∧ s.orderHeld.Nodup ∧
      (7 : BitVec 14).toNat ≠ s.ownNode ∧ chanKey (pkt 0 0 0).dnode.toNat (pkt 0 0 0).cls = chanKey (7 : BitVec 14).toNat false.toNat ∧
      s.mustWait (chanKey (7 : BitVec 14).toNat false.toNat) (pkt 0 0 0).seqNo = false ∧ v.localHeld = [a] ∧ (0 : BitVec 14).toNat = v.ownNode ∧
      v.mustWait (localKey a.site 0) a.pk.seqNo = false := by decide +kernel
/-- Requesters 0 and 3 of an express input lane, the first with a packet; 3 with a guarantee. -/
theorem witness_RequesterTagsAndArbiters_arbiters :
    let k := arbKey (.lane 255 3)
    let l : EdgeLoad := .packet (pkt 2 0 0)
    let a : Arb := { Arb.none with req := [0, 3] }
    let s : State := { State.reset.setArb k a with edge := [(k, [(0, l)])] }
    (s.arb k).req = [0, 3] ∧ (s.arb k).guar = [] ∧ (∀ y ∈ (s.arb k).req, 0 ≤ y) ∧ s.edgeAt k = [(0, l)] ∧ s.edgeNext k 0 = some l ∧
      l.flits ≤ 64 ∧ (s.arb k).req.Nodup ∧ s.edgeNext k 3 = none ∧ (State.reset.arb k).req = [] ∧
      { a with guar := [(3, 0)] }.guar.find? (fun g => a.req.contains g.1) = some (3, 0) := by decide +kernel
/-- A loser of tick 0 withdraws for 2^3 ticks, one of eight losses for 256; the first of them ends at tick 9. -/
theorem witness_RequesterTagsAndArbiters_backoff :
    let k := arbKey (.egress 0 15 true)
    let s (n t : Nat) : State := { State.reset.setArb k { Arb.none with back := [(3, 1)], losses := [(3, n)] } with tick := t }
    Tab.get 0 ((s 3 9).arb k).back 3 = 1 ∧ 1 + min (2 ^ 3) 512 ≤ (s 3 9).tick ∧ (s 3 8).tick < 1 + min (2 ^ 3) 512 ∧
      Tab.get 0 ((s 8 257).arb k).losses 3 = 8 ∧ 1 + min (2 ^ 8) 512 ≤ (s 8 257).tick ∧ (1 : Nat) ≠ 0 := by decide +kernel

/-! ## Bulk memory -/

/-- The last line of the partition memory, and an unused reserved line; one wrong symbol corrects, many do not, and a slot
of a die that is erased is reconstructed. -/
theorem witness_BulkLinesAndBackgroundWork_read :
    lineOk 0 = true ∧ lineOk (reservedLine - 1) = true ∧ lineOk (reservedLine + 1081344) = false ∧ State.reset.writeBuf.contains (7, 0) = false ∧
      (decodeLine (errWords [⟨3, 71, 0xFFFF⟩]) (errWords []) false none 0).code = 2 ∧
      (decodeLine (errWords []) (errWords []) true (some 8) 0).code = 1 ∧
      (let e : List SymErr := (List.finRange 9).map fun i => ⟨0, ⟨8 * i.val, by omega⟩, 1⟩
       (decodeLine (errWords e) (errWords e) false none 0).code = 5) := by decide +kernel
theorem witness_BulkLinesAndBackgroundWork_write :
    let b (n : Nat) : State := { State.reset with writeBuf := (List.range n).map fun i => (7, i) }
    (1 : BitVec 8) ≠ 0 ∧ (b 255).bufCount 7 < 256 ∧ 256 ≤ (b 256).bufCount 7 := by decide +kernel
/-- Nothing waits for the drained line; a request that waits for another stack. -/
theorem witness_BulkLinesAndBackgroundWork_drain :
    (State.reset.ctl 7).wait = [] ∧ ∀ e ∈ [LandEnt.req (reqOf 0 2 0 0 0 1)], e.stack ≠ some (7 : StackIx).val := by decide +kernel
/-- The next line after line 0; the test lines are passed over; a pass ends with the last line. -/
theorem witness_BulkLinesAndBackgroundWork_scrub :
    Tab.get 0 State.reset.scrubLine 7 = 0 ∧ isTestLine 1 = false ∧ 0 + 1 < stackLines ∧
      isTestLine (reservedLine + 1081343 + 1) = true ∧ stackLines ≤ stackLines - 1 + 1 ∧ isTestLine stackLines = false := by decide +kernel
theorem witness_BulkLinesAndBackgroundWork_remap :
    let s : State := { State.reset with remapQual := [(7, 63, 0xFFFFF)] }
    s.remapQual = [(7, (63 : BitVec 6).toNat, (0xFFFFF : BitVec 20).toNat)] ∧ s.badSpares = [] ∧
      ∀ r ∈ List.range 16, s.rb (BM_REMAP 7 r) BM_REMAP_VALID = false := by decide +kernel
theorem witness_BulkLinesAndBackgroundWork_selftest :
    let s := State.reset.setSelf 7 { SelfRun.none with on := true }
    (s.self 7).on = true ∧ (7, (63 : BitVec 6).toNat, (3 : BitVec 2).toNat) ∉ s.badSpares := by decide +kernel
/-- Stage 4 with its fill under way; a partition whose region of 448 GiB is being filled. -/
theorem witness_BulkLinesAndBackgroundWork_fills :
    let s : State := { State.reset.wf (BM_STAT 7) BM_STAT_STATE 1 with nextStage := 4, inReset := false }
    let p : Part := { onePair 0 .empty with bulkGib := 448 }
    let e : MbEnt := ⟨0, 9, mbHdr 0x10 1 8 0, [], false, 0⟩
    s.stageOn 4 = true ∧ (∃ k ∈ List.range 8, s.rf (BM_STAT k) BM_STAT_STATE = 1) ∧
      ({ State.reset with late := [(1, e, some p)] } : State).late = [(1, e, some p)] ∧ p.bulkBase + p.bulkGib * 2 ^ 30 ≤ 2 ^ 44 := by
  decide +kernel

/-! ## Standing circuits and the checker -/

/-- RD and WR of a line the partition owns, and of one it does not; one behind an RD of the same pair; a circuit that is down. -/
theorem witness_StandingCircuitUnits_requests :
    let rd := mkUnit 1 1 0x81 0 0 5
    let wr := mkUnit 2 1 0xFF 0 0 5
    let s := owned .running
    let w := s.setCtl 7 { s.ctl 7 with wait := [⟨0, rd, [], cleanRead⟩] }
    s.circDown 0 7 = false ∧ (s.end_ false (circKey 0 7)).drop = false ∧ uBad rd = false ∧ uNvalid rd = false ∧ uBad wr = false ∧
      uSeq rd = (s.end_ false (circKey 0 7)).next ∧ uType rd = 1 ∧ s.unitCheck 7 rd = stOK ∧ uType wr = 2 ∧ s.unitCheck 7 wr = stOK ∧
      s.bufCount 7 < 256 ∧ uMask wr = BitVec.allOnes 8 ∧ s.unitCheck 7 (mkUnit 1 1 1 0 (reservedLine - 1) 0) ≠ stOK ∧ (s.ctl 7).wait = [] ∧
      (∃ y ∈ (w.ctl 7).wait, y.pair = (0 : PairIx).val) ∧ (s.wf (BM_CIRC_STAT 7) BM_CIRC_STAT_DOWN 1).circDown 0 7 = true := by decide +kernel
/-- A MOVE of core 2047 by tag 31: of 1 line, and of 2 lines from bulk to a pool. -/
theorem witness_StandingCircuitUnits_answers :
    ∀ n ∈ [1, 2], let raw : BitVec 512 := BitVec.ofNat 512 (0x12 + 2 ^ 32 + n * 2 ^ 384)
      let s := tagged raw { tag0 with move := true }
      let u (ty : Nat) := mkUnit ty 1 0xFF 0 0 (2047 + 31 * 2048)
      s.circDown 7 0 = false ∧ (s.end_ true (circKey 7 0)).drop = false ∧ uBad (u 4) = false ∧ uNvalid (u 4) = false ∧
        uSeq (u 4) = (s.end_ true (circKey 7 0)).next ∧ s.unitOwner 0 (u 4) = some (2047, 3, 0, 0) ∧ s.unitOwner 0 (u 3) = some (2047, 3, 0, 0) ∧
        s.desc? 2047 3 0 = some { newDesc 0 raw false with tag := some 31 } ∧ (newDesc 0 raw false).units = [] ∧ (newDesc 0 raw false).len = n ∧
        uType (u 4) = 4 ∧ uType (u 3) = 3 ∧ uStatus (u 3) = stOK ∧ localOf 2047 (newDesc 0 raw false).lcl = some (.pool 224 0) := by
  decide +kernel
theorem witness_StandingCircuitUnits_acks :
    let u : StandUnit := mkUnit 5 0 0 0 0 0 ||| 2 ^ 48
    uBad u = false ∧ uType u = 5 ∧ uNvalid u = false ∧ uAvalid u = true ∧ State.reset.circDown 7 7 = false ∧
      (∀ b, (State.reset.end_ b (circKey 7 7)).drop = false) ∧
      ∀ n ∈ [3, 4], (let x : UnitSent := ⟨65535, 0, [], n⟩
        let s := State.reset.setEnd true (circKey 7 7) { CircEnd.reset with sent := [x], drop := true }
        (s.end_ true (circKey 7 7)).sent = [x] ∧ (s.end_ true (circKey 7 7)).drop = true) := by decide +kernel
theorem witness_CheckerOperations :
    (State.reset.wf (BM_CHK_RES 7) BM_CHK_RES_BUSY 1).rb (BM_CHK_RES 7) BM_CHK_RES_BUSY = true ∧ State.reset.rb (BM_CHK_RES 7) BM_CHK_RES_BUSY = false ∧
      (State.reset.testLine 7 63).length = 576 ∧ clean4 (imageWords (State.reset.testLine 7 63)) = true := by decide +kernel

/-! ## Shuttles -/

/-- A ring of 4,096 slots at the end of the pool, and a SIZE of 9. -/
theorem witness_ShuttleRingsAndFrees_ring :
    let v := SH_RING_BASE.put (SH_RING_SIZE.put 0 8) 61440
    SH_RING_SIZE.get v ≤ 8 ∧ SH_RING_BASE.get v % (16 * 2 ^ SH_RING_SIZE.get v) = 0 ∧
      SH_RING_BASE.get v + 16 * 2 ^ SH_RING_SIZE.get v ≤ 65536 ∧ State.reset.chState 0 0 = 0 ∧
      (∀ x ∈ coresOf (gclusterOf 0), ∀ i ∈ List.range 4, ¬ (x = 0 ∧ i = 0) → State.reset.ringSpan x i = none) ∧
      8 < SH_RING_SIZE.get (SH_RING_SIZE.put 0 9) := by decide +kernel
/-- Channel 0 of core 0: STATE, INUSE, READY; its ring has 16 slots and partition 1's first context as owner. -/
def chan0 (st inuse ready : Nat) : State :=
  ((((inPart .running).wf (SH_CH_STAT 0 0) SH_CH_STAT_STATE st).wf (SH_CH_STAT 0 0) SH_CH_STAT_INUSE inuse).wf (SH_CH_STAT 0 0) SH_CH_STAT_READY
    ready).wf (SH_RING 0 0) SH_RING_OWNER 0x1000
/-- A kick beyond the free slots; a free of a completed slot by its owner, and by another context. -/
theorem witness_ShuttleRingsAndFrees_kick :
    let s := (chan0 1 16 15).putBytes (State.slotByte (chan0 1 16 15) 0 0 0 + 68) [2]
    let a := SH_CH_STAT 0 0
    s.rf a SH_CH_STAT_READY ≤ s.rf a SH_CH_STAT_INUSE ∧ s.rf a SH_CH_STAT_INUSE ≤ s.ringSlots 0 0 ∧ s.ringSlots 0 0 ≤ 4096 ∧
      s.ringSlots 0 0 - s.rf a SH_CH_STAT_INUSE < (1 : BitVec 13).toNat ∧ (s.ctx 1).toNat = s.rf (SH_RING 0 0) SH_RING_OWNER ∧
      (s.ctx 2).toNat ≠ s.rf (SH_RING 0 0) SH_RING_OWNER ∧ s.rf a SH_CH_STAT_FREEIX = 0 ∧ s.rf a SH_CH_STAT_INUSE ≠ 0 ∧
      (s.byte (s.slotByte 0 0 0 + 64 + 4)).getLsbD 1 = true ∧ leNat (s.bytes (s.slotByte 0 0 0 + 64 + 2) 2) = (0 : BitVec 12).toNat := by
  decide +kernel
theorem witness_ShuttleRingsAndFrees_channel :
    (∀ st ∈ [1, 2, 3, 5], (chan0 st 0 0).chState 0 0 = st) ∧ ((chan0 2 0 0).shch_ 0 0).inflight = [] ∧
      ((chan0 4 0 0).wf (SH_BUS 0) SH_BUS_BUSERR 1).rb (SH_BUS 0) SH_BUS_BUSERR = true := by decide +kernel
/-- A channel with a READY slot that holds a NOP of its owner; a ring slot of another owner. -/
theorem witness_ShuttleDescriptors_start :
    let s := chan0 1 16 16
    let b := s.slotByte 0 0 0
    let u := (s.putBytes b [0x15]).putBytes (b + 64) [0, 0x10, 0, 0, 1]
    (s.shch_ 0 0).inflight = [] ∧ s.chReady 0 0 = true ∧ u.chReady 0 0 = true ∧ s.rf (SH_CH_STAT 0 0) SH_CH_STAT_HEAD = 0 ∧ u.ues (b / 8) 16 = [] ∧
      leNat (u.bytes b 64) = 0x15 ∧ leNat (u.bytes (b + 64) 2) = u.rf (SH_RING 0 0) SH_RING_OWNER ∧
      leNat (u.bytes (b + 66) 2) = u.rf (SH_RING 0 0) SH_RING_PGEN ∧ (u.byte (b + 68)).toNat % 8 = 1 ∧
      leNat (s.bytes (b + 64) 2) ≠ s.rf (SH_RING 0 0) SH_RING_OWNER ∧ s.ues (b / 8) 16 = [] := by decide +kernel
/-- A MOVE of two lines from bulk to a pool; a landing buffer free in an open zone, and one held by the ring's owner. -/
theorem witness_ShuttleDescriptors_units :
    let s := (chan0 1 16 16).wf (SH_LB 0 15) SH_LB_LINES 0
    let z := s.rset (CD_ZONE 0 7) (CD_ZONE_BANKS.put (CD_ZONE_ROWS.put 0 1) 255)
    let held := (s.wf (SH_LB 0 15) SH_LB_HELD 1).wf (SH_LB 0 15) SH_LB_OWNER 0x1000
    let m : MoveDesc := ⟨1, 512, 2, false⟩
    let d := newDesc 0 (BitVec.ofNat 512 (0x12 + m.toBulk.toNat * 2 ^ 22 + m.lcl.toNat * 2 ^ 32 + m.addr.toNat * 2 ^ 64 + m.len.toNat * 2 ^ 384)) false
    descBad d = false ∧ s.localCheck 0 d = stOK ∧ s.freeTag 0 = some 0 ∧ s.chReady 0 0 = true ∧ s.rf (SH_LB 0 15) SH_LB_HELD = 0 ∧
      (z.accessZone 0 (128 * z.rf (SH_LB 0 15) SH_LB_FIRST) (128 * (z.rf (SH_LB 0 15) SH_LB_LINES + 1))).isSome = true ∧ z.chReady 0 0 = true ∧
      held.rf (SH_LB 0 15) SH_LB_HELD = 1 ∧ held.rf (SH_LB 0 15) SH_LB_GEN = (0 : BitVec 12).toNat ∧
      held.rf (SH_LB 0 15) SH_LB_OWNER = held.rf (SH_RING 0 0) SH_RING_OWNER ∧ held.chReady 0 0 = true := by decide +kernel
/-- A request packet on its turn, and a completed descriptor of the last slot number. -/
theorem witness_ShuttleDescriptors_turn :
    let pk := mkPkt 0 0 [] 0 0
    let d : Desc := { newDesc 4095 2 false with packet := some pk, tag := some 31 }
    let c : Desc := { newDesc 4095 2 false with status := some 255 }
    let s : State := { State.reset with tags := [(31, some { tag0 with seq := 2 ^ 32 })] }
    d.status = none ∧ d.coll = false ∧ d.packet = some pk ∧ d.tag = some 31 ∧ s.turnOpen 0 0 = true ∧ s.rrcHit 0 pk = none ∧
      s.tag? 31 = some { tag0 with seq := 2 ^ 32 } ∧ s.issueCheck pk = stOK ∧ (s.shch_ 0 0).inflight = [] ∧
      c.status = some 255 ∧ c.slot < 4096 ∧ { c with back := [1] }.back ≠ [] ∧ c.back = [] := by decide +kernel
/-- The bank of a slot's second half: free at reset, taken once the port has used it in this beat. -/
theorem witness_ShuttleDescriptors_back :
    State.reset.backCan 0 0 0 = true ∧ (State.reset.portTake 0 [0]).backCan 0 0 0 = false ∧
      State.reset.portCan (gclusterOf 0) (128 * State.reset.slotLine 0 0 0) 128 false = true ∧
      (State.reset.portTake 0 [0]).portCan (gclusterOf 0) (128 * (State.reset.portTake 0 [0]).slotLine 0 0 0) 128 false = false := by decide +kernel

/-! ## Collectives -/

/-- A collective descriptor: its operation and path in the low 16 bits, one chunk, WINDOW 1, and further fields. -/
def cdesc (opPath rest : Nat) : BitVec 512 := BitVec.ofNat 512 (opPath + 2 ^ 128 + 2 ^ 160 + rest)
/-- LOCAL is pool 0 of the pair from its first byte; the list of one entry, all 0, at pool 1. -/
def poolLocal : Nat := 2 ^ 96
def listAt : Nat := 5
def cInst (raw : BitVec 512) : ColDesc := ⟨0, 0, raw⟩
theorem witness_CollectiveDescriptors_accept :
    let s := chan0 1 16 16
    s.chReady 0 0 = true ∧ (s.pair 0).overlaps = [] ∧ (s.shch_ 0 0).inflight = [] ∧
      (List.range 16).find? (fun j => (s.stream? 0 j).isNone) = some 0 ∧
      (let r := cdesc 0x201 poolLocal
       s.colCheck 0 r = stOK ∧ (s.readList 0 r).1 = some [] ∧ colOp r = 1 ∧ cPath r = 2) ∧
      (let r := cdesc 0x202 (poolLocal + listAt * 2 ^ 192 + 2 ^ 168)
       s.colCheck 0 r = stOK ∧ (s.readList 0 r).1 = some [0] ∧ colOp r = 2 ∧ cPath r = 2 ∧ [0].any (entryBad r) = false) ∧
      (let r := cdesc 0x003 (16 * 2 ^ 216 + listAt * 2 ^ 224 + 2 ^ 168)
       s.colCheck 0 r = stOK ∧ (s.readList 0 r).1 = some [0] ∧ colOp r = 3 ∧ [0].any (entryBad r) = false ∧
         (∃ j ∈ List.range 64, Tab.get none s.combs (cXsite r * 64 + j) = none) ∧ s.listCan 0 r = true) ∧
      (let r := cdesc 0x001 (poolLocal + 5 * 2 ^ 192)
       s.colCheck 0 r = stOK ∧ colOp r = 1 ∧ cPath r = 0 ∧ cChunks r = 1 ∧ cFlag r 3 = false ∧ cFlag r 0 = false ∧ (s.readList 0 r).1 = some [] ∧
         cSource 0 r = some (.pool 0 0) ∧ cDest 0 r = some (.pool 1 0) ∧ s.ues (poolBase 0 / 8) 32 = [] ∧ s.portCan 0 0 256 false = true ∧
         (s.portUse 0 0 256).portCan 1 0 256 true = true) ∧
      s.colCheck 0 (cdesc 0x201 (2 ^ 20)) = stOpInvalid := by decide +kernel
/-- A stream of partition 1 with one input, chunk 0 not yet delivered. -/
def strm (raw : BitVec 512) : Stream :=
  ⟨raw, 0, 0, 0, 1, 0x1000, [(5, 7)], 0, 1, 0, [], [], [], [], [], [], false, none, 0, 0, 0, [], [], []⟩
def withStream (x : Stream) : State := { inPart .running with streams := [(0, some x)] }
theorem witness_CollectiveDescriptors_end :
    let x := strm (cdesc 0x202 poolLocal)
    let y := { x with status := some stOK }
    let c : Comb := ⟨0, 0, x.raw, 1, [], [], [], [], 0, 1⟩
    let s : State := { withStream { x with raw := cdesc 3 0 } with combs := [(31 * 64 + 63, some c)] }
    ((withStream x).pair 0).overlaps = [] ∧ (withStream x).stream? 0 0 = some x ∧ x.status = none ∧ x.fill = [] ∧ { x with fill := [0] }.fill ≠ [] ∧ colOp x.raw = 2 ∧
      (withStream y).stream? 0 0 = some y ∧ Tab.get none s.combs (31 * 64 + 63) = some c ∧
      s.stream? c.pair c.ix = some { x with raw := cdesc 3 0 } ∧ c.pair < 8 := by decide +kernel
/-- A COL packet from node 5, site 7, of a TYPE for chunk `v0`, VAL1 and CFLAGS given. -/
def colp (ty fl v0 v1 : Nat) : Pkt := pkt 3 (ty + fl * 2 ^ 8 + 2 ^ 48 + v0 * 2 ^ 64 + v1 * 2 ^ 96 + 7 * 2 ^ 144) 4
theorem witness_CollectiveTraffic_data :
    let x := strm (cdesc 0x202 poolLocal)
    let pk := colp 1 0 0 0
    pk.cls = 3 ∧ kBad pk = false ∧ kDomain pk = (withStream x).domain ((withStream x).partOfPair 0) ∧ kType pk = 1 ∧ kFlags pk / 2 % 2 = 0 ∧
      (withStream x).colRecv 0 pk = some (0, x) ∧ indexIn x.inputs pk.snode.toNat (kOsite pk) = some 0 ∧ x.wants (kVal0 pk) 0 = true ∧
      kVal0 pk < x.upto ∧ cDest 0 x.raw = some (.pool 0 0) ∧ (inPart .running).colRecv 0 pk = none := by decide +kernel
/-- GRANTs of one chunk: the last of one chunk, and one that raises UPTO. -/
theorem witness_CollectiveTraffic_grant :
    let x := strm (cdesc 0x201 (poolLocal + 5 * 2 ^ 192 + 7 * 2 ^ 208))
    ∀ n ∈ [0, 1], let pk := colp 2 0 n 1
      kType pk = 2 ∧ kBad pk = false ∧ (kVal0 pk = cChunks x.raw ↔ n = 1) ∧
        ((withStream x).streamsOf 0).find? (fun t => colOp t.2.raw == 1 && cPath t.2.raw == 2 && kFor pk t.2.raw && t.2.status.isNone &&
          cDnode t.2.raw == pk.snode.toNat && cCsite t.2.raw == kOsite pk) = some (0, x) := by decide +kernel
/-- A multicast of one chunk to one target, sent and answered; its retry after a REJ. -/
theorem witness_CollectiveTraffic_multicast :
    let x := { strm (cdesc 0x301 (poolLocal + 16 * 2 ^ 224 + 2 ^ 168 + 5 * 2 ^ 192)) with next := 1 }
    let y := { x with rej := [(0, 1)] }
    let s := withStream x
    kType (colp 3 2 0 0) = 3 ∧ kBad (colp 3 2 0 0) = false ∧ s.mcStream 0 (colp 3 2 0 0) = some (0, x, 0) ∧ colOp x.raw = 1 ∧ cPath x.raw = 3 ∧
      cChunks x.raw = 1 ∧ x.low = 0 ∧ s.deadMask x = 0 ∧ kVal0 (colp 3 2 0 0) = 0 ∧ Tab.get 0 x.got 0 ≠ x.full ∧
      Tab.get 0 x.got 0 ||| 2 ^ 0 = x.full ∧ kType (colp 4 2 0 0) = 4 ∧ s.mcStream 0 (colp 4 2 0 0) = some (0, x, 0) ∧ x.has 0 = false ∧
      (withStream y).stream? 0 0 = some y ∧ (1 &&& y.full) ≠ 0 ∧ cSource 0 y.raw = some (.pool 0 0) ∧ y.got = [] ∧
      (withStream y).portCan 0 0 256 false = true ∧
      (withStream y).ues (poolBase 0 / 8) 32 = [] := by decide +kernel
/-- Frames of 320 and of 256 bytes with the header of one segment of chunk 0; a circuit stream on phase waveguide 0. -/
def segHead (w : Nat) : List Byte := leBytes 64 (2 ^ 64) ++ List.replicate (w - 64) 7
def circRx (fs : List (Option (List Byte))) : State :=
  { withStream (strm (cdesc 0x102 (poolLocal + 2 ^ 80))) with
    regs := (State.reset.wf (LM_WEFT_GSTAT 0) LM_WEFT_GSTAT_CUR 1).regs, slotRecs := [(1, 0x85)], weftIn := [(8, fs)] }
theorem witness_CollectiveTraffic_circuit :
    ∀ w ∈ [320, 256], let v := leNat ((segHead w).take 64)
      let s := circRx [some (segHead w)]
      let x := strm (cdesc 0x102 (poolLocal + 2 ^ 80))
      Tab.get [] s.weftIn (0 * 16 + 8 + 0) = [some (segHead w)] ∧ segHead w ≠ [] ∧ nbits v 64 16 = 1 ∧
        segLen 1 (segHead w).length = (if w = 320 then 1 else 2) ∧ s.circStream 0 2 0 (nbits v 0 16) (nbits v 16 16) = some (0, x) ∧
        s.stream? 0 0 = some x ∧ nbits v 80 8 / 2 = 0 ∧ v / 2 ^ 88 = 0 := by decide +kernel
theorem witness_CollectiveTraffic_chunk :
    let x := strm (cdesc 0x102 (poolLocal + 2 ^ 80))
    segChunk [some (segHead 320)] 320 0 = some (List.replicate 256 7) ∧ x.wants 0 0 = true ∧ cDest 0 x.raw = some (.pool 0 0) ∧
      (circRx []).portCan 0 0 256 true = true ∧ segChunk [some (segHead 256), none] 256 0 = none ∧ (circRx []).rxSource 0 0 = some 5 ∧
      (State.reset.pair 0).overlaps = [] := by decide +kernel
/-- A request to send chunk 0 again to a sender on waveguide 0 that has sent it 3 or 4 times. -/
theorem witness_CollectiveTraffic_resend :
    ∀ n ∈ [3, 4], let y := { strm (cdesc 0x101 (poolLocal + 2 ^ 80)) with next := 1, tries := [(0, n)] }
      let s : State := { withStream y with resendOut := [(0, 0, 0, [0])] }
      s.resendOut.find? (fun e => e.1 = 16 * (0 : PairIx).val + (0 : Fin 8).val) = some (0, 0, 0, [0]) ∧ s.circStream 0 1 0 0 0 = some (0, y) ∧
        s.stream? 0 0 = some y ∧ (∀ c ∈ [0], c < y.next) ∧ Tab.get 0 y.tries 0 = n := by decide +kernel
theorem witness_CollectiveTraffic_loom :
    let bs : List Byte := List.replicate 256 9
    let x := { strm (cdesc 0x202 (2 * 2 ^ 96)) with pend := [(0, 0, bs)] }
    (withStream x).stream? 0 0 = some x ∧ x.pend.find? (fun y => y.1 = 0) = some (0, 0, bs) ∧ bs.length = 256 ∧ cFlag x.raw 0 = false ∧
      colOp x.raw = 2 ∧ cPath x.raw = 2 ∧ x.status = none ∧
      cDest 0 x.raw = some (.slot 0) ∧ (withStream x).loomCan 0 0 = true ∧ ((withStream x).loomTake 0 0).loomCan 0 0 = false := by
  decide +kernel
/-- A circuit descriptor waits for slot 15 in a partition of one pair, and in one of two. -/
def circWait (n : Nat) : State :=
  { State.reset.wf (LM_COL_ENG 0) LM_COL_ENG_RSLOT 15 with
    parts := [(1, { onePair 0 .running with pairs := n })], colWait := [(0, [⟨cdesc 0x101 (15 * 2 ^ 80), 0, 3⟩])] }
theorem witness_CircuitSlotAgreement_ready :
    ∀ n ∈ [1, 2], let s := circWait n
      s.part? (s.partOfPair 0) = some { onePair 0 .running with pairs := n } ∧ Tab.get [] s.colWait 0 ≠ [] ∧
        (∀ w ∈ Tab.get [] s.colWait 0, cSlot w.raw = 15) ∧ s.streamsOf 0 = [] ∧
        s.rb (LM_COL_ENG 0) LM_COL_ENG_RVALID = false ∧ s.rb (LM_COL_ENG 1) LM_COL_ENG_RVALID = false := by decide +kernel
/-- The switch to slot 15 that the engines asked for has ended well (1) or failed. -/
theorem witness_CircuitSlotAgreement_outcome :
    ∀ o ∈ [1, 2], let s : State := { circWait 1 with switchOut := [(1, 15, false, o)] }
      s.rf (LM_COL_ENG 0) LM_COL_ENG_RSLOT = 15 ∧ Tab.get [] s.colWait 0 = [⟨cdesc 0x101 (15 * 2 ^ 80), 0, 3⟩] ∧
        s.switchOut.find? (fun e => e.1 = (1 : PartNo).val && e.2.1 = (15 : BitVec 4).toNat && !e.2.2.1) = some (1, 15, false, o) ∧
        (s.shch_ 0 3).inflight = [] ∧ State.reset.switchOut = [] := by decide +kernel
/-- The leader's READY waits for the second pair, whose READY is absent or has come. -/
theorem witness_CircuitSlotAgreement_timeout :
    ∀ b ∈ [0, 1], let s := ((circWait 2).wf (LM_COL_ENG 0) LM_COL_ENG_RVALID 1).wf (LM_COL_ENG 1) LM_COL_ENG_RVALID b
      (s.part? 1).map Part.pairs = some 2 ∧ s.rb (LM_COL_ENG 0) LM_COL_ENG_RVALID = true ∧ Tab.get [] s.colWait 1 = [] ∧
        s.rb (LM_COL_ENG 1) LM_COL_ENG_RVALID = decide (b = 1) ∧ (s.shch_ 0 3).inflight = [] := by decide +kernel

end Sys2Proof.Tests
end

