-- ==== Sys2Proof/Tests/Witness4.lean ====
section
/-! SUPPORT. States and operands that meet the hypotheses of the statements about the mailbox, drafts, time, host accesses,
tethers, the bring-up, resets, security, power and monitoring. -/
set_option Elab.async false
namespace Sys2Proof.Tests
open Machine

/-! ## The mailbox -/

/-- The package is READY; partition 1 on pair 0 in a given state. -/
def up (st : DState) : State := (inPart st).wf HD_BRINGUP HD_BRINGUP_OUTCOME 1
/-- The package is READY without a partition. -/
def up0 : State := State.reset.wf HD_BRINGUP HD_BRINGUP_OUTCOME 1
/-- PARTITION_CREATE of all pairs, and of the last pair, without bulk and with all of it. -/
theorem witness_PartitionCommands_create :
    let s : State := (List.range 8).foldl (fun s k => s.wf (BM_STAT k) BM_STAT_STATE 2) up0
    ∀ x ∈ [(0, 8, 1, 0), (7, 1, 0xFFFE, 448)],
      let m := mb 0x10 8 (leBytes 1 x.1 ++ leBytes 1 x.2.1 ++ leBytes 2 x.2.2.1 ++ leBytes 4 x.2.2.2)
      Admits s m 0x10 .pf0 false 8 ∧ shapeOk x.1 x.2.1 = true ∧ s.ready = true ∧ s.lc.state < 3 ∧ s.part? 8 = none ∧
        (∀ i ∈ List.range x.2.1, s.partOfPair (x.1 + i) = 0 ∧ s.excluded (x.1 + i) = false) ∧ s.gibRun x.2.2.2 = some 0 := by
  unfold Admits
  decide +kernel
theorem witness_PartitionCommands_refused : up0.createCheck 8 0 3 1 0 = .error stBadArgument := rfl
theorem witness_PartitionCommands_rest :
    (∀ st ∈ [DState.loaded, .running], Admits (up st) (mb 0x11 1 []) 0x11 .own true 0 ∧ (up st).part? 1 = some (onePair 0 st)) ∧
      (∀ l ∈ [(0 : Byte), 1, 2], Admits (up .running) (mb 0x12 1 [l]) 0x12 .own true 1) ∧ (onePair 0 .running).resetOk 1 = true ∧
      ({ onePair 0 .faulted with level := 1 } : Part).resetOk 0 = false ∧ (onePair 0 .running).origins = [] ∧ (onePair 0 .running).dump = none ∧
      Admits (up .halted) (mb 0x13 1 []) 0x13 .own true 0 ∧
      (0 : Byte).getLsbD 0 = false ∧ (1 : Byte).getLsbD 0 = true ∧ (onePair 0 .running).groupIx = [0] := by
  unfold Admits
  decide +kernel
theorem witness_PartitionCommands_quiet :
    (up .running).tags = [] ∧ (up .running).stalled = [] ∧ (up .running).pools.length = 0 ∧ (up .running).groups.length = 0 := by decide +kernel
/-- The states of the tests keep the canonical form. -/
theorem witness_PartitionCommands_form : Canonical (up .running) ∧ Canonical (inPart .faulted) ∧ ∀ c, ((up .running).core c).lbuf = [] := by
  refine ⟨by unfold Canonical; decide +kernel, by unfold Canonical; decide +kernel, fun _ => rfl⟩

/-! ## Drafts -/

/-- A draft of one HALT bundle for core 0 in a weave group of cluster 0: CODE, CORE MAP and GROUPS. -/
def haltCode : List Byte := leBytes 32 (encodeBundle ⟨true, .halt, .nop, .nop, .nop, .nop, .nop⟩).toNat
def haltSecs : List SecData :=
  [(⟨0, 1, 0, 0, 384, 32, 0⟩, haltCode), (⟨1, 2, 0, 0, 448, 64, 0⟩, List.replicate 64 0),
   (⟨2, 3, 0, 0, 512, 264, 0⟩, fitBytes 264 (leBytes 8 1 ++ leBytes 4 1))]
def haltBody : List Byte :=
  fitBytes 384 (fitBytes 256 (leBytes 4 0x52444B4E ++ leBytes 2 1 ++ leBytes 2 256 ++ leBytes 8 880 ++ leBytes 8 1 ++ leBytes 4 0 ++
    leBytes 2 1 ++ leBytes 2 3 ++ leBytes 8 256 ++ leBytes 8 0 ++ leBytes 8 776) ++
    haltSecs.flatMap fun x => leBytes 4 x.1.ty ++ leBytes 4 0 ++ leBytes 8 x.1.off ++ leBytes 16 x.1.len) ++
    haltSecs.flatMap (fun x => fitBytes (if x.1.ty = 3 then 264 else 64) x.2)
/-- SHA-384 of the 776 bytes, and a key Q for which r = s = that number is their signature: Q = R - G, where R has it as x. -/
def haltDigest : Nat :=
  0xdb6e4405652ea1590b80d2a1771a76e88e6e93ced2b47912f973e5b3bc3f73fc482d4bfe7e282978e9de172f110455ca
def haltKey : List Byte := ecBytes (some
  (0x87467b6efba0c4294721170a716bb4244c3bc27f115b380bd91df079bf31eaabb63bb35fc817026c91856f46044a37a9,
   0xb1e889acba613177275dd1f5b014dee155893e9d86470ecdf8eaebb98244cc15676e286635ad4f3b43016af673365146))
def haltImage : List Byte := haltBody ++ keyId haltKey ++ beBytes 48 haltDigest ++ beBytes 48 haltDigest
/-- Partition 1 with 1 GiB on a package in DEPLOYED whose one draft key is Q. -/
def deployed : State :=
  { up .empty with parts := [(1, { onePair 0 .empty with bulkGib := 1 })], lc := { LifeCycle.blank with state := 2, keys := [haltKey] } }
/-- DRAFT_LOAD of an image with HOSTBUF. -/
def load (img : List Byte) : Mail := ⟨0, { mbHdr 0x20 1 0 1 with hlen := BitVec.ofNat 64 img.length }, []⟩
theorem witness_DraftCommands_signature : deployed.signatureOk haltImage = true := by decide +kernel
theorem witness_DraftCommands_load :
    let p : Part := { onePair 0 .empty with bulkGib := 1 }
    Admits deployed (load haltImage) 0x20 .own true 0 ∧ deployed.ready = true ∧ deployed.part? 1 = some p ∧
      (load haltImage).hdr.hostbuf = true ∧ 0 < stagingSize 880 ∧ stagingSize 880 ≤ p.bulkGib * 2 ^ 30 ∧ haltImage.length = 880 ∧
      deployed.loadAuth 1 p (List.replicate 64 0) 64 = some .header ∧ headerOk haltImage = true ∧ fld haltImage 0x1C 1 = p.pairs ∧
      Tab.get 0 deployed.lc.floors 1 ≤ fld haltImage 0x18 4 ∧ encrypted haltImage = false := by
  unfold Admits
  decide +kernel
theorem witness_DraftCommands_auth :
    deployed.loadAuth 1 { onePair 0 .empty with bulkGib := 1 } haltImage haltImage.length = none := by
  obtain ⟨-, -, -, -, -, -, -, -, header, pairs, floor, -⟩ := witness_DraftCommands_load
  unfold State.loadAuth
  rw [header, pairs, witness_DraftCommands_signature, if_neg (by simp), if_neg (by simp), if_neg (by simp), if_neg (Nat.not_lt.mpr floor)]
theorem witness_DraftCommands_sections :
    decryptAll haltImage [] (sections haltImage) = (haltSecs, none) ∧ loadCheck haltImage 1 (2 ^ 30 - stagingSize 880) haltSecs = [] ∧
      (sortedRaws haltSecs).map CoreRaw.core = [0] ∧ ((codesOf haltSecs).get? 0).isSome = true := by decide +kernel
/-- An image whose sections are absent breaks a rule. -/
theorem witness_DraftCommands_offence : loadCheck haltImage 1 0 [] ≠ [] := by decide +kernel
theorem witness_DraftCommands_start :
    let p : Part := { onePair 0 .loaded with cores := [⟨0, 1, 0, [], 0⟩] }
    let s : State := { up .loaded with parts := [(1, p)], cores := [(0, { Core.reset with bundles := 1 })] }
    Admits s (mb 0x21 1 []) 0x21 .own true 0 ∧ s.part? 1 = some p ∧ p.cores.find? (fun r => r.core = 0) = some ⟨0, 1, 0, [], 0⟩ ∧
      p.cores.find? (fun r => r.core = 1) = none ∧ 0 ∈ p.coreIx ∧ Admits (up .faulted) (mb 0x21 1 []) 0x21 .own true 0 := by
  unfold Admits
  decide +kernel
theorem witness_DraftCommands_stop :
    let g : Grp := { Grp.none with clusters := 1, part := 1 }
    (onePair 0 .running).origins = [] ∧ g.stop = none ∧
    let s (h : Bool) : State := { up .running with groups := [(0, { g with halted := h })] }
    (∀ h ∈ [false, true], Admits (s h) (mb 0x22 1 []) 0x22 .own true 0 ∧ (s h).part? 1 = some (onePair 0 .running)) ∧
      (∃ e ∈ (s false).groups, e.2.part = 1 ∧ e.2.halted = false) ∧ (∀ e ∈ (s true).groups, e.2.part = 1 → e.2.halted = true) := by
  unfold Admits
  decide +kernel
/-- Slot 15 with output 0 on input 15; slot 0 is none to write; the slot in force is busy. -/
theorem witness_DraftCommands_weft :
    let pl (n : Nat) : List Byte := fitBytes 64 (leBytes 32 n ++ [0x8F])
    let p := onePair 0 .loaded
    let s := (up .loaded).wf (LM_WEFT_GSTAT 0) LM_WEFT_GSTAT_CUR 1
    (∀ n ∈ [0, 1, 15], Admits s (mb 0x30 1 (pl n)) 0x30 .own true 64 ∧ (pl n).length = 32 + 32 * p.pairs ∧ fld (pl n) 0 1 = n) ∧
      slotOk p (pl 15) = true ∧ s.slotBusy 1 p 15 = false ∧ slotOk p (pl 1) = true ∧ s.slotBusy 1 p 1 = true ∧ slotOk p (pl 0) = false ∧ s.ready = true := by
  unfold Admits
  decide +kernel
theorem witness_DraftCommands_standing :
    let id := List.range 64
    let pl := (id ++ id).map (BitVec.ofNat 8) ++ [(0 : Byte)]
    Admits (up .empty) (mb 0x31 0 pl) 0x31 .pf0 false 129 ∧ (∀ e ∈ (up .empty).parts, e.2.state = .empty) ∧ isPerm id = true ∧
      id ≠ (List.range 64).map (fun i => 8 * (i % 8) + i / 8) ∧
      Admits (up .empty) (mb 0x31 0 (List.replicate 128 0 ++ [1])) 0x31 .pf0 false 129 := by
  unfold Admits
  decide +kernel

/-! ## Package commands -/

/-- A command of PF8 that only PF0 may send, a malformed header, and a wrong length. -/
theorem witness_PackageCommands_refusals :
    let m := { mb 0x02 0 [1, 0, 0, 0] with src := 8 }
    let b := { mb 0x02 0 [1, 0, 0, 0] with hdr := { mbHdr 0x02 0 4 0 with rsv := 1 } }
    mbCmd (.logRead m) = some (m, 0x02, .pf0, false, 4) ∧ m.hdr.bad = false ∧ State.reset.mbDenied m .pf0 = true ∧ b.hdr.bad = true ∧
      State.reset.mbRefuse (mb 0x02 0 []) 0x02 false 4 = some stBadArgument ∧ State.reset.mbDenied (mb 0x02 0 []) .pf0 = false ∧
      State.reset.late = [] ∧ State.reset.mbQueue = [] ∧ State.reset.mbBehind 0 = false ∧ m.hdr.tvalid = false ∧ State.reset.inReset = false := by decide +kernel
theorem witness_PackageCommands_reads :
    Admits up0 (mb 0x01 0 []) 0x01 .all false 0 ∧ Admits up0 (mb 0x02 0 [0, 0, 0, 0]) 0x02 .pf0 false 4 ∧
      Admits up0 (mb 0x71 0 []) 0x71 .all false 0 ∧ Admits up0 (mb 0xA1 0 []) 0xA1 .pf0 false 0 := by
  unfold Admits
  decide +kernel
/-- A routing table without entries for ABITS 7, and one of ABITS 8. -/
theorem witness_PackageCommands_routes :
    let pl (k : Byte) : List Byte := fitBytes 1256 [k]
    Admits up0 (mb 0x40 0 (pl 7)) 0x40 .pf0 false 1256 ∧ up0.anyRunning = false ∧ (up .running).anyRunning = true ∧
      routeOk up0.ownNode up0.selPorts (pl 7) = true ∧ routeOk up0.ownNode up0.selPorts (pl 8) = false ∧
      Admits (up .running) (mb 0x40 0 (pl 7)) 0x40 .pf0 false 1256 := by
  unfold Admits
  decide +kernel
theorem witness_PackageCommands_settings :
    Admits up0 (mb 0x41 0 (leBytes 2 64 ++ leBytes 1 5)) 0x41 .pf0 false 3 ∧ 128 * 5 ≤ 10 * 64 ∧
      Admits up0 (mb 0x42 0 (leBytes 2 16383 ++ leBytes 1 1)) 0x42 .pf0 false 3 ∧
      Admits (up .running) (mb 0x50 1 (leBytes 1 1 ++ leBytes 1 24)) 0x50 .own true 2 ∧ (up .running).partOfPair 0 = 1 ∧
      (up .running).partOfPair 7 ≠ 1 ∧ (128 : Nat).testBit 7 = true ∧ Admits up0 (mb 0x51 0 [1]) 0x51 .pf0 false 1 ∧
      Admits up0 (mb 0x90 0 (leBytes 8 5 ++ leBytes 8 0 ++ List.replicate 8 0)) 0x90 .own false 24 ∧ (mb 0x90 0 []).fromPart = false := by
  unfold Admits
  decide +kernel
/-- What an image holds is Config's (log entry 7); the other hypotheses of FW_WRITE, and those of FW_ACTIVATE. -/
theorem witness_PackageCommands_firmware :
    let m : Mail := ⟨0, { mbHdr 0x60 0 0 1 with hlen := 8 }, []⟩
    Admits up0 m 0x60 .pf0 false 0 ∧ m.hdr.hostbuf = true ∧ (List.replicate 8 (0 : Byte)).length = m.hdr.hlen.toNat ∧ up0.fw.floor ≤ 0 ∧
      Admits up0 (mb 0x61 0 [0, 1]) 0x61 .pf0 false 2 ∧ (up0.fw.bank false).valid = true ∧ up0.fw.floor ≤ (up0.fw.bank false).svn := by
  unfold Admits
  decide +kernel
/-- A fabric configuration without links, its FLAGS given: T 64 µs, HMAX 5, ABITS 7. -/
def config (flags : Nat) : List Byte := fitBytes 1320 (leBytes 4 flags ++ leBytes 2 64 ++ leBytes 2 5 ++ fitBytes 56 [] ++ leBytes 1 7)
theorem witness_PackageCommands_bringup :
    let s : State := { (State.reset.wf HD_BRINGUP HD_BRINGUP_STAGE 8).wf HD_BRINGUP HD_BRINGUP_WAITING 1 with nextStage := 8 }
    Admits s (mb 0xA0 0 (config 8)) 0xA0 .pf0 false 1320 ∧ upBad (config 8) = false ∧ cfFlag (config 8) 3 = true ∧ cfFlag (config 8) 2 = false ∧
      Admits s (mb 0xA0 0 (config 0)) 0xA0 .pf0 false 1320 ∧ upBad (config 0) = false ∧ cfFlag (config 0) 3 = false ∧
      cfFlag (config 0) 2 = false ∧ s.configBegun = false ∧ { s with nextStage := 9 }.configBegun = true ∧ s.rb HD_BRINGUP HD_BRINGUP_WAITING = true := by
  unfold Admits
  decide +kernel

/-! ## Time -/

/-- The clock in a state at a count. -/
def clk (st n : Nat) (c : Clock) : State := { (State.reset.wf HD_TIME_STAT HD_TIME_STAT_STATE st).setNow n with clock := c }
theorem witness_FabricTime_commands :
    Admits (clk 1 5 Clock.reset) (mb 0x80 0 []) 0x80 .all false 0 ∧
      (∀ st ∈ List.range 4, Admits (clk st 5 Clock.reset) (mb 0x81 0 (List.replicate 8 0 ++ leBytes 8 1000000000)) 0x81 .pf0 false 16) ∧
      Admits (clk 2 5 Clock.reset) (mb 0x81 0 (1 :: List.replicate 7 0 ++ leBytes 8 7)) 0x81 .pf0 false 16 ∧
      Admits (clk 1 5 Clock.reset) (mb 0x81 0 (2 :: List.replicate 15 0)) 0x81 .pf0 false 16 ∧
      (∀ st ∈ List.range 4, (clk st 5 Clock.reset).timeState = st ∧ (clk st 5 Clock.reset).now = 5) ∧
      (clk 0 0 { Clock.reset with step := some 1000000000 }).clock.step ≠ none ∧
      (clk 1 999950000 { Clock.reset with edge := some 0, step := some 2000000000 }).clock.edge = some 0 := by
  unfold Admits
  decide +kernel
/-- Edges 1 s apart at the ends of the tolerance, and just beyond it. -/
theorem witness_FabricTime_edges :
    secondApart 0 999950000 = true ∧ secondApart 0 1000050000 = true ∧ secondApart 0 999949999 = false ∧ secondApart 0 1000050001 = false ∧
      (clk 3 999950000 { Clock.reset with edge := some 0 }).clock.edge = some 0 ∧
      (clk 2 1000000000 { Clock.reset with edge := some 0, run := 2 }).clock.run = 2 ∧ (clk 0 0 Clock.reset).clock.run = 0 ∧
      (State.reset.wf HD_TIME_STAT HD_TIME_STAT_REFCLK_LOST 1).rb HD_TIME_STAT HD_TIME_STAT_REFCLK_LOST = true ∧
      State.reset.rb HD_TIME_STAT HD_TIME_STAT_REFCLK_LOST = false := by decide +kernel

/-! ## The host -/

/-- Accesses of BAR2: misaligned, of another partition's core, of its own core's last register offset, and of named registers. -/
theorem witness_HostAccess_registers :
    let s := up .running
    let x (fn : FnIx) (o : Nat) : HostAcc := ⟨fn, true, BitVec.ofNat 32 o, 8⟩
    State.reset.inReset = false ∧ s.inReset = false ∧ s.shutdown = false ∧ accInBar (x 0 0xFFFFFF) = true ∧ accSized (x 0 0xFFFFFF) = false ∧
      accInBar (x 8 0) = true ∧ accSized (x 8 0) = true ∧ s.inWindow 8 (accAddr (x 8 0)) = false ∧
      s.inWindow 1 (accAddr (x 1 0)) = true ∧ s.inWindow 0 (accAddr (x 0 0)) = true ∧ accAddr (x 0 0) ≠ HD_TIME_STAT ∧
      (x 0 (HD_HANG 8)).offset.toNat = HD_HANG 8 ∧ (x 0 HD_PWR_CTL).offset.toNat = HD_PWR_CTL ∧
      (x 1 (CD_HOLD_LIMIT 0)).offset.toNat = CD_HOLD_LIMIT 0 ∧ s.partOfPair (pairOf 0) = 1 ∧ s.confidential (s.partOfPair (pairOf 0)) = false ∧
      (x 0 (CD_GEAR_CTL 7)).offset.toNat = CD_GEAR_CTL 7 ∧ s.confidential (s.partOfPair 7) = false ∧ accInBar (x 0 (CD_GEAR_CTL 7)) = true ∧
      accSized (x 0 (CD_GEAR_CTL 7)) = true ∧
      (x 1 (CD_CORE_FLAGS 0)).offset.toNat = CD_CORE_FLAGS 0 := by decide +kernel
/-- A doorbell with an INFO request in the buffer, one with a bad header, and one while BUSY. -/
theorem witness_HostAccess_doorbell :
    let s := withRegs State.reset [(0x1000000 * 9 + 0x1000, 0x01)]
    let b := withRegs State.reset [(0x1000000 * 9 + 0x1000, 0x01 + 2 ^ 17)]
    s.rb (HD_MB_STAT 8) HD_MB_STAT_BUSY = false ∧ (hdrOf (s.reqBytes 8)).bad = false ∧ opcodes.contains (hdrOf (s.reqBytes 8)).opcode.toNat = true ∧
      (hdrOf (b.reqBytes 8)).bad = true ∧ (State.reset.wf (HD_MB_STAT 8) HD_MB_STAT_BUSY 1).rb (HD_MB_STAT 8) HD_MB_STAT_BUSY = true := by decide +kernel
/-- Watches: the last of PF0 and of PF8; armed at a threshold that is met, and at one that is not. -/
theorem witness_HostAccess_watch :
    let s (n : Nat) := ((State.reset.wf (HD_KWATCH 0 61) HD_KWATCH_ARM 1).wf (HD_KWATCH 0 61) HD_KWATCH_THRESH n).rset (KN_COUNT 0 0) 5
    61 < watchCount 0 ∧ 245 < watchCount 8 ∧ ¬ 62 < watchCount 0 ∧ State.reset.watchOk 0 0 = true ∧ State.reset.watchOk 8 0 = false ∧
      (∀ n ∈ [5, 6], (s n).rb (HD_KWATCH 0 61) HD_KWATCH_ARM = true ∧ (s n).rf (HD_KWATCH 0 61) HD_KWATCH_THRESH = n) ∧
      (s 5).knotCount 0 0 = 5 ∧ ({ State.reset with evPend := 0x100 } : State).evPend.getLsbD 8 = true := by decide +kernel

/-! ## Tethers -/

/-- Tethered to node 16383, open or lost. -/
def teth (l : Bool) : State := { up0 with tethers := [⟨16383, 127, l⟩] }
theorem witness_TetherTraffic_commands :
    Admits up0 (mb 0xB0 0 (leBytes 2 16383)) 0xB0 .pf0 false 2 ∧ 16383 ≠ up0.ownNode ∧ up0.tethers = [] ∧
      Admits (teth true) (mb 0xB1 0 (leBytes 2 16383)) 0xB1 .pf0 false 2 ∧ (∃ x ∈ (teth true).tethers, x.node = 16383) ∧
      Admits up0 (mb 0xB2 0 (leBytes 1 2 ++ leBytes 2 16383)) 0xB2 .pf0 false 3 ∧ Admits up0 (mb 0xB3 0 []) 0xB3 .pf0 false 0 := by
  unfold Admits
  decide +kernel
/-- The lead's doorbell with an INFO request, a forwarded command's answer, and an event for a full queue. -/
theorem witness_TetherTraffic_messages :
    let s : State := { up0 with tetherLead := some 16383 }.putBytes ctlBase [1]
    let h := mbHdr 1 0 0 0
    let f : State := { up0 with forwarded := [(16383, h, false)] }
    let q := (teth true).wf (HD_EVQ_HEAD 0) HD_EVQ_HEAD_HEAD 1
    s.tetherLead = some (16383 : BitVec 14).toNat ∧ s.awake = true ∧ s.mbQueue = [] ∧ s.late = [] ∧ (hdrOf (s.bytes ctlBase 4096)).bad = false ∧
      opcodes.contains (hdrOf (s.bytes ctlBase 4096)).opcode.toNat = true ∧
      f.forwarded.find? (fun f => f.1 = (16383 : BitVec 14).toNat) = some ((16383 : BitVec 14).toNat, h, false) ∧
      q.rf (HD_EVQ_TAIL 0) HD_EVQ_TAIL_TAIL = 0 ∧ (0 + 1) % 256 = q.rf (HD_EVQ_HEAD 0) HD_EVQ_HEAD_HEAD ∧
      (0 + 1) % 256 ≠ (teth true).rf (HD_EVQ_HEAD 0) HD_EVQ_HEAD_HEAD := by decide +kernel
/-- Every policy: any lead, none, and node 7 alone. -/
theorem witness_TetherTraffic_open :
    let s (k n : Nat) : State := { up0 with tetherPolicy := (k, n) }
    up0.awake = true ∧ up0.ready = true ∧ (s 0 0).policyTakes 7 = true ∧ (s 1 0).policyTakes 7 = false ∧ (s 2 7).policyTakes 7 = true ∧
      (s 2 8).policyTakes 7 = false ∧ up0.tetherLead = none ∧ (teth false).awake = true ∧
      (∃ x ∈ (teth false).tethers, x.node = (16383 : BitVec 14).toNat ∧ x.live = false) := by decide +kernel

/-! ## The bring-up -/

/-- Stage `n` is due. -/
def due (n : Nat) : State := { State.reset with nextStage := n }
theorem witness_BringupStages_due :
    (∀ n ∈ List.range 11, (due n).stageOn n = true) ∧ State.reset.stages.length = 11 ∧ State.reset.bootOk 0 State.reset.fw.next = true ∧
      State.reset.bootOk 3 State.reset.fw.next = false ∧ State.reset.bootOk 3 (!State.reset.fw.next) = false ∧
      (let u : State := { State.reset with fw := { Fw.shipped with bank1 := ⟨true, 0, 0, []⟩ } }
       u.bootOk 1 u.fw.next = false ∧ u.bootOk 1 (!u.fw.next) = true) ∧
      State.reset.lc.state ≠ 4 ∧ ({ State.reset with lc := { LifeCycle.blank with state := 4 } } : State).lc.change = none := by decide +kernel
theorem witness_BringupStages_light :
    (∀ k ∈ List.range 8, (due 4).rf (BM_STAT k) BM_STAT_STATE = 0) ∧ (due 4).fillDue = true ∧ ({ (due 4).wf HD_BRINGUP HD_BRINGUP_KIND 2 with filled := true } : State).fillDue = false ∧
      (due 5).rf LM_CENSUS LM_CENSUS_STATE = 0 ∧ (due 5).rb LM_BOBBIN LM_BOBBIN_LASER_EN = false ∧
      (let s := ((due 5).wf LM_BOBBIN LM_BOBBIN_LASER_EN 1).wf LM_BOBBIN LM_BOBBIN_BOBBIN_OK 1
       s.stageOn 5 = true ∧ s.rb LM_BOBBIN LM_BOBBIN_LASER_EN = true ∧ s.rb LM_BOBBIN LM_BOBBIN_BOBBIN_OK = true) ∧
      ((due 5).wf LM_CENSUS LM_CENSUS_STATE 2).rf LM_CENSUS LM_CENSUS_STATE = 2 := by decide +kernel
/-- What a stack reports that the controller uses, and one whose map misses a channel (R287); the boot and the fill of stage 4. -/
theorem witness_BringupStages_bulk :
    let pcs := (List.range 64).map fun q => (q % 16, q / 16)
    stackOk ⟨true, 16, 2 ^ 30, true, pcs⟩ = true ∧ stackOk ⟨true, 16, 2 ^ 30, true, pcs.take 63⟩ = false ∧
      (due 4).lc.state ≠ 4 ∧ ({ (due 4).wf HD_BRINGUP HD_BRINGUP_KIND 2 with filled := true, lc := { LifeCycle.blank with state := 4 } } : State).fillDue = false := by
  decide +kernel
theorem witness_BringupStages_laser :
    (due 5).laserUp = 0 ∧ ({ due 5 with laserUp := 1 } : State).laserUp ≠ 0 ∧ true ∈ [false, false, false, true].take 4 ∧
      true ∉ [false, false, false, false, true].take 4 := by decide +kernel
/-- Every lane of every standing circuit delivers its pilots at -20 dBm. -/
def goodMeas (s : State) : List (Bool × OutMeas) :=
  [true, false].flatMap fun up => (List.range 64).flatMap fun i => (List.range 32).map fun wl =>
    (up, ⟨BitVec.ofNat 7 (s.standOut up i), BitVec.ofNat 5 wl, -2000, BitVec.ofNat 7 i, 8⟩)
theorem standOut_small : ∀ up, ∀ i ∈ List.range 64, (due 6).standOut up i < 64 := by decide +kernel
theorem witness_BringupStages_weave : (due 6).badStand (goodMeas (due 6)) = [] := by
  have none_bad : ∀ up ∈ [true, false], ∀ i ∈ List.range 64,
      ((due 6).standLanes ((due 6).standWay up i).1 ((due 6).standWay up i).2).all (fun wl => (goodMeas (due 6)).any fun m =>
        m.1 == up && m.2.out.toNat == (due 6).standOut up i && m.2.wl.toNat == wl && measOk false i m.2) = true := by
    intro up hup i hi
    have small := standOut_small up i hi
    refine List.all_eq_true.mpr fun wl hwl => List.any_eq_true.mpr
      ⟨(up, ⟨BitVec.ofNat 7 ((due 6).standOut up i), BitVec.ofNat 5 wl, -2000, BitVec.ofNat 7 i, 8⟩), ?_, ?_⟩
    · have lane : wl ∈ List.range 32 := (List.mem_filter.mp hwl).1
      exact List.mem_flatMap.mpr ⟨up, hup, List.mem_flatMap.mpr ⟨i, hi, List.mem_map.mpr ⟨wl, lane, rfl⟩⟩⟩
    · have lane := List.mem_range.mp (List.mem_filter.mp hwl).1
      have ix := List.mem_range.mp hi
      have h1 : (due 6).standOut up i % 128 = (due 6).standOut up i := by omega
      have h2 : wl % 32 = wl := by omega
      have h3 : i % 128 = i := by omega
      simp [measOk, BitVec.toNat_ofNat, h1, h2, h3]
  unfold State.badStand
  rw [List.flatMap_eq_nil_iff.mpr]
  · rfl
  · intro up hup
    exact List.filterMap_eq_nil_iff.mpr fun i hi => by simp only [none_bad up hup i hi, if_true]
theorem witness_BringupStages_dark : (due 6).badStand [] ≠ [] := by decide +kernel
/-- S8 with a configuration that keeps the rules, and with one whose HMAX is 0; S9 without links and with link 0 not live. -/
theorem witness_BringupStages_config :
    configOk (config 0) = true ∧ configOk (fitBytes 1320 []) = false ∧ cfLinks (config 0) = [] ∧
      (∃ l ∈ cfLinks ((config 0).set 72 1), (due 9).rb (LM_RT_LINK l) LM_RT_LINK_LIVE = false) ∧
      (due 9).stageOn 9 = true := by decide +kernel

/-! ## Resets -/

theorem witness_ResetLevels :
    (up .running).awake = true ∧ ({ State.reset with inReset := true } : State).awake = false ∧
      ({ State.reset with powerOff := true } : State).powerOff = true ∧ State.reset.powerOff = false ∧
      (let s : State := { State.reset with inReset := true }
       s.inReset = true ∧ s.powerOff = false ∧ s.rb HD_RESET_STAT HD_RESET_STAT_HOLDING = false) ∧
      ((up .running).wf (HD_HANG 1) HD_HANG_LIMIT_US 1).rf (HD_HANG 1) HD_HANG_LIMIT_US ≠ 0 ∧
      (up .running).rf (HD_HANG 1) HD_HANG_LIMIT_US = 0 ∧ State.reset.lc.state ≠ 4 := by decide +kernel
theorem witness_ResetLevels_hang : Canonical ((up .running).wf (HD_HANG 1) HD_HANG_LIMIT_US 1) := by unfold Canonical; decide +kernel
/-- A record to dump, to suppress and to write. -/
def rec0 : FaultRec := State.reset.mkRec 1 1 0 0 0 0 0 0
theorem witness_ResetLevels_records :
    let p : Part := { onePair 0 .faulted with dump := some (rec0, none) }
    let s : State := { State.reset with parts := [(8, p)], windows := [(1, ⟨0, 3, some rec0⟩)], recBuf := [rec0] }
    s.part? 8 = some p ∧ p.dump = some (rec0, none) ∧ s.windows = [] ++ [(1, ⟨0, 3, some rec0⟩)] ∧ s.recBuf = rec0 :: [] := by decide +kernel
theorem witness_ResetKeepsTime : Canonical State.reset := by unfold Canonical; decide +kernel

/-! ## Security and the life cycle -/

theorem witness_SecurityMessages :
    let s : State := { State.reset with spdm := [(false, 0)] }
    let x : SmbMsg := ⟨true, 9⟩
    State.reset.inReset = false ∧ (false, 0) ∉ State.reset.spdm ∧ (false, 0) ∈ s.spdm ∧ (false, 1) ∉ s.spdm ∧ (∃ e ∈ s.spdm, e.1 = false) ∧
      x.clean = true ∧ (4 : BitVec 32).toNat % 8 ≠ 0 ∧ (0xFF8 : BitVec 32).toNat + 8 * 1 ≤ 0x1000 ∧ 0x200 + 8 * 1 ≤ 0x1000 ∧
      (0x448 : Nat) ∈ smbOpen ∧ (0x100 : Nat) ∉ smbOpen ∧ smbCommand 0 0x80 0 = true ∧ smbCommand 0 0x10 0 = false ∧
      (mbHdr 0x80 0 1024 0).length.toNat ≤ 1024 ∧ (mbHdr 0x80 0 1025 0).length.toNat > 1024 ∧ (mbHdr 0x80 0 0 0).bad = false := by decide +kernel
/-- A LIFECYCLE_SET: ACTION, MGMT_SEQ, ARG, SIG all 0. -/
def lcMail (act seq : Nat) (arg : List Byte) : Mail := mb 0x70 0 (fitBytes 216 (leBytes 4 act ++ leBytes 4 seq ++ arg))
/-- QUERY runs in every state without a signature; a wrong MGMT_SEQ is refused; RETIRE from BLANK needs none; in the other actions the
verdict on the signature is Config's (log entry 7). -/
theorem witness_LifeCycleActions :
    Admits up0 (lcMail 0 0 []) 0x70 .pf0 false 216 ∧ (lcMail 0 0 []).n 4 4 = up0.lc.seq ∧ (lcMail 1 1 []).n 4 4 ≠ up0.lc.seq ∧
      up0.lcKey (lcMail 6 0 []) 6 = none ∧ allZero (lcSig (lcMail 6 0 [])) = true ∧ argOnly (lcMail 6 0 []) 0 = true ∧
      (lcMail 6 0 []).n 1 3 = 0 ∧ up0.anyRunning = false ∧ (up .running).anyRunning = true ∧ up0.lc.state ∉ [2] ∧ up0.lc.state ∈ [0, 1, 2, 3] := by
  unfold Admits
  decide +kernel
/-- Arguments of the signed actions in DEPLOYED: the eighth key, a ninth, a key the package holds, a floor for partition 8, IDE_REQUIRED. -/
theorem witness_LifeCycleActions_signed :
    let lc (n : Nat) : LifeCycle := { LifeCycle.blank with state := 2, keys := List.replicate n [] }
    let s (n : Nat) : State := { up0 with lc := lc n }
    Admits (s 7) (lcMail 7 0 []) 0x70 .pf0 false 216 ∧ (s 7).lc.keys.length < 8 ∧ 8 ≤ (s 8).lc.keys.length ∧ argOnly (lcMail 7 0 []) 97 = true ∧
      (lcMail 9 0 [8, 1]).n 8 1 = 8 ∧ argOnly (lcMail 9 0 [8, 1]) 5 = true ∧ Tab.get 0 (s 7).lc.floors 8 ≤ (lcMail 9 0 [8, 1]).n 9 4 ∧
      (lcMail 9 0 [9, 1]).n 8 1 > 8 ∧ (lcMail 10 0 [1]).n 8 1 = 1 ∧ (lcMail 10 0 [2]).n 8 1 > 1 ∧ argOnly (lcMail 10 0 [1]) 1 = true ∧
      argOnly (lcMail 8 0 []) 8 = true := by
  unfold Admits
  decide +kernel
theorem witness_LifeCycleActions_revoke : ∀ k ∈ up0.lc.keys, keyId k ≠ argBytes (lcMail 8 0 []) 8 := by
  intro k held
  cases held

/-! ## Power, temperature, metering -/

/-- The tenth sample above the cap, with pair 3 the busiest; the tenth below it less 50 W; both at the limit. -/
theorem witness_PowerAndMonitoring_cap :
    let s : State := { State.reset with capping := { overs := 9, unders := 9, req := [(3, 1)], braked := [] } }
    let pw := [1, 1, 1, 9, 1, 1, 1, 1]
    let cap := s.rf HD_PWR_CTL HD_PWR_CTL_CAP_W
    s.part? 0 = none ∧ 10 ≤ s.capping.overs + 1 ∧ cap < (4095 : BitVec 12).toNat ∧ (0 : BitVec 12).toNat + 50 < cap ∧ s.capReq 3 < 24 ∧ 0 < s.capReq 3 ∧
      (∀ q ∈ List.range 8, pw.getD q 0 ≤ pw.getD 3 0 ∧ (q < 3 → pw.getD q 0 < pw.getD 3 0)) ∧
      (∀ q ∈ List.range 8, s.capReq q ≤ s.capReq 3 ∧ (q < 3 → s.capReq q < s.capReq 3)) := by decide +kernel
/-- The third sample of 110 °C; one a step below; a stack at 105 °C. -/
theorem witness_PowerAndMonitoring_heat :
    let s : State := { State.reset with hotRun := [(1191, 2)], thermCalm := [(7, 1)] }
    2 ≤ Tab.get 0 s.hotRun 1191 ∧ 880 ≤ (880 : BitVec 16).toInt ∧ ¬ 880 ≤ (879 : BitVec 16).toInt ∧ s.shutdown = false ∧ s.powerOff = false ∧
      (105 : Int) ≤ 105 ∧ Tab.get 0 s.thermCalm 7 ≠ 0 ∧ s.pairFormula 7 < (s.wf (CD_THERM 7) CD_THERM_THERM_REQ 24).rf (CD_THERM 7) CD_THERM_THERM_REQ := by
  decide +kernel
/-- CLEAR 10 s after the shutdown with every Heddle sensor below 70 °C and two shutdowns in the hour; a third refuses it. -/
theorem witness_PowerAndMonitoring_clear :
    let s : State := { State.reset.wf HD_THERM HD_THERM_SHUTDOWN 1 with tick := 15000000000, shutLog := [0, 1] }
    let u : State := { s with shutLog := [0, 1, 2] }
    s.shutdown = true ∧ s.shutTick + 15000000000 ≤ s.tick ∧ (∀ k ∈ List.range 8, s.sensor (1184 + k) = some 0) ∧
      (s.shutLog.filter fun t => decide (s.tick < t + 5400000000000)).length < 3 ∧
      ¬ (u.shutLog.filter fun t => decide (u.tick < t + 5400000000000)).length < 3 := by decide +kernel
theorem witness_PowerAndMonitoring_epoch :
    ((up .running).part? 1).isSome = true ∧ State.reset.spill.length < spillSize ∧
      spillSize ≤ ({ State.reset with spill := List.replicate spillSize ⟨0, 0, []⟩ } : State).spill.length := by
  refine ⟨by decide +kernel, by decide +kernel, ?_⟩
  show spillSize ≤ (List.replicate spillSize _).length
  simp
theorem witness_StepKeepsForm : Canonical { State.reset with pending := [.censusRestart] } ∧
    step { State.reset with pending := [.censusRestart] } = .next State.reset := by
  refine ⟨?_, rfl⟩
  unfold Canonical
  decide +kernel

end Sys2Proof.Tests
end

section
/-! PROOF. The register map, and the state after reset (O5). -/
namespace Sys2Proof.Machine

/-! ## The register map (R334, R338): in which block and row an address lies -/

theorem blkOf_core {c o : Nat} (hc : c < 2048) (ho : o < 0x1000) : blkOf (0x1000 * c + o) = (.core, o) := by
  have ha : 0x1000 * c + o < 0x800000 := by omega
  have h1 : (0x1000 * c + o) % 0x1000 = o := by omega
  rw [blkOf, if_neg (by omega), if_pos ha, h1]
theorem blkOf_pair {p o : Nat} (hp : p < 8) (ho : o < 0x1000) : blkOf (0x900000 + 0x1000 * p + o) = (.pair, o) := by
  have h1 : (0x900000 + 0x1000 * p + o) % 0x1000 = o := by omega
  rw [blkOf, if_neg (by omega), if_neg (by omega), if_neg (by omega), if_pos (by omega), h1]
theorem blkOf_heddle {o : Nat} (ho : o < 0x1000) : blkOf (0x970000 + o) = (.heddle, o) := by
  have h1 : (0x970000 + o) % 0x1000 = o := by omega
  simp only [blkOf, h1]
  repeat rw [if_neg (by omega)]
  rw [if_pos (by omega)]
theorem blkOf_bar0 (fn : Nat) {o : Nat} (ho : o < 0x1000000) : blkOf (0x1000000 * (fn + 1) + o) = (.bar0, o) := by
  have h1 : (0x1000000 * (fn + 1) + o) % 0x1000000 = o := by omega
  rw [blkOf, if_pos (by omega), h1]

theorem regRow?_of_blkOf {a o : Nat} {b : Blk} (h : blkOf a = (b, o)) : regRow? a = b.rows.find? (fun r => r.has o) := by
  simp only [regRow?, h]

theorem regRow?_CD_SEQ_STATUS (c : CoreIx) : regRow? (CD_SEQ_STATUS c) = some (rowsCore[3]) :=
  regRow?_of_blkOf (blkOf_core (o := 0) c.isLt (by omega))
theorem regRow?_CD_CORE_FLAGS (c : CoreIx) : regRow? (CD_CORE_FLAGS c) = some (rowsCore[0]) :=
  regRow?_of_blkOf (blkOf_core c.isLt (by omega))
theorem regRow?_CD_HOLD_LIMIT (c : CoreIx) : regRow? (CD_HOLD_LIMIT c) = some (rowsCore[6]) :=
  regRow?_of_blkOf (blkOf_core c.isLt (by omega))
theorem regRow?_CD_GEAR_CTL (p : PairIx) : regRow? (CD_GEAR_CTL p) = some (rowsPair[0]) :=
  regRow?_of_blkOf (blkOf_pair (o := 0) p.isLt (by omega))
theorem regRow?_HD_PWR_CTL : regRow? HD_PWR_CTL = some (rowsHeddle[9]) :=
  regRow?_of_blkOf (blkOf_heddle (by omega))
theorem HD_HANG_eq (i : Nat) : HD_HANG i = 0x970000 + (0x40 + 8 * (i - 1)) := Nat.add_assoc ..
theorem regRow?_HD_HANG {i : Nat} (h1 : 1 ≤ i) (h8 : i ≤ 8) : regRow? (HD_HANG i) = some (rowsHeddle[4]) := by
  have hfind : ∀ k < 8, rowsHeddle.find? (fun r => r.has (0x40 + 8 * k)) = some (rowsHeddle[4]) := by decide
  rw [HD_HANG_eq, regRow?_of_blkOf (blkOf_heddle (by omega))]
  exact hfind (i - 1) (by omega)
theorem HD_KWATCH_eq (fn v : Nat) : HD_KWATCH fn v = 0x1000000 * (fn + 1) + (0x8000 + 0x10 * v) := Nat.add_assoc ..
theorem blkOf_HD_KWATCH (fn : Nat) {v : Nat} (hv : v < 246) : blkOf (HD_KWATCH fn v) = (.bar0, 0x8000 + 0x10 * v) := by
  rw [HD_KWATCH_eq]
  exact blkOf_bar0 fn (by omega)
theorem regRow?_HD_KWATCH (fn : Nat) {v : Nat} (hv : v < 246) : regRow? (HD_KWATCH fn v) = some (rowsBar0[4]) := by
  rw [regRow?_of_blkOf (blkOf_HD_KWATCH fn hv), List.find?_eq_some_iff_append]
  refine ⟨?_, rowsBar0.take 4, [], rfl, ?_⟩
  · simp [rowsBar0, RegRow.has]
    exact decide_eq_true (by omega)
  · simp [rowsBar0, RegRow.has]
    omega
/-- The request and response buffers and the event queue hold no register of the tables, so they reset to 0 (R338). -/
theorem regReset_bar0_buffer (fn : Nat) {o : Nat} (h1 : 0x1000 ≤ o) (h2 : o < 0x8000) :
    regReset (0x1000000 * (fn + 1) + o) = 0 := by
  have hrow : rowsBar0.find? (fun r => r.has o) = none := by
    rw [List.find?_eq_none]
    simp [rowsBar0, RegRow.has]
    omega
  rw [regReset, regRow?_of_blkOf (blkOf_bar0 fn (by omega))]
  simp only [Blk.rows, hrow]

/-! ## After reset (R10, R382) -/

theorem canonical_reset : Canonical State.reset := by
  refine ⟨rfl, rfl, rfl, rfl, ?_, ?_, rfl, ?_, ?_, ?_⟩ <;> exact fun _ h => absurd h List.not_mem_nil

@[simp] theorem State.rget_reset (a : Nat) : State.reset.rget a = regReset a := Tab.get_nil ..
@[simp] theorem State.byte_reset (a : Nat) : State.reset.byte a = 0 := Tab.get_nil ..

theorem State.rf_reset_of_row {a : Nat} {r : RegRow} (f : Fld) (h : regRow? a = some r) :
    State.reset.rf a f = f.get (BitVec.ofNat 64 r.reset) := by
  simp only [State.rf, State.rget_reset, regReset, h]

/-- Settles O5: nothing is stored in `State.reset`, so every read gives the default of its table. -/
theorem resetState : Obligations.ResetState := by
  have hgear (p : PairIx) : State.reset.rf (CD_GEAR_CTL p) CD_GEAR_CTL_CUR = 24 := by
    rw [State.rf_reset_of_row _ (regRow?_CD_GEAR_CTL p)]
    decide
  have hseq (c : CoreIx) : State.reset.seqState c = 0 := by
    rw [State.seqState, State.rf_reset_of_row _ (regRow?_CD_SEQ_STATUS c)]
    decide
  exact ⟨State.rget_reset, State.byte_reset, rfl, rfl, rfl, fun _ => rfl, fun _ => rfl, hgear, hseq, canonical_reset⟩

end Sys2Proof.Machine
end

section
/-! PROOF. Laws of the mailbox and of records: what a response holds, and what answering a command or making a record
leaves as it was. -/
namespace Sys2Proof.Machine

/-! ## Mailbox buffers: bytes and words (R338, R339) -/

theorem fitBytes_getElem? (n : Nat) (bs : List Byte) (i : Nat) :
    (fitBytes n bs)[i]? = if i < n then some (bs.getD i 0) else none := by
  simp only [fitBytes, List.getElem?_take, List.getElem?_append, List.getElem?_replicate]
  by_cases hb : i < bs.length
  · simp only [if_pos hb, List.getD_eq_getElem?_getD, List.getElem?_eq_getElem hb, Option.getD_some]
  · simp only [if_neg hb, List.getD_eq_getElem?_getD, List.getElem?_eq_none (Nat.le_of_not_lt hb), Option.getD_none]
    by_cases hi : i < n
    · rw [if_pos hi, if_pos hi, if_pos (by omega)]
    · rw [if_neg hi, if_neg hi]
theorem fitBytes_cons (n : Nat) (b : Byte) (r : List Byte) : fitBytes (n + 1) (b :: r) = b :: fitBytes n r := by
  apply List.ext_getElem?
  intro i
  cases i <;> simp [fitBytes_getElem?]
theorem fitBytes_add (m n : Nat) (bs : List Byte) : fitBytes m (bs.take m) ++ fitBytes n (bs.drop m) = fitBytes (m + n) bs := by
  have hlen : (fitBytes m (bs.take m)).length = m := by simp [fitBytes]
  apply List.ext_getElem?
  intro i
  rw [List.getElem?_append, hlen]
  by_cases hm : i < m
  · simp [fitBytes_getElem?, hm, show i < m + n by omega]
  · simp [fitBytes_getElem?, hm, show m + (i - m) = i by omega, show i - m < n ↔ i < m + n by omega]
theorem leNat_lt (bs : List Byte) : leNat bs < 256 ^ bs.length := by
  induction bs with
  | nil => simp [leNat]
  | cons b r ih =>
    have hb := b.isLt
    simp only [leNat, List.length_cons, pow_succ]
    omega
/-- The bytes of a byte string's number are the string, filled with zero bytes. -/
theorem leBytes_leNat (n : Nat) : ∀ bs : List Byte, bs.length ≤ n → leBytes n (leNat bs) = fitBytes n bs := by
  induction n with
  | zero => intro bs h; simp [leBytes, fitBytes]
  | succ n ih =>
    intro bs h
    cases bs with
    | nil =>
      have hz := ih [] (by simp)
      simp_all [leBytes, leNat, fitBytes, List.replicate_succ]
    | cons b r =>
      have hb := b.isLt
      have hdiv : (b.toNat + 256 * leNat r) / 256 = leNat r := by omega
      have hlow : BitVec.ofNat 8 (b.toNat + 256 * leNat r) = b := by
        apply BitVec.eq_of_toNat_eq
        rw [BitVec.toNat_ofNat]
        omega
      rw [leBytes, leNat, hdiv, hlow, ih r (by simpa using h), fitBytes_cons]
theorem chunksOf_zero_getD (n k : Nat) (bs : List Byte) : (chunksOf n (k + 1) bs).getD 0 [] = bs.take n := by
  cases bs <;> simp [chunksOf]
theorem chunksOf_succ_getD (n k i : Nat) (bs : List Byte) :
    (chunksOf n (k + 1) bs).getD (i + 1) [] = (chunksOf n k (bs.drop n)).getD i [] := by
  cases bs with
  | nil => cases k <;> simp [chunksOf]
  | cons b r => simp [chunksOf]
theorem length_getD_chunksOf_le (n k : Nat) : ∀ (bs : List Byte) (i : Nat), ((chunksOf n k bs).getD i []).length ≤ n := by
  induction k with
  | zero => intro bs i; simp [chunksOf]
  | succ k ih =>
    intro bs i
    cases i with
    | zero => rw [chunksOf_zero_getD]; exact List.length_take_le ..
    | succ i => rw [chunksOf_succ_getD]; exact ih ..
/-- The pieces of a byte string, each filled to its length, are the string filled to theirs. -/
theorem flatMap_chunksOf (n k : Nat) : ∀ bs : List Byte,
    (List.range k).flatMap (fun i => fitBytes n ((chunksOf n k bs).getD i [])) = fitBytes (n * k) bs := by
  induction k with
  | zero => intro bs; simp [fitBytes]
  | succ k ih =>
    intro bs
    rw [List.range_succ_eq_map, List.flatMap_cons, List.flatMap_map, chunksOf_zero_getD]
    simp only [chunksOf_succ_getD, Nat.succ_eq_add_one, ih, fitBytes_add]
    rw [Nat.mul_succ, Nat.add_comm]

theorem State.putWords_only (ws : List Nat) : ∀ (s : State) (a : Nat), s.putWords a ws = { s with regs := (s.putWords a ws).regs } := by
  induction ws with
  | nil => intro s a; rfl
  | cons w r ih => intro s a; exact ih ..
theorem State.rget_putWords_other (ws : List Nat) {b : Nat} : ∀ (s : State) (a : Nat), b < a ∨ a + 8 * ws.length ≤ b →
    (s.putWords a ws).rget b = s.rget b := by
  induction ws with
  | nil => intro s a h; rfl
  | cons w r ih =>
    intro s a h
    simp only [List.length_cons] at h
    rw [State.putWords, ih _ _ (by omega), State.rget_rset_other _ _ (by omega)]
theorem State.rget_putWords (ws : List Nat) : ∀ (s : State) (a i : Nat), i < ws.length →
    (s.putWords a ws).rget (a + 8 * i) = BitVec.ofNat 64 (ws.getD i 0) := by
  induction ws with
  | nil => intro s a i h; simp at h
  | cons w r ih =>
    intro s a i h
    cases i with
    | zero => rw [State.putWords, State.rget_putWords_other _ _ _ (by omega)]; simp
    | succ i =>
      have hi := ih (s.rset a (BitVec.ofNat 64 w)) (a + 8) i (by simpa using h)
      rw [State.putWords, show a + 8 * (i + 1) = a + 8 + 8 * i by omega, hi, List.getD_cons_succ]

/-! ## Operations that change registers, noted bits and messages only -/

/-- Only registers, the note of bits that hardware set (R13) and messages sent have changed. -/
def OnlyRegs (s t : State) : Prop := ∃ r w m, t = { s with regs := r, hwSet := w, msi := m }

theorem OnlyRegs.trans {s t u : State} (h1 : OnlyRegs s t) (h2 : OnlyRegs t u) : OnlyRegs s u := by
  obtain ⟨_, _, _, rfl⟩ := h1
  obtain ⟨r, w, m, rfl⟩ := h2
  exact ⟨r, w, m, rfl⟩
theorem OnlyRegs.eq {s t : State} (h : OnlyRegs s t) : t = { s with regs := t.regs, hwSet := t.hwSet, msi := t.msi } := by
  obtain ⟨r, w, m, rfl⟩ := h
  rfl
theorem OnlyRegs.sameCompute {s t : State} (h : OnlyRegs s t) : SameCompute s t := by
  obtain ⟨r, w, m, rfl⟩ := h
  exact ⟨rfl, rfl, rfl⟩
theorem OnlyRegs.mbQueue {s t : State} (h : OnlyRegs s t) : t.mbQueue = s.mbQueue := by
  obtain ⟨r, w, m, rfl⟩ := h
  rfl
theorem OnlyRegs.refl (s : State) : OnlyRegs s s := ⟨s.regs, s.hwSet, s.msi, rfl⟩
theorem OnlyRegs.rset (s : State) (a : Nat) (v : Reg64) : OnlyRegs s (s.rset a v) := ⟨_, s.hwSet, s.msi, rfl⟩
theorem OnlyRegs.wf (s : State) (a : Nat) (f : Fld) (v : Nat) : OnlyRegs s (s.wf a f v) := OnlyRegs.rset ..
theorem OnlyRegs.note (s : State) (a : Nat) (m : Reg64) : OnlyRegs s (s.note a m) := ⟨s.regs, _, s.msi, rfl⟩
theorem OnlyRegs.raise (s : State) (a : Nat) (f : Fld) (v : Nat) : OnlyRegs s (s.raise a f v) :=
  (OnlyRegs.wf ..).trans (OnlyRegs.note ..)
theorem OnlyRegs.sendMsi (s : State) (fn v : Nat) : OnlyRegs s (s.sendMsi fn v) := ⟨s.regs, s.hwSet, _, rfl⟩
theorem OnlyRegs.regsReset (s : State) (lo hi : Nat) : OnlyRegs s (s.regsReset lo hi) := ⟨_, s.hwSet, s.msi, rfl⟩
theorem OnlyRegs.putWords (ws : List Nat) : ∀ (s : State) (a : Nat), OnlyRegs s (s.putWords a ws) := by
  induction ws with
  | nil => intro s a; exact .refl s
  | cons w r ih => intro s a; exact (OnlyRegs.rset ..).trans (ih ..)

/-! ## Responses (R339, R340) -/

theorem State.rget_regsReset (s : State) (lo hi a : Nat) :
    (s.regsReset lo hi).rget a = if lo ≤ a ∧ a < hi then regReset a else s.rget a := Tab.get_drop ..

/-- The response buffer holds a response (R340). -/
def State.respFill (s : State) (fn : Nat) (bs : List Byte) : State :=
  (s.regsReset (respBase fn) (respBase fn + 0x1000)).putWords (respBase fn) ((chunksOf 8 512 bs).map leNat)
/-- A status register `a` shows an answer (R340). -/
def State.statDone (s : State) (a seq st : Nat) : State :=
  (((s.wf a HD_MB_STAT_STATUS st).wf a HD_MB_STAT_SEQ seq).wf a HD_MB_STAT_BUSY 0).raise a HD_MB_STAT_DONE 1
/-- Vector 0 of a function is sent where it is wanted (R340). -/
def State.mbIrq (s : State) (fn : Nat) : State := if s.rb (HD_MB_CTL fn) HD_MB_CTL_MB_IRQ then s.sendMsi fn 0 else s
theorem State.putResponse_eq (s : State) (fn seq st : Nat) (bs : List Byte) :
    s.putResponse fn seq st bs = ((s.respFill fn bs).statDone (HD_MB_STAT fn) seq st).mbIrq fn := by
  unfold State.putResponse State.respFill State.statDone State.mbIrq
  rfl

theorem State.statDone_onlyRegs (s : State) (a seq st : Nat) : OnlyRegs s (s.statDone a seq st) :=
  (((OnlyRegs.wf ..).trans (.wf ..)).trans (.wf ..)).trans (.raise ..)
theorem State.mbIrq_onlyRegs (s : State) (fn : Nat) : OnlyRegs s (s.mbIrq fn) := by
  unfold State.mbIrq
  split
  · exact .sendMsi ..
  · exact .refl s
theorem State.putResponse_onlyRegs (s : State) (fn seq st : Nat) (bs : List Byte) : OnlyRegs s (s.putResponse fn seq st bs) := by
  rw [State.putResponse_eq]
  exact (((OnlyRegs.regsReset ..).trans (.putWords ..)).trans (State.statDone_onlyRegs ..)).trans (State.mbIrq_onlyRegs ..)
@[simp] theorem State.rget_mbIrq (s : State) (fn a : Nat) : (s.mbIrq fn).rget a = s.rget a := by
  unfold State.mbIrq
  split <;> rfl
theorem State.rget_statDone_other (s : State) (seq st : Nat) {a b : Nat} (h : b ≠ a) : (s.statDone a seq st).rget b = s.rget b := by
  rw [State.statDone, State.rget_raise_other _ _ _ h, State.rget_wf_other _ _ _ h, State.rget_wf_other _ _ _ h,
    State.rget_wf_other _ _ _ h]
theorem State.rget_statDone_same (s : State) (a seq st : Nat) : ∃ v, (s.statDone a seq st).rget a =
    HD_MB_STAT_DONE.put (HD_MB_STAT_BUSY.put (HD_MB_STAT_SEQ.put (HD_MB_STAT_STATUS.put (s.rget a) st) seq) 0) (v ||| 1) :=
  ⟨_, by rw [State.statDone, State.raise, State.rget_note, State.rget_wf_same, State.rget_wf_same, State.rget_wf_same,
    State.rget_wf_same]⟩
/-- Beside its status register a response is the words of its buffer. -/
theorem State.rget_putResponse (s : State) (fn seq st : Nat) (bs : List Byte) {a : Nat} (h : a ≠ HD_MB_STAT fn) :
    (s.putResponse fn seq st bs).rget a = (s.respFill fn bs).rget a := by
  rw [State.putResponse_eq, State.rget_mbIrq, State.rget_statDone_other _ _ _ h]
theorem length_chunksOf_le (n k : Nat) : ∀ bs : List Byte, (chunksOf n k bs).length ≤ k := by
  induction k with
  | zero => intro bs; simp [chunksOf]
  | succ k ih =>
    intro bs
    cases bs with
    | nil => simp [chunksOf]
    | cons b r => simpa [chunksOf] using ih _
theorem State.rget_putResponse_other (s : State) (fn seq st : Nat) (bs : List Byte) {a : Nat} (h : a ≠ HD_MB_STAT fn)
    (hr : a < respBase fn ∨ respBase fn + 0x1000 ≤ a) : (s.putResponse fn seq st bs).rget a = s.rget a := by
  have hlen := length_chunksOf_le 8 512 bs
  rw [s.rget_putResponse fn seq st bs h, State.respFill, State.rget_putWords_other _ _ _ (by rw [List.length_map]; omega),
    State.rget_regsReset, if_neg (by omega)]
/-- Word `i` of the response buffer is piece `i` of the response, filled with zero bytes. -/
theorem State.rget_putResponse_word (s : State) (fn seq st : Nat) (bs : List Byte) {i : Nat} (hi : i < 512) :
    (s.putResponse fn seq st bs).rget (respBase fn + 8 * i) = BitVec.ofNat 64 (leNat ((chunksOf 8 512 bs).getD i [])) := by
  rw [State.rget_putResponse _ _ _ _ _ (by unfold respBase HD_MB_STAT; omega), State.respFill]
  by_cases hl : i < ((chunksOf 8 512 bs).map leNat).length
  · rw [State.rget_putWords _ _ _ _ hl]
    rw [List.length_map] at hl
    simp [hl]
  · have hreset : regReset (respBase fn + 8 * i) = 0 := by
      rw [respBase, Nat.add_assoc]
      exact regReset_bar0_buffer fn (by omega) (by omega)
    rw [State.rget_putWords_other _ _ _ (by omega), State.rget_regsReset, if_pos (by omega), hreset]
    rw [List.length_map] at hl
    simp [hl, leNat]
theorem State.respOf_putResponse (s : State) (fn seq st : Nat) (bs : List Byte) :
    (s.putResponse fn seq st bs).respOf fn = fitBytes 4096 bs := by
  rw [← flatMap_chunksOf 8 512 bs]
  refine congrArg List.flatten (List.map_congr_left fun i hi => ?_)
  have hlen := length_getD_chunksOf_le 8 512 bs i
  have hlt : leNat ((chunksOf 8 512 bs).getD i []) < 2 ^ 64 :=
    (leNat_lt _).trans_le (Nat.pow_le_pow_right (by omega) hlen)
  rw [s.rget_putResponse_word fn seq st bs (List.mem_range.1 hi), BitVec.toNat_ofNat, Nat.mod_eq_of_lt hlt,
    leBytes_leNat 8 _ hlen]

/-- A command from a PCIe function whose response is wanted is answered in its mailbox (R340). -/
theorem State.complete_answered (s : State) (e : MbEnt) (m : Mail) (st : Nat) (pl : List Byte) (hdrop : e.drop = false)
    (hsrc : e.src = m.src.val) (hfn : m.src.val ≤ 8) (hhdr : e.hdr = m.hdr) (hst : st < 256) : Answered (s.complete e st pl) m st pl := by
  have hc : s.complete e st pl = s.putResponse m.src.val m.hdr.seq.toNat st (mbResponse m.hdr st pl) := by
    simp [State.complete, hdrop, hsrc, hfn, hhdr]
  have hseq := m.hdr.seq.isLt
  obtain ⟨v, hw⟩ := (s.respFill m.src.val (mbResponse m.hdr st pl)).rget_statDone_same (HD_MB_STAT m.src.val) m.hdr.seq.toNat st
  rw [← State.rget_mbIrq _ m.src.val, ← State.putResponse_eq, ← hc] at hw
  refine ⟨?_, ?_, ?_, ?_, hc ▸ State.respOf_putResponse ..⟩ <;> rw [State.rf, hw]
  · rw [Fld.get_put_other _ _ _ _ (by decide) (by decide), Fld.get_put_other _ _ _ _ (by decide) (by decide),
      Fld.get_put_other _ _ _ _ (by decide) (by decide), Fld.get_put_same _ _ _ (by decide)]
    exact Nat.mod_eq_of_lt hst
  · rw [Fld.get_put_other _ _ _ _ (by decide) (by decide), Fld.get_put_other _ _ _ _ (by decide) (by decide),
      Fld.get_put_same _ _ _ (by decide)]
    exact Nat.mod_eq_of_lt hseq
  · rw [Fld.get_put_other _ _ _ _ (by decide) (by decide), Fld.get_put_same _ _ _ (by decide)]
    exact Nat.zero_mod _
  · rw [Fld.get_put_same _ _ _ (by decide)]
    exact Nat.or_mod_two_eq_one.2 (.inr rfl)
theorem State.complete_onlyRegs (s : State) (e : MbEnt) (st : Nat) (pl : List Byte) (hfn : e.src ≤ 8) :
    OnlyRegs s (s.complete e st pl) := by
  simp only [State.complete, if_pos hfn]
  split
  · exact .refl s
  · exact State.putResponse_onlyRegs ..

/-! ## What making a record can change (R354, R376 to R380) -/

/-- Only what records are kept in has changed: the flash buffer, windows, numbers, event queues, interrupts owed, the
control packets of a tether, and counters. -/
def OnlyRecords (s t : State) : Prop :=
  (∃ r w n b ws e c, t = { s with regs := r, hwSet := w, recSeq := n, recBuf := b, windows := ws, evPend := e, ctlOut := c }) ∧
  ∀ a, a < 0x1000000 → isEvc a = false → t.rget a = s.rget a

theorem OnlyRecords.refl (s : State) : OnlyRecords s s :=
  ⟨⟨s.regs, s.hwSet, s.recSeq, s.recBuf, s.windows, s.evPend, s.ctlOut, rfl⟩, fun _ _ _ => rfl⟩
theorem OnlyRecords.trans {s t u : State} (h1 : OnlyRecords s t) (h2 : OnlyRecords t u) : OnlyRecords s u := by
  obtain ⟨⟨_, _, _, _, _, _, _, rfl⟩, hr1⟩ := h1
  obtain ⟨⟨r, w, n, b, ws, e, c, rfl⟩, hr2⟩ := h2
  exact ⟨⟨r, w, n, b, ws, e, c, rfl⟩, fun a ha he => (hr2 a ha he).trans (hr1 a ha he)⟩
theorem OnlyRecords.sameCompute {s t : State} (h : OnlyRecords s t) : SameCompute s t := by
  obtain ⟨⟨_, _, _, _, _, _, _, rfl⟩, _⟩ := h
  exact ⟨rfl, rfl, rfl⟩
theorem OnlyRecords.readOut {s t : State} (h : OnlyRecords s t) : t.readOut = s.readOut := by
  obtain ⟨⟨_, _, _, _, _, _, _, rfl⟩, _⟩ := h
  rfl
theorem OnlyRecords.rget {s t : State} (h : OnlyRecords s t) {a : Nat} (ha : a < 0x1000000) (he : isEvc a = false) :
    t.rget a = s.rget a := h.2 a ha he

theorem HD_EVC_range_of_isEvc_false {a : Nat} (h : isEvc a = false) : a < HD_EVC 0 ∨ HD_EVC 0 + 8 * 32 ≤ a := by
  simp [isEvc] at h
  unfold HD_EVC
  omega
theorem OnlyRecords.hdEvc (s : State) (code n : Nat) : OnlyRecords s (s.hdEvc code n) := by
  refine ⟨?_, fun a _ he => State.rget_evc _ _ _ _ _ _ _ (HD_EVC_range_of_isEvc_false he)⟩
  obtain ⟨r, w, h⟩ := s.evc_only (HD_EVC 0) 32 code (fun sc => sc ≤ 8) n
  exact ⟨r, w, s.recSeq, s.recBuf, s.windows, s.evPend, s.ctlOut, h⟩
theorem OnlyRecords.wf_bar0 (s : State) {a : Nat} (f : Fld) (v : Nat) (h : 0x1000000 ≤ a) : OnlyRecords s (s.wf a f v) :=
  ⟨⟨_, s.hwSet, s.recSeq, s.recBuf, s.windows, s.evPend, s.ctlOut, rfl⟩, fun _ hb _ => s.rget_wf_other f v (by omega)⟩
theorem OnlyRecords.putWords_bar0 (s : State) {a : Nat} (ws : List Nat) (h : 0x1000000 ≤ a) : OnlyRecords s (s.putWords a ws) :=
  ⟨⟨_, s.hwSet, s.recSeq, s.recBuf, s.windows, s.evPend, s.ctlOut, State.putWords_only ..⟩,
    fun _ hb _ => State.rget_putWords_other ws s a (by omega)⟩
theorem OnlyRecords.evPend (s : State) (e : BitVec 9) : OnlyRecords s { s with evPend := e } :=
  ⟨⟨s.regs, s.hwSet, s.recSeq, s.recBuf, s.windows, e, s.ctlOut, rfl⟩, fun _ _ _ => rfl⟩
theorem OnlyRecords.ctlOut (s : State) (c : List (Nat × Nat × List Byte)) : OnlyRecords s { s with ctlOut := c } :=
  ⟨⟨s.regs, s.hwSet, s.recSeq, s.recBuf, s.windows, s.evPend, c, rfl⟩, fun _ _ _ => rfl⟩
theorem OnlyRecords.windows (s : State) (ws : List (Nat × Window)) : OnlyRecords s { s with windows := ws } :=
  ⟨⟨s.regs, s.hwSet, s.recSeq, s.recBuf, ws, s.evPend, s.ctlOut, rfl⟩, fun _ _ _ => rfl⟩
theorem OnlyRecords.numbered (s : State) (n : Nat) (b : List FaultRec) : OnlyRecords s { s with recSeq := n, recBuf := b } :=
  ⟨⟨s.regs, s.hwSet, n, b, s.windows, s.evPend, s.ctlOut, rfl⟩, fun _ _ _ => rfl⟩

theorem OnlyRecords.queueEvent (s : State) (fn : Nat) (r : FaultRec) : OnlyRecords s (s.queueEvent fn r) := by
  have htail : 0x1000000 ≤ HD_EVQ_TAIL fn := by unfold HD_EVQ_TAIL; omega
  have hentry (i : Nat) : 0x1000000 ≤ evqEntry fn i := by unfold evqEntry; omega
  unfold State.queueEvent
  dsimp only
  split
  · exact OnlyRecords.wf_bar0 _ _ _ htail
  · have hput := (OnlyRecords.putWords_bar0 s (recWords (recBytes r)) (hentry (s.rf (HD_EVQ_TAIL fn) HD_EVQ_TAIL_TAIL))).trans
      (OnlyRecords.wf_bar0 _ HD_EVQ_TAIL_TAIL ((s.rf (HD_EVQ_TAIL fn) HD_EVQ_TAIL_TAIL + 1) % 256) htail)
    split
    · exact hput.trans (.evPend ..)
    · exact hput
theorem OnlyRecords.deliver (s : State) (r : FaultRec) : OnlyRecords s (s.deliver r) := by
  unfold State.deliver
  dsimp only
  split
  · exact (OnlyRecords.queueEvent ..).trans (.queueEvent ..)
  · exact .queueEvent ..
theorem OnlyRecords.emit (s : State) (r : FaultRec) : OnlyRecords s (s.emit r) := by
  unfold State.emit
  dsimp only
  refine OnlyRecords.trans ?_ (.deliver ..)
  have hnum (b : List FaultRec) := (OnlyRecords.numbered s (s.recSeq + 1) b).trans (.hdEvc _ 0x03 1)
  split
  · split
    · exact hnum _
    · exact (hnum _).trans (.ctlOut ..)
  · exact hnum _
theorem OnlyRecords.openWindow (s : State) (r : FaultRec) (count : Nat) : OnlyRecords s (s.openWindow r count) := by
  unfold State.openWindow
  dsimp only
  split
  · exact (OnlyRecords.windows ..).trans (.hdEvc ..)
  · exact (OnlyRecords.windows ..).trans (.emit ..)
theorem OnlyRecords.report (s : State) (r : FaultRec) : OnlyRecords s (s.report r) := by
  unfold State.report
  split
  · exact .emit ..
  · split
    · split
      · exact (OnlyRecords.windows ..).trans (.hdEvc ..)
      · exact .openWindow ..
    · exact .openWindow ..
theorem OnlyRecords.event (s : State) (cls code : Nat) (unit ctx : BitVec 16) (status sub addr detail : Nat) :
    OnlyRecords s (s.event cls code unit ctx status sub addr detail) := .report ..

end Sys2Proof.Machine
end

section
/-! PROOF. Host accesses, doorbells, knot watches and function resets (O52). -/
namespace Sys2Proof.Machine

/-! ## Accesses outside a window or of a bad size (R335, R336) -/

/-- An access of a bad size is counted with its function, and no other register changes (R336). -/
theorem State.misalign_spec (s : State) {fn : Nat} (hfn : fn < 9) :
    s.misalign fn = { s with regs := (s.misalign fn).regs } ∧ SameRegsBut s (s.misalign fn) (· = HD_FN_STAT) ∧
      (s.misalign fn).rf HD_FN_STAT HD_FN_STAT_MISALIGN =
        min (s.rf HD_FN_STAT HD_FN_STAT_MISALIGN + 1) HD_FN_STAT_MISALIGN.max ∧
      (s.misalign fn).rf HD_FN_STAT HD_FN_STAT_LAST_FN = fn := by
  refine ⟨rfl, fun a _ ha => ?_, ?_, ?_⟩
  · rw [State.misalign, State.rget_wf_other _ _ _ ha, State.bump, State.rget_wf_other _ _ _ ha]
  · rw [State.misalign, State.rf_wf_field _ _ _ _ _ (by decide) (by decide), State.rf_bump_same _ _ _ _ (by decide)]
  · rw [State.misalign, State.rf_wf_same _ _ _ _ (by decide)]
    exact Nat.mod_eq_of_lt (by omega : fn < 2 ^ 4)
/-- An access outside a window is counted with its function; its record changes no register below BAR0 but counters (R335). -/
theorem State.violate_spec (s : State) {fn : Nat} (hfn : fn < 9) :
    SameCompute s (s.violate fn) ∧ (s.violate fn).readOut = s.readOut ∧
      (∀ a, a < 0x1000000 → isEvc a = false → a ≠ HD_FN_STAT → (s.violate fn).rget a = s.rget a) ∧
      (s.violate fn).rf HD_FN_STAT HD_FN_STAT_LAST_FN = fn ∧
      (s.violate fn).rf HD_FN_STAT HD_FN_STAT_VIOL = min (s.rf HD_FN_STAT HD_FN_STAT_VIOL + 1) HD_FN_STAT_VIOL.max := by
  have hcount : OnlyRecords { (s.bump HD_FN_STAT HD_FN_STAT_VIOL 1).wf HD_FN_STAT HD_FN_STAT_LAST_FN fn with free := s.free + 5 }
      (s.violate fn) := .event ..
  have hstat : (s.violate fn).rget HD_FN_STAT =
      ((s.bump HD_FN_STAT HD_FN_STAT_VIOL 1).wf HD_FN_STAT HD_FN_STAT_LAST_FN fn).rget HD_FN_STAT :=
    hcount.rget (by decide) (by decide)
  refine ⟨hcount.sameCompute, hcount.readOut, fun a ha he hne => ?_, ?_, ?_⟩
  · refine (hcount.rget ha he).trans ?_
    show ((s.bump HD_FN_STAT HD_FN_STAT_VIOL 1).wf HD_FN_STAT HD_FN_STAT_LAST_FN fn).rget a = s.rget a
    rw [State.rget_wf_other _ _ _ hne, State.bump, State.rget_wf_other _ _ _ hne]
  · rw [State.rf, hstat, ← State.rf, State.rf_wf_same _ _ _ _ (by decide)]
    exact Nat.mod_eq_of_lt (by omega : fn < 2 ^ 4)
  · rw [State.rf, hstat, ← State.rf, State.rf_wf_field _ _ _ _ _ (by decide) (by decide), State.rf_bump_same _ _ _ _ (by decide)]

/-! ## Writes by access type (R9) -/

/-- Words that agree in the bits of a field give it one value. -/
theorem Fld.get_congr (f : Fld) {u v : Reg64} (h : ∀ i, f.mask.getLsbD i = true → u.getLsbD i = v.getLsbD i) : f.get u = f.get v := by
  apply Nat.eq_of_testBit_eq
  intro i
  rw [Fld.testBit_get, Fld.testBit_get]
  by_cases hi : i < f.w
  · by_cases h64 : f.lo + i < 64
    · rw [h (f.lo + i) (by simp [Fld.getLsbD_mask, h64, hi])]
    · rw [BitVec.getLsbD_of_ge _ _ (by omega), BitVec.getLsbD_of_ge _ _ (by omega)]
  · simp [hi]
theorem getLsbD_of_and_eq_self {m u : Reg64} (h : m &&& u = m) {i : Nat} (hi : m.getLsbD i = true) : u.getLsbD i = true := by
  rw [← h, BitVec.getLsbD_and, Bool.and_eq_true] at hi
  exact hi.2
theorem getLsbD_of_and_eq_zero {m u : Reg64} (h : m &&& u = 0#64) {i : Nat} (hi : m.getLsbD i = true) : u.getLsbD i = false := by
  have hbit := congrArg (BitVec.getLsbD · i) h
  simpa only [BitVec.getLsbD_and, hi, Bool.true_and, BitVec.getLsbD_zero] using hbit

/-- A register after a plain write of 8 bytes (R9). -/
def State.plainReg (s : State) (a : Nat) (r : RegRow) (v : Reg64) : Reg64 :=
  plainWord (s.rget a) (s.setBitsOf a r) (s.clearBits a r) (BitVec.allOnes 64) v

theorem State.setBitsOf_of_no_lock (s : State) (a : Nat) {r : RegRow} (h : r.bits .rwl = 0#64) : s.setBitsOf a r = r.bits .rw := by
  unfold State.setBitsOf
  split
  · rfl
  · rw [h, BitVec.or_zero]
/-- Without locked fields the bits that may be set are the written ones, and of the others those that are cleared are gone. -/
theorem State.plainReg_eq (s : State) (a : Nat) {r : RegRow} (v : Reg64) (hl : r.bits .rwl = 0#64) :
    s.plainReg a r v = ((s.rget a &&& ~~~r.bits .rw) ||| (v &&& r.bits .rw)) &&& ~~~(v &&& s.clearBits a r) := by
  simp only [State.plainReg, plainWord, s.setBitsOf_of_no_lock a hl, BitVec.and_allOnes]
theorem State.getLsbD_plainReg (s : State) (a : Nat) {r : RegRow} (v : Reg64) (hl : r.bits .rwl = 0#64) {i : Nat} (hi : i < 64)
    (hw1c : (r.bits .w1c).getLsbD i = false) :
    (s.plainReg a r v).getLsbD i = if (r.bits .rw).getLsbD i then v.getLsbD i else (s.rget a).getLsbD i := by
  simp only [s.plainReg_eq a v hl, State.clearBits, BitVec.getLsbD_and, BitVec.getLsbD_or, BitVec.getLsbD_not, hi, hw1c]
  cases (r.bits .rw).getLsbD i <;> simp

/-- A writable field takes the written value. -/
theorem State.get_plainReg_rw (s : State) (a : Nat) {r : RegRow} (v : Reg64) {f : Fld} (hl : r.bits .rwl = 0#64)
    (hrw : f.mask &&& r.bits .rw = f.mask) (hw1c : f.mask &&& r.bits .w1c = 0#64) : f.get (s.plainReg a r v) = f.get v := by
  refine Fld.get_congr f fun i hi => ?_
  rw [s.getLsbD_plainReg a v hl (BitVec.lt_of_getLsbD hi) (getLsbD_of_and_eq_zero hw1c hi), getLsbD_of_and_eq_self hrw hi, if_pos rfl]
/-- A field that is neither writable nor cleared by writing keeps its value. -/
theorem State.get_plainReg_ro (s : State) (a : Nat) {r : RegRow} (v : Reg64) {f : Fld} (hl : r.bits .rwl = 0#64)
    (hrw : f.mask &&& r.bits .rw = 0#64) (hw1c : f.mask &&& r.bits .w1c = 0#64) : f.get (s.plainReg a r v) = f.get (s.rget a) := by
  refine Fld.get_congr f fun i hi => ?_
  rw [s.getLsbD_plainReg a v hl (BitVec.lt_of_getLsbD hi) (getLsbD_of_and_eq_zero hw1c hi), getLsbD_of_and_eq_zero hrw hi,
    if_neg Bool.false_ne_true]
/-- A register without writable fields loses the W1C bits written 1 that hardware has not set in the same tick (R13). -/
theorem State.plainReg_w1c (s : State) (a : Nat) {r : RegRow} (v : Reg64) (hl : r.bits .rwl = 0#64) (hrw : r.bits .rw = 0#64) :
    s.plainReg a r v = s.rget a &&& ~~~(v &&& s.clearBits a r) := by
  rw [s.plainReg_eq a v hl, hrw, BitVec.not_zero, BitVec.and_allOnes, BitVec.and_zero, BitVec.or_zero]

/-! ## Whole-register writes, by register -/

theorem State.rset_frame (s : State) (a : Nat) (v : Reg64) :
    s.rset a v = { s with regs := (s.rset a v).regs } ∧ SameRegsBut s (s.rset a v) (· = a) :=
  ⟨rfl, fun _ _ hb => s.rget_rset_other v hb⟩

/-- The registers of a core below its shuttle registers take a plain write. -/
theorem State.regWrite_core (s : State) (fn : Nat) {c o : Nat} {r : RegRow} (v : Reg64) (hc : c < 2048) (ho : o < 0x100)
    (hrow : regRow? (0x1000 * c + o) = some r) : s.regWrite fn (0x1000 * c + o) (BitVec.allOnes 64) v =
      s.rset (0x1000 * c + o) (s.plainReg (0x1000 * c + o) r v) := by
  have hq : (0x1000 * c + o) / 0x1000 = c := by omega
  simp only [State.regWrite, hrow, blkOf_core hc (show o < 0x1000 by omega), hq, State.coreWrite]
  rw [if_neg (by omega), if_neg (by omega), if_neg (by omega), State.plainReg]
/-- So do those of the Heddle below HD_DUMP_SEL. -/
theorem State.regWrite_heddle_low (s : State) (fn : Nat) {o : Nat} {r : RegRow} (v : Reg64) (ho : o < 0x100)
    (hrow : regRow? (0x970000 + o) = some r) : s.regWrite fn (0x970000 + o) (BitVec.allOnes 64) v =
      s.rset (0x970000 + o) (s.plainReg (0x970000 + o) r v) := by
  have hevc : isEvc (0x970000 + o) = false := by
    simp [isEvc]
    omega
  simp only [State.regWrite, hrow, blkOf_heddle (show o < 0x1000 by omega), State.heddleWrite, hevc]
  repeat rw [if_neg (by omega)]
  rw [if_neg (by decide), State.plainReg]
theorem State.regWrite_HD_PWR_CTL (s : State) (fn : Nat) (v : Reg64) : s.regWrite fn HD_PWR_CTL (BitVec.allOnes 64) v =
    s.rset HD_PWR_CTL (HD_PWR_CTL_CAP_W.put (s.plainReg HD_PWR_CTL (rowsHeddle[9]) v)
      (clampTo 1500 2500 (HD_PWR_CTL_CAP_W.get (s.plainReg HD_PWR_CTL (rowsHeddle[9]) v)))) := by
  have hblk : blkOf HD_PWR_CTL = (.heddle, 0x420) := blkOf_heddle (by omega)
  have haddr : 0x970000 + 0x420 = HD_PWR_CTL := rfl
  simp only [State.regWrite, regRow?_HD_PWR_CTL, hblk, State.heddleWrite, haddr, Nat.reduceEqDiff, if_false, if_true,
    State.plainReg]
theorem State.regWrite_CD_GEAR_CTL (s : State) (fn : Nat) (p : PairIx) (v : Reg64) :
    s.regWrite fn (CD_GEAR_CTL p) (BitVec.allOnes 64) v =
      s.rset (CD_GEAR_CTL p) (CD_GEAR_CTL_HOST_REQ.put (s.plainReg (CD_GEAR_CTL p) (rowsPair[0]) v)
        (min 24 (CD_GEAR_CTL_HOST_REQ.get (s.plainReg (CD_GEAR_CTL p) (rowsPair[0]) v)))) := by
  have hblk : blkOf (CD_GEAR_CTL p) = (.pair, 0) := blkOf_pair (o := 0) p.isLt (by omega)
  simp only [State.regWrite, regRow?_CD_GEAR_CTL, hblk, if_true, State.plainReg]
theorem State.regWrite_bar0 (s : State) (fn : Nat) {a o : Nat} {r : RegRow} (v : Reg64) (hrow : regRow? a = some r)
    (hblk : blkOf a = (.bar0, o)) : ∃ e, s.regWrite fn a (BitVec.allOnes 64) v =
      s.bar0Write (a / 0x1000000 - 1) o (s.plainReg a r v) e := by
  simp only [State.regWrite, hrow, hblk]
  exact ⟨_, rfl⟩
theorem State.bar0Write_watch (s : State) {fn v : Nat} (p e : Reg64) (hn : v < watchCount fn) :
    s.bar0Write fn (0x8000 + 0x10 * v) p e = s.kwatchWrite fn v p := by
  have hix : (0x8000 + 0x10 * v - 0x8000) / 16 = v := by omega
  rw [State.bar0Write, if_neg (by omega), if_pos (by omega), hix, if_pos hn]
theorem State.regWrite_HD_KWATCH (s : State) {fn v : Nat} (hv : v < 246) (hn : v < watchCount fn) (w : Reg64) :
    s.regWrite fn (HD_KWATCH fn v) (BitVec.allOnes 64) w =
      s.kwatchWrite fn v (s.plainReg (HD_KWATCH fn v) (rowsBar0[4]) w) := by
  have hfn : HD_KWATCH fn v / 0x1000000 - 1 = fn := by
    unfold HD_KWATCH
    omega
  obtain ⟨e, he⟩ := s.regWrite_bar0 fn w (regRow?_HD_KWATCH fn hv) (blkOf_HD_KWATCH fn hv)
  rw [he, hfn, s.bar0Write_watch _ _ hn]

/-! ## Register accesses of the host (R334 to R336, R409) -/

theorem exec_registerWrite (x : HostAcc) (val : BitVec 64) (s : State) :
    exec (.registerWrite x val) s = execRegisterWrite x val s := rfl
theorem exec_registerRead (x : HostAcc) (s : State) : exec (.registerRead x) s = execRegisterRead x s := rfl
theorem exec_doorbell (fn : FnIx) (s : State) : exec (.doorbell fn) s = execDoorbell fn s := rfl
theorem exec_hdKwatchWrite (fn : FnIx) (v : Fin 246) (val : BitVec 64) (s : State) :
    exec (.hdKwatchWrite fn v val) s = execHdKwatchWrite fn v val s := rfl
theorem exec_knotWatchFire (fn : FnIx) (v : Fin 246) (s : State) : exec (.knotWatchFire fn v) s = execKnotWatchFire fn v s := rfl
theorem exec_eventIrq (fn : FnIx) (s : State) : exec (.eventIrq fn) s = execEventIrq fn s := rfl
theorem exec_functionLevelReset (fn : FnIx) (s : State) : exec (.functionLevelReset fn) s = execFunctionLevelReset fn s := rfl
theorem exec_perstN (s : State) : exec .perstN s = execPerstN s := rfl

theorem State.serves_of_up {s : State} (hr : s.inReset = false) (hs : s.shutdown = false) (fn a : Nat) : s.serves fn a = true := by
  simp [State.serves, hr, hs]

section
variable {x : HostAcc} {s : State} (hr : s.inReset = false) (hs : s.shutdown = false) (hb : accInBar x = true)
include hr hs hb

theorem registerWrite_of_bad_size (val : BitVec 64) (hz : accSized x = false) :
    exec (.registerWrite x val) s = .next (s.misalign x.fn) := by
  simp [exec_registerWrite, execRegisterWrite, hb, State.serves_of_up hr hs, hz]
theorem registerRead_of_bad_size (hz : accSized x = false) :
    exec (.registerRead x) s = .next ({ s with readOut := 0 }.misalign x.fn) := by
  simp [exec_registerRead, execRegisterRead, hb, State.serves_of_up hr hs, hz]
theorem registerWrite_outside (val : BitVec 64) (hz : accSized x = true) (h2 : x.bar2 = true)
    (hw : s.inWindow x.fn (accAddr x) = false) : exec (.registerWrite x val) s = .next (s.violate x.fn) := by
  simp [exec_registerWrite, execRegisterWrite, hb, State.serves_of_up hr hs, hz, h2, hw]
theorem registerRead_outside (hz : accSized x = true) (h2 : x.bar2 = true) (hw : s.inWindow x.fn (accAddr x) = false) :
    exec (.registerRead x) s = .next ({ s with readOut := 0 }.violate x.fn) := by
  simp [exec_registerRead, execRegisterRead, hb, State.serves_of_up hr hs, hz, h2, hw]
theorem registerRead_inside (hz : accSized x = true) (h8 : x.size = 8) (hw : x.bar2 = true → s.inWindow x.fn (accAddr x) = true) :
    exec (.registerRead x) s = .next { s with readOut := s.regRead (accAddr x) } := by
  cases h2 : x.bar2 <;> simp [exec_registerRead, execRegisterRead, hb, State.serves_of_up hr hs, hz, h2, h8, hw]
/-- An 8-byte access to BAR2 reaches the register at its offset. -/
theorem registerWrite_inside (val : BitVec 64) {a : Nat} (h2 : x.bar2 = true) (h8 : x.size = 8) (ha : x.offset.toNat = a)
    (hal : a % 8 = 0) (hw : s.inWindow x.fn a = true) (hh : s.hidden x.fn a = false) :
    exec (.registerWrite x val) s = .next (s.regWrite x.fn a (BitVec.allOnes 64) val) := by
  have hsized : accSized x = true := by simp [accSized, h8, ha, hal]
  have haddr : accAddr x = a := by
    simp only [accAddr, h2, ha, if_true]
    omega
  simp [exec_registerWrite, execRegisterWrite, hb, State.serves_of_up hr hs, hsized, h2, haddr, hw, hh, accMask, accVal, h8]

end

/-- What a read of a register outside the two computed ones gives: its value but its write-only bits (R9). -/
theorem State.regRead_stored (s : State) {a : Nat} (ht : a ≠ HD_TIME_STAT)
    (hd : ¬ (0x910000 ≤ a ∧ a < 0x930000 ∧ a % 0x1000 = 0x110)) :
    s.regRead a = s.rget a &&& ~~~(match regRow? a with | some r => r.bits .wo | none => 0) := by
  rw [State.regRead, if_neg ht, dif_neg hd]
  cases regRow? a with
  | some r => rfl
  | none => exact BitVec.and_allOnes.symm

theorem pairOfAddr_core {c o : Nat} (hc : c < 2048) (ho : o < 0x1000) : pairOfAddr (0x1000 * c + o) = some (pairOf c) := by
  have hq : (0x1000 * c + o) / 0x1000 = c := by omega
  rw [pairOfAddr, if_pos (by omega), hq, pairOf]
theorem pairOfAddr_CD_GEAR_CTL (p : PairIx) : pairOfAddr (CD_GEAR_CTL p) = some p.val := by
  have hp := p.isLt
  have hq : (0x900000 + 0x1000 * p.val - 0x900000) / 0x1000 = p.val := by omega
  rw [pairOfAddr, CD_GEAR_CTL, if_neg (by omega), if_neg (by omega), if_pos (by omega), hq]
theorem pairOfAddr_heddle {a : Nat} (h : 0x970000 ≤ a) : pairOfAddr a = none := by
  rw [pairOfAddr, if_neg (by omega), if_neg (by omega), if_neg (by omega)]
theorem State.inWindow_of_pair {s : State} {fn a p : Nat} (ha : pairOfAddr a = some p) (h : fn ≠ 0 → s.partOfPair p = fn) :
    s.inWindow fn a = true := by
  by_cases h0 : fn = 0
  · simp [State.inWindow, h0]
  · simp [State.inWindow, ha, h h0]
theorem State.hidden_of_pair {s : State} {fn a p : Nat} (ha : pairOfAddr a = some p)
    (h : fn = 0 → s.confidential (s.partOfPair p) = false) : s.hidden fn a = false := by
  by_cases h0 : fn = 0
  · simp [State.hidden, ha, h0, h h0]
  · simp [State.hidden, h0]
theorem State.hidden_of_no_pair {s : State} {fn a : Nat} (ha : pairOfAddr a = none) : s.hidden fn a = false := by
  simp [State.hidden, ha]
theorem State.inWindow_pf0 (s : State) (a : Nat) : s.inWindow 0 a = true := rfl

/-! ### Registers a host writes -/

section
variable {x : HostAcc} {s : State} (hr : s.inReset = false) (hs : s.shutdown = false) (hb : accInBar x = true)
  (h2 : x.bar2 = true) (h8 : x.size = 8)
include hr hs hb h2 h8

theorem registerWrite_HD_HANG (val : BitVec 64) {i : Nat} (h1 : 1 ≤ i) (hi : i ≤ 8) (h0 : x.fn.val = 0)
    (ha : x.offset.toNat = HD_HANG i) : ∃ t, exec (.registerWrite x val) s = .next t ∧
      t = { s with regs := t.regs } ∧ SameRegsBut s t (· = HD_HANG i) ∧ t.rf (HD_HANG i) HD_HANG_LIMIT_US = val.toNat % 2 ^ 32 ∧
      t.rf (HD_HANG i) HD_HANG_HANGS = s.rf (HD_HANG i) HD_HANG_HANGS := by
  have hx := registerWrite_inside hr hs hb val h2 h8 ha (by unfold HD_HANG; omega) (by rw [h0]; exact s.inWindow_pf0 _)
    (State.hidden_of_no_pair (pairOfAddr_heddle (by unfold HD_HANG; omega)))
  have hrow := regRow?_HD_HANG h1 hi
  have hreg : s.regWrite x.fn (HD_HANG i) (BitVec.allOnes 64) val =
      s.rset (HD_HANG i) (s.plainReg (HD_HANG i) (rowsHeddle[4]) val) := by
    rw [HD_HANG_eq] at hrow ⊢
    exact s.regWrite_heddle_low _ val (by omega) hrow
  refine ⟨_, hx.trans (congrArg _ hreg), (s.rset_frame ..).1, (s.rset_frame ..).2, ?_, ?_⟩
  · rw [State.rf_rset_same, s.get_plainReg_rw _ _ (by decide) (by decide) (by decide), Fld.get]
    simp [HD_HANG_LIMIT_US]
  · rw [State.rf_rset_same, s.get_plainReg_ro _ _ (by decide) (by decide) (by decide), State.rf]
theorem registerWrite_HD_PWR_CTL (val : BitVec 64) (h0 : x.fn.val = 0) (ha : x.offset.toNat = HD_PWR_CTL) :
    ∃ t, exec (.registerWrite x val) s = .next t ∧ t = { s with regs := t.regs } ∧
        SameRegsBut s t (· = HD_PWR_CTL) ∧ t.rf HD_PWR_CTL HD_PWR_CTL_CAP_W = max 1500 (min 2500 (val.toNat % 2 ^ 12)) := by
  have hx := registerWrite_inside hr hs hb val h2 h8 ha (by decide) (by rw [h0]; exact s.inWindow_pf0 _)
    (State.hidden_of_no_pair (pairOfAddr_heddle (by decide)))
  have hval : HD_PWR_CTL_CAP_W.get val = val.toNat % 2 ^ 12 := by simp [Fld.get, HD_PWR_CTL_CAP_W]
  refine ⟨_, hx.trans (congrArg _ (s.regWrite_HD_PWR_CTL _ val)), (s.rset_frame ..).1, (s.rset_frame ..).2, ?_⟩
  rw [State.rf_rset_same, Fld.get_put_same _ _ _ (by decide), s.get_plainReg_rw _ _ (by decide) (by decide) (by decide), hval,
    clampTo]
  exact Nat.mod_eq_of_lt (show max 1500 (min 2500 (val.toNat % 2 ^ 12)) < 2 ^ 12 by omega)
theorem registerWrite_CD_HOLD_LIMIT (val : BitVec 64) (c : CoreIx) (ha : x.offset.toNat = CD_HOLD_LIMIT c)
    (hw : x.fn.val ≠ 0 → s.partOfPair (pairOf c) = x.fn.val)
    (hh : x.fn.val = 0 → s.confidential (s.partOfPair (pairOf c)) = false) : ∃ t, exec (.registerWrite x val) s = .next t ∧
        t = { s with regs := t.regs } ∧ SameRegsBut s t (· = CD_HOLD_LIMIT c) ∧
        t.rf (CD_HOLD_LIMIT c) CD_HOLD_LIMIT_LIMIT = val.toNat % 2 ^ 32 := by
  have hpair : pairOfAddr (CD_HOLD_LIMIT c) = some (pairOf c) := pairOfAddr_core c.isLt (by omega)
  have hx := registerWrite_inside hr hs hb val h2 h8 ha (by unfold CD_HOLD_LIMIT; omega) (State.inWindow_of_pair hpair hw)
    (State.hidden_of_pair hpair hh)
  have hreg := s.regWrite_core x.fn val c.isLt (by omega) (regRow?_CD_HOLD_LIMIT c)
  refine ⟨_, hx.trans (congrArg _ hreg), (s.rset_frame ..).1, (s.rset_frame ..).2, ?_⟩
  rw [← CD_HOLD_LIMIT, State.rf_rset_same, s.get_plainReg_rw _ _ (by decide) (by decide) (by decide), Fld.get]
  simp [CD_HOLD_LIMIT_LIMIT]
theorem registerWrite_CD_CORE_FLAGS (val : BitVec 64) (c : CoreIx) (ha : x.offset.toNat = CD_CORE_FLAGS c)
    (hw : x.fn.val ≠ 0 → s.partOfPair (pairOf c) = x.fn.val)
    (hh : x.fn.val = 0 → s.confidential (s.partOfPair (pairOf c)) = false) : ∃ t, exec (.registerWrite x val) s = .next t ∧
        t = { s with regs := t.regs } ∧ SameRegsBut s t (· = CD_CORE_FLAGS c) ∧
        t.rget (CD_CORE_FLAGS c) = s.rget (CD_CORE_FLAGS c) &&& ~~~(val &&& 0x7F &&& ~~~Tab.get 0 s.hwSet (CD_CORE_FLAGS c)) := by
  have hpair : pairOfAddr (CD_CORE_FLAGS c) = some (pairOf c) := pairOfAddr_core c.isLt (by omega)
  have hx := registerWrite_inside hr hs hb val h2 h8 ha (by unfold CD_CORE_FLAGS; omega) (State.inWindow_of_pair hpair hw)
    (State.hidden_of_pair hpair hh)
  have hreg := s.regWrite_core x.fn val c.isLt (by omega) (regRow?_CD_CORE_FLAGS c)
  have hbits : (rowsCore[0]).bits .w1c = 0x7F := by decide
  refine ⟨_, hx.trans (congrArg _ hreg), (s.rset_frame ..).1, (s.rset_frame ..).2, ?_⟩
  rw [← CD_CORE_FLAGS, State.rget_rset_same, s.plainReg_w1c _ _ (by decide) (by decide), State.clearBits, hbits, BitVec.and_assoc]
theorem registerWrite_CD_GEAR_CTL (val : BitVec 64) (p : PairIx) (ha : x.offset.toNat = CD_GEAR_CTL p) (h0 : x.fn.val = 0)
    (hh : s.confidential (s.partOfPair p) = false) : ∃ t, exec (.registerWrite x val) s = .next t ∧
        t = { s with regs := t.regs } ∧ SameRegsBut s t (· = CD_GEAR_CTL p) ∧
        t.rf (CD_GEAR_CTL p) CD_GEAR_CTL_HOST_REQ = min 24 (val.toNat / 2 ^ 16 % 2 ^ 5) ∧
        t.rf (CD_GEAR_CTL p) CD_GEAR_CTL_CUR = s.rf (CD_GEAR_CTL p) CD_GEAR_CTL_CUR := by
  have hx := registerWrite_inside hr hs hb val h2 h8 ha (by unfold CD_GEAR_CTL; omega) (by rw [h0]; exact s.inWindow_pf0 _)
    (State.hidden_of_pair (pairOfAddr_CD_GEAR_CTL p) fun _ => hh)
  have hval : CD_GEAR_CTL_HOST_REQ.get val = val.toNat / 2 ^ 16 % 2 ^ 5 := rfl
  refine ⟨_, hx.trans (congrArg _ (s.regWrite_CD_GEAR_CTL _ p val)), (s.rset_frame ..).1, (s.rset_frame ..).2, ?_, ?_⟩
  · rw [State.rf_rset_same, Fld.get_put_same _ _ _ (by decide), s.get_plainReg_rw _ _ (by decide) (by decide) (by decide), hval]
    exact Nat.mod_eq_of_lt (show min 24 (val.toNat / 2 ^ 16 % 2 ^ 5) < 2 ^ 5 by omega)
  · rw [State.rf_rset_same, Fld.get_put_other _ _ _ _ (by decide) (by decide),
      s.get_plainReg_ro _ _ (by decide) (by decide) (by decide), State.rf]

end

/-! ## Doorbells (R340) -/

theorem SameCompute.trans {s t u : State} (h1 : SameCompute s t) (h2 : SameCompute t u) : SameCompute s u :=
  ⟨h2.1.trans h1.1, h2.2.1.trans h1.2.1, h2.2.2.trans h1.2.2⟩

theorem State.rb_eq_true_of_rf {s : State} {a : Nat} {f : Fld} (h : s.rf a f = 1) : s.rb a f = true := by simp [State.rb, h]
theorem State.rb_eq_false_of_rf {s : State} {a : Nat} {f : Fld} (h : s.rf a f = 0) : s.rb a f = false := by simp [State.rb, h]

theorem State.raise_frame (s : State) (a : Nat) (f : Fld) (v : Nat) :
    s.raise a f v = { s with regs := (s.raise a f v).regs, hwSet := (s.raise a f v).hwSet } ∧ SameRegsBut s (s.raise a f v) (· = a) :=
  ⟨rfl, fun _ _ hb => s.rget_raise_other _ _ hb⟩
/-- The queue entry of a request taken from its buffer `b` (R340, R341). -/
def requestEnt (src tick : Nat) (smbSeq : BitVec 8) (b : List Byte) : MbEnt :=
  ⟨src, tick, hdrOf b, (b.drop 32).take (hdrOf b).length.toNat, false, smbSeq⟩
theorem requestEnt_payload (src tick : Nat) (smbSeq : BitVec 8) (b : List Byte) :
    (requestEnt src tick smbSeq b).payload = (b.drop 32).take (hdrOf b).length.toNat := rfl
theorem State.take1_good (s : State) (src : Nat) (smbSeq : BitVec 8) {b : List Byte} (hgood : (hdrOf b).bad = false)
    (hop : opcodes.contains (hdrOf b).opcode.toNat = true) :
    s.take1 src smbSeq b = s.mbPut (requestEnt src s.tick smbSeq b) := by
  simp only [State.take1, hgood, hop, Bool.not_true, Bool.or_false, Bool.false_eq_true, if_false, requestEnt]
theorem State.take1_bad (s : State) (src : Nat) (smbSeq : BitVec 8) {b : List Byte}
    (hbad : (hdrOf b).bad = true ∨ opcodes.contains (hdrOf b).opcode.toNat = false) :
    s.take1 src smbSeq b = s.complete (requestEnt src s.tick smbSeq b) stBadCommand [] := by
  have hrefuse : ((hdrOf b).bad || !opcodes.contains (hdrOf b).opcode.toNat) = true := by
    rcases hbad with hb | hb
    · rw [hb, Bool.true_or]
    · rw [hb, Bool.not_false, Bool.or_true]
  simp only [State.take1, hrefuse, if_true, requestEnt]
theorem State.mbPut_spec (s : State) (e : MbEnt) : SameCompute s (s.mbPut e) ∧ (s.mbPut e).mbQueue = mbInsert e s.mbQueue ∧
    ∀ a f, (s.mbPut e).rf a f = s.rf a f := ⟨⟨rfl, rfl, rfl⟩, rfl, fun _ _ => rfl⟩

/-- A doorbell while the mailbox is BUSY is noted and ignored. -/
theorem doorbell_busy (fn : FnIx) {s : State} (hr : s.inReset = false) (hbusy : s.rb (HD_MB_STAT fn) HD_MB_STAT_BUSY = true) :
    ∃ t, exec (.doorbell fn) s = .next t ∧ t = { s with regs := t.regs, hwSet := t.hwSet } ∧
      SameRegsBut s t (· = HD_MB_STAT fn) ∧ t.rf (HD_MB_STAT fn) HD_MB_STAT_DB_IGNORED = 1 := by
  have hx : exec (.doorbell fn) s = .next (s.raise (HD_MB_STAT fn) HD_MB_STAT_DB_IGNORED 1) := by
    rw [exec_doorbell, execDoorbell, if_neg (by simp [hr]), State.doorbell, if_pos hbusy]
  refine ⟨_, hx, (s.raise_frame ..).1, (s.raise_frame ..).2, ?_⟩
  rw [State.rf_raise_same _ _ _ _ (by decide)]
  exact Nat.or_mod_two_eq_one.2 (.inr rfl)
theorem exec_doorbell_idle (fn : FnIx) {s : State} (hr : s.inReset = false)
    (hidle : s.rb (HD_MB_STAT fn) HD_MB_STAT_BUSY = false) :
    exec (.doorbell fn) s = .next ((s.wf (HD_MB_STAT fn) HD_MB_STAT_BUSY 1).take1 fn 0 (s.reqBytes fn)) := by
  rw [exec_doorbell, execDoorbell, if_neg (by simp [hr]), State.doorbell, if_neg (by simp [hidle])]
/-- A doorbell with a well-formed request queues it in its place (R341). The state with BUSY set is generalised: what follows
needs its frame only, not the address of its register. -/
theorem doorbell_queues (fn : FnIx) {s : State} {h : MbHdr} (hr : s.inReset = false)
    (hidle : s.rb (HD_MB_STAT fn) HD_MB_STAT_BUSY = false) (hh : h = hdrOf (s.reqBytes fn)) (hgood : h.bad = false)
    (hop : opcodes.contains h.opcode.toNat = true) : ∃ t e, exec (.doorbell fn) s = .next t ∧ SameCompute s t ∧
      t.mbQueue = mbInsert e s.mbQueue ∧ e.src = fn.val ∧ e.tick = s.tick ∧ e.hdr = h ∧
      e.payload = ((s.reqBytes fn).drop 32).take h.length.toNat ∧ t.rb (HD_MB_STAT fn) HD_MB_STAT_BUSY = true := by
  subst hh
  have hwf := OnlyRegs.wf s (HD_MB_STAT fn) HD_MB_STAT_BUSY 1
  have hbusy := s.rf_wf_same (HD_MB_STAT fn) HD_MB_STAT_BUSY 1 (by decide)
  have htick := s.wf_tick (HD_MB_STAT fn) HD_MB_STAT_BUSY 1
  have hx := exec_doorbell_idle fn hr hidle
  generalize s.wf (HD_MB_STAT fn) HD_MB_STAT_BUSY 1 = u at hwf hbusy htick hx
  obtain ⟨hsame, hq, hrf⟩ := u.mbPut_spec (requestEnt fn.val u.tick 0 (s.reqBytes fn))
  refine ⟨_, _, hx.trans (congrArg _ (u.take1_good _ _ hgood hop)), ?_, hq.trans (congrArg _ hwf.mbQueue), rfl, htick, rfl,
    requestEnt_payload .., ?_⟩
  · exact hwf.sameCompute.trans hsame
  · exact State.rb_eq_true_of_rf ((hrf ..).trans hbusy)
/-- A doorbell with a bad header or an unknown opcode is answered with BAD_COMMAND at once. -/
theorem doorbell_refuses (fn : FnIx) {s : State} {h : MbHdr} (hr : s.inReset = false)
    (hidle : s.rb (HD_MB_STAT fn) HD_MB_STAT_BUSY = false) (hh : h = hdrOf (s.reqBytes fn))
    (hbad : h.bad = true ∨ opcodes.contains h.opcode.toNat = false) : ∃ t, exec (.doorbell fn) s = .next t ∧
      t.mbQueue = s.mbQueue ∧ SameCompute s t ∧ Answered t ⟨⟨fn.val, by omega⟩, h, []⟩ stBadCommand [] := by
  subst hh
  have hfn : fn.val ≤ 8 := by omega
  have honly := OnlyRegs.wf s (HD_MB_STAT fn) HD_MB_STAT_BUSY 1
  have hx := exec_doorbell_idle fn hr hidle
  generalize s.wf (HD_MB_STAT fn) HD_MB_STAT_BUSY 1 = u at honly hx
  have hall := honly.trans (u.complete_onlyRegs (requestEnt fn.val u.tick 0 (s.reqBytes fn)) stBadCommand [] hfn)
  exact ⟨_, hx.trans (congrArg _ (u.take1_bad _ _ hbad)), hall.mbQueue, hall.sameCompute,
    State.complete_answered _ _ _ _ _ rfl rfl hfn rfl (by decide)⟩

/-! ## Knot watches and events (R354 to R356, R409) -/

/-- A write of a watch stores it armed where its cluster is permitted, else with ARM 0 and CFGERR. -/
theorem State.kwatchWrite_spec (s : State) (fn v : Nat) (w : Reg64) :
    ∃ u, s.kwatchWrite fn v w = s.rset (HD_KWATCH fn v) u ∧ HD_KWATCH_CLUSTER.get u = HD_KWATCH_CLUSTER.get w ∧
      HD_KWATCH_KNOT.get u = HD_KWATCH_KNOT.get w ∧ HD_KWATCH_THRESH.get u = HD_KWATCH_THRESH.get w ∧
      (HD_KWATCH_ARM.get u = 1 ↔ HD_KWATCH_ARM.get w = 1 ∧ s.watchOk fn (HD_KWATCH_CLUSTER.get w) = true) ∧
      (HD_KWATCH_CFGERR.get u = 1 ↔ HD_KWATCH_ARM.get w = 1 ∧ s.watchOk fn (HD_KWATCH_CLUSTER.get w) = false) := by
  by_cases hbad : HD_KWATCH_ARM.get w = 1 ∧ s.watchOk fn (HD_KWATCH_CLUSTER.get w) = false
  · refine ⟨HD_KWATCH_CFGERR.put (HD_KWATCH_ARM.put w 0) 1, ?_, ?_, ?_, ?_, ?_, ?_⟩
    · simp [State.kwatchWrite, hbad]
    · rw [Fld.get_put_other _ _ _ _ (by decide) (by decide), Fld.get_put_other _ _ _ _ (by decide) (by decide)]
    · rw [Fld.get_put_other _ _ _ _ (by decide) (by decide), Fld.get_put_other _ _ _ _ (by decide) (by decide)]
    · rw [Fld.get_put_other _ _ _ _ (by decide) (by decide), Fld.get_put_other _ _ _ _ (by decide) (by decide)]
    · rw [Fld.get_put_other _ _ _ _ (by decide) (by decide), Fld.get_put_same _ _ _ (by decide)]
      simp [hbad]
    · rw [Fld.get_put_same _ _ _ (by decide)]
      exact iff_of_true rfl hbad
  · refine ⟨HD_KWATCH_CFGERR.put w 0, ?_, ?_, ?_, ?_, ?_, ?_⟩
    · have hno : (HD_KWATCH_ARM.get w == 1 && !s.watchOk fn (HD_KWATCH_CLUSTER.get w)) = false := by simpa using hbad
      simp only [State.kwatchWrite, hno, Bool.false_eq_true, if_false]
    · rw [Fld.get_put_other _ _ _ _ (by decide) (by decide)]
    · rw [Fld.get_put_other _ _ _ _ (by decide) (by decide)]
    · rw [Fld.get_put_other _ _ _ _ (by decide) (by decide)]
    · rw [Fld.get_put_other _ _ _ _ (by decide) (by decide)]
      exact ⟨fun harm => ⟨harm, by simpa [harm] using hbad⟩, And.left⟩
    · rw [Fld.get_put_same _ _ _ (by decide)]
      exact iff_of_false (by decide) hbad
/-- A flag of one bit is set when its field is 1. -/
theorem State.rb_eq_true_iff (s : State) (a : Nat) {f : Fld} (h : f.w = 1) : s.rb a f = true ↔ s.rf a f = 1 := by
  have hlt := f.get_lt (s.rget a)
  rw [h] at hlt
  have hne : s.rf a f ≠ 0 ↔ s.rf a f = 1 := by
    unfold State.rf
    omega
  simpa [State.rb] using hne
theorem hdKwatchWrite_spec (fn : FnIx) (v : Fin 246) (val : BitVec 64) {s : State} (hr : s.inReset = false)
    (hs : s.shutdown = false) (hv : v.val < watchCount fn) : ∃ t, exec (.hdKwatchWrite fn v val) s = .next t ∧
      t = { s with regs := t.regs } ∧ SameRegsBut s t (· = HD_KWATCH fn v) ∧
      t.rf (HD_KWATCH fn v) HD_KWATCH_CLUSTER = HD_KWATCH_CLUSTER.get val ∧ t.rf (HD_KWATCH fn v) HD_KWATCH_KNOT = HD_KWATCH_KNOT.get val ∧
      t.rf (HD_KWATCH fn v) HD_KWATCH_THRESH = HD_KWATCH_THRESH.get val ∧
      (t.rb (HD_KWATCH fn v) HD_KWATCH_ARM = true ↔ HD_KWATCH_ARM.get val = 1 ∧ s.watchOk fn (HD_KWATCH_CLUSTER.get val) = true) ∧
      (t.rb (HD_KWATCH fn v) HD_KWATCH_CFGERR = true ↔
        HD_KWATCH_ARM.get val = 1 ∧ s.watchOk fn (HD_KWATCH_CLUSTER.get val) = false) := by
  have hx : exec (.hdKwatchWrite fn v val) s = .next (s.regWrite fn (HD_KWATCH fn v) (BitVec.allOnes 64) val) := by
    have hno : ¬ (v.val ≥ watchCount fn) := by omega
    simp [exec_hdKwatchWrite, execHdKwatchWrite, State.serves_of_up hr hs, hno]
  obtain ⟨u, hu, hcl, hkn, hth, harm, herr⟩ := s.kwatchWrite_spec fn v (s.plainReg (HD_KWATCH fn v) (rowsBar0[4]) val)
  have hget {f : Fld} (h1 : f.mask &&& (rowsBar0[4]).bits .rw = f.mask) (h2 : f.mask &&& (rowsBar0[4]).bits .w1c = 0#64) :
      f.get (s.plainReg (HD_KWATCH fn v) (rowsBar0[4]) val) = f.get val := s.get_plainReg_rw _ _ (by decide) h1 h2
  rw [hget (by decide) (by decide)] at hcl hkn hth
  rw [hget (by decide) (by decide), hget (by decide) (by decide)] at harm herr
  refine ⟨_, hx.trans (congrArg _ ((s.regWrite_HD_KWATCH v.isLt hv val).trans hu)), (s.rset_frame ..).1, (s.rset_frame ..).2,
    ?_, ?_, ?_, ?_, ?_⟩
  · rw [State.rf_rset_same, hcl]
  · rw [State.rf_rset_same, hkn]
  · rw [State.rf_rset_same, hth]
  · rw [State.rb_eq_true_iff _ _ rfl, State.rf_rset_same, harm]
  · rw [State.rb_eq_true_iff _ _ rfl, State.rf_rset_same, herr]
/-- A watch register `a` fires (R356): FIRED, ARM 0 and a vector. -/
theorem State.watch_fires (s : State) (a fn v : Nat) :
    let t := ((s.raise a HD_KWATCH_FIRED 1).wf a HD_KWATCH_ARM 0).sendMsi fn v
    t = { s with regs := t.regs, hwSet := t.hwSet, msi := t.msi } ∧ t.msi = s.msi ++ [(fn, v)] ∧ t.rb a HD_KWATCH_FIRED = true ∧
      t.rb a HD_KWATCH_ARM = false ∧ SameRegsBut s t (· = a) := by
  have hfired : ((s.raise a HD_KWATCH_FIRED 1).wf a HD_KWATCH_ARM 0).rf a HD_KWATCH_FIRED = 1 := by
    rw [State.rf_wf_field _ _ _ _ _ (by decide) (by decide), s.rf_raise_same _ _ _ (by decide)]
    exact Nat.or_mod_two_eq_one.2 (.inr rfl)
  have harm : ((s.raise a HD_KWATCH_FIRED 1).wf a HD_KWATCH_ARM 0).rf a HD_KWATCH_ARM = 0 := State.rf_wf_same _ _ _ _ (by decide)
  have honly := (OnlyRegs.raise s a HD_KWATCH_FIRED 1).trans (.wf _ a HD_KWATCH_ARM 0)
  have hmsi : ((s.raise a HD_KWATCH_FIRED 1).wf a HD_KWATCH_ARM 0).msi = s.msi := rfl
  have hregs (b : Nat) (hb : b ≠ a) : ((s.raise a HD_KWATCH_FIRED 1).wf a HD_KWATCH_ARM 0).rget b = s.rget b :=
    (State.rget_wf_other _ _ _ hb).trans (s.rget_raise_other _ _ hb)
  generalize (s.raise a HD_KWATCH_FIRED 1).wf a HD_KWATCH_ARM 0 = u at hfired harm honly hmsi hregs ⊢
  exact ⟨(honly.trans (.sendMsi ..)).eq, congrArg (· ++ [(fn, v)]) hmsi, State.rb_eq_true_of_rf hfired,
    State.rb_eq_false_of_rf harm, fun b _ hb => hregs b hb⟩
/-- An armed watch fires once its threshold is met. -/
theorem knotWatchFire_at_threshold (fn : FnIx) (v : Fin 246) {s : State} (harm : s.rb (HD_KWATCH fn v) HD_KWATCH_ARM = true)
    (hmet : s.rf (HD_KWATCH fn v) HD_KWATCH_THRESH ≤
      s.knotCount (s.rf (HD_KWATCH fn v) HD_KWATCH_CLUSTER) (s.rf (HD_KWATCH fn v) HD_KWATCH_KNOT)) :
    ∃ t, exec (.knotWatchFire fn v) s = .next t ∧ t = { s with regs := t.regs, hwSet := t.hwSet, msi := t.msi } ∧
      t.msi = s.msi ++ [(fn.val, 2 + v.val)] ∧ t.rb (HD_KWATCH fn v) HD_KWATCH_FIRED = true ∧
      t.rb (HD_KWATCH fn v) HD_KWATCH_ARM = false ∧ SameRegsBut s t (· = HD_KWATCH fn v) :=
  ⟨_, by rw [exec_knotWatchFire, execKnotWatchFire, if_pos ⟨harm, hmet⟩], s.watch_fires (HD_KWATCH fn v) fn (2 + v)⟩
theorem knotWatchFire_below_threshold (fn : FnIx) (v : Fin 246) {s : State}
    (hlow : s.knotCount (s.rf (HD_KWATCH fn v) HD_KWATCH_CLUSTER) (s.rf (HD_KWATCH fn v) HD_KWATCH_KNOT) <
      s.rf (HD_KWATCH fn v) HD_KWATCH_THRESH) : exec (.knotWatchFire fn v) s = .next s := by
  rw [exec_knotWatchFire, execKnotWatchFire, if_neg]
  exact fun h => absurd h.2 (Nat.not_le.2 hlow)

/-- The mask of one function among the nine. -/
theorem getLsbD_fnMask {fn : Nat} (hfn : fn < 9) (i : Nat) : (BitVec.ofNat 9 (2 ^ fn)).getLsbD i = decide (fn = i) := by
  rw [BitVec.getLsbD_ofNat, Nat.testBit_two_pow]
  by_cases h : fn = i
  · simp [h ▸ hfn, h]
  · simp [h]
theorem getLsbD_clear_fn (e : BitVec 9) {fn : Nat} (hfn : fn < 9) (i : Nat) :
    (e &&& ~~~BitVec.ofNat 9 (2 ^ fn)).getLsbD i = (e.getLsbD i && !decide (fn = i)) := by
  rw [BitVec.getLsbD_and, BitVec.getLsbD_not, getLsbD_fnMask hfn]
  by_cases hi : i < 9
  · simp [hi]
  · simp [hi, BitVec.getLsbD_of_ge e i (by omega)]
/-- A function that is owed vector 1 gets it once (R354). -/
theorem eventIrq_owed (fn : FnIx) {s : State} (howed : s.evPend.getLsbD fn = true) : ∃ t, exec (.eventIrq fn) s = .next t ∧
    t.msi = s.msi ++ [(fn.val, 1)] ∧ t.evPend.getLsbD fn = false ∧ t = { s with msi := t.msi, evPend := t.evPend } := by
  refine ⟨_, by rw [exec_eventIrq, execEventIrq, if_pos howed], rfl, ?_, rfl⟩
  exact (getLsbD_clear_fn s.evPend fn.isLt fn.val).trans (by simp)

/-! ## Function resets (R333, R385, R403) -/

/-- What a Function Level Reset may change: registers, queued commands' responses and interrupts owed. -/
def OnlyFunctions (s t : State) : Prop :=
  (∃ r q l f e, t = { s with regs := r, mbQueue := q, late := l, forwarded := f, evPend := e }) ∧
  ∀ a, a < 0x1000000 → t.rget a = s.rget a

theorem State.rget_flr (s : State) (fn a : Nat) : (s.flr fn).rget a =
    if 0x1000000 * (fn + 1) ≤ a ∧ a < 0x1000000 * (fn + 1) + 0x10000 then regReset a else s.rget a := State.rget_regsReset ..
theorem State.flr_onlyFunctions (s : State) (fn : Nat) : OnlyFunctions s (s.flr fn) := by
  refine ⟨⟨_, _, _, _, _, rfl⟩, fun a ha => ?_⟩
  rw [State.rget_flr, if_neg (by omega)]
theorem OnlyFunctions.trans {s t u : State} (h1 : OnlyFunctions s t) (h2 : OnlyFunctions t u) : OnlyFunctions s u := by
  obtain ⟨⟨_, _, _, _, _, rfl⟩, hr1⟩ := h1
  obtain ⟨⟨r, q, l, f, e, rfl⟩, hr2⟩ := h2
  exact ⟨⟨r, q, l, f, e, rfl⟩, fun a ha => (hr2 a ha).trans (hr1 a ha)⟩
theorem State.flr_fold_onlyFunctions (l : List Nat) : ∀ s : State, OnlyFunctions s (l.foldl (fun s fn => s.flr fn) s) := by
  induction l with
  | nil => exact fun s => ⟨⟨s.regs, s.mbQueue, s.late, s.forwarded, s.evPend, rfl⟩, fun _ _ => rfl⟩
  | cons fn l ih => exact fun s => (s.flr_onlyFunctions fn).trans (ih _)
/-- After resets of functions none of them is owed vector 1. -/
theorem State.flr_fold_evPend (l : List Nat) (hl : ∀ fn ∈ l, fn < 9) : ∀ (s : State) (i : Nat),
    (l.foldl (fun s fn => s.flr fn) s).evPend.getLsbD i = (s.evPend.getLsbD i && !decide (i ∈ l)) := by
  induction l with
  | nil => intro s i; simp
  | cons fn l ih =>
    intro s i
    have hone : (s.flr fn).evPend.getLsbD i = (s.evPend.getLsbD i && !decide (fn = i)) :=
      getLsbD_clear_fn s.evPend (hl fn (by simp)) i
    rw [List.foldl_cons, ih (fun k hk => hl k (List.mem_cons_of_mem _ hk)), hone]
    simp only [List.mem_cons, Bool.decide_or, Bool.not_or, eq_comm (a := i), Bool.and_assoc]
theorem functionLevelReset_spec (fn : FnIx) (s : State) : ∃ t, exec (.functionLevelReset fn) s = .next t ∧ SameCompute s t ∧
    t.parts = s.parts ∧ t.spdm = (if fn.val = 0 then s.spdm.filter (fun e => e.1) else s.spdm) ∧
    ∀ a, t.rget a = if 0x1000000 * (fn.val + 1) ≤ a ∧ a < 0x1000000 * (fn.val + 1) + 0x10000 then regReset a else s.rget a := by
  rw [exec_functionLevelReset, execFunctionLevelReset]
  by_cases h0 : fn.val = 0
  · simp only [if_pos h0]
    exact ⟨_, rfl, ⟨rfl, rfl, rfl⟩, rfl, rfl, s.rget_flr fn⟩
  · simp only [if_neg h0]
    exact ⟨_, rfl, ⟨rfl, rfl, rfl⟩, rfl, rfl, s.rget_flr fn⟩
theorem perstN_spec (s : State) : ∃ t, exec .perstN s = .next t ∧ SameCompute s t ∧ t.parts = s.parts ∧ t.ide = false ∧
    t.spdm = [] ∧ t.evPend = 0 ∧ t.tethers = s.tethers ∧ t.ports = s.ports ∧ ∀ a, a < 0x1000000 → t.rget a = s.rget a := by
  have honly := State.flr_fold_onlyFunctions (List.range 9) s
  have hev : ((List.range 9).foldl (fun s fn => s.flr fn) s).evPend = 0 := by
    apply BitVec.eq_of_getLsbD_eq
    intro i hi
    rw [State.flr_fold_evPend _ (fun fn h => List.mem_range.1 h), decide_eq_true (List.mem_range.2 hi)]
    simp
  rw [exec_perstN, execPerstN]
  generalize (List.range 9).foldl (fun s fn => s.flr fn) s = u at honly hev
  obtain ⟨⟨r, q, l, f, e, rfl⟩, hregs⟩ := honly
  exact ⟨_, rfl, ⟨rfl, rfl, rfl⟩, rfl, rfl, rfl, hev, rfl, rfl, hregs⟩

/-- Settles O52: each access, doorbell, watch, event and function reset by the lemma of its row. -/
theorem hostAccess : Obligations.HostAccess := by
  refine ⟨fun x val s hr hs hb => ⟨fun hz => ?_, fun hz h2 hw => ?_, fun hz h8 hw ht hd => ?_, fun h2 h8 => ⟨?_, ?_, ?_, ?_, ?_⟩⟩,
    fun fn s hr _ => ⟨doorbell_busy fn hr, fun h hidle hh => ⟨doorbell_queues fn hr hidle hh, doorbell_refuses fn hr hidle hh⟩⟩,
    fun fn v val s hr hs hv => hdKwatchWrite_spec fn v val hr hs hv,
    fun fn v s harm => ⟨knotWatchFire_at_threshold fn v harm, knotWatchFire_below_threshold fn v⟩,
    fun fn s => ⟨eventIrq_owed fn, functionLevelReset_spec fn s, perstN_spec s⟩⟩
  · obtain ⟨honly, hregs, hcount, hlast⟩ := s.misalign_spec x.fn.isLt
    exact ⟨_, _, registerWrite_of_bad_size hr hs hb val hz, honly, hregs, hcount, hlast, registerRead_of_bad_size hr hs hb hz,
      rfl, rfl⟩
  · obtain ⟨hsame, _, hregs, hlast, hcount⟩ := s.violate_spec x.fn.isLt
    obtain ⟨_, hzero, _⟩ := ({ s with readOut := 0 } : State).violate_spec x.fn.isLt
    exact ⟨_, _, registerWrite_outside hr hs hb val hz h2 hw, hsame,
      fun a ha he => hregs a (by omega) he (by unfold HD_FN_STAT; omega), hlast, hcount,
      registerRead_outside hr hs hb hz h2 hw, hzero⟩
  · have hread := registerRead_inside hr hs hb hz h8 hw
    rw [s.regRead_stored ht hd] at hread
    exact hread
  · exact fun i h1 hi h0 ha => registerWrite_HD_HANG hr hs hb h2 h8 val h1 hi h0 ha
  · exact fun h0 ha => registerWrite_HD_PWR_CTL hr hs hb h2 h8 val h0 ha
  · exact fun c ha hw hh => registerWrite_CD_HOLD_LIMIT hr hs hb h2 h8 val c ha hw hh
  · exact fun c ha hw hh => registerWrite_CD_CORE_FLAGS hr hs hb h2 h8 val c ha hw hh
  · exact fun p ha h0 hh => registerWrite_CD_GEAR_CTL hr hs hb h2 h8 val p ha h0 hh

end Sys2Proof.Machine
end

section
/-! PROOF. Arithmetic and comparisons on a NaN (O11). -/
namespace Sys2Proof.Machine

/-! ## A NaN operand (R29, R55) -/

/-- An operation with a NaN operand is the canonical NaN without a flag. -/
@[simp] theorem finish_of_anyNaN (f : FloatFmt) (x : XV) : finish f true x = ⟨f.qnan, 0⟩ := if_pos rfl
@[simp] theorem xlt_nan_left (zeros : Bool) (x : XV) : xlt zeros .nan x = false := rfl
@[simp] theorem xlt_nan_right (zeros : Bool) (x : XV) : xlt zeros x .nan = false := by cases x <;> rfl
@[simp] theorem xeq_nan_left (x : XV) : xeq .nan x = false := rfl
@[simp] theorem xeq_nan_right (x : XV) : xeq x .nan = false := by cases x <;> rfl

/-- Settles O11: a NaN among the operands fixes the result before any arithmetic is done, and orders against nothing. It
holds of every format. -/
theorem nanComparesFalse : Obligations.NanComparesFalse := by
  intro f a b c _ ha
  have hnan : (f.decode a).isNaN = true := by rw [ha]; rfl
  refine ⟨?_, ?_, ?_, ?_, ?_, ?_, ?_, ?_, ?_, ?_, ?_, ?_, ?_⟩
  iterate 2 · simp [fpAdd, hnan]
  iterate 2 · simp [fpSub, hnan]
  iterate 2 · simp [fpMul, hnan]
  iterate 3 · simp [fpFma, hnan]
  iterate 2 · simp [fpLt, ha]
  iterate 2 · simp [fpEq, ha]

end Sys2Proof.Machine
end

section
/-! PROOF. V-slot operations: what landing, counting and issuing leave as it was (O8). -/
namespace Sys2Proof.Machine

/-! ## Counting an event of a core (R432, R433) -/

/-- Only event counters and the note of bits that hardware set have changed. -/
def CountsOnly (s t : State) : Prop :=
  (∃ r w, t = { s with regs := r, hwSet := w }) ∧ SameRegsBut s t fun _ => False

theorem CountsOnly.refl (s : State) : CountsOnly s s := ⟨⟨s.regs, s.hwSet, rfl⟩, fun _ _ _ => rfl⟩
theorem CountsOnly.trans {s t u : State} (h1 : CountsOnly s t) (h2 : CountsOnly t u) : CountsOnly s u := by
  obtain ⟨⟨_, _, rfl⟩, hr1⟩ := h1
  obtain ⟨⟨r, w, rfl⟩, hr2⟩ := h2
  exact ⟨⟨r, w, rfl⟩, fun a he hm => (hr2 a he hm).trans (hr1 a he hm)⟩

theorem CD_EVC_range_of_isEvc_false {a cl : Nat} (hcl : cl < 256) (h : isEvc a = false) :
    a < CD_EVC cl 0 ∨ CD_EVC cl 0 + 8 * 8 ≤ a := by
  simp [isEvc] at h
  unfold CD_EVC
  omega
theorem isEvc_core {c o : Nat} (hc : c < 2048) (ho : o < 0x1000) : isEvc (0x1000 * c + o) = false := by
  simp [isEvc]
  omega

theorem CountsOnly.cdEvc (s : State) {c : Nat} (hc : c < 2048) (code n : Nat) : CountsOnly s (s.cdEvc c code n) := by
  have hcl : gclusterOf c < 256 := by
    unfold gclusterOf
    omega
  exact ⟨s.evc_only .., fun a he _ => s.rget_evc _ _ _ _ _ _ (CD_EVC_range_of_isEvc_false hcl he)⟩
theorem CountsOnly.opEvents (s : State) {c : Nat} (hc : c < 2048) (mmv v sop : Bool) :
    CountsOnly s (s.opEvents c mmv v sop) := by
  have hif (b : Bool) (code : Nat) (u : State) : CountsOnly u (if b then u.cdEvc c code 1 else u) := by
    cases b
    · exact .refl u
    · exact .cdEvc u hc code 1
  exact ((hif mmv 0x04 s).trans (hif v 0x05 _)).trans (hif sop 0x06 _)
theorem CountsOnly.core {s t : State} (h : CountsOnly s t) (c : Nat) : t.core c = s.core c := by
  obtain ⟨⟨_, _, rfl⟩, _⟩ := h
  rfl

/-! ## What is confined to one core -/

theorem OnlyCore.trans {s t u : State} {c : Nat} (h1 : OnlyCore s t c) (h2 : OnlyCore t u c) : OnlyCore s u c := by
  obtain ⟨he1, hc1, hr1⟩ := h1
  obtain ⟨he2, hc2, hr2⟩ := h2
  refine ⟨?_, fun d hd => (hc2 d hd).trans (hc1 d hd), fun a he hm => (hr2 a he hm).trans (hr1 a he hm)⟩
  rw [he2, he1]
theorem OnlyCore.refl (s : State) (c : Nat) : OnlyCore s s c := ⟨rfl, fun _ _ => rfl, fun _ _ _ => rfl⟩
theorem OnlyCore.setCore (s : State) (c : Nat) (k : Core) : OnlyCore s (s.setCore c k) c :=
  ⟨rfl, fun _ hd => s.core_setCore_other k hd, fun _ _ _ => rfl⟩
theorem OnlyCore.orFlags (s : State) (c : Nat) (f : BitVec 7) : OnlyCore s (s.orFlags c f) c :=
  ⟨rfl, fun _ _ => rfl, fun _ _ hm => s.rget_rset_other _ fun h => hm (.inl h)⟩
theorem OnlyCore.wf_seqStatus (s : State) (c : Nat) (f : Fld) (v : Nat) : OnlyCore s (s.wf (CD_SEQ_STATUS c) f v) c :=
  ⟨rfl, fun _ _ => rfl, fun _ _ hm => s.rget_wf_other f v fun h => hm (.inr h)⟩
theorem CountsOnly.onlyCore {s t : State} (h : CountsOnly s t) (c : Nat) : OnlyCore s t c := by
  obtain ⟨⟨_, _, rfl⟩, hr⟩ := h
  exact ⟨rfl, fun _ _ => rfl, fun a he _ => hr a he not_false⟩

/-- The landing of results at a core concerns that core, its flags and its open zones (R56, R63). -/
theorem State.landIf_onlyCore (s : State) (c n : Nat) (p : Flight → Bool) : OnlyCore s (s.landIf c n p) c := by
  unfold State.landIf
  have hflags (u : State) (f : BitVec 7) : OnlyCore u (if f = 0 then u else u.orFlags c f) c := by
    split
    · exact .refl u c
    · exact .orFlags u c f
  have hzones (u : State) (z : BitVec 8) (v : Nat) :
      OnlyCore u (if z = 0 then u else u.wf (CD_SEQ_STATUS c) CD_SEQ_STATUS_ZOPEN v) c := by
    split
    · exact .refl u c
    · exact .wf_seqStatus ..
  exact ((OnlyCore.setCore s c _).trans (hflags _ _)).trans (hzones _ _ _)
theorem State.land_onlyCore (s : State) (c n : Nat) : OnlyCore s (s.land c n) c := s.landIf_onlyCore ..
/-- A core's count of beats stands whatever else is confined to the core. -/
theorem OnlyCore.bc {s t : State} {c : CoreIx} (h : OnlyCore s t c) : t.bc c = s.bc c := by
  obtain ⟨_, _, hr⟩ := h
  have hbc : t.rget (CD_BEAT_COUNT c) = s.rget (CD_BEAT_COUNT c) := by
    refine hr _ (isEvc_core c.isLt (by omega)) ?_
    unfold CD_BEAT_COUNT CD_CORE_FLAGS CD_SEQ_STATUS
    omega
  rw [State.bc, State.bc, State.rf, State.rf, hbc]

/-! ## Issue of a V-slot operation (R42, R56) -/

theorem exec_vInstr (c : CoreIx) (f : VFields) (code : VCode) (s : State) : exec (vInstr c f code) s = s.vOp c code f := by
  cases code <;> rfl

theorem Core.foldl_send {α : Type} {g : Core → α → Core} {d : Nat} {act : α → FlightAct}
    (hg : ∀ k x, g k x = k.send d (act x)) (l : List α) : ∀ k : Core,
    l.foldl g k = { k with flight := k.flight ++ l.map fun x => ⟨d, act x⟩ } := by
  induction l with
  | nil => simp
  | cons x l ih =>
    intro k
    rw [List.foldl_cons, ih, hg]
    simp [Core.send]
theorem Core.sendFlags_eq (k : Core) (d : Nat) (f : BitVec 7) :
    k.sendFlags d f = { k with flight := k.flight ++ if f = 0 then [] else [⟨d, .flags f⟩] } := by
  unfold Core.sendFlags
  split <;> simp [Core.send]
/-- Issuing sends the result's writes and flag events on their way, and leaves the rest of the core. -/
theorem issueV_op (k : Core) (b : Nat) (code : VCode) (f : VFields) :
    issueV k b (.op code f) = { k with
      flight := k.flight ++ (vResult k code f).writes.map (fun w => ⟨b + vLatency code, .vreg w.1 w.2.1 w.2.2⟩) ++
        (if (vResult k code f).flags = 0 then [] else [⟨b + vLatency code, .flags (vResult k code f).flags⟩]) } := by
  have hsend := Core.foldl_send (d := b + vLatency code) (act := fun w : Nat × VReg × VReg => .vreg w.1 w.2.1 w.2.2)
    (fun _ _ => rfl) (vResult k code f).writes k
  simp only [issueV, Core.sendFlags_eq]
  rw [hsend]

theorem State.slotOp_stopped {s : State} {c : Nat} (g : State → State) (h : 2 ≤ s.seqState c) : s.slotOp c g = s := if_pos h
theorem State.slotOp_running {s : State} {c : Nat} (g : State → State) (h : s.seqState c < 2) :
    s.slotOp c g = g (s.land c (s.bc c)) := if_neg (Nat.not_le.2 h)
theorem State.vOp_legal (s : State) (c : CoreIx) {code : VCode} {f : VFields} (h : checkV code f = none) :
    s.vOp c code f =
      .next (s.slotOp c fun s => (s.setCore c (issueV (s.core c) (s.bc c) (.op code f))).opEvents c false true false) := by
  simp [State.vOp, h]

/-- Settles O8: the operation acts on the state after the landing by `issueV_op`; the landing, the issue and the counting
are each confined to the core. -/
theorem vectorOperationIssues : Obligations.VectorOperationIssues := by
  intro code c f s u hlegal hu
  rw [exec_vInstr, s.vOp_legal c hlegal]
  refine ⟨fun hrun => ?_, fun hstop => by rw [State.slotOp_stopped _ hstop]⟩
  have hland : OnlyCore s u c := hu ▸ s.land_onlyCore c (s.bc c)
  have hcount := CountsOnly.opEvents (u.setCore c (issueV (u.core c) (u.bc c) (.op code f))) c.isLt false true false
  refine ⟨_, by rw [State.slotOp_running _ hrun, ← hu], ?_, ?_, ?_⟩
  · exact (hland.trans (.setCore ..)).trans (hcount.onlyCore c)
  · exact fun a he hm => hcount.2 a he hm
  · rw [hcount.core, State.core_setCore_same, issueV_op, hland.bc]

end Sys2Proof.Machine
end

section
/-! PROOF. Pool bank beats: what the pool port leaves of the static claimants, and the beat that drops a claimant whose
core has not come to it (O19). -/
namespace Sys2Proof.Machine

/-! ## The pool port leaves the static claimants (R107) -/

/-- A fold of operations that each leave the static claimants leaves them. -/
theorem State.foldl_poolOps {α : Type} {g : State → α → State} (hg : ∀ s x, (g s x).poolOps = s.poolOps) (l : List α) :
    ∀ s : State, (l.foldl g s).poolOps = s.poolOps := by
  induction l with
  | nil => exact fun _ => rfl
  | cons x l ih => exact fun s => (ih _).trans (hg s x)

@[simp] theorem State.setPool_poolOps (s : State) (cl : Nat) (k : PoolSide) : (s.setPool cl k).poolOps = s.poolOps := rfl
@[simp] theorem State.putBytes_poolOps (s : State) (a : Nat) (bs : List Byte) : (s.putBytes a bs).poolOps = s.poolOps := rfl
@[simp] theorem State.portTake_poolOps (s : State) (cl : Nat) (bs : List Nat) : (s.portTake cl bs).poolOps = s.poolOps := rfl
@[simp] theorem State.portWait_poolOps (s : State) (cl : Nat) (a : PoolAcc) : (s.portWait cl a).poolOps = s.poolOps := rfl
@[simp] theorem State.clEvc_poolOps (s : State) (cl code n : Nat) : (s.clEvc cl code n).poolOps = s.poolOps :=
  s.evc_poolOps ..
@[simp] theorem State.poolWrite_poolOps (s : State) (cl off : Nat) (bs : List Byte) :
    (s.poolWrite cl off bs).poolOps = s.poolOps := State.clEvc_poolOps ..
theorem State.setShch_poolOps (s : State) (c ch : Nat) (k : ShCh) : (s.setShch c ch k).poolOps = s.poolOps := rfl
theorem State.rrcStep_poolOps (s : State) (part : Nat) : (s.rrcStep part).poolOps = s.poolOps := rfl
theorem State.noFill_poolOps (s : State) (part : Nat) (hit : Nat → Bool) : (s.noFill part hit).poolOps = s.poolOps := rfl
@[simp] theorem State.updDesc_poolOps (s : State) (c ch slot : Nat) (f : Desc → Desc) :
    (s.updDesc c ch slot f).poolOps = s.poolOps := rfl
@[simp] theorem State.settle_poolOps (s : State) (c ch : Nat) : (s.settle c ch).poolOps = s.poolOps := by
  unfold State.settle
  dsimp only
  split
  · exact s.setShch_poolOps ..
  · rw [State.noFill_poolOps, State.rrcStep_poolOps, State.setShch_poolOps]
@[simp] theorem State.descDone_poolOps (s : State) (c ch slot status : Nat) (value : BitVec 64) (xgen : Nat) :
    (s.descDone c ch slot status value xgen).poolOps = s.poolOps := State.settle_poolOps ..
@[simp] theorem State.moveUnit_poolOps (s : State) (core ch slot i st : Nat) :
    (s.moveUnit core ch slot i st).poolOps = s.poolOps := by
  unfold State.moveUnit
  split
  · rfl
  · rename_i d _
    rw [apply_ite State.poolOps, State.descDone_poolOps]
    cases d.tag <;> exact ite_self s.poolOps
@[simp] theorem State.replyLanded_poolOps (s : State) (core ch slot : Nat) (unit : Option Nat) :
    (s.replyLanded core ch slot unit).poolOps = s.poolOps := by
  unfold State.replyLanded
  split
  · exact State.moveUnit_poolOps ..
  · split
    · exact State.descDone_poolOps ..
    · rfl
theorem State.poolReply_poolOps (s : State) (cl : Nat) (e : LandEnt) : (s.poolReply cl e).poolOps = s.poolOps := by
  unfold State.poolReply
  split
  · split <;> simp
  · rfl
theorem State.poolUe_poolOps (s : State) (cl line : Nat) : (s.poolUe cl line).poolOps = s.poolOps := by
  simp only [State.poolUe, State.bump, State.wf_poolOps]
@[simp] theorem State.poolUes_poolOps (s : State) (cl : Nat) (ws : List Nat) : (s.poolUes cl ws).poolOps = s.poolOps :=
  State.foldl_poolOps (fun s _ => s.poolUe_poolOps cl _) ws s
@[simp] theorem State.poolCorr_poolOps (s : State) (cl n line : Nat) : (s.poolCorr cl n line).poolOps = s.poolOps := by
  unfold State.poolCorr
  split
  · rfl
  · simp only [State.clEvc_poolOps, State.bump, State.wf_poolOps]
theorem State.portDo_poolOps (s : State) (cl : Nat) (a : PoolAcc) : (s.portDo cl a).poolOps = s.poolOps := by
  unfold State.portDo
  dsimp only
  split
  · simp
  · split <;> simp

/-- The write of an atomic waits while the static claimants take every bank. -/
theorem State.poolAtom_of_no_bank {s : State} {cl : Nat} (h : ∀ b < 16, s.portFree cl b = false) (e : Arrival × Nat) :
    s.poolAtom cl e = s := by
  rw [State.poolAtom, h _ (Nat.mod_lt _ (by omega)), if_neg Bool.false_ne_true]
/-- The port leaves the static claimants; for atomics, which could write anywhere, this says it only of a beat without a
free bank. -/
theorem State.servePort_poolOps {s : State} {cl : Nat} (h : ∀ b < 16, s.portFree cl b = false) :
    (s.servePort cl).poolOps = s.poolOps := by
  have hatoms : (s.pool cl).atoms.foldl (fun s e => s.poolAtom cl e) s = s :=
    List.foldl_fixed' (fun e => State.poolAtom_of_no_bank h e) _
  unfold State.servePort
  rw [hatoms]
  dsimp only
  rw [State.foldl_poolOps, State.setPool_poolOps, State.foldl_poolOps fun s e => s.poolReply_poolOps cl e]
  intro s a
  split
  · exact s.portDo_poolOps cl a
  · rfl

/-! ## A claimant whose beat has not come (R77, R106) -/

/-- Core 0 stands at count 1 and core 1 at count 0; all else is as after reset. -/
def coreOneBehind : State := State.reset.rset (CD_BEAT_COUNT 0) 1
/-- A PLD of core `c` from pool C00 of pair 0, for the bank beat of count 1: `n` lines from `pline` on, from M slot `slot`. -/
def pldAt (c slot pline n : Nat) : PoolOp := ⟨1, c, slot, 0, 0, pline, n, none, 0⟩
/-- Core 0's PLDs, due, take the sixteen banks; core 1 has one for the same count, which has not come to core 1. -/
def mixedClaimants : State := { coreOneBehind with poolOps := [pldAt 0 0 0 8, pldAt 0 1 8 8, pldAt 1 0 0 1] }

theorem exec_poolBankBeat (cl : ClusterIx) (up : List Upset) (s : State) :
    exec (.poolBankBeat cl up) s = .next (((s.poolStrikes cl up).poolBeat cl).servePort cl) := rfl

theorem mixedClaimants_poolDue : (mixedClaimants.poolStrikes 0 []).poolDue 0 = [pldAt 0 0 0 8, pldAt 0 1 8 8] := by
  decide +kernel
/-- The beat takes core 1's claimant out of the queue with the two that are due. -/
theorem poolBeat_mixedClaimants_poolOps : ((mixedClaimants.poolStrikes 0 []).poolBeat 0).poolOps = [] := by
  decide +kernel
theorem poolBeat_mixedClaimants_portFree :
    ∀ b < 16, ((mixedClaimants.poolStrikes 0 []).poolBeat 0).portFree 0 b = false := by
  decide +kernel

/-- Refutes O19, in the clause of POOL_BANK_BEAT: only what has come due should leave the queue, but the beat removes every
claimant of its count. In `mixedClaimants` that is also the one of core 1, which stands one count behind, so that R77 would
leave its access where it is. The statement ranges over every state, this one included. -/
theorem not_beatRowsPerform : ¬ Obligations.BeatRowsPerform := by
  unfold Obligations.BeatRowsPerform
  rintro ⟨-, -, -, hpool, -⟩
  obtain ⟨t, hexec, hops, -, -, -, hbusy⟩ :=
    hpool 0 [] mixedClaimants _ _ rfl mixedClaimants_poolDue.symm (by decide) (by decide) (by decide)
  have hfree : ∀ b < 16, t.portFree 0 b = false := by
    intro b hb
    by_cases h8 : b < 8
    · simpa [pldAt, Nat.mod_eq_of_lt hb] using hbusy (pldAt 0 0 0 8) (by simp) b h8
    · have hline : (8 + (b - 8)) % 16 = b := by omega
      simpa [pldAt, hline] using hbusy (pldAt 0 1 8 8) (by simp) (b - 8) (by simp [pldAt]; omega)
  have hkept : t.poolOps = [pldAt 1 0 0 1] := hops.trans (by decide)
  have hlost : t.poolOps = [] := by
    calc t.poolOps = (t.servePort 0).poolOps := (State.servePort_poolOps hfree).symm
      _ = (((mixedClaimants.poolStrikes 0 []).poolBeat 0).servePort 0).poolOps :=
        congrArg State.poolOps (Host.Outcome.next.inj (hexec.symm.trans (exec_poolBankBeat 0 [] mixedClaimants)))
      _ = ((mixedClaimants.poolStrikes 0 []).poolBeat 0).poolOps := State.servePort_poolOps poolBeat_mixedClaimants_portFree
      _ = [] := poolBeat_mixedClaimants_poolOps
  exact absurd (hkept.symm.trans hlost) (List.cons_ne_nil _ _)

end Sys2Proof.Machine
end

section
/-! PROOF. Illegal control encodings (O17). -/
namespace Sys2Proof.Machine

/-- Settles O17: both operations test the field for 0 before anything else. -/
theorem illegalControlEncodingsRefused : Obligations.IllegalControlEncodingsRefused :=
  fun _ _ => ⟨fun _ => rfl, fun _ => rfl⟩

end Sys2Proof.Machine
end

section
/-! PROOF. Laws of one core's registers and of what the commands of a core share: landing, stops and waits. -/
namespace Sys2Proof.Machine

/-! ## Addresses of a core's registers (R65, R89, R330) -/

@[simp] theorem CD_CORE_FLAGS_ne_CD_SEQ_STATUS (c d : Nat) : CD_CORE_FLAGS c ≠ CD_SEQ_STATUS d := by
  unfold CD_CORE_FLAGS CD_SEQ_STATUS
  omega
@[simp] theorem CD_CORE_FAULT_ne_CD_SEQ_STATUS (c d : Nat) : CD_CORE_FAULT c ≠ CD_SEQ_STATUS d := by
  unfold CD_CORE_FAULT CD_SEQ_STATUS
  omega
@[simp] theorem CD_BEAT_COUNT_ne_CD_SEQ_STATUS (c d : Nat) : CD_BEAT_COUNT c ≠ CD_SEQ_STATUS d := by
  unfold CD_BEAT_COUNT CD_SEQ_STATUS
  omega
@[simp] theorem CD_HOLD_ne_CD_SEQ_STATUS (c d : Nat) : CD_HOLD c ≠ CD_SEQ_STATUS d := by
  unfold CD_HOLD CD_SEQ_STATUS
  omega
@[simp] theorem CD_BOUND_ne_CD_SEQ_STATUS (c d : Nat) : CD_BOUND c ≠ CD_SEQ_STATUS d := by
  unfold CD_BOUND CD_SEQ_STATUS
  omega
@[simp] theorem CD_BEAT_COUNT_ne_CD_HOLD (c d : Nat) : CD_BEAT_COUNT c ≠ CD_HOLD d := by
  unfold CD_BEAT_COUNT CD_HOLD
  omega
@[simp] theorem CD_SEQ_STATUS_inj {c d : Nat} : CD_SEQ_STATUS c = CD_SEQ_STATUS d ↔ c = d := by
  unfold CD_SEQ_STATUS
  omega
@[simp] theorem CD_CORE_FAULT_inj {c d : Nat} : CD_CORE_FAULT c = CD_CORE_FAULT d ↔ c = d := by
  unfold CD_CORE_FAULT
  omega
@[simp] theorem SH_CH_STAT_ne_CD_SEQ_STATUS (c i d : Nat) : SH_CH_STAT c i ≠ CD_SEQ_STATUS d := by
  unfold SH_CH_STAT CD_SEQ_STATUS
  omega

/-! ## Fields of a register -/

/-- No bit of field `g` lies in field `f`. -/
abbrev Fld.Apart (f g : Fld) : Prop := g.lo + g.w ≤ 64 ∧ (f.lo + f.w ≤ g.lo ∨ g.lo + g.w ≤ f.lo)
theorem State.rf_wf_apart (s : State) (a : Nat) {f g : Fld} (v : Nat) (h : f.Apart g) : (s.wf a f v).rf a g = s.rf a g :=
  s.rf_wf_field a f g v h.1 h.2
theorem State.rf_congr {s t : State} {a : Nat} (h : t.rget a = s.rget a) (f : Fld) : t.rf a f = s.rf a f := by
  rw [State.rf, State.rf, h]

/-! ## Landing (R56, R63) -/

/-- Flags that arriving results bring (R42). -/
def State.flagsIn (s : State) (c : Nat) (f : BitVec 7) : State := if f = 0 then s else s.orFlags c f
/-- Zones that arriving LZOPENs open, with the value ZOPEN takes (R81). -/
def State.zonesIn (s : State) (c : Nat) (z : BitVec 8) (v : Nat) : State :=
  if z = 0 then s else s.wf (CD_SEQ_STATUS c) CD_SEQ_STATUS_ZOPEN v

section
variable (s : State) (c : Nat)

theorem State.rget_flagsIn_other (f : BitVec 7) {a : Nat} (h : a ≠ CD_CORE_FLAGS c) : (s.flagsIn c f).rget a = s.rget a := by
  unfold State.flagsIn
  split
  · rfl
  · exact s.rget_rset_other _ h
theorem State.rget_zonesIn_other (z : BitVec 8) (v : Nat) {a : Nat} (h : a ≠ CD_SEQ_STATUS c) :
    (s.zonesIn c z v).rget a = s.rget a := by
  unfold State.zonesIn
  split
  · rfl
  · exact s.rget_wf_other _ _ h
theorem State.rf_zonesIn_status (z : BitVec 8) (v : Nat) {f : Fld} (h : CD_SEQ_STATUS_ZOPEN.Apart f) :
    (s.zonesIn c z v).rf (CD_SEQ_STATUS c) f = s.rf (CD_SEQ_STATUS c) f := by
  unfold State.zonesIn
  split
  · rfl
  · exact s.rf_wf_apart _ _ h
theorem State.core_flagsIn (f : BitVec 7) (d : Nat) : (s.flagsIn c f).core d = s.core d := by
  unfold State.flagsIn
  split <;> rfl
theorem State.core_zonesIn (z : BitVec 8) (v d : Nat) : (s.zonesIn c z v).core d = s.core d := by
  unfold State.zonesIn
  split <;> rfl

theorem foldl_landAct_keeps (l : List Flight) : ∀ k : Core,
    (l.foldl (fun k f => landAct k f.act) k).loops = k.loops ∧ (l.foldl (fun k f => landAct k f.act) k).banks = k.banks := by
  induction l with
  | nil => exact fun k => ⟨rfl, rfl⟩
  | cons f l ih =>
    intro k
    have hact : (landAct k f.act).loops = k.loops ∧ (landAct k f.act).banks = k.banks := by cases f.act <;> exact ⟨rfl, rfl⟩
    rw [List.foldl_cons, (ih _).1, (ih _).2]
    exact hact
/-- Landing changes the core, but not its loops and waiting accesses, and brings flags and zones. -/
theorem State.landIf_eq (n : Nat) (p : Flight → Bool) : ∃ k f z v,
    s.landIf c n p = ((s.setCore c k).flagsIn c f).zonesIn c z v ∧ k.loops = (s.core c).loops ∧ k.banks = (s.core c).banks := by
  obtain ⟨hloops, hbanks⟩ := foldl_landAct_keeps ((s.core c).flight.filter p) (s.core c)
  exact ⟨_, _, _, _, rfl, hloops, hbanks⟩

theorem State.rget_land_other (n : Nat) {a : Nat} (hf : a ≠ CD_CORE_FLAGS c) (hs : a ≠ CD_SEQ_STATUS c) :
    (s.land c n).rget a = s.rget a := by
  obtain ⟨k, f, z, v, h, _⟩ := s.landIf_eq c n fun f => decide (f.due ≤ n)
  rw [State.land, h, State.rget_zonesIn_other _ _ _ _ hs, State.rget_flagsIn_other _ _ _ hf]
  rfl
theorem State.rf_land_status (n : Nat) {f : Fld} (h : CD_SEQ_STATUS_ZOPEN.Apart f) :
    (s.land c n).rf (CD_SEQ_STATUS c) f = s.rf (CD_SEQ_STATUS c) f := by
  obtain ⟨k, g, z, v, he, _⟩ := s.landIf_eq c n fun f => decide (f.due ≤ n)
  rw [State.land, he, State.rf_zonesIn_status _ _ _ _ h,
    State.rf_congr (State.rget_flagsIn_other _ c g (CD_CORE_FLAGS_ne_CD_SEQ_STATUS c c).symm)]
  rfl
theorem State.core_land_keeps (n : Nat) :
    ((s.land c n).core c).loops = (s.core c).loops ∧ ((s.land c n).core c).banks = (s.core c).banks := by
  obtain ⟨k, f, z, v, h, hk⟩ := s.landIf_eq c n fun f => decide (f.due ≤ n)
  rw [State.land, h, State.core_zonesIn, State.core_flagsIn, State.core_setCore_same]
  exact hk
theorem State.grpOf_land (n : Nat) : (s.land c n).grpOf c = s.grpOf c := by
  rw [State.grpOf, State.grpOf, s.rf_land_status c n (by decide)]
theorem State.seqState_land (n : Nat) : (s.land c n).seqState c = s.seqState c := s.rf_land_status c n (by decide)
end

/-! ## Waits (R74, R76) -/

section
variable (s : State) (c : Nat)

theorem State.showWaits_eq : ∃ v w, s.showWaits c =
      (s.wf (CD_SEQ_STATUS c) CD_SEQ_STATUS_WAITING v).wf (CD_SEQ_STATUS c) CD_SEQ_STATUS_WKNOT w ∧
    v = ((s.grp (s.grpOf c)).waits.any fun w => w.core = c && w.succ.isNone).toNat := by
  unfold State.showWaits
  split
  next w hfind =>
    have hw := List.find?_some hfind
    exact ⟨1, _, rfl, by rw [List.any_eq_true.2 ⟨w, List.mem_of_find?_eq_some hfind, hw⟩]; rfl⟩
  next hfind =>
    rw [List.find?_eq_none] at hfind
    exact ⟨0, 0, rfl, by rw [List.any_eq_false.2 hfind]; rfl⟩
theorem State.showWaits_only : s.showWaits c = { s with regs := (s.showWaits c).regs } := by
  obtain ⟨v, w, h, _⟩ := s.showWaits_eq c
  rw [h]
  rfl
theorem State.rget_showWaits_other {a : Nat} (h : a ≠ CD_SEQ_STATUS c) : (s.showWaits c).rget a = s.rget a := by
  obtain ⟨v, w, he, _⟩ := s.showWaits_eq c
  rw [he, State.rget_wf_other _ _ _ h, State.rget_wf_other _ _ _ h]
theorem State.rf_showWaits_status {f : Fld} (h1 : CD_SEQ_STATUS_WAITING.Apart f) (h2 : CD_SEQ_STATUS_WKNOT.Apart f) :
    (s.showWaits c).rf (CD_SEQ_STATUS c) f = s.rf (CD_SEQ_STATUS c) f := by
  obtain ⟨v, w, he, _⟩ := s.showWaits_eq c
  rw [he, State.rf_wf_apart _ _ _ h2, State.rf_wf_apart _ _ _ h1]
theorem State.showWaits_waiting : (s.showWaits c).rf (CD_SEQ_STATUS c) CD_SEQ_STATUS_WAITING =
    ((s.grp (s.grpOf c)).waits.any fun w => w.core = c && w.succ.isNone).toNat := by
  obtain ⟨v, w, he, rfl⟩ := s.showWaits_eq c
  rw [he, State.rf_wf_apart _ _ _ (by decide), State.rf_wf_same _ _ _ _ (by decide)]
  exact Nat.mod_eq_of_lt (Bool.toNat_lt _)

theorem State.consume_only (w : Wait) : s.consume w = { s with kpend := (s.consume w).kpend } := by
  unfold State.consume
  split <;> rfl
theorem State.consume_consumed (w : Wait) : ((s.consume w).kp (knotKey (gclusterOf w.core) w.knot)).consumed =
    (s.kp (knotKey (gclusterOf w.core) w.knot)).consumed + (if w.consume then w.thr else 0) := by
  unfold State.consume
  split
  · exact congrArg KnotPend.consumed (State.kp_setKp_same ..)
  · rfl
end

/-! ## Stops of a core (R65, R88) -/

section
variable (s : State) (c cause slot : Nat) (both : Bool) (line beat : Nat)

/-- What a core records when it faults, unless it holds a fault (R65). -/
def State.recordFault : State :=
  if s.rf (CD_CORE_FAULT c) CD_CORE_FAULT_CAUSE = 0 then s.rset (CD_CORE_FAULT c) (coreFaultWord cause slot both line beat) else s
theorem State.recordFault_only :
    s.recordFault c cause slot both line beat = { s with regs := (s.recordFault c cause slot both line beat).regs } := by
  unfold State.recordFault
  split <;> rfl
theorem State.rget_recordFault_other {a : Nat} (h : a ≠ CD_CORE_FAULT c) :
    (s.recordFault c cause slot both line beat).rget a = s.rget a := by
  unfold State.recordFault
  split
  · exact s.rget_rset_other _ h
  · rfl
theorem State.rget_recordFault_same (h : s.rf (CD_CORE_FAULT c) CD_CORE_FAULT_CAUSE = 0) :
    (s.recordFault c cause slot both line beat).rget (CD_CORE_FAULT c) = coreFaultWord cause slot both line beat := by
  rw [State.recordFault, if_pos h, State.rget_rset_same]

/-- Apart from the pair's transfers and the pool's claims, a stop writes the fault, empties the core and its STATE. -/
theorem State.coreStops_eq : ∃ o x, s.coreStops c cause slot both line beat =
    (((({ (s.recordFault c cause slot both line beat).setCore c { s.core c with flight := [], banks := [], holdRun := 0 } with
        poolOps := o, pairs := x } : State)).wf (CD_SEQ_STATUS c) CD_SEQ_STATUS_STATE 3).wf (CD_SEQ_STATUS c) CD_SEQ_STATUS_HELD 0) := by
  have hcore : (s.recordFault c cause slot both line beat).core c = s.core c := by
    rw [State.recordFault_only]
    rfl
  rw [← hcore]
  exact ⟨_, _, rfl⟩
theorem State.coreStops_only : s.coreStops c cause slot both line beat =
    { s with regs := (s.coreStops c cause slot both line beat).regs, cores := (s.coreStops c cause slot both line beat).cores,
             poolOps := (s.coreStops c cause slot both line beat).poolOps,
             pairs := (s.coreStops c cause slot both line beat).pairs } := by
  obtain ⟨o, x, h⟩ := s.coreStops_eq c cause slot both line beat
  rw [h, State.recordFault_only]
  rfl
theorem State.rget_coreStops_other {a : Nat} (hf : a ≠ CD_CORE_FAULT c) (hs : a ≠ CD_SEQ_STATUS c) :
    (s.coreStops c cause slot both line beat).rget a = s.rget a := by
  obtain ⟨o, x, h⟩ := s.coreStops_eq c cause slot both line beat
  rw [h, State.rget_wf_other _ _ _ hs, State.rget_wf_other _ _ _ hs]
  exact s.rget_recordFault_other c cause slot both line beat hf
theorem State.rget_coreStops_fault (h : s.rf (CD_CORE_FAULT c) CD_CORE_FAULT_CAUSE = 0) :
    (s.coreStops c cause slot both line beat).rget (CD_CORE_FAULT c) = coreFaultWord cause slot both line beat := by
  obtain ⟨o, x, he⟩ := s.coreStops_eq c cause slot both line beat
  rw [he, State.rget_wf_other _ _ _ (by simp), State.rget_wf_other _ _ _ (by simp)]
  exact s.rget_recordFault_same c cause slot both line beat h
theorem State.seqState_coreStops : (s.coreStops c cause slot both line beat).seqState c = 3 := by
  obtain ⟨o, x, he⟩ := s.coreStops_eq c cause slot both line beat
  rw [he, State.seqState, State.rf_wf_apart _ _ _ (by decide), State.rf_wf_same _ _ _ _ (by decide)]
  rfl
theorem State.core_coreStops_same :
    (s.coreStops c cause slot both line beat).core c = { s.core c with flight := [], banks := [], holdRun := 0 } := by
  obtain ⟨o, x, h⟩ := s.coreStops_eq c cause slot both line beat
  rw [h]
  exact State.core_setCore_same ..
theorem State.core_coreStops_other {d : Nat} (hd : d ≠ c) : (s.coreStops c cause slot both line beat).core d = s.core d := by
  obtain ⟨o, x, h⟩ := s.coreStops_eq c cause slot both line beat
  rw [h, State.recordFault_only]
  exact State.core_setCore_other _ _ hd

/-- A core fault is a stop of the core that its group and its partition take note of. -/
theorem State.coreFault_eq : ∃ g p, s.coreFault c cause slot both line beat =
    { s.coreStops c cause slot both line beat with groups := g, parts := p } := by
  unfold State.coreFault
  dsimp only
  split
  · exact ⟨_, _, rfl⟩
  · exact ⟨_, _, rfl⟩
theorem State.rget_coreFault (a : Nat) :
    (s.coreFault c cause slot both line beat).rget a = (s.coreStops c cause slot both line beat).rget a := by
  obtain ⟨g, p, h⟩ := s.coreFault_eq c cause slot both line beat
  rw [h]
  rfl
theorem State.core_coreFault (d : Nat) :
    (s.coreFault c cause slot both line beat).core d = (s.coreStops c cause slot both line beat).core d := by
  obtain ⟨g, p, h⟩ := s.coreFault_eq c cause slot both line beat
  rw [h]
  rfl
theorem State.mem_coreFault : (s.coreFault c cause slot both line beat).mem = s.mem := by
  obtain ⟨g, p, h⟩ := s.coreFault_eq c cause slot both line beat
  rw [h, State.coreStops_only]
theorem State.seqState_coreFault : (s.coreFault c cause slot both line beat).seqState c = 3 :=
  (State.rf_congr (s.rget_coreFault c cause slot both line beat _) _).trans (s.seqState_coreStops c cause slot both line beat)
end

section
variable (cause slot : Nat) (both : Bool) (line beat : Nat)

theorem coreFaultWord_cause : CD_CORE_FAULT_CAUSE.get (coreFaultWord cause slot both line beat) = cause % 2 ^ 8 := by
  have hb := Bool.toNat_lt both
  simp only [coreFaultWord, Fld.get, CD_CORE_FAULT_CAUSE, BitVec.toNat_ofNat]
  omega
theorem coreFaultWord_beat (hc : cause < 2 ^ 8) (hs : slot < 2 ^ 3) :
    CD_CORE_FAULT_BEAT.get (coreFaultWord cause slot both line beat) = beat % 2 ^ 24 := by
  have hb := Bool.toNat_lt both
  simp only [coreFaultWord, Fld.get, CD_CORE_FAULT_BEAT, BitVec.toNat_ofNat]
  omega
end

end Sys2Proof.Machine
end

section
/-! PROOF. Waits: success, release and limit (O22). -/
namespace Sys2Proof.Machine

/-! ## KWAIT_SUCCESS (R74) -/

/-- The core's wait is pending, has its count, and is the first in line for it (R74). -/
def State.waitReady (s : State) (c : CoreIx) (ws : List Wait) (w : Wait) : Bool :=
  w.core = c.val && w.succ.isNone && s.waitOk w && !s.lowerReady ws w
/-- The waits of a group with success noted for one of them (R76). -/
def succeedIn (ws : List Wait) (w : Wait) (b : Nat) : List Wait := ws.map fun v => if v = w then { w with succ := some b } else v

/-- After a wait has succeeded, the other waits of its core are those that pend. -/
theorem any_pending_succeedIn (c b : Nat) (w : Wait) (ws : List Wait) :
    ((succeedIn ws w b).any fun v => v.core = c && v.succ.isNone) =
      ws.any fun v => v.core = c && v.succ.isNone && decide (v ≠ w) := by
  rw [succeedIn, List.any_map]
  congr 1
  funext v
  by_cases h : v = w <;> simp [h]

theorem exec_kwaitSuccess (c : CoreIx) (s : State) : exec (.kwaitSuccess c) s = execKwaitSuccess c s := rfl
theorem exec_groupRelease (p : PairIx) (g : Fin 32) (s : State) : exec (.groupRelease p g) s = execGroupRelease p g s := rfl
theorem exec_waitLimit (c : CoreIx) (s : State) : exec (.waitLimit c) s = execWaitLimit c s := rfl

theorem kwaitSuccess_some (c : CoreIx) (s : State) {w : Wait}
    (h : (s.grp (s.grpOf c)).waits.find? (s.waitReady c (s.grp (s.grpOf c)).waits) = some w) :
    exec (.kwaitSuccess c) s = .next (((s.consume w).setGrp (s.grpOf c) { s.grp (s.grpOf c) with
      waits := succeedIn (s.grp (s.grpOf c)).waits w (s.pb (pairOf c)) }).showWaits c) := by
  have hmap : (s.grp (s.grpOf c)).waits.map (fun v => if v = w then { v with succ := some (s.pb (pairOf c)) } else v) =
      succeedIn (s.grp (s.grpOf c)).waits w (s.pb (pairOf c)) := by
    refine List.map_congr_left fun v _ => ?_
    split
    next hv => rw [hv]
    next => rfl
  rw [exec_kwaitSuccess, execKwaitSuccess, ← hmap]
  unfold State.waitReady at h
  simp only [h]
theorem kwaitSuccess_none (c : CoreIx) (s : State)
    (h : (s.grp (s.grpOf c)).waits.find? (s.waitReady c (s.grp (s.grpOf c)).waits) = none) :
    exec (.kwaitSuccess c) s = .next s := by
  rw [exec_kwaitSuccess, execKwaitSuccess]
  unfold State.waitReady at h
  simp only [h]

theorem kwaitSuccess_spec (c : CoreIx) (s : State) (w : Wait)
    (h : (s.grp (s.grpOf c)).waits.find? (s.waitReady c (s.grp (s.grpOf c)).waits) = some w) :
    ∃ t, exec (.kwaitSuccess c) s = .next t ∧ t = { s with groups := t.groups, kpend := t.kpend, regs := t.regs } ∧
      (t.grp (s.grpOf c)).waits = succeedIn (s.grp (s.grpOf c)).waits w (s.pb (pairOf c)) ∧
      SameRegsBut s t (fun a => a = CD_SEQ_STATUS c) ∧
      t.rf (CD_SEQ_STATUS c) CD_SEQ_STATUS_WAITING =
        ((s.grp (s.grpOf c)).waits.any fun v => v.core = c.val && v.succ.isNone && decide (v ≠ w)).toNat ∧
      (t.kp (knotKey (gclusterOf c) w.knot)).consumed =
        (s.kp (knotKey (gclusterOf c) w.knot)).consumed + (if w.consume then w.thr else 0) := by
  have hcore : w.core = c.val := by
    have hw := List.find?_some h
    simp only [State.waitReady, Bool.and_eq_true, decide_eq_true_eq] at hw
    obtain ⟨⟨⟨hcore, _⟩, _⟩, _⟩ := hw
    exact hcore
  generalize hu : (s.consume w).setGrp (s.grpOf c) { s.grp (s.grpOf c) with
    waits := succeedIn (s.grp (s.grpOf c)).waits w (s.pb (pairOf c)) } = u
  have honly : u = { s with groups := u.groups, kpend := u.kpend } := by
    rw [← hu, State.consume_only]
    rfl
  have hgrp : u.grpOf c = s.grpOf c := by rw [honly]; rfl
  have hwaits : (u.grp (s.grpOf c)).waits = succeedIn (s.grp (s.grpOf c)).waits w (s.pb (pairOf c)) := by
    rw [← hu, State.grp_setGrp_same]
  refine ⟨u.showWaits c, by rw [kwaitSuccess_some c s h, hu], ?_, ?_, fun a _ ha => ?_, ?_, ?_⟩
  · rw [State.showWaits_only, honly]
  · rw [State.showWaits_only]
    exact hwaits
  · rw [u.rget_showWaits_other c ha, honly]
    rfl
  · rw [State.showWaits_waiting, hgrp, hwaits, any_pending_succeedIn]
  · rw [State.showWaits_only, ← hcore, ← s.consume_consumed w, ← hu]
    rfl

/-! ## GROUP_RELEASE and WAIT_LIMIT (R76, R79) -/

/-- A wait stays with its group until 8 wall beats after its success. -/
theorem Wait.not_isOver (w : Wait) (b : Nat) : (!w.isOver b) = w.succ.all fun t => decide (b < t + 8) := by
  unfold Wait.isOver holdH
  cases w.succ with
  | none => rfl
  | some t => simp [← decide_not]

theorem groupRelease_spec (p : PairIx) (g : Fin 32) (s : State) (h : (s.grp (p.val * 32 + g.val)).stop = none) :
    ∃ t, exec (.groupRelease p g) s = .next t ∧ t = { s with groups := t.groups } ∧
      t.grp (p.val * 32 + g.val) = { s.grp (p.val * 32 + g.val) with
        waits := (s.grp (p.val * 32 + g.val)).waits.filter fun w => w.succ.all fun t => decide (s.pb p < t + 8) } := by
  simp only [← Wait.not_isOver]
  refine ⟨_, by rw [exec_groupRelease, execGroupRelease, h]; rfl, rfl, State.grp_setGrp_same ..⟩
theorem groupRelease_stopped (p : PairIx) (g : Fin 32) (s : State) (h : (s.grp (p.val * 32 + g.val)).stop ≠ none) :
    exec (.groupRelease p g) s = .next s := by
  rw [exec_groupRelease, execGroupRelease, if_pos (Option.isSome_iff_ne_none.2 h)]

theorem waitLimit_ended (c : CoreIx) (s : State) (w : Wait) (hw : w ∈ (s.grp (s.grpOf c)).waits)
    (hlim : s.rf (CD_HOLD_LIMIT c) CD_HOLD_LIMIT_LIMIT ≠ 0) (hcore : w.core = c.val) (hsucc : w.succ = none)
    (hleft : s.knotLeft (gclusterOf c) w.knot < w.thr)
    (htime : w.since + s.rf (CD_HOLD_LIMIT c) CD_HOLD_LIMIT_LIMIT ≤ s.pb (pairOf c)) :
    exec (.waitLimit c) s = .next (s.coreFault c 0x11 5 false 0 (s.coreNow c)) := by
  have hended : (decide (w.core = c.val) && w.succ.isNone &&
      decide (s.pb (pairOf c) ≥ w.since + s.rf (CD_HOLD_LIMIT c) CD_HOLD_LIMIT_LIMIT) && !s.waitOk w) = true := by
    simp [hcore, hsucc, htime, State.waitOk, hleft]
  rw [exec_waitLimit, execWaitLimit, if_pos ⟨hlim, List.any_eq_true.2 ⟨w, hw, hended⟩⟩]

/-- Settles O22: success by `kwaitSuccess_spec`, release by `groupRelease_spec`, and the limit by the stop of the core. -/
theorem waitsAndHolds : Obligations.WaitsAndHolds := by
  refine ⟨fun c s ws hws => ?_, fun p g s => ⟨groupRelease_spec p g s, groupRelease_stopped p g s⟩, fun c s => ⟨?_, ?_⟩⟩
  · subst hws
    exact ⟨fun w hfind => kwaitSuccess_spec c s w hfind, kwaitSuccess_none c s⟩
  · intro w hw hlim hcore hsucc hleft htime
    refine ⟨_, waitLimit_ended c s w hw hlim hcore hsucc hleft htime, s.seqState_coreFault .., s.mem_coreFault .., ?_, ?_⟩
    · exact fun d hd => by rw [State.core_coreFault, State.core_coreStops_other _ _ _ _ _ _ _ hd]
    · intro hcause
      rw [State.rf, State.rget_coreFault, State.rget_coreStops_fault _ _ _ _ _ _ _ hcause, coreFaultWord_cause]
      rfl
  · intro hlim
    rw [exec_waitLimit, execWaitLimit, if_neg fun h => h.1 hlim]

end Sys2Proof.Machine
end

section
/-! PROOF. The update of a knot (O21). -/
namespace Sys2Proof.Machine

/-! ## The new count (R73) -/

/-- The entry of the lowest core, the first of them where there are several. -/
def lowestSet (x : Nat × Nat) (r : List (Nat × Nat)) : Nat × Nat := r.foldl (fun a b => if b.1 < a.1 then b else a) x

theorem lowestSet_spec (r : List (Nat × Nat)) : ∀ x, lowestSet x r ∈ x :: r ∧ ∀ y ∈ x :: r, (lowestSet x r).1 ≤ y.1 := by
  induction r with
  | nil => simp [lowestSet]
  | cons b r ih =>
    intro x
    have hstep : lowestSet x (b :: r) = lowestSet (if b.1 < x.1 then b else x) r := rfl
    obtain ⟨hmem, hle⟩ := ih (if b.1 < x.1 then b else x)
    rw [← hstep] at hmem hle
    simp only [List.forall_mem_cons] at hle ⊢
    obtain ⟨hhead, htail⟩ := hle
    by_cases hb : b.1 < x.1
    · rw [if_pos hb] at hmem hhead
      exact ⟨List.mem_cons_of_mem _ hmem, by omega, hhead, htail⟩
    · rw [if_neg hb] at hmem hhead
      refine ⟨?_, hhead, by omega, htail⟩
      rcases List.mem_cons.1 hmem with h | h
      · exact List.mem_cons.2 (.inl h)
      · exact List.mem_cons_of_mem _ (List.mem_cons_of_mem _ h)
/-- An entry whose core is below that of every other entry is the lowest one. -/
theorem lowestSet_eq {x z : Nat × Nat} {r : List (Nat × Nat)} (hz : z ∈ x :: r) (hlow : ∀ y ∈ x :: r, z.1 < y.1 ∨ z = y) :
    lowestSet x r = z := by
  obtain ⟨hmem, hle⟩ := lowestSet_spec r x
  have hz' := hle z hz
  rcases hlow _ hmem with h | h
  · omega
  · exact h.symm

/-- The count before increments: that of the lowest KSET, or the old one less what was consumed. -/
def knotBase (count : Nat) (q : KnotPend) : Nat :=
  match q.sets with
  | [] => count - q.consumed
  | x :: r => (lowestSet x r).2
theorem knotNew_of_le {count sum : Nat} {q : KnotPend} (hsum : sum = knotBase count q + (q.sigs.map Prod.snd).sum + q.outside)
    (h : sum ≤ 2 ^ 32 - 1) : knotNew count q = (sum, false) := by
  rw [hsum] at h ⊢
  exact if_neg (Nat.not_lt.2 h)
theorem knotNew_of_gt {count sum : Nat} {q : KnotPend} (hsum : sum = knotBase count q + (q.sigs.map Prod.snd).sum + q.outside)
    (h : 2 ^ 32 - 1 < sum) : knotNew count q = (2 ^ 32 - 1, true) := by
  rw [hsum] at h
  exact if_pos h
theorem knotBase_eq {count base : Nat} {q : KnotPend} (hnone : q.sets = [] → base = count - q.consumed)
    (hset : ∀ x ∈ q.sets, (∀ y ∈ q.sets, x.1 < y.1 ∨ x = y) → base = x.2)
    (hlow : q.sets = [] ∨ ∃ x ∈ q.sets, ∀ y ∈ q.sets, x.1 < y.1 ∨ x = y) : knotBase count q = base := by
  unfold knotBase
  cases hsets : q.sets with
  | nil => exact (hnone hsets).symm
  | cons x r =>
    rw [hsets] at hset hlow
    obtain ⟨z, hz, hmin⟩ := hlow.resolve_left (List.cons_ne_nil _ _)
    change (lowestSet x r).2 = base
    rw [lowestSet_eq hz hmin, hset z hz hmin]

theorem foldl_min_core (r : List (Nat × Nat)) : ∀ (m z : Nat), (z = m ∨ z ∈ r.map Prod.fst) → z ≤ m → (∀ y ∈ r, z ≤ y.1) →
    r.foldl (fun a b => min a b.1) m = z := by
  induction r with
  | nil =>
    intro m z hz _ _
    rcases hz with rfl | hz
    · rfl
    · cases hz
  | cons b r ih =>
    intro m z hz hm hall
    simp only [List.forall_mem_cons] at hall
    obtain ⟨hb, hr⟩ := hall
    refine ih _ _ ?_ (Nat.le_min.2 ⟨hm, hb⟩) hr
    simp only [List.map_cons, List.mem_cons] at hz
    rcases hz with hz | hz | hz
    · exact .inl (by show z = min m b.1; omega)
    · exact .inl (by show z = min m b.1; omega)
    · exact .inr hz
/-- The core that a clamp faults is the lowest that signalled (R73). -/
theorem clampCore_eq {q : KnotPend} {x : Nat × Nat} (hx : x ∈ q.sigs) (hlow : ∀ y ∈ q.sigs, x.1 ≤ y.1) :
    clampCore q = some x.1 := by
  unfold clampCore
  cases hsigs : q.sigs with
  | nil => rw [hsigs] at hx; cases hx
  | cons y r =>
    rw [hsigs] at hx hlow
    simp only [List.forall_mem_cons] at hlow
    obtain ⟨hy, hr⟩ := hlow
    refine congrArg some (foldl_min_core r _ _ ?_ hy hr)
    rcases List.mem_cons.1 hx with rfl | hx
    · exact .inl rfl
    · exact .inr (List.mem_map_of_mem hx)

/-! ## KNOT_UPDATE (R73, R329) -/

theorem foldl_eq_self {α β : Type} {f : β → α → β} {s : β} (l : List α) (h : ∀ x ∈ l, f s x = s) : l.foldl f s = s := by
  induction l with
  | nil => rfl
  | cons x l ih =>
    simp only [List.forall_mem_cons] at h
    obtain ⟨hx, hl⟩ := h
    rw [List.foldl_cons, hx, ih hl]
/-- Without a stream that has GATE a new count lets nothing go. -/
theorem State.gateTurn_of_no_gate (s : State) (cl k old new w : Nat)
    (h : ∀ x ∈ s.streamsOf (cl / 32), cFlag x.2.raw 3 = false) : s.gateTurn cl k old new w = s := by
  refine foldl_eq_self _ fun x hx => if_neg ?_
  rw [h x hx]
  simp

/-- The knot at a new count with nothing pending. -/
def State.knotSet (s : State) (cl k n : Nat) : State := (s.wf (KN_COUNT cl k) KN_COUNT_COUNT n).setKp (knotKey cl k) KnotPend.none
/-- What follows a clamp: the lowest core that signalled faults, or an event is reported. -/
def State.clampReport (s : State) (cl k : Nat) (q : KnotPend) : State :=
  match clampCore q with
  | some c => s.coreFault c 0x12 5 false 0 (s.bc c)
  | none => s.event 0x03 0x05 (unitOf 2 cl) (s.ctx (s.partOfPair (cl / 32))) 0 k 0 0

theorem exec_knotUpdate (cl : ClusterIx) (k : Fin 64) (s : State) : exec (.knotUpdate cl k) s = execKnotUpdate cl k s := rfl
theorem knotUpdate_unclamped (cl : ClusterIx) (k : Fin 64) (s : State) {n : Nat}
    (h : knotNew (s.knotCount cl k) (s.kp (knotKey cl k)) = (n, false)) :
    exec (.knotUpdate cl k) s =
      .next ((s.knotSet cl k n).gateTurn cl k (s.knotCount cl k) n (s.kp (knotKey cl k)).sigBeat) := by
  rw [exec_knotUpdate, execKnotUpdate]
  simp only [h]
  rfl
theorem knotUpdate_clamped (cl : ClusterIx) (k : Fin 64) (s : State) {n : Nat}
    (h : knotNew (s.knotCount cl k) (s.kp (knotKey cl k)) = (n, true)) :
    exec (.knotUpdate cl k) s =
      .next ((((s.knotSet cl k n).raise (KN_COUNT cl k) KN_COUNT_OVF 1).clampReport cl k (s.kp (knotKey cl k))).gateTurn cl k
        (s.knotCount cl k) n (s.kp (knotKey cl k)).sigBeat) := by
  rw [exec_knotUpdate, execKnotUpdate]
  simp only [h]
  rfl

section
variable (s : State) (cl : ClusterIx) (k : Fin 64)

theorem isEvc_KN_COUNT : isEvc (KN_COUNT cl k) = false := by
  have hlt : KN_COUNT cl k < 0x900000 := by
    unfold KN_COUNT
    omega
  have hoff : KN_COUNT cl k % 0x1000 < 0x800 := by
    unfold KN_COUNT
    omega
  simp [isEvc]
  omega
theorem KN_COUNT_lt : KN_COUNT cl k < 0x1000000 := by
  unfold KN_COUNT
  omega
theorem KN_COUNT_ne_CD_CORE_FAULT (c : Nat) : KN_COUNT cl k ≠ CD_CORE_FAULT c := by
  unfold KN_COUNT CD_CORE_FAULT
  omega
theorem KN_COUNT_ne_CD_SEQ_STATUS (c : Nat) : KN_COUNT cl k ≠ CD_SEQ_STATUS c := by
  unfold KN_COUNT CD_SEQ_STATUS
  omega
theorem KN_COUNT_ne_CD_CORE_FLAGS (c : Nat) : KN_COUNT cl k ≠ CD_CORE_FLAGS c := by
  unfold KN_COUNT CD_CORE_FLAGS
  omega

theorem State.knotCount_knotSet {n : Nat} (h : n < 2 ^ 32) : (s.knotSet cl k n).knotCount cl k = n :=
  (s.rf_wf_same _ KN_COUNT_COUNT n (by decide)).trans (Nat.mod_eq_of_lt h)
theorem State.clampReport_mem (q : KnotPend) : (s.clampReport cl k q).mem = s.mem := by
  unfold State.clampReport
  split
  · exact s.mem_coreFault ..
  · exact (OnlyRecords.event ..).sameCompute.1
theorem State.clampReport_knot (q : KnotPend) : (s.clampReport cl k q).rget (KN_COUNT cl k) = s.rget (KN_COUNT cl k) := by
  unfold State.clampReport
  split
  next c _ =>
    rw [State.rget_coreFault]
    exact s.rget_coreStops_other _ _ _ _ _ _ (KN_COUNT_ne_CD_CORE_FAULT cl k c) (KN_COUNT_ne_CD_SEQ_STATUS cl k c)
  next => exact (OnlyRecords.event ..).rget (KN_COUNT_lt cl k) (isEvc_KN_COUNT cl k)
end

theorem knotUpdate_within (cl : ClusterIx) (k : Fin 64) (s : State) {n : Nat}
    (h : knotNew (s.knotCount cl k) (s.kp (knotKey cl k)) = (n, false)) (hn : n ≤ 2 ^ 32 - 1) :
    ∃ t : State, exec (.knotUpdate cl k) s = .next (t.gateTurn cl k (s.knotCount cl k) n (s.kp (knotKey cl k)).sigBeat) ∧
      t.knotCount cl k = n ∧ t.kp (knotKey cl k) = KnotPend.none ∧ t = { s with regs := t.regs, kpend := t.kpend } ∧
      t.rf (KN_COUNT cl k) KN_COUNT_OVF = s.rf (KN_COUNT cl k) KN_COUNT_OVF ∧
      (∀ a, a ≠ KN_COUNT cl k → t.rget a = s.rget a) ∧ ((∀ x ∈ s.streamsOf (cl.val / 32), cFlag x.2.raw 3 = false) →
        t.gateTurn cl k (s.knotCount cl k) n (s.kp (knotKey cl k)).sigBeat = t) :=
  ⟨s.knotSet cl k n, knotUpdate_unclamped cl k s h, s.knotCount_knotSet cl k (by omega), State.kp_setKp_same .., rfl,
    s.rf_wf_apart _ n (by decide), fun _ ha => s.rget_wf_other _ _ ha, fun hgate => State.gateTurn_of_no_gate _ _ _ _ _ _ hgate⟩

theorem knotUpdate_beyond (cl : ClusterIx) (k : Fin 64) (s : State)
    (h : knotNew (s.knotCount cl k) (s.kp (knotKey cl k)) = (2 ^ 32 - 1, true)) :
    ∃ t : State,
      exec (.knotUpdate cl k) s = .next (t.gateTurn cl k (s.knotCount cl k) (2 ^ 32 - 1) (s.kp (knotKey cl k)).sigBeat) ∧
      t.knotCount cl k = 2 ^ 32 - 1 ∧ t.rf (KN_COUNT cl k) KN_COUNT_OVF = 1 ∧ t.mem = s.mem ∧
      (∀ x ∈ (s.kp (knotKey cl k)).sigs, (∀ y ∈ (s.kp (knotKey cl k)).sigs, x.1 ≤ y.1) → t.seqState x.1 = 3) := by
  refine ⟨_, knotUpdate_clamped cl k s h, ?_, ?_, State.clampReport_mem .., fun x hx hlow => ?_⟩
  · rw [State.knotCount, State.rf_congr (State.clampReport_knot ..), State.raise, State.rf_note, State.rf_wf_apart _ _ _ (by decide)]
    exact s.knotCount_knotSet cl k (by omega)
  · rw [State.rf_congr (State.clampReport_knot ..), State.rf_raise_same _ _ _ _ (by decide)]
    exact Nat.or_mod_two_eq_one.2 (.inr rfl)
  · rw [State.clampReport, clampCore_eq hx hlow]
    exact State.seqState_coreFault ..

/-- Settles O21: the new count is `knotNew`'s; within the range nothing else changes, beyond it the clamp is reported. -/
theorem knotUpdateCounts : Obligations.KnotUpdateCounts := by
  intro cl k s q base sum hq hnone hset hlow hsum
  subst hq
  rw [← knotBase_eq hnone hset hlow] at hsum
  exact ⟨fun hle => knotUpdate_within cl k s (knotNew_of_le hsum hle) hle,
    fun hgt => knotUpdate_beyond cl k s (knotNew_of_gt hsum hgt)⟩

end Sys2Proof.Machine
end

section
/-! PROOF. Stops of groups and partitions, and the end of a group's drain (O25). -/
namespace Sys2Proof.Machine

/-! ## Cores that stop with their group or partition (R88) -/

/-- One core's registers of state and fault, and what it holds, are as before. -/
def CoreStands (s t : State) (c : Nat) : Prop :=
  t.core c = s.core c ∧ t.rget (CD_SEQ_STATUS c) = s.rget (CD_SEQ_STATUS c) ∧ t.rget (CD_CORE_FAULT c) = s.rget (CD_CORE_FAULT c)
theorem CoreStands.refl (s : State) (c : Nat) : CoreStands s s c := ⟨rfl, rfl, rfl⟩
theorem CoreStands.trans {s t u : State} {c : Nat} (h1 : CoreStands s t c) (h2 : CoreStands t u c) : CoreStands s u c := by
  obtain ⟨hk1, hs1, hf1⟩ := h1
  obtain ⟨hk2, hs2, hf2⟩ := h2
  exact ⟨hk2.trans hk1, hs2.trans hs1, hf2.trans hf1⟩
theorem CoreStands.seqState {s t : State} {c : Nat} (h : CoreStands s t c) : t.seqState c = s.seqState c := by
  obtain ⟨_, hs, _⟩ := h
  exact State.rf_congr hs _

/-- Only registers, cores, claims of pools and transfers have changed. -/
def OnlyStops (s t : State) : Prop := ∃ r k o x, t = { s with regs := r, cores := k, poolOps := o, pairs := x }
theorem OnlyStops.refl (s : State) : OnlyStops s s := ⟨s.regs, s.cores, s.poolOps, s.pairs, rfl⟩
theorem OnlyStops.trans {s t u : State} (h1 : OnlyStops s t) (h2 : OnlyStops t u) : OnlyStops s u := by
  obtain ⟨_, _, _, _, rfl⟩ := h1
  obtain ⟨r, k, o, x, rfl⟩ := h2
  exact ⟨r, k, o, x, rfl⟩

/-- A core that runs or has halted stops with a cause and a count; any other stays as it is. -/
def State.stopIf (cause : Nat) (beat : State → Nat → Nat) (s : State) (c : Nat) : State :=
  if s.seqState c = 1 ∨ s.seqState c = 2 then s.coreStops c cause 0 false 0 (beat s c) else s

section
variable (cause : Nat) (beat : State → Nat → Nat) (s : State)

theorem State.stopIf_onlyStops (c : Nat) : OnlyStops s (s.stopIf cause beat c) := by
  unfold State.stopIf
  split
  · exact ⟨_, _, _, _, s.coreStops_only ..⟩
  · exact .refl s
theorem State.stopIf_other {c d : Nat} (h : c ≠ d) : CoreStands s (s.stopIf cause beat d) c := by
  unfold State.stopIf
  split
  · exact ⟨s.core_coreStops_other _ _ _ _ _ _ h,
      s.rget_coreStops_other _ _ _ _ _ _ (CD_CORE_FAULT_ne_CD_SEQ_STATUS d c).symm (mt CD_SEQ_STATUS_inj.1 h),
      s.rget_coreStops_other _ _ _ _ _ _ (mt CD_CORE_FAULT_inj.1 h) (CD_CORE_FAULT_ne_CD_SEQ_STATUS c d)⟩
  · exact .refl s c
theorem State.stopIf_stopped {c : Nat} (h : s.seqState c = 3) : s.stopIf cause beat c = s := if_neg (by omega)
theorem State.stopIf_live {c : Nat} (h : s.seqState c = 1 ∨ s.seqState c = 2) :
    s.stopIf cause beat c = s.coreStops c cause 0 false 0 (beat s c) := if_pos h

theorem foldl_stopIf_onlyStops (l : List Nat) : ∀ s : State, OnlyStops s (l.foldl (State.stopIf cause beat) s) := by
  induction l with
  | nil => exact .refl
  | cons c l ih => exact fun s => (s.stopIf_onlyStops cause beat c).trans (ih _)
/-- A core that is none of those to stop, or has stopped already, stands. -/
theorem foldl_stopIf_stands {c : Nat} (l : List Nat) : ∀ s : State, c ∉ l ∨ s.seqState c = 3 →
    CoreStands s (l.foldl (State.stopIf cause beat) s) c := by
  induction l with
  | nil => exact fun s _ => .refl s c
  | cons d l ih =>
    intro s h
    rw [List.mem_cons, not_or] at h
    by_cases hd : c = d
    · have h3 : s.seqState c = 3 := h.resolve_left fun hn => hn.1 hd
      rw [List.foldl_cons, ← hd, State.stopIf_stopped _ _ _ h3]
      exact ih s (.inr h3)
    · have hstep := s.stopIf_other cause beat hd
      exact hstep.trans (ih _ (h.imp And.right fun h3 => hstep.seqState.trans h3))
/-- A live core of those to stop stops when its turn comes, and stands before and after. -/
theorem foldl_stopIf_stops {c : Nat} (l : List Nat) : ∀ s : State, c ∈ l → s.seqState c = 1 ∨ s.seqState c = 2 →
    ∃ u, CoreStands s u c ∧ CoreStands (u.coreStops c cause 0 false 0 (beat u c)) (l.foldl (State.stopIf cause beat) s) c := by
  induction l with
  | nil => exact fun s h _ => absurd h List.not_mem_nil
  | cons d l ih =>
    intro s hc hlive
    by_cases hd : c = d
    · refine ⟨s, .refl s c, ?_⟩
      rw [List.foldl_cons, ← hd, State.stopIf_live _ _ _ hlive]
      exact foldl_stopIf_stands _ _ _ _ (.inr (s.seqState_coreStops ..))
    · have hstep := s.stopIf_other cause beat hd
      have hlive' : (s.stopIf cause beat d).seqState c = 1 ∨ (s.stopIf cause beat d).seqState c = 2 := by
        rw [hstep.seqState]
        exact hlive
      obtain ⟨u, hu, hend⟩ := ih _ ((List.mem_cons.1 hc).resolve_left hd) hlive'
      exact ⟨u, hstep.trans hu, hend⟩
end

theorem exec_groupStop (p : PairIx) (g : Fin 32) (s : State) :
    exec (.groupStop p g) s = .next (s.groupStop (p.val * 32 + g.val)) := rfl
theorem State.groupStop_eq (s : State) {key n : Nat} (hstop : (s.grp key).stop = some n) (hdrain : (s.grp key).draining = false) :
    s.groupStop key = (s.grpCores key).foldl (State.stopIf 0x15 fun _ _ => n) s := by
  unfold State.groupStop
  rw [hstop, hdrain]
  rfl
/-- GROUP_STOP is nothing or the stop of the group's cores. -/
theorem State.groupStop_cases (s : State) (key : Nat) : s.groupStop key = s ∨
    ∃ n, s.groupStop key = (s.grpCores key).foldl (State.stopIf 0x15 fun _ _ => n) s := by
  unfold State.groupStop
  split
  next n _ _ => exact .inr ⟨n, rfl⟩
  next => exact .inl rfl

theorem groupStop_spec (s : State) {key n : Nat} (hstop : (s.grp key).stop = some n) (hdrain : (s.grp key).draining = false) :
    (s.groupStop key).mem = s.mem ∧
      (∀ c ∈ s.grpCores key, s.seqState c = 1 ∨ s.seqState c = 2 →
        (s.groupStop key).seqState c = 3 ∧ ((s.groupStop key).core c).flight = [] ∧ ((s.groupStop key).core c).banks = [] ∧
        (s.rf (CD_CORE_FAULT c) CD_CORE_FAULT_CAUSE = 0 → (s.groupStop key).rf (CD_CORE_FAULT c) CD_CORE_FAULT_CAUSE = 0x15 ∧
          (s.groupStop key).rf (CD_CORE_FAULT c) CD_CORE_FAULT_BEAT = n % 2 ^ 24)) ∧
      ∀ c : CoreIx, c.val ∉ s.grpCores key →
        (s.groupStop key).core c = s.core c ∧ (s.groupStop key).seqState c = s.seqState c := by
  rw [s.groupStop_eq hstop hdrain]
  refine ⟨?_, fun c hc hlive => ?_, fun c hc => ?_⟩
  · obtain ⟨_, _, _, _, h⟩ := foldl_stopIf_onlyStops 0x15 (fun _ _ => n) (s.grpCores key) s
    rw [h]
  · obtain ⟨u, ⟨_, _, hfault⟩, hend⟩ := foldl_stopIf_stops 0x15 (fun _ _ => n) (s.grpCores key) s hc hlive
    have hstate := hend.seqState
    obtain ⟨hcore, _, hword⟩ := hend
    refine ⟨hstate.trans (u.seqState_coreStops ..), ?_, ?_, fun hcause => ?_⟩
    · rw [hcore, State.core_coreStops_same]
    · rw [hcore, State.core_coreStops_same]
    · rw [← State.rf_congr hfault] at hcause
      rw [u.rget_coreStops_fault _ _ _ _ _ _ hcause] at hword
      rw [State.rf, State.rf, hword, coreFaultWord_cause, coreFaultWord_beat _ _ _ _ _ (by decide) (by decide)]
      exact ⟨rfl, rfl⟩
  · have hstands := foldl_stopIf_stands 0x15 (fun _ _ => n) (s.grpCores key) s (.inl hc)
    exact ⟨hstands.1, hstands.seqState⟩

/-! ## The stop of a partition (R88) -/

/-- Partitions are as before, and cores have changed their state to stopped only. -/
def OnlyEnds (s t : State) : Prop := t.parts = s.parts ∧ ∀ c, t.seqState c = s.seqState c ∨ t.seqState c = 3
theorem OnlyEnds.refl (s : State) : OnlyEnds s s := ⟨rfl, fun _ => .inl rfl⟩
theorem OnlyEnds.trans {s t u : State} (h1 : OnlyEnds s t) (h2 : OnlyEnds t u) : OnlyEnds s u := by
  obtain ⟨hp1, hc1⟩ := h1
  obtain ⟨hp2, hc2⟩ := h2
  refine ⟨hp2.trans hp1, fun c => ?_⟩
  rcases hc2 c with h | h
  · rw [h]
    exact hc1 c
  · exact .inr h
theorem OnlyEnds.foldl {α : Type} {f : State → α → State} (h : ∀ s x, OnlyEnds s (f s x)) (l : List α) :
    ∀ s : State, OnlyEnds s (l.foldl f s) := by
  induction l with
  | nil => exact .refl
  | cons x l ih => exact fun s => (h s x).trans (ih _)
theorem OnlyEnds.stopped {s t : State} (h : OnlyEnds s t) {c : Nat} (h3 : s.seqState c = 3) : t.seqState c = 3 := by
  obtain ⟨_, hc⟩ := h
  rcases hc c with h | h
  · exact h.trans h3
  · exact h

theorem OnlyEnds.stopIf (cause : Nat) (beat : State → Nat → Nat) (s : State) (c : Nat) : OnlyEnds s (s.stopIf cause beat c) := by
  obtain ⟨_, _, _, _, h⟩ := s.stopIf_onlyStops cause beat c
  refine ⟨by rw [h], fun d => ?_⟩
  by_cases hd : d = c
  · subst hd
    unfold State.stopIf
    split
    · exact .inr (s.seqState_coreStops ..)
    · exact .inl rfl
  · exact .inl (s.stopIf_other cause beat hd).seqState
theorem OnlyEnds.groupStop (s : State) (key : Nat) : OnlyEnds s (s.groupStop key) := by
  rcases s.groupStop_cases key with h | ⟨n, h⟩
  · rw [h]
    exact .refl s
  · rw [h]
    exact .foldl (.stopIf 0x15 fun _ _ => n) _ s
theorem OnlyEnds.showWaits (s : State) (c : Nat) : OnlyEnds s (s.showWaits c) := by
  refine ⟨by rw [State.showWaits_only], fun d => .inl ?_⟩
  by_cases hd : d = c
  · rw [hd]
    exact s.rf_showWaits_status c (by decide) (by decide)
  · exact State.rf_congr (s.rget_showWaits_other c (mt CD_SEQ_STATUS_inj.1 hd)) _
theorem OnlyEnds.stopChannels (s : State) (c : Nat) : OnlyEnds s (s.stopChannels c) := by
  refine .foldl (fun s i => ?_) _ s
  split
  · exact ⟨rfl, fun d => .inl (s.rf_wf_other _ _ _ (SH_CH_STAT_ne_CD_SEQ_STATUS c i d).symm)⟩
  · exact .refl s

/-- Cores of a partition that hold a draft. -/
def State.draftCores (s : State) (p : Part) : List Nat :=
  ((s.cores.filter fun e => decide (e.2.bundles ≠ 0)).map Prod.fst).filter fun c => p.hasPair (pairOf c)
/-- What happens before the cores of a partition outside its faulted groups stop: the faulted groups' stops. -/
def State.stopGroups (s : State) (n : Nat) : State :=
  ((s.groups.filter fun e => e.2.part = n).map Prod.fst).foldl (fun s g => s.groupStop g) s
/-- Shuttle channels stop and pending waits are discarded. -/
def State.endWaits (s : State) (n : Nat) (p : Part) (mine : List Nat) : State :=
  let s := p.coreIx.foldl (fun s c => s.stopChannels c) s
  let s : State := { s with groups := s.groups.map fun e => if e.2.part = n then (e.1, { e.2 with waits := [] }) else e }
  mine.foldl (fun s c => s.showWaits c) s
theorem State.stopCores_eq (s : State) (n : Nat) (p : Part) :
    s.stopCores n p = ((s.draftCores p).foldl (State.stopIf 0x16 State.bc) (s.stopGroups n)).endWaits n p (s.draftCores p) := rfl

theorem OnlyEnds.stopGroups (s : State) (n : Nat) : OnlyEnds s (s.stopGroups n) := .foldl .groupStop _ s
theorem OnlyEnds.endWaits (s : State) (n : Nat) (p : Part) (mine : List Nat) : OnlyEnds s (s.endWaits n p mine) :=
  (OnlyEnds.foldl .stopChannels _ s).trans (.trans ⟨rfl, fun _ => .inl rfl⟩ (.foldl .showWaits mine _))
theorem OnlyEnds.stopCores (s : State) (n : Nat) (p : Part) : OnlyEnds s (s.stopCores n p) := by
  rw [State.stopCores_eq]
  exact ((OnlyEnds.stopGroups s n).trans (.foldl (.stopIf 0x16 State.bc) _ _)).trans (.endWaits ..)
/-- Every core of the partition with a draft that ran or had halted has stopped. -/
theorem State.seqState_stopCores (s : State) (n : Nat) (p : Part) {c : Nat} (hc : c ∈ s.draftCores p)
    (hlive : s.seqState c = 1 ∨ s.seqState c = 2) : (s.stopCores n p).seqState c = 3 := by
  have hstop : ((s.draftCores p).foldl (State.stopIf 0x16 State.bc) (s.stopGroups n)).seqState c = 3 := by
    rcases (OnlyEnds.stopGroups s n).2 c with h | h
    · rw [← h] at hlive
      obtain ⟨u, _, hend⟩ := foldl_stopIf_stops 0x16 State.bc (s.draftCores p) (s.stopGroups n) hc hlive
      exact hend.seqState.trans (u.seqState_coreStops ..)
    · exact (OnlyEnds.foldl (.stopIf 0x16 State.bc) _ _).stopped h
  rw [State.stopCores_eq]
  exact (OnlyEnds.endWaits ..).stopped hstop

/-! ## What a partition's entry to FAULTED leaves (R284, R390) -/

/-- Partitions, groups and the registers of the cores are as before. -/
def BeyondCores (s t : State) : Prop :=
  t.parts = s.parts ∧ t.groups = s.groups ∧ ∀ a, a < 0x800000 → t.rget a = s.rget a

namespace BeyondCores

theorem refl (s : State) : BeyondCores s s := ⟨rfl, rfl, fun _ _ => rfl⟩
theorem trans {s t u : State} (h1 : BeyondCores s t) (h2 : BeyondCores t u) : BeyondCores s u := by
  obtain ⟨hp1, hg1, hr1⟩ := h1
  obtain ⟨hp2, hg2, hr2⟩ := h2
  exact ⟨hp2.trans hp1, hg2.trans hg1, fun a ha => (hr2 a ha).trans (hr1 a ha)⟩
theorem ofEq {s t : State} (hp : t.parts = s.parts) (hg : t.groups = s.groups) (hr : t.regs = s.regs) : BeyondCores s t :=
  ⟨hp, hg, fun a _ => congrArg (Tab.get (regReset a) · a) hr⟩
theorem foldl {α : Type} {f : State → α → State} (h : ∀ s x, BeyondCores s (f s x)) (l : List α) :
    ∀ s : State, BeyondCores s (l.foldl f s) := by
  induction l with
  | nil => exact refl
  | cons x l ih => exact fun s => (h s x).trans (ih _)
theorem seqState {s t : State} (h : BeyondCores s t) (c : CoreIx) : t.seqState c = s.seqState c := by
  obtain ⟨_, _, hr⟩ := h
  exact State.rf_congr (hr _ (by unfold CD_SEQ_STATUS; omega)) _

theorem part? {s t : State} (h : BeyondCores s t) (n : Nat) : t.part? n = s.part? n := by
  obtain ⟨hparts, _⟩ := h
  rw [State.part?, State.part?, hparts]

theorem wf (s : State) {a : Nat} (f : Fld) (v : Nat) (h : 0x800000 ≤ a) : BeyondCores s (s.wf a f v) :=
  ⟨rfl, rfl, fun _ hb => s.rget_wf_other f v (by omega)⟩
theorem evc (s : State) {base : Nat} (k code : Nat) (sc : Nat → Bool) (n : Nat) (h : 0x800000 ≤ base) :
    BeyondCores s (s.evc base k code sc n) := by
  obtain ⟨r, w, he⟩ := s.evc_only base k code sc n
  exact ⟨by rw [he], by rw [he], fun a ha => s.rget_evc _ _ _ _ _ _ (by omega)⟩
theorem cdEvc (s : State) (c code n : Nat) : BeyondCores s (s.cdEvc c code n) :=
  evc s _ _ _ _ (by unfold CD_EVC; omega)
theorem clEvc (s : State) (cl code n : Nat) : BeyondCores s (s.clEvc cl code n) :=
  evc s _ _ _ _ (by unfold CD_EVC; omega)
theorem ofRecords {s t : State} (h : OnlyRecords s t) : BeyondCores s t := by
  obtain ⟨⟨_, _, _, _, _, _, _, rfl⟩, hr⟩ := h
  refine ⟨rfl, rfl, fun a ha => hr a (by omega) ?_⟩
  simp [isEvc]
  omega

theorem poolWrite (s : State) (cl off : Nat) (bs : List Byte) : BeyondCores s (s.poolWrite cl off bs) := by
  refine .trans (t := s.portUse cl off bs.length) ?_ (ofEq rfl rfl rfl)
  exact .trans (t := s.portTake cl ((poolLines off bs.length).map (· % 16))) (ofEq rfl rfl rfl) (clEvc ..)
theorem epWrite (s : State) (p : Nat) (e : EpAddr) (c fmt : Nat) (bs : List Byte) :
    BeyondCores s (s.epWrite p e c fmt bs).2 := by
  cases e with
  | sp core l =>
    unfold State.epWrite
    dsimp only
    split
    · exact refl s
    · split
      · refine .trans ?_ (cdEvc ..)
        exact ofEq rfl rfl rfl
      · exact refl s
  | pool cl l =>
    unfold State.epWrite
    dsimp only
    split
    · exact poolWrite ..
    · exact refl s
  | slot ix => exact ofEq rfl rfl rfl
theorem updStream (s : State) (p i : Nat) (f : Stream → Stream) : BeyondCores s (s.updStream p i f) := by
  unfold State.updStream
  split
  · exact ofEq rfl rfl rfl
  · exact refl s
theorem fillErr (s : State) (p i : Nat) : BeyondCores s (s.fillErr p i) := by
  unfold State.fillErr
  split
  · exact refl s
  next t _ =>
    split
    · exact refl s
    next e _ =>
      refine foldl (fun u c => ?_) _ s
      have hw := epWrite u p e c (cFmt t.raw) (errBytes (cFmt t.raw) 256)
      split
      next heq =>
        rw [heq] at hw
        exact hw
      next heq =>
        rw [heq] at hw
        exact hw.trans (updStream ..)
theorem freeEntries (s : State) (p i : Nat) : BeyondCores s (s.freeEntries p i) := by
  have hcomb (x : Nat) : 0x800000 ≤ LM_COMB x := by
    unfold LM_COMB
    omega
  unfold State.freeEntries
  refine (foldl (fun u e => ?_) _ s).trans (foldl (fun u e => ?_) _ _)
  · refine .trans (.trans ?_ (wf _ _ _ (hcomb _))) (wf _ _ _ (hcomb _))
    exact ofEq rfl rfl rfl
  · refine .trans ?_ (wf _ _ _ (hcomb _))
    exact ofEq rfl rfl rfl
theorem streamEnd (s : State) (p i st failmap : Nat) : BeyondCores s (s.streamEnd p i st failmap) := by
  unfold State.streamEnd
  split
  · exact refl s
  · split
    · exact refl s
    · dsimp only
      refine .trans (.trans ?_ (freeEntries ..)) (fillErr ..)
      exact ofEq rfl rfl rfl
theorem colAbort (s : State) (q : Part) : BeyondCores s (s.colAbort q) := by
  refine foldl (fun u p => ?_) _ s
  refine .trans ?_ (foldl (fun u i => streamEnd u p i stColAborted 0) _ _)
  exact ofEq rfl rfl rfl

theorem putResponse (s : State) (fn seq st : Nat) (bs : List Byte) : BeyondCores s (s.putResponse fn seq st bs) := by
  obtain ⟨_, _, _, h⟩ := s.putResponse_onlyRegs fn seq st bs
  refine ⟨by rw [h], by rw [h], fun a ha => s.rget_putResponse_other fn seq st bs ?_ (.inl ?_)⟩
  · unfold HD_MB_STAT
    omega
  · unfold respBase
    omega
theorem complete (s : State) (e : MbEnt) (st : Nat) (pl : List Byte) : BeyondCores s (s.complete e st pl) := by
  unfold State.complete
  split
  · exact refl s
  · split
    · exact putResponse ..
    · split
      · exact ofEq rfl rfl rfl
      · split
        · exact refl s
        · refine .trans ?_ (ofRecords (.hdEvc ..))
          exact ofEq rfl rfl rfl
theorem lateDone (s : State) (n st : Nat) (pl : List Byte) : BeyondCores s (s.lateDone n st pl) := by
  unfold State.lateDone
  split
  · exact refl s
  · refine .trans ?_ (complete ..)
    exact ofEq rfl rfl rfl

end BeyondCores

theorem State.haltPart_groups (s : State) (n : Nat) : (s.haltPart n).groups = s.groups := by
  unfold State.haltPart
  split
  · rfl
  next p _ =>
    split
    · obtain ⟨_, hgroups, _⟩ := BeyondCores.lateDone (s.setPart n { p with state := .halted, stopping := false }) n stOK []
      exact hgroups
    · rfl

theorem State.part?_setPart_same (s : State) {n : Nat} {p : Part} (q : Part) (h : s.part? n = some p) :
    (s.setPart n q).part? n = some q := by
  have hfind (l : List (Nat × Part)) (hl : (l.find? fun e => e.1 = n).isSome) :
      ((l.map fun e => if e.1 = n then (n, q) else e).find? fun e => e.1 = n) = some (n, q) := by
    induction l with
    | nil => simp at hl
    | cons e l ih =>
      by_cases he : e.1 = n
      · simp [he]
      · simp only [List.find?_cons, he, decide_false] at hl
        simp [he, ih hl]
  have hsome : (s.parts.find? fun e => e.1 = n).isSome := by
    have h' := congrArg Option.isSome h
    rwa [State.part?, Option.isSome_map] at h'
  rw [State.part?, State.setPart_parts, hfind _ hsome]
  rfl

/-- The partition record of a partition that enters FAULTED (R384, R390). -/
def Part.faultedAs (p : Part) (level seq : Nat) (r : FaultRec) (core : Option Nat) : Part :=
  { p with state := .faulted, level := level, origins := [], stopping := false,
           dump := some ({ r with seq := BitVec.ofNat 32 seq, flags := r.flags ||| 4 }, core) }
theorem State.enterFaulted_eq (s : State) {n : Nat} {p : Part} (level : Nat) (r : FaultRec) (core : Option Nat)
    (h : s.part? n = some p) : s.enterFaulted n level r core =
      ((s.setPart n (p.faultedAs level s.recSeq r core)).colAbort p).lateDone n stHwFault [] := by
  simp only [State.enterFaulted, h]
  rfl
/-- The partition takes its new record, and the cores' registers stand. -/
theorem State.enterFaulted_spec (s : State) {n : Nat} {p : Part} (level : Nat) (r : FaultRec) (core : Option Nat)
    (h : s.part? n = some p) : (s.enterFaulted n level r core).part? n = some (p.faultedAs level s.recSeq r core) ∧
      ∀ c : CoreIx, (s.enterFaulted n level r core).seqState c = s.seqState c := by
  rw [s.enterFaulted_eq level r core h]
  generalize p.faultedAs level s.recSeq r core = q
  have hrest : BeyondCores (s.setPart n q) (((s.setPart n q).colAbort p).lateDone n stHwFault []) :=
    (BeyondCores.colAbort ..).trans (.lateDone ..)
  exact ⟨(hrest.part? n).trans (s.part?_setPart_same q h), hrest.seqState⟩

theorem exec_partStop (part : PartNo) (s : State) : exec (.partStop part) s = .next (s.partStop part) := rfl
theorem partStop_spec (part : PartNo) (s : State) (p : Part) (hp : s.part? part = some p) (horig : p.origins ≠ []) :
    ∃ t q, exec (.partStop part) s = .next t ∧ t.part? part = some q ∧ q.state = .faulted ∧ q.origins = [] ∧
      q.first = p.first ∧ q.pairs = p.pairs ∧
      ∀ c : CoreIx, (c.val, s.core c) ∈ s.cores → (s.core c).bundles ≠ 0 → p.hasPair (pairOf c) = true →
        s.seqState c = 1 ∨ s.seqState c = 2 → t.seqState c = 3 := by
  obtain ⟨o, rest, ho⟩ := List.exists_cons_of_ne_nil horig
  have hp' : (s.stopCores part p).part? part = some p := by
    obtain ⟨hparts, _⟩ := OnlyEnds.stopCores s part p
    rw [State.part?, hparts]
    exact hp
  obtain ⟨hq, hseq⟩ :=
    (s.stopCores part p).enterFaulted_spec 0 ((s.stopCores part p).coreRec part o 4) (some o) hp'
  have hreports : BeyondCores ((s.stopCores part p).enterFaulted part 0 ((s.stopCores part p).coreRec part o 4) (some o))
      (s.partStop part) := by
    simp only [State.partStop, hp, ho]
    exact (BeyondCores.ofRecords (.report ..)).trans (.foldl (fun _ _ => .ofRecords (.report ..)) _ _)
  refine ⟨_, _, exec_partStop part s, (hreports.part? part).trans hq, rfl, rfl, rfl, rfl, fun c hmem hb hpair hlive => ?_⟩
  rw [hreports.seqState, hseq]
  refine s.seqState_stopCores part p ?_ hlive
  exact List.mem_filter.2 ⟨List.mem_map.2 ⟨_, List.mem_filter.2 ⟨hmem, by simpa using hb⟩, rfl⟩, hpair⟩

/-! ## GROUP_DRAIN_END (R87, R88) -/

theorem exec_groupDrainEnd (p : PairIx) (g : Fin 32) (s : State) : exec (.groupDrainEnd p g) s = execGroupDrainEnd p g s := rfl
/-- A group that no stop, wait or running core holds makes its drain beats, and then halts or stops. -/
theorem groupDrainEnd_ready (p : PairIx) (g : Fin 32) (s : State) {k : Nat} (hk : k = p.val * 32 + g.val)
    (hpart : (s.grp k).part ≠ 0) (hhalted : (s.grp k).halted = false) (hstop : (s.grp k).stop = none)
    (hwaits : (s.grp k).waits = []) (hrun : (s.grpCores k).any s.running = false) :
    exec (.groupDrainEnd p g) s = (if ((s.drainBeats k 64).grp k).stop.isSome then .next ((s.drainBeats k 64).groupStop k)
      else .next (((s.drainBeats k 64).setGrp k { (s.drainBeats k 64).grp k with halted := true }).haltPart (s.grp k).part)) := by
  subst hk
  rw [exec_groupDrainEnd, execGroupDrainEnd]
  have hready : ¬((s.grp (p.val * 32 + g.val)).part = 0 ∨ (s.grp (p.val * 32 + g.val)).halted ∨ (none : Option Nat).isSome ∨
      (s.grp (p.val * 32 + g.val)).waits ≠ [] ∨ (s.grpCores (p.val * 32 + g.val)).any s.running) := by
    simp [hpart, hhalted, hwaits, hrun]
  cases (s.grp (p.val * 32 + g.val)).draining <;> simp only [hstop, if_neg hready]

/-- Settles O25: the two stops by their specs; a drain ends with the stop of the group or with its mark `halted`. -/
theorem groupAndPartitionStops : Obligations.GroupAndPartitionStops := by
  refine ⟨fun p g s n hstop hdrain => ⟨_, exec_groupStop p g s, groupStop_spec s hstop hdrain⟩, partStop_spec, ?_⟩
  intro p g s u k hk hpart hhalted hstop hwaits hrun hu
  have hexec := groupDrainEnd_ready p g s hk hpart hhalted hstop hwaits hrun
  rw [← hu] at hexec
  refine ⟨fun hnone => ⟨_, by rw [hexec, hnone]; rfl, ?_⟩, fun hsome => ?_⟩
  · rw [State.grp, State.haltPart_groups]
    exact congrArg Grp.halted (u.grp_setGrp_same k _)
  · rw [hexec, if_pos (Option.isSome_iff_ne_none.2 hsome)]

end Sys2Proof.Machine
end

section
/-! PROOF. Control-slot operations (O16). -/
namespace Sys2Proof.Machine

/-! ## What landing leaves of knots, waits and groups -/

section
variable (s : State) (c : CoreIx) (n : Nat)

theorem State.rget_land_beyond {a : Nat} (h : 0x800000 ≤ a) : (s.land c n).rget a = s.rget a := by
  refine s.rget_land_other c n ?_ ?_
  · unfold CD_CORE_FLAGS
    omega
  · unfold CD_SEQ_STATUS
    omega
theorem State.rf_land_channel (ch : BitVec 2) (f : Fld) :
    (s.land c n).rf (SH_CH_STAT c ch.toNat) f = s.rf (SH_CH_STAT c ch.toNat) f := by
  refine State.rf_congr (s.rget_land_other c n ?_ (by simp)) f
  unfold SH_CH_STAT CD_CORE_FLAGS
  omega
theorem State.ringSlots_land (ch : BitVec 2) : (s.land c n).ringSlots c ch.toNat = s.ringSlots c ch.toNat := by
  have hring : (s.land c n).rget (SH_RING c ch.toNat) = s.rget (SH_RING c ch.toNat) := by
    refine s.rget_land_other c n ?_ ?_
    · unfold SH_RING CD_CORE_FLAGS
      omega
    · unfold SH_RING CD_SEQ_STATUS
      omega
  rw [State.ringSlots, State.ringSlots, State.rf_congr hring]
theorem State.pb_land (p : Nat) : (s.land c n).pb p = s.pb p :=
  State.rf_congr (s.rget_land_beyond c n (by unfold CD_PAIR_BEAT; omega)) _
theorem State.kp_land (key : Nat) : (s.land c n).kp key = s.kp key := by
  rw [State.kp, State.kp, (s.land_onlyCore c n).1]
theorem State.grp_land (key : Nat) : (s.land c n).grp key = s.grp key := by
  rw [State.grp, State.grp, (s.land_onlyCore c n).1]
theorem State.knotLeft_land (cl k : Nat) : (s.land c n).knotLeft cl k = s.knotLeft cl k := by
  have hcount : (s.land c n).knotCount cl k = s.knotCount cl k :=
    State.rf_congr (s.rget_land_beyond c n (by unfold KN_COUNT; omega)) _
  rw [State.knotLeft, State.knotLeft, hcount, s.kp_land c n]
theorem State.waitOk_land (w : Wait) : (s.land c n).waitOk w = s.waitOk w := by
  rw [State.waitOk, State.waitOk, s.knotLeft_land c n]
theorem State.lowerReady_land (ws : List Wait) (w : Wait) : (s.land c n).lowerReady ws w = s.lowerReady ws w := by
  simp only [State.lowerReady, s.waitOk_land c n]
end

/-! ## The operations (R70 to R87, R310) -/

section
variable (s : State) (c : CoreIx) (i n : Nat)

/-- A control operation of a core that has not halted acts on what has landed, at the present index and count. -/
theorem State.cOp_running (op : COp) (h : s.seqState c < 2) :
    s.cOp c op = .next ((s.land c (s.bc c)).ctlAt c (s.rf (CD_SEQ_STATUS c) CD_SEQ_STATUS_PC) (s.bc c) op) := by
  rw [State.cOp, State.slotOp_running _ h, s.rf_land_status c _ (by decide), (s.land_onlyCore c _).bc]

/-- A KWAIT as its group keeps it. -/
def State.waitAt (s : State) (c n : Nat) (k : BitVec 6) (cons : Bool) (thr : BitVec 32) : Wait :=
  ⟨c, n, k.toNat, thr.toNat, cons, s.pb (pairOf c), none⟩
theorem State.kwaitAt_ready (k : BitVec 6) (cons : Bool) (thr : BitVec 32) (hok : s.waitOk (s.waitAt c n k cons thr) = true)
    (hlow : s.lowerReady (s.grp (s.grpOf c)).waits (s.waitAt c n k cons thr) = false) :
    s.kwaitAt c n k cons thr = s.consume (s.waitAt c n k cons thr) :=
  if_pos (by rw [Bool.and_eq_true, Bool.not_eq_true']; exact ⟨hok, hlow⟩)
theorem State.kwaitAt_pending (k : BitVec 6) (cons : Bool) (thr : BitVec 32)
    (h : s.waitOk (s.waitAt c n k cons thr) = false ∨
      s.lowerReady (s.grp (s.grpOf c)).waits (s.waitAt c n k cons thr) = true) :
    s.kwaitAt c n k cons thr = (s.setGrp (s.grpOf c) { s.grp (s.grpOf c) with
      waits := (s.grp (s.grpOf c)).waits ++ [s.waitAt c n k cons thr] }).showWaits c := by
  refine if_neg ?_
  rw [Bool.and_eq_true, Bool.not_eq_true', not_and_or, Bool.not_eq_true, Bool.not_eq_false]
  exact h
theorem State.kwaitAt_pending_spec (k : BitVec 6) (cons : Bool) (thr : BitVec 32)
    (h : s.waitOk (s.waitAt c n k cons thr) = false ∨
      s.lowerReady (s.grp (s.grpOf c)).waits (s.waitAt c n k cons thr) = true) :
    s.kwaitAt c n k cons thr = { s with groups := (s.kwaitAt c n k cons thr).groups, regs := (s.kwaitAt c n k cons thr).regs } ∧
      SameRegsBut s (s.kwaitAt c n k cons thr) (fun a => a = CD_SEQ_STATUS c) ∧
      (s.kwaitAt c n k cons thr).rf (CD_SEQ_STATUS c) CD_SEQ_STATUS_WAITING = 1 ∧
      ((s.kwaitAt c n k cons thr).grp (s.grpOf c)).waits = (s.grp (s.grpOf c)).waits ++ [s.waitAt c n k cons thr] := by
  rw [s.kwaitAt_pending c n k cons thr h]
  generalize hw : s.waitAt c n k cons thr = w
  have hcore : w.core = c.val ∧ w.succ = none := by
    rw [← hw]
    exact ⟨rfl, rfl⟩
  generalize hu : s.setGrp (s.grpOf c) { s.grp (s.grpOf c) with waits := (s.grp (s.grpOf c)).waits ++ [w] } = u
  have hgrp : u.grpOf c = s.grpOf c := by
    rw [← hu]
    rfl
  have hwaits : (u.grp (s.grpOf c)).waits = (s.grp (s.grpOf c)).waits ++ [w] := by rw [← hu, State.grp_setGrp_same]
  refine ⟨?_, fun a _ ha => ?_, ?_, ?_⟩
  · rw [State.showWaits_only, ← hu]
    rfl
  · rw [u.rget_showWaits_other c ha, ← hu]
    rfl
  · rw [State.showWaits_waiting, hgrp, hwaits]
    simp [hcore]
  · rw [State.showWaits_only]
    exact hwaits

theorem State.zopen_lzclose (z : BitVec 8) : (s.ctlAt c i n (.lzclose z)).zopen c = s.zopen c &&& ~~~z := by
  rw [State.zopen, State.ctlAt, State.rf_wf_same _ _ _ _ (by decide)]
  generalize s.zopen c &&& ~~~z = x
  exact BitVec.eq_of_toNat_eq ((Nat.mod_eq_of_lt (Nat.mod_lt _ (by decide))).trans (Nat.mod_eq_of_lt x.isLt))
/-- No LZOPEN on its way opens a zone that LZCLOSE names (R81). -/
theorem State.flight_lzclose (z : BitVec 8) : ∃ fl, (s.ctlAt c i n (.lzclose z)).core c = { s.core c with flight := fl } ∧
    ∀ f ∈ fl, actZones f.act &&& z = 0 := by
  refine ⟨_, State.core_setCore_same .., fun f hf => ?_⟩
  obtain ⟨g, _, rfl⟩ := List.mem_map.1 hf
  have hcancel (y : BitVec 8) : y &&& ~~~z &&& z = 0 := by
    rw [BitVec.and_assoc, BitVec.and_comm (~~~z), BitVec.and_not_self]
    exact BitVec.and_zero
  cases hg : g.act <;> simp [hg, actZones, hcancel]

theorem State.flagsOf_clearFlags (m : BitVec 7) : (s.clearFlags c n m).flagsOf c =
    s.flagsOf c &&& ~~~(if (s.core c).freshAt = n then m &&& ~~~(s.core c).fresh else m) := by
  rw [State.clearFlags, State.flagsOf, State.rget_rset_same, State.flagsOf]
  generalize (if (s.core c).freshAt = n then m &&& ~~~(s.core c).fresh else m) = x
  ext j
  simp

/-- The word BOUND records, and the note its partition takes of it (R86). -/
def boundWord (i n : Nat) : BitVec 64 := BitVec.ofNat 64 (n % 2 ^ 48 + i % 2 ^ 11 * 2 ^ 48)
def State.boundAt (s : State) (c : Nat) (w : BitVec 64) : State :=
  let s := s.rset (CD_BOUND c) w
  match s.part? (s.partOfCore c) with
  | some p => s.setPart (s.partOfCore c) { p with bounded := true }
  | none => s
theorem State.boundAt_eq (w : BitVec 64) : ∃ p, s.boundAt c w = { s.rset (CD_BOUND c) w with parts := p } := by
  unfold State.boundAt
  dsimp only
  split
  · exact ⟨_, rfl⟩
  · exact ⟨s.parts, rfl⟩
theorem State.boundAt_keeps (w : BitVec 64) : (s.boundAt c w).cores = s.cores ∧ (s.boundAt c w).mem = s.mem := by
  obtain ⟨p, h⟩ := s.boundAt_eq c w
  rw [h]
  exact ⟨rfl, rfl⟩
theorem State.rget_boundAt (w : BitVec 64) (a : Nat) : (s.boundAt c w).rget a = (s.rset (CD_BOUND c) w).rget a := by
  obtain ⟨p, h⟩ := s.boundAt_eq c w
  rw [h]
  rfl
theorem State.ctlAt_bound : s.ctlAt c i n .bound = s.boundAt c (boundWord i n) := rfl
theorem boundWord_get (hn : n < 2 ^ 48) (hi : i < 2 ^ 11) :
    CD_BOUND_BC.get (boundWord i n) = n ∧ CD_BOUND_INDEX.get (boundWord i n) = i := by
  simp only [Fld.get, CD_BOUND_BC, CD_BOUND_INDEX, boundWord, BitVec.toNat_ofNat]
  omega
end

/-! ## SHKICK (R310) -/

section
variable (s : State) (c ch : Nat)

theorem State.rf_raise_apart (a : Nat) {f g : Fld} (v : Nat) (h : f.Apart g) : (s.raise a f v).rf a g = s.rf a g :=
  s.rf_wf_apart a _ h
/-- A channel with `k` slots more made ready. -/
def State.readied (s : State) (c ch k w : Nat) : State :=
  let q := Tab.get ShCh.none s.shch (c * 4 + ch)
  let s := { s with shch := Tab.set ShCh.none s.shch (c * 4 + ch) { q with ready := if k = 0 then q.ready else q.ready ++ [(k, w)] } }
  (s.wf (SH_CH_STAT c ch) SH_CH_STAT_READY (s.rf (SH_CH_STAT c ch) SH_CH_STAT_READY + k)).wf (SH_CH_STAT c ch) SH_CH_STAT_INUSE
    (s.rf (SH_CH_STAT c ch) SH_CH_STAT_INUSE + k)
/-- Slots of the ring that hold no descriptor. -/
def State.ringRoom (s : State) (c ch : Nat) : Nat := s.ringSlots c ch - s.rf (SH_CH_STAT c ch) SH_CH_STAT_INUSE
theorem State.readied_only (k w : Nat) : ∃ q r, s.readied c ch k w = { s with shch := q, regs := r } := ⟨_, _, rfl⟩
theorem State.rget_readied_other (k w : Nat) {a : Nat} (h : a ≠ SH_CH_STAT c ch) : (s.readied c ch k w).rget a = s.rget a :=
  (State.rget_wf_other _ _ _ h).trans (State.rget_wf_other _ _ _ h)
theorem State.rf_readied (k w : Nat) :
    (s.readied c ch k w).rf (SH_CH_STAT c ch) SH_CH_STAT_READY = (s.rf (SH_CH_STAT c ch) SH_CH_STAT_READY + k) % 2 ^ SH_CH_STAT_READY.w ∧
      (s.readied c ch k w).rf (SH_CH_STAT c ch) SH_CH_STAT_INUSE = (s.rf (SH_CH_STAT c ch) SH_CH_STAT_INUSE + k) % 2 ^ SH_CH_STAT_INUSE.w :=
  ⟨(State.rf_wf_apart _ _ _ (by decide)).trans (State.rf_wf_same _ _ _ _ (by decide)), State.rf_wf_same _ _ _ _ (by decide)⟩
theorem State.kick_within (count w : Nat) (ctx : BitVec 16) (h : count ≤ s.ringRoom c ch) :
    s.kick c ch count ctx w = s.readied c ch (min count (s.ringRoom c ch)) w := if_neg (Nat.not_lt.2 h)
theorem State.kick_beyond (count w : Nat) (ctx : BitVec 16) (h : s.ringRoom c ch < count) :
    OnlyRecords ((s.readied c ch (min count (s.ringRoom c ch)) w).raise (SH_CH_STAT c ch) SH_CH_STAT_OVERRUN 1)
      (s.kick c ch count ctx w) := by
  have hkick : s.kick c ch count ctx w = ((s.readied c ch (min count (s.ringRoom c ch)) w).raise (SH_CH_STAT c ch)
      SH_CH_STAT_OVERRUN 1).shEvent c ch 0x04 ((s.readied c ch (min count (s.ringRoom c ch)) w).rf (SH_CH_STAT c ch)
      SH_CH_STAT_HEAD) ctx 0 := if_pos h
  exact hkick ▸ OnlyRecords.event ..

/-- A kick beyond the room of the ring readies what has room, with OVERRUN and an event of its own. -/
theorem State.rf_kick_beyond (hc : c < 2048) (hch : ch < 4) (count w : Nat) (ctx : BitVec 16) (h : s.ringRoom c ch < count)
    (f : Fld) : (s.kick c ch count ctx w).rf (SH_CH_STAT c ch) f =
      ((s.readied c ch (min count (s.ringRoom c ch)) w).raise (SH_CH_STAT c ch) SH_CH_STAT_OVERRUN 1).rf (SH_CH_STAT c ch) f := by
  have haddr : SH_CH_STAT c ch < 0x1000000 ∧ isEvc (SH_CH_STAT c ch) = false := by
    have hoff : SH_CH_STAT c ch = 0x1000 * c + (SH_CH_STAT c ch - 0x1000 * c) := by
      unfold SH_CH_STAT
      omega
    refine ⟨?_, ?_⟩
    · unfold SH_CH_STAT
      omega
    · rw [hoff]
      exact isEvc_core hc (by unfold SH_CH_STAT; omega)
  obtain ⟨hlow, hevc⟩ := haddr
  exact State.rf_congr ((s.kick_beyond c ch count w ctx h).rget hlow hevc) f

theorem State.kick_spec (hc : c < 2048) (hch : ch < 4) (count w : Nat) (ctx : BitVec 16)
    (hring : s.ringSlots c ch ≤ 4096) (hready : s.rf (SH_CH_STAT c ch) SH_CH_STAT_READY ≤ s.rf (SH_CH_STAT c ch) SH_CH_STAT_INUSE)
    (hinuse : s.rf (SH_CH_STAT c ch) SH_CH_STAT_INUSE ≤ s.ringSlots c ch) :
    (s.kick c ch count ctx w).cores = s.cores ∧ (s.kick c ch count ctx w).mem = s.mem ∧
      (s.kick c ch count ctx w).rf (SH_CH_STAT c ch) SH_CH_STAT_READY =
        s.rf (SH_CH_STAT c ch) SH_CH_STAT_READY + min count (s.ringRoom c ch) ∧
      (s.kick c ch count ctx w).rf (SH_CH_STAT c ch) SH_CH_STAT_INUSE =
        s.rf (SH_CH_STAT c ch) SH_CH_STAT_INUSE + min count (s.ringRoom c ch) ∧
      (min count (s.ringRoom c ch) < count → (s.kick c ch count ctx w).rf (SH_CH_STAT c ch) SH_CH_STAT_OVERRUN = 1) ∧
      (min count (s.ringRoom c ch) = count → SameRegsBut s (s.kick c ch count ctx w) fun a => a = SH_CH_STAT c ch) := by
  have hroom : s.rf (SH_CH_STAT c ch) SH_CH_STAT_INUSE + min count (s.ringRoom c ch) ≤ 4096 := by
    unfold State.ringRoom
    omega
  obtain ⟨hr, hi⟩ := s.rf_readied c ch (min count (s.ringRoom c ch)) w
  have hwidth : 4096 < 2 ^ SH_CH_STAT_READY.w ∧ 4096 < 2 ^ SH_CH_STAT_INUSE.w := by decide
  rw [Nat.mod_eq_of_lt (by omega)] at hr hi
  obtain ⟨q, x, hreadied⟩ := s.readied_only c ch (min count (s.ringRoom c ch)) w
  rcases Nat.lt_or_ge (s.ringRoom c ch) count with hover | hfits
  · have hfield := s.rf_kick_beyond c ch hc hch count w ctx hover
    obtain ⟨⟨r, hw, n, b, ws, e, o, hkick⟩, _⟩ := s.kick_beyond c ch count w ctx hover
    refine ⟨by rw [hkick, hreadied]; rfl, by rw [hkick, hreadied]; rfl, ?_, ?_, fun _ => ?_, fun hall => absurd hall (by omega)⟩
    · rw [hfield, State.rf_raise_apart _ _ _ (by decide), hr]
    · rw [hfield, State.rf_raise_apart _ _ _ (by decide), hi]
    · rw [hfield, State.rf_raise_same _ _ _ _ (by decide)]
      exact Nat.or_mod_two_eq_one.2 (.inr rfl)
  · rw [s.kick_within c ch count w ctx hfits]
    exact ⟨by rw [hreadied], by rw [hreadied], hr, hi, fun hover => absurd hover (by omega), fun _ a _ ha => s.rget_readied_other c ch _ w ha⟩
end

/-! ## What each operation leaves -/

section
variable (s : State) (c : CoreIx) (i n : Nat)

theorem SameRegsBut.status (f : Fld) (v : Nat) : SameRegsBut s (s.wf (CD_SEQ_STATUS c) f v) fun a => a = CD_SEQ_STATUS c :=
  fun _ _ ha => s.rget_wf_other f v ha
theorem State.ctlAt_loop_spec (e : BitVec 11) (cnt : BitVec 16) :
    (s.ctlAt c i n (.loop e cnt)).core c =
        { s.core c with loops := ⟨i, e.toNat, cnt.toNat + 1⟩ :: (s.core c).loops } ∧
      (s.ctlAt c i n (.loop e cnt)).rf (CD_SEQ_STATUS c) CD_SEQ_STATUS_LDEPTH = ((s.core c).loops.length + 1) % 8 :=
  ⟨State.core_setCore_same .., State.rf_wf_same _ _ _ _ (by decide)⟩
theorem State.ctlAt_ksig_spec (k : BitVec 6) (v : BitVec 16) :
    s.ctlAt c i n (.ksig k v) = { s with kpend := (s.ctlAt c i n (.ksig k v)).kpend, regs := (s.ctlAt c i n (.ksig k v)).regs,
                                         hwSet := (s.ctlAt c i n (.ksig k v)).hwSet } ∧
      SameRegsBut s (s.ctlAt c i n (.ksig k v)) (fun _ => False) ∧
      (s.ctlAt c i n (.ksig k v)).kp (knotKey (gclusterOf c) k.toNat) =
        { s.kp (knotKey (gclusterOf c) k.toNat) with
          sigs := (s.kp (knotKey (gclusterOf c) k.toNat)).sigs ++ [(c.val, v.toNat)],
          sigBeat := max (s.kp (knotKey (gclusterOf c) k.toNat)).sigBeat (n + 1) } := by
  rw [State.ctlAt]
  generalize hq : ({ s.kp (knotKey (gclusterOf c) k.toNat) with
      sigs := (s.kp (knotKey (gclusterOf c) k.toNat)).sigs ++ [(c.val, v.toNat)],
      sigBeat := max (s.kp (knotKey (gclusterOf c) k.toNat)).sigBeat (n + 1) } : KnotPend) = q
  obtain ⟨⟨r, w, hcount⟩, hregs⟩ := CountsOnly.cdEvc (s.setKp (knotKey (gclusterOf c) k.toNat) q) c.isLt 0x12 1
  refine ⟨by rw [hcount]; rfl, hregs, ?_⟩
  rw [hcount]
  exact State.kp_setKp_same ..
end

/-! ## The obligation -/

theorem exec_jmp (c : CoreIx) (s : State) (tg : BitVec 11) (h : s.seqState c < 2) :
    exec (.jmp c tg) s = .next ((s.land c (s.bc c)).wf (CD_SEQ_STATUS c) CD_SEQ_STATUS_PC tg.toNat) :=
  congrArg Host.Outcome.next (State.slotOp_running _ h)
theorem exec_ksig (c : CoreIx) (s : State) (k : BitVec 6) {v : BitVec 16} (h : v ≠ 0) :
    exec (.ksig c k v) s = s.cOp c (.ksig k v) := if_neg h
theorem exec_shkick (c : CoreIx) (s : State) (ch : BitVec 2) {n : BitVec 12} (h : n ≠ 0) :
    exec (.shkick c ch n) s = s.cOp c (.shkick ch n) := if_neg h

section
variable (s : State) (c : CoreIx) (hrun : s.seqState c < 2)
include hrun

theorem exec_shkick_spec (ch : BitVec 2) (n : BitVec 12) (hn : n ≠ 0) (hring : s.ringSlots c ch.toNat ≤ 4096)
    (hready : s.rf (SH_CH_STAT c ch.toNat) SH_CH_STAT_READY ≤ s.rf (SH_CH_STAT c ch.toNat) SH_CH_STAT_INUSE)
    (hinuse : s.rf (SH_CH_STAT c ch.toNat) SH_CH_STAT_INUSE ≤ s.ringSlots c ch.toNat) :
    ∃ t k, exec (.shkick c ch n) s = .next t ∧ t.cores = (s.land c (s.bc c)).cores ∧ t.mem = s.mem ∧
      k = min n.toNat (s.ringSlots c ch.toNat - s.rf (SH_CH_STAT c ch.toNat) SH_CH_STAT_INUSE) ∧
      t.rf (SH_CH_STAT c ch.toNat) SH_CH_STAT_READY = s.rf (SH_CH_STAT c ch.toNat) SH_CH_STAT_READY + k ∧
      t.rf (SH_CH_STAT c ch.toNat) SH_CH_STAT_INUSE = s.rf (SH_CH_STAT c ch.toNat) SH_CH_STAT_INUSE + k ∧
      (k < n.toNat → t.rf (SH_CH_STAT c ch.toNat) SH_CH_STAT_OVERRUN = 1) ∧
      (k = n.toNat → SameRegsBut (s.land c (s.bc c)) t fun a => a = SH_CH_STAT c ch.toNat) := by
  have hexec := (exec_shkick c s ch hn).trans (s.cOp_running c (.shkick ch n) hrun)
  have hmem : (s.land c (s.bc c)).mem = s.mem := by rw [(s.land_onlyCore c (s.bc c)).1]
  have hslots := s.ringSlots_land c (s.bc c) ch
  have hchan := s.rf_land_channel c (s.bc c) ch
  generalize s.land c (s.bc c) = u at *
  rw [← hslots] at hring
  rw [← hchan, ← hchan] at hready
  rw [← hchan, ← hslots] at hinuse
  obtain ⟨hcs, hm, hr, hi, hover, hall⟩ := u.kick_spec c ch.toNat c.isLt ch.isLt n.toNat (s.bc c + 1) (u.ctx (u.partOfCore c))
    hring hready hinuse
  rw [← hslots, ← hchan, ← hchan]
  exact ⟨_, _, hexec, hcs, hm.trans hmem, rfl, hr, hi, hover, hall⟩

theorem exec_bound_spec : ∃ t, exec (.bound c) s = .next t ∧ t.cores = (s.land c (s.bc c)).cores ∧ t.mem = s.mem ∧
    t.rf (CD_BOUND c) CD_BOUND_BC = s.bc c ∧ t.rf (CD_BOUND c) CD_BOUND_INDEX = s.rf (CD_SEQ_STATUS c) CD_SEQ_STATUS_PC ∧
    SameRegsBut (s.land c (s.bc c)) t (fun a => a = CD_BOUND c) := by
  have hexec := s.cOp_running c .bound hrun
  have hmem : (s.land c (s.bc c)).mem = s.mem := by rw [(s.land_onlyCore c (s.bc c)).1]
  obtain ⟨hbc, hix⟩ := boundWord_get (s.rf (CD_SEQ_STATUS c) CD_SEQ_STATUS_PC) (s.bc c) (Fld.get_lt ..) (Fld.get_lt ..)
  generalize s.rf (CD_SEQ_STATUS c) CD_SEQ_STATUS_PC = i at *
  generalize s.land c (s.bc c) = u at *
  obtain ⟨hcs, hm⟩ := u.boundAt_keeps c (boundWord i (s.bc c))
  have hreg := u.rget_boundAt c (boundWord i (s.bc c))
  rw [State.ctlAt_bound] at hexec
  refine ⟨_, hexec, hcs, hm.trans hmem, ?_, ?_, fun a _ ha => ?_⟩
  · rw [State.rf, hreg, State.rget_rset_same, hbc]
  · rw [State.rf, hreg, State.rget_rset_same, hix]
  · rw [hreg]
    exact u.rget_rset_other _ ha

theorem exec_kwait_spec (k : BitVec 6) (cons : Bool) (n : BitVec 32) (w : Wait) (hw : w = s.waitAt c (s.bc c) k cons n) :
    (n.toNat ≤ s.knotLeft (gclusterOf c) k.toNat → s.lowerReady (s.grp (s.grpOf c)).waits w = false →
      ∃ t, exec (.kwait c k cons n) s = .next t ∧ t = { s.land c (s.bc c) with kpend := t.kpend } ∧
        (t.kp (knotKey (gclusterOf c) k.toNat)).consumed =
          (s.kp (knotKey (gclusterOf c) k.toNat)).consumed + (if cons then n.toNat else 0)) ∧
    (s.knotLeft (gclusterOf c) k.toNat < n.toNat ∨ s.lowerReady (s.grp (s.grpOf c)).waits w = true →
      ∃ t, exec (.kwait c k cons n) s = .next t ∧ t = { s.land c (s.bc c) with groups := t.groups, regs := t.regs } ∧
        SameRegsBut (s.land c (s.bc c)) t (fun a => a = CD_SEQ_STATUS c) ∧
        t.rf (CD_SEQ_STATUS c) CD_SEQ_STATUS_WAITING = 1 ∧
        (t.grp (s.grpOf c)).waits = (s.grp (s.grpOf c)).waits ++ [w]) := by
  have hexec := s.cOp_running c (.kwait k cons n) hrun
  have hpb := s.pb_land c (s.bc c) (pairOf c)
  have hkp := s.kp_land c (s.bc c) (knotKey (gclusterOf c) k.toNat)
  have hgrpOf := s.grpOf_land c (s.bc c)
  have hgrp := s.grp_land c (s.bc c) (s.grpOf c)
  have hok := s.waitOk_land c (s.bc c) w
  have hlower := s.lowerReady_land c (s.bc c) (s.grp (s.grpOf c)).waits w
  generalize s.land c (s.bc c) = u at *
  have hwt : u.waitAt c (s.bc c) k cons n = w := by rw [hw, State.waitAt, hpb, State.waitAt]
  have hcount : s.waitOk w = decide (n.toNat ≤ s.knotLeft (gclusterOf c) k.toNat) := by
    rw [hw]
    rfl
  refine ⟨fun hthr hlow => ?_, fun hheld => ?_⟩
  · have hready := u.kwaitAt_ready c (s.bc c) k cons n (by rw [hwt, hok, hcount, decide_eq_true hthr])
      (by rw [hgrpOf, hgrp, hwt, hlower, hlow])
    refine ⟨_, hexec.trans (congrArg Host.Outcome.next hready), u.consume_only _, ?_⟩
    rw [← hkp]
    exact u.consume_consumed _
  · have hpend := u.kwaitAt_pending_spec c (s.bc c) k cons n (by
      rw [hgrpOf, hgrp, hwt, hok, hlower, hcount, decide_eq_false_iff_not, Nat.not_le]
      exact hheld)
    rw [hgrpOf, hgrp, hwt] at hpend
    exact ⟨_, hexec, hpend⟩
end

/-- Settles O16: landing confines itself to the core, and each operation then acts by its own equation. -/
theorem controlOperations : Obligations.ControlOperations := by
  intro c s u i hrun hu hi
  have hexec (op : COp) : s.cOp c op = .next (u.ctlAt c i (s.bc c) op) := by rw [hu, hi, s.cOp_running c op hrun]
  have hland : OnlyCore s u c := hu ▸ s.land_onlyCore c (s.bc c)
  obtain ⟨_, hcores, _⟩ := hland
  have hset (k : Core) (d : Nat) (hd : d ≠ c.val) : (u.setCore c k).core d = s.core d :=
    (u.core_setCore_other k hd).trans (hcores d hd)
  have hloops : (u.core c).loops = (s.core c).loops := hu ▸ (s.core_land_keeps c (s.bc c)).1
  have hkp (key : Nat) : u.kp key = s.kp key := hu ▸ s.kp_land c (s.bc c) key
  refine ⟨hu ▸ s.land_onlyCore c (s.bc c), fun tg => ?_, fun e n => ?_, ?_, fun k v hv => ?_, fun k v => ?_, fun z => ?_, fun z => ?_,
    fun m => ?_, fun v => ?_, fun ch n hn hring hready hinuse => hu ▸ exec_shkick_spec s c hrun ch n hn hring hready hinuse,
    hu ▸ hi ▸ exec_bound_spec s c hrun, fun k cons n w hw => hu ▸ exec_kwait_spec s c hrun k cons n w hw⟩
  · refine ⟨_, by rw [exec_jmp c s tg hrun, ← hu], rfl, .status u c _ _, ?_, ?_⟩
    · rw [State.rf_wf_same _ _ _ _ (by decide)]
      exact Nat.mod_eq_of_lt tg.isLt
    · rw [State.seqState, State.rf_wf_apart _ _ _ (by decide), hu]
      exact s.seqState_land c _
  · obtain ⟨hcore, hdepth⟩ := u.ctlAt_loop_spec c i (s.bc c) e n
    rw [hloops] at hcore hdepth
    exact ⟨_, hexec (.loop e n), rfl, .status (u.setCore c _) c _ _, hset _, hcore, hdepth⟩
  · refine ⟨_, hexec .halt, rfl, .status u c _ _, State.rf_wf_same _ _ _ _ (by decide), ?_⟩
    rw [hi]
    exact (State.rf_wf_apart _ _ _ (by decide)).trans (hu ▸ s.rf_land_status c _ (by decide))
  · obtain ⟨hks, hregs, hq⟩ := u.ctlAt_ksig_spec c i (s.bc c) k v
    rw [hkp] at hq
    exact ⟨_, (exec_ksig c s k hv).trans (hexec (.ksig k v)), hks, hregs, hq⟩
  · refine ⟨_, hexec (.kset k v), rfl, ?_⟩
    rw [← hkp]
    exact State.kp_setKp_same ..
  · exact ⟨_, hexec (.lzopen z), rfl, hset _, State.core_setCore_same ..⟩
  · obtain ⟨fl, hcore, hnone⟩ := u.flight_lzclose c i (s.bc c) z
    refine ⟨_, hexec (.lzclose z), rfl, hset _, .status (u.setCore c _) c _ _, u.zopen_lzclose .., ?_, ?_⟩
    · rw [hcore]
    · rw [hcore]
      exact hnone
  · exact ⟨_, hexec (.flagclr m), rfl, fun _ _ ha => u.rget_rset_other _ ha, u.flagsOf_clearFlags ..⟩
  · exact ⟨_, hexec (.flagmv v), rfl, hset _, State.core_setCore_same ..⟩

end Sys2Proof.Machine
end

section
/-! PROOF. Issue of a bundle (O18). -/
namespace Sys2Proof.Machine

/-! ## The slots that work on registers (R51 to R58, R63, R109) -/

/-- A core with other address and pool registers and other waiting accesses. -/
def Core.withAccess (k : Core) (ar : Tab (BitVec 15)) (pr : Tab (BitVec 16)) (bs : List BankAcc) : Core :=
  { k with ar := ar, pr := pr, banks := bs }

theorem advanceRegs_only (k : Core) (op : MOp) : ∃ ar pr, advanceRegs k op = k.withAccess ar pr k.banks := by
  unfold advanceRegs
  dsimp only
  repeat' split
  all_goals exact ⟨_, _, rfl⟩
theorem setPr_only (k : Core) (op : MOp) : ∃ pr, setPr k op = k.withAccess k.ar pr k.banks := by
  unfold setPr
  split
  · exact ⟨_, rfl⟩
  · exact ⟨_, rfl⟩
/-- Both M slots change address and pool registers, and add their accesses and pool reads. -/
theorem State.issueMs_eq (s : State) (c b : Nat) (m0 m1 : MOp) : ∃ ar pr, s.issueMs c b m0 m1 =
    { s with poolOps := s.poolOps ++ issuePool (s.core c) b 0 m0 c ++ issuePool (s.core c) b 1 m1 c }.setCore c
      ((s.core c).withAccess ar pr
        ((s.core c).banks ++ issueAcc (s.core c) b 0 m0 c ++ issueAcc (s.core c) b 1 m1 c)) := by
  obtain ⟨ar0, pr0, h0⟩ := advanceRegs_only (s.core c) m0
  obtain ⟨ar1, pr1, h1⟩ := advanceRegs_only (advanceRegs (s.core c) m0) m1
  obtain ⟨pr2, h2⟩ := setPr_only (advanceRegs (advanceRegs (s.core c) m0) m1) m0
  obtain ⟨pr3, h3⟩ := setPr_only (setPr (advanceRegs (advanceRegs (s.core c) m0) m1) m0) m1
  unfold State.issueMs
  dsimp only
  rw [h3, h2, h1, h0]
  exact ⟨_, _, rfl⟩

theorem foldl_withAccess {α : Type} (f : Core → α → Core) (ar : Tab (BitVec 15)) (pr : Tab (BitVec 16)) (bs : List BankAcc)
    (hf : ∀ k x, f (k.withAccess ar pr bs) x = (f k x).withAccess ar pr bs) (l : List α) (k : Core) :
    l.foldl f (k.withAccess ar pr bs) = (l.foldl f k).withAccess ar pr bs := by
  induction l generalizing k with
  | nil => rfl
  | cons x l ih => rw [List.foldl_cons, hf, ih, List.foldl_cons]
/-- A new image of an accumulator, with flag events of its own (R42, R51), and a new SPEC with it (R52). -/
def Core.putAcc (k : Core) (key : Nat) (img : BitVec 4096) : Core := { k with acc := Tab.set 0 k.acc key img }
def Core.putMmv (k : Core) (key due : Nat) (r : Res (BitVec 4096)) : Core := (k.putAcc key r.val).sendFlags due r.flags
def Core.putSpec (k : Core) (key : Nat) (t : BitVec 16) (img : BitVec 4096) : Core :=
  { k with spec := Tab.set 0 k.spec key t, acc := Tab.set 0 k.acc key img }

section
variable (k : Core) (key due b e : Nat) (f : MmvF)

theorem issueE_mmv : issueE k b (.mmv f) =
    (engines f.mask).foldl (fun k' e => k'.putMmv (accKey e f.set.toNat) (b + 4) (mmvEngine k e f)) k := rfl
theorem issueE_spec (mask : BitVec 4) (set : BitVec 3) (t : BitVec 16) : issueE k b (.spec mask set t) =
    (engines mask).foldl (fun k e => k.putSpec (accKey e set.toNat) t 0) k := rfl
theorem issueE_zero (mask : BitVec 4) (sets : BitVec 8) : issueE k b (.zero mask sets) =
    (engines mask).foldl (fun k e =>
      ((List.range 8).filter sets.getLsbD).foldl (fun k i => k.putAcc (accKey e i) 0) k) k := rfl

section
variable (ar : Tab (BitVec 15)) (pr : Tab (BitVec 16)) (bs : List BankAcc)

theorem Core.putMmv_withAccess (r : Res (BitVec 4096)) :
    (k.withAccess ar pr bs).putMmv key due r = (k.putMmv key due r).withAccess ar pr bs := by
  unfold Core.putMmv Core.sendFlags
  split
  · rfl
  · rfl
theorem mmvEngine_withAccess : mmvEngine (k.withAccess ar pr bs) e f = mmvEngine k e f := by
  have hab : (k.withAccess ar pr bs).ab = k.ab := rfl
  have hwb : (k.withAccess ar pr bs).wb = k.wb := rfl
  have hspec (key : Nat) : (k.withAccess ar pr bs).accSpec key = k.accSpec key := rfl
  have himg (key : Nat) : (k.withAccess ar pr bs).accImg key = k.accImg key := rfl
  simp only [mmvEngine, hab, hwb, hspec, himg]
theorem Core.putAcc_withAccess (img : BitVec 4096) :
    (k.withAccess ar pr bs).putAcc key img = (k.putAcc key img).withAccess ar pr bs := rfl
theorem Core.putSpec_withAccess (t : BitVec 16) (img : BitVec 4096) :
    (k.withAccess ar pr bs).putSpec key t img = (k.putSpec key t img).withAccess ar pr bs := rfl

/-- An E operation does not depend on address registers and accesses, and leaves them. -/
theorem issueE_withAccess (op : EOp) : issueE (k.withAccess ar pr bs) b op = (issueE k b op).withAccess ar pr bs := by
  cases op with
  | nop => rfl
  | mmv f =>
    rw [issueE_mmv, issueE_mmv]
    simp only [mmvEngine_withAccess]
    exact foldl_withAccess _ ar pr bs (fun k' e => k'.putMmv_withAccess ..) _ k
  | spec mask set t =>
    rw [issueE_spec, issueE_spec]
    exact foldl_withAccess _ ar pr bs (fun k' e => k'.putSpec_withAccess ..) _ k
  | zero mask sets =>
    rw [issueE_zero, issueE_zero]
    refine foldl_withAccess _ ar pr bs (fun k' e => ?_) _ k
    exact foldl_withAccess _ ar pr bs (fun k' i => k'.putAcc_withAccess ..) _ k'
end

/-- The same vector registers and loops. -/
def Core.SameVector (k k' : Core) : Prop := k'.vr = k.vr ∧ k'.loops = k.loops
theorem Core.SameVector.foldl {α : Type} {g : Core → α → Core} (hg : ∀ (k : Core) x, k.SameVector (g k x)) (l : List α) (k : Core) :
    k.SameVector (l.foldl g k) :=
  List.foldlRecOn l g ⟨rfl, rfl⟩ fun k' hk x _ => ⟨(hg k' x).1.trans hk.1, (hg k' x).2.trans hk.2⟩
theorem Core.SameVector.putMmv (r : Res (BitVec 4096)) : k.SameVector (k.putMmv key due r) := by
  unfold Core.putMmv Core.sendFlags
  split
  · exact ⟨rfl, rfl⟩
  · exact ⟨rfl, rfl⟩
theorem Core.SameVector.putAcc (img : BitVec 4096) : k.SameVector (k.putAcc key img) := ⟨rfl, rfl⟩
theorem Core.SameVector.putSpec (t : BitVec 16) (img : BitVec 4096) : k.SameVector (k.putSpec key t img) := ⟨rfl, rfl⟩
theorem Core.SameVector.issueE (op : EOp) : k.SameVector (issueE k b op) := by
  cases op with
  | nop => exact ⟨rfl, rfl⟩
  | mmv f =>
    rw [issueE_mmv]
    exact .foldl (fun k' e => .putMmv k' ..) _ k
  | spec mask set t =>
    rw [issueE_spec]
    exact .foldl (fun k' e => .putSpec k' ..) _ k
  | zero mask sets =>
    rw [issueE_zero]
    exact .foldl (fun k' e => .foldl (fun k' i => .putAcc k' ..) _ k') _ k
end

/-! ## All slots but the control slot (R67) -/

/-- The operations of a bundle take effect at count n, but for its control operation. -/
def State.issueSlots (s : State) (c n : Nat) (b : Bundle) : State :=
  let k0 := s.core c
  let s := s.issueMs c n b.m0 b.m1
  let s := s.setCore c (issueE (s.core c) n b.e)
  let kv := issueS (issueV { k0 with flight := [] } n b.v) n b.s
  let k := s.core c
  let sb : List BankAcc :=
    if b.scrub then [{ beat := n + 1, issued := n, slot := 5, line := 0, n := 0, pld := false, kind := .scrub }] else []
  s.setCore c { k with flight := k.flight ++ kv.flight, banks := k.banks ++ sb }
/-- The accesses a bundle's M slots and its scrub start. -/
def bundleAcc (b : Bundle) (k : Core) (n c : Nat) : List BankAcc :=
  issueAcc k n 0 b.m0 c ++ issueAcc k n 1 b.m1 c ++ (if b.scrub then [⟨n + 1, n, 5, 0, 0, false, .scrub⟩] else [])
def bundlePool (b : Bundle) (k : Core) (n c : Nat) : List PoolOp := issuePool k n 0 b.m0 c ++ issuePool k n 1 b.m1 c
theorem State.issueSlots_eq (s : State) (c n : Nat) (b : Bundle) : ∃ k0 k1 k, s.issueSlots c n b =
    (({ s with poolOps := s.poolOps ++ bundlePool b (s.core c) n c }.setCore c k0).setCore c k1).setCore c k ∧
    k.banks = (s.core c).banks ++ bundleAcc b (s.core c) n c ∧ k.vr = (s.core c).vr ∧
    k.acc = (issueE (s.core c) n b.e).acc ∧ k.loops = (s.core c).loops := by
  obtain ⟨ar, pr, hm⟩ := s.issueMs_eq c n b.m0 b.m1
  obtain ⟨hvr, hloops⟩ := Core.SameVector.issueE (s.core c) n b.e
  unfold State.issueSlots
  dsimp only
  rw [hm, State.core_setCore_same, State.core_setCore_same, issueE_withAccess, bundlePool, ← List.append_assoc]
  refine ⟨_, _, _, rfl, ?_, hvr, rfl, hloops⟩
  simp only [Core.withAccess, bundleAcc, List.append_assoc]

/-! ## What a control operation leaves (R70 to R87) -/

/-- STATE and the loops after a control operation, before PC moves on (R70, R87). -/
def stateAfter (st : Nat) : COp → Nat
  | .halt => 2
  | _ => st
def loopsAfter (i : Nat) (ls : List LoopRec) : COp → List LoopRec
  | .loop e cnt => ⟨i, e.toNat, cnt.toNat + 1⟩ :: ls
  | _ => ls

/-- A control operation touches of its core what flies and the loops, and of its status neither SCNT nor GROUP. -/
structure CtlKeeps (s t : State) (c st : Nat) (ls : List LoopRec) : Prop where
  mem : t.mem = s.mem
  poolOps : t.poolOps = s.poolOps
  others : SameCoresBut s t c
  own : ∃ fl, t.core c = { s.core c with flight := fl, loops := ls }
  count : ∀ g, (t.grp g).count = (s.grp g).count
  state : t.seqState c = st
  scnt : t.rf (CD_SEQ_STATUS c) CD_SEQ_STATUS_SCNT = s.rf (CD_SEQ_STATUS c) CD_SEQ_STATUS_SCNT
  group : t.grpOf c = s.grpOf c

section
variable {s t : State} {c st : Nat} {ls : List LoopRec}

theorem CtlKeeps.of_same (hmem : t.mem = s.mem) (hpool : t.poolOps = s.poolOps) (hcores : t.cores = s.cores)
    (hgroups : t.groups = s.groups) (hreg : t.rget (CD_SEQ_STATUS c) = s.rget (CD_SEQ_STATUS c)) :
    CtlKeeps s t c (s.seqState c) (s.core c).loops where
  mem := hmem
  poolOps := hpool
  others := fun d _ => by rw [State.core, State.core, hcores]
  own := ⟨(s.core c).flight, by rw [State.core, State.core, hcores]⟩
  count := fun g => by rw [State.grp, State.grp, hgroups]
  state := State.rf_congr hreg _
  scnt := State.rf_congr hreg _
  group := by rw [State.grpOf, State.grpOf, State.rf_congr hreg]
theorem CtlKeeps.setCore (s : State) (c : Nat) (fl : List Flight) (ls : List LoopRec) :
    CtlKeeps s (s.setCore c { s.core c with flight := fl, loops := ls }) c (s.seqState c) ls where
  mem := rfl
  poolOps := rfl
  others := fun _ hd => s.core_setCore_other _ hd
  own := ⟨fl, State.core_setCore_same ..⟩
  count := fun _ => rfl
  state := rfl
  scnt := rfl
  group := rfl
theorem CtlKeeps.setGrp (s : State) (c g : Nat) (ws : List Wait) :
    CtlKeeps s (s.setGrp g { s.grp g with waits := ws }) c (s.seqState c) (s.core c).loops where
  mem := rfl
  poolOps := rfl
  others := fun _ _ => rfl
  own := ⟨(s.core c).flight, rfl⟩
  count := fun h => by
    by_cases hg : h = g
    · rw [hg, State.grp_setGrp_same]
    · rw [State.grp_setGrp_other _ _ hg]
  state := rfl
  scnt := rfl
  group := rfl
theorem CtlKeeps.wf (h : CtlKeeps s t c st ls) (f : Fld) (v : Nat) (hst : f.Apart CD_SEQ_STATUS_STATE)
    (hscnt : f.Apart CD_SEQ_STATUS_SCNT) (hgroup : f.Apart CD_SEQ_STATUS_GROUP) :
    CtlKeeps s (t.wf (CD_SEQ_STATUS c) f v) c st ls where
  mem := h.mem
  poolOps := h.poolOps
  others := h.others
  own := h.own
  count := h.count
  state := (t.rf_wf_apart _ v hst).trans h.state
  scnt := (t.rf_wf_apart _ v hscnt).trans h.scnt
  group := by rw [State.grpOf, t.rf_wf_apart _ v hgroup, ← State.grpOf, h.group]
theorem CtlKeeps.halted (s : State) (c : Nat) :
    CtlKeeps s (s.wf (CD_SEQ_STATUS c) CD_SEQ_STATUS_STATE 2) c 2 (s.core c).loops where
  mem := rfl
  poolOps := rfl
  others := fun _ _ => rfl
  own := ⟨(s.core c).flight, rfl⟩
  count := fun _ => rfl
  state := s.rf_wf_same _ _ _ (by decide)
  scnt := s.rf_wf_apart _ _ (by decide)
  group := by rw [State.grpOf, s.rf_wf_apart _ _ (by decide), ← State.grpOf]
end

section
variable (s : State) (c : CoreIx) (i n : Nat)

theorem CtlKeeps.kwaitAt (k : BitVec 6) (cons : Bool) (thr : BitVec 32) :
    CtlKeeps s (s.kwaitAt c n k cons thr) c (s.seqState c) (s.core c).loops := by
  by_cases hok : s.waitOk (s.waitAt c n k cons thr) = true ∧
      s.lowerReady (s.grp (s.grpOf c)).waits (s.waitAt c n k cons thr) = false
  · obtain ⟨hcount, hlow⟩ := hok
    rw [s.kwaitAt_ready c n k cons thr hcount hlow, State.consume_only]
    exact .of_same rfl rfl rfl rfl rfl
  · rw [not_and_or, Bool.not_eq_true, Bool.not_eq_false] at hok
    rw [s.kwaitAt_pending c n k cons thr hok]
    generalize hu : s.setGrp (s.grpOf c) { s.grp (s.grpOf c) with
      waits := (s.grp (s.grpOf c)).waits ++ [s.waitAt c n k cons thr] } = u
    obtain ⟨v, w, hshow, _⟩ := u.showWaits_eq c
    rw [hshow, ← hu]
    exact ((CtlKeeps.setGrp s c _ _).wf _ v (by decide) (by decide) (by decide)).wf _ w (by decide) (by decide) (by decide)
theorem CD_SEQ_STATUS_lt : CD_SEQ_STATUS c < 0x1000000 := by
  unfold CD_SEQ_STATUS
  omega
theorem isEvc_CD_SEQ_STATUS : isEvc (CD_SEQ_STATUS c) = false := isEvc_core (o := 0) c.isLt (by omega)
theorem CtlKeeps.kick (ch : BitVec 2) (count w : Nat) (ctx : BitVec 16) :
    CtlKeeps s (s.kick c ch.toNat count ctx w) c (s.seqState c) (s.core c).loops := by
  have hne : CD_SEQ_STATUS c ≠ SH_CH_STAT c ch.toNat := (SH_CH_STAT_ne_CD_SEQ_STATUS c ch.toNat c).symm
  have hreadied := s.rget_readied_other c ch.toNat (min count (s.ringRoom c ch.toNat)) w hne
  obtain ⟨q, x, honly⟩ := s.readied_only c ch.toNat (min count (s.ringRoom c ch.toNat)) w
  rcases Nat.lt_or_ge (s.ringRoom c ch.toNat) count with hover | hfits
  · have hrec := s.kick_beyond c ch.toNat count w ctx hover
    have hreg := (hrec.rget (CD_SEQ_STATUS_lt c) (isEvc_CD_SEQ_STATUS c)).trans ((State.rget_raise_other _ _ _ hne).trans hreadied)
    obtain ⟨⟨r, hw, m, b, ws, e, o, hkick⟩, _⟩ := hrec
    rw [honly] at hkick
    refine .of_same ?_ ?_ ?_ ?_ hreg
    all_goals rw [hkick]; rfl
  · rw [s.kick_within c ch.toNat count w ctx hfits]
    refine .of_same ?_ ?_ ?_ ?_ hreadied
    all_goals rw [honly]
theorem CtlKeeps.boundAt (w : BitVec 64) : CtlKeeps s (s.boundAt c w) c (s.seqState c) (s.core c).loops := by
  obtain ⟨p, honly⟩ := s.boundAt_eq c w
  have hreg := (s.rget_boundAt c w (CD_SEQ_STATUS c)).trans (s.rget_rset_other _ (CD_BOUND_ne_CD_SEQ_STATUS c c).symm)
  refine .of_same ?_ ?_ ?_ ?_ hreg
  all_goals rw [honly]; rfl
theorem State.ctlAt_keeps (op : COp) :
    CtlKeeps s (s.ctlAt c i n op) c (stateAfter (s.seqState c) op) (loopsAfter i (s.core c).loops op) := by
  cases op with
  | nop => exact .of_same rfl rfl rfl rfl rfl
  | jmp tg => exact .of_same rfl rfl rfl rfl rfl
  | loop e cnt => exact (CtlKeeps.setCore s c _ _).wf _ _ (by decide) (by decide) (by decide)
  | halt => exact .halted s c
  | kwait k cons thr => exact .kwaitAt s c n k cons thr
  | ksig k v =>
    obtain ⟨honly, hregs, _⟩ := s.ctlAt_ksig_spec c i n k v
    refine .of_same ?_ ?_ ?_ ?_ (hregs _ (isEvc_CD_SEQ_STATUS c) not_false)
    all_goals rw [honly]
  | kset k v => exact .of_same rfl rfl rfl rfl rfl
  | lzopen z => exact .setCore s c _ _
  | lzclose z => exact (CtlKeeps.setCore s c _ _).wf _ _ (by decide) (by decide) (by decide)
  | flagmv vd => exact .setCore s c _ _
  | flagclr m => exact .of_same rfl rfl rfl rfl (s.rget_rset_other _ (CD_CORE_FLAGS_ne_CD_SEQ_STATUS c c).symm)
  | shkick ch cnt => exact .kick s c ch _ _ _
  | bound =>
    rw [State.ctlAt_bound]
    exact .boundAt s c _
end

/-! ## The end of an issue beat (R69, R70, R83, R89) -/

/-- PC, LDEPTH, HELD and SCNT of an issue beat. -/
def State.issueStatus (s : State) (c pc depth : Nat) (scrub : Bool) : State :=
  let s := ((s.wf (CD_SEQ_STATUS c) CD_SEQ_STATUS_PC (pc % 2048)).wf (CD_SEQ_STATUS c) CD_SEQ_STATUS_LDEPTH depth).wf
    (CD_SEQ_STATUS c) CD_SEQ_STATUS_HELD 0
  s.wf (CD_SEQ_STATUS c) CD_SEQ_STATUS_SCNT (if scrub then 0 else s.rf (CD_SEQ_STATUS c) CD_SEQ_STATUS_SCNT + 1)
/-- After its slots, a bundle moves its core and its group on. -/
def State.issueEnd (s : State) (c n : Nat) (scrub : Bool) (next : Nat × List LoopRec) : State :=
  let s := s.setCore c { s.core c with loops := next.2, holdRun := 0 }
  let s := s.issueStatus c next.1 next.2.length scrub
  let s := s.wf (CD_BEAT_COUNT c) CD_BEAT_COUNT_BC (n + 1)
  s.setGrp (s.grpOf c) { s.grp (s.grpOf c) with count := max (s.grp (s.grpOf c)).count (n + 1) }

section
variable (s : State) (c : Nat)

theorem State.issue_eq (i n : Nat) (b : Bundle) : s.issue c i n b =
    ((((s.issueSlots c n b).ctlAt c i n b.c).issueEnd c n b.scrub
      (nextPc (((s.issueSlots c n b).ctlAt c i n b.c).core c) i b.c)).cdEvc c 0x02 1).opEvents c (isMmv b.e)
        (decide (b.v ≠ .nop)) (decide (b.s ≠ .nop)) := rfl

theorem State.issueStatus_onlyRegs (pc depth : Nat) (scrub : Bool) : OnlyRegs s (s.issueStatus c pc depth scrub) :=
  (((OnlyRegs.wf ..).trans (.wf ..)).trans (.wf ..)).trans (.wf ..)
theorem State.issueStatus_spec (pc depth : Nat) (scrub : Bool) :
    (s.issueStatus c pc depth scrub).rf (CD_SEQ_STATUS c) CD_SEQ_STATUS_PC = pc % 2048 ∧
      (s.issueStatus c pc depth scrub).rf (CD_SEQ_STATUS c) CD_SEQ_STATUS_HELD = 0 ∧
      (s.issueStatus c pc depth scrub).rf (CD_SEQ_STATUS c) CD_SEQ_STATUS_SCNT =
        (if scrub then 0 else s.rf (CD_SEQ_STATUS c) CD_SEQ_STATUS_SCNT + 1) % 2 ^ CD_SEQ_STATUS_SCNT.w ∧
      (s.issueStatus c pc depth scrub).seqState c = s.seqState c ∧
      (s.issueStatus c pc depth scrub).grpOf c = s.grpOf c := by
  unfold State.issueStatus State.seqState State.grpOf
  simp (disch := decide) only [State.rf_wf_field, State.rf_wf_same]
  simp only [and_true]
  exact ⟨Nat.mod_mod .., rfl⟩

/-- The rest of an issue beat as registers, and then the group's count. -/
def State.issueRegs (s : State) (c n : Nat) (scrub : Bool) (next : Nat × List LoopRec) : State :=
  ((s.setCore c { s.core c with loops := next.2, holdRun := 0 }).issueStatus c next.1 next.2.length scrub).wf (CD_BEAT_COUNT c)
    CD_BEAT_COUNT_BC (n + 1)
section
variable (n : Nat) (scrub : Bool) (next : Nat × List LoopRec)
theorem State.issueEnd_eq : s.issueEnd c n scrub next = (s.issueRegs c n scrub next).setGrp ((s.issueRegs c n scrub next).grpOf c)
    { (s.issueRegs c n scrub next).grp ((s.issueRegs c n scrub next).grpOf c) with
      count := max ((s.issueRegs c n scrub next).grp ((s.issueRegs c n scrub next).grpOf c)).count (n + 1) } := rfl
theorem State.issueRegs_onlyRegs :
    OnlyRegs (s.setCore c { s.core c with loops := next.2, holdRun := 0 }) (s.issueRegs c n scrub next) :=
  (State.issueStatus_onlyRegs ..).trans (.wf ..)
theorem State.rf_issueRegs_status (f : Fld) : (s.issueRegs c n scrub next).rf (CD_SEQ_STATUS c) f =
    ((s.setCore c { s.core c with loops := next.2, holdRun := 0 }).issueStatus c next.1 next.2.length scrub).rf
      (CD_SEQ_STATUS c) f :=
  State.rf_wf_other _ _ _ _ (CD_BEAT_COUNT_ne_CD_SEQ_STATUS c c).symm
theorem State.bc_issueRegs : (s.issueRegs c n scrub next).bc c = (n + 1) % 2 ^ CD_BEAT_COUNT_BC.w := by
  unfold State.issueRegs State.bc
  exact State.rf_wf_same _ _ _ _ (by decide)
theorem State.rf_setGrp (g : Nat) (k : Grp) (a : Nat) (f : Fld) : (s.setGrp g k).rf a f = s.rf a f := rfl
theorem State.rf_issueEnd (a : Nat) (f : Fld) : (s.issueEnd c n scrub next).rf a f = (s.issueRegs c n scrub next).rf a f := by
  rw [State.issueEnd_eq, State.rf_setGrp]
theorem State.issueEnd_spec :
    (s.issueEnd c n scrub next).bc c = (n + 1) % 2 ^ CD_BEAT_COUNT_BC.w ∧
      (s.issueEnd c n scrub next).rf (CD_SEQ_STATUS c) CD_SEQ_STATUS_PC = next.1 % 2048 ∧
      (s.issueEnd c n scrub next).rf (CD_SEQ_STATUS c) CD_SEQ_STATUS_HELD = 0 ∧
      (s.issueEnd c n scrub next).rf (CD_SEQ_STATUS c) CD_SEQ_STATUS_SCNT =
        (if scrub then 0 else s.rf (CD_SEQ_STATUS c) CD_SEQ_STATUS_SCNT + 1) % 2 ^ CD_SEQ_STATUS_SCNT.w ∧
      (s.issueEnd c n scrub next).seqState c = s.seqState c ∧
      ((s.issueEnd c n scrub next).grp (s.grpOf c)).count = max (s.grp (s.grpOf c)).count (n + 1) := by
  obtain ⟨hpc, hheld, hscnt, hstate, hgrp⟩ :=
    (s.setCore c { s.core c with loops := next.2, holdRun := 0 }).issueStatus_spec c next.1 next.2.length scrub
  have hreg := s.rf_issueRegs_status c n scrub next
  have hgroup : (s.issueRegs c n scrub next).grpOf c = s.grpOf c := by
    rw [State.grpOf, hreg, ← State.grpOf, hgrp]
    rfl
  have hgroups : (s.issueRegs c n scrub next).grp = s.grp := by
    obtain ⟨_, _, hg⟩ := (s.issueRegs_onlyRegs c n scrub next).sameCompute
    funext g
    rw [State.grp, hg]
    rfl
  have hend (f : Fld) := (s.rf_issueEnd c n scrub next (CD_SEQ_STATUS c) f).trans (hreg f)
  refine ⟨(s.rf_issueEnd ..).trans (s.bc_issueRegs ..), (hend _).trans hpc, (hend _).trans hheld, (hend _).trans hscnt,
    (hend _).trans hstate, ?_⟩
  rw [State.issueEnd_eq, hgroup, hgroups, State.grp_setGrp_same]
theorem State.issueEnd_keeps : (s.issueEnd c n scrub next).mem = s.mem ∧ (s.issueEnd c n scrub next).poolOps = s.poolOps ∧
    (s.issueEnd c n scrub next).cores = (s.setCore c { s.core c with loops := next.2, holdRun := 0 }).cores := by
  obtain ⟨r, w, m, honly⟩ := s.issueRegs_onlyRegs c n scrub next
  rw [State.issueEnd_eq]
  generalize s.issueRegs c n scrub next = u at *
  rw [honly]
  exact ⟨rfl, rfl, rfl⟩
end
end

/-! ## The bundle as a whole -/

/-- PC after a bundle at index i (R70). -/
def pcAfter (i : Nat) (ls : List LoopRec) : COp → Nat
  | .jmp tg => tg.toNat
  | .halt => i
  | op => (decideLoops i (i + 1) (loopsAfter i ls op)).1 % 2048
theorem nextPc_eq {k : Core} {i : Nat} {ls : List LoopRec} {op : COp} (hk : k.loops = loopsAfter i ls op) (hi : i < 2048) :
    (nextPc k i op).1 % 2048 = pcAfter i ls op := by
  cases op with
  | jmp tg => exact Nat.mod_eq_of_lt tg.isLt
  | halt => exact Nat.mod_eq_of_lt hi
  | _ => exact congrArg (fun l => (decideLoops i (i + 1) l).1 % 2048) hk

/-- The six slots of a bundle at index i and count n have taken effect (R67). -/
structure SlotsTaken (s t : State) (c i n : Nat) (b : Bundle) : Prop where
  mem : t.mem = s.mem
  poolOps : t.poolOps = s.poolOps ++ bundlePool b (s.core c) n c
  others : SameCoresBut s t c
  banks : (t.core c).banks = (s.core c).banks ++ bundleAcc b (s.core c) n c
  vr : (t.core c).vr = (s.core c).vr
  acc : (t.core c).acc = (issueE (s.core c) n b.e).acc
  loops : (t.core c).loops = loopsAfter i (s.core c).loops b.c
  count : ∀ g, (t.grp g).count = (s.grp g).count
  state : t.seqState c = stateAfter (s.seqState c) b.c
  scnt : t.rf (CD_SEQ_STATUS c) CD_SEQ_STATUS_SCNT = s.rf (CD_SEQ_STATUS c) CD_SEQ_STATUS_SCNT
  group : t.grpOf c = s.grpOf c

section
variable (s : State) (c : CoreIx) (i n : Nat) (b : Bundle)

theorem State.slotsTaken : SlotsTaken s ((s.issueSlots c n b).ctlAt c i n b.c) c i n b := by
  obtain ⟨k0, k1, k, hslots, hbanks, hvr, hacc, hloops⟩ := s.issueSlots_eq c n b
  have hctl := (s.issueSlots c n b).ctlAt_keeps c i n b.c
  generalize (s.issueSlots c n b).ctlAt c i n b.c = t at *
  rw [hslots] at hctl
  obtain ⟨hmem, hpool, hothers, ⟨fl, hown⟩, hcount, hstate, hscnt, hgroup⟩ := hctl
  rw [State.core_setCore_same, hloops] at hown
  refine ⟨hmem, hpool, fun d hd => ?_, ?_, ?_, ?_, ?_, hcount, hstate, hscnt, hgroup⟩
  · rw [hothers d hd, State.core_setCore_other _ _ hd, State.core_setCore_other _ _ hd, State.core_setCore_other _ _ hd]
    rfl
  · rw [hown, ← hbanks]
  · rw [hown, ← hvr]
  · rw [hown, ← hacc]
  · rw [hown]
theorem CountsOnly.keeps {s t : State} (h : CountsOnly s t) :
    t.mem = s.mem ∧ t.poolOps = s.poolOps ∧ t.cores = s.cores ∧ t.groups = s.groups ∧ t.dstore = s.dstore := by
  obtain ⟨⟨_, _, rfl⟩, _⟩ := h
  exact ⟨rfl, rfl, rfl, rfl, rfl⟩
theorem State.issue_spec (hi : i < 2048) :
    (s.issue c i n b).bc c = (n + 1) % 2 ^ CD_BEAT_COUNT_BC.w ∧ (s.issue c i n b).mem = s.mem ∧
      SameCoresBut s (s.issue c i n b) c ∧ (s.issue c i n b).rf (CD_SEQ_STATUS c) CD_SEQ_STATUS_HELD = 0 ∧
      (s.issue c i n b).rf (CD_SEQ_STATUS c) CD_SEQ_STATUS_PC = pcAfter i (s.core c).loops b.c ∧
      (s.issue c i n b).seqState c = stateAfter (s.seqState c) b.c ∧
      (s.issue c i n b).rf (CD_SEQ_STATUS c) CD_SEQ_STATUS_SCNT =
        (if b.scrub then 0 else s.rf (CD_SEQ_STATUS c) CD_SEQ_STATUS_SCNT + 1) % 2 ^ CD_SEQ_STATUS_SCNT.w ∧
      ((s.issue c i n b).core c).banks = (s.core c).banks ++ bundleAcc b (s.core c) n c ∧
      (s.issue c i n b).poolOps = s.poolOps ++ bundlePool b (s.core c) n c ∧
      ((s.issue c i n b).core c).vr = (s.core c).vr ∧
      ((s.issue c i n b).core c).acc = (issueE (s.core c) n b.e).acc ∧
      ((s.issue c i n b).grp (s.grpOf c)).count = max (s.grp (s.grpOf c)).count (n + 1) := by
  rw [State.issue_eq]
  obtain ⟨hmem, hpool, hothers, hbanks, hvr, hacc, hloops, hcount, hstate, hscnt, hgroup⟩ := s.slotsTaken c i n b
  generalize (s.issueSlots c n b).ctlAt c i n b.c = w at *
  obtain ⟨hbc, hpc, hheld, hscrub, hst, hmax⟩ := w.issueEnd_spec c n b.scrub (nextPc (w.core c) i b.c)
  obtain ⟨hm, hp, hcores⟩ := w.issueEnd_keeps c n b.scrub (nextPc (w.core c) i b.c)
  rw [nextPc_eq hloops hi] at hpc
  rw [hscnt] at hscrub
  rw [hgroup, hcount] at hmax
  generalize w.issueEnd c n b.scrub (nextPc (w.core c) i b.c) = v at *
  have hevents := (CountsOnly.cdEvc v c.isLt 0x02 1).trans
    (.opEvents _ c.isLt (isMmv b.e) (decide (b.v ≠ .nop)) (decide (b.s ≠ .nop)))
  generalize (v.cdEvc c 0x02 1).opEvents c (isMmv b.e) (decide (b.v ≠ .nop)) (decide (b.s ≠ .nop)) = t at *
  obtain ⟨hem, hep, hec, heg, _⟩ := hevents.keeps
  have hstatus (f : Fld) : t.rf (CD_SEQ_STATUS c) f = v.rf (CD_SEQ_STATUS c) f :=
    State.rf_congr (hevents.2 _ (isEvc_CD_SEQ_STATUS c) not_false) f
  have hstep : t.bc c = v.bc c := (hevents.onlyCore c).bc
  have hcore (d : Nat) : t.core d = (w.setCore c { w.core c with loops := (nextPc (w.core c) i b.c).2, holdRun := 0 }).core d := by
    rw [State.core, State.core, ← hcores, hec]
  have hown := (hcore c).trans (State.core_setCore_same ..)
  refine ⟨hstep.trans hbc, hem.trans (hm.trans hmem), fun d hd => ?_, (hstatus _).trans hheld, (hstatus _).trans hpc,
    (hstatus _).trans (hst.trans hstate), (hstatus _).trans hscrub, ?_, hep.trans (hp.trans hpool), ?_, ?_, ?_⟩
  · rw [hcore, State.core_setCore_other _ _ hd, hothers d hd]
  · rw [hown, ← hbanks]
  · rw [hown, ← hvr]
  · rw [hown, ← hacc]
  · rw [State.grp, heg, ← State.grp, hmax]
end

/-! ## BUNDLE_ISSUE (R68, R69, R76, R88) -/

section
variable (c : CoreIx) (up : List Upset) (s : State)

/-- A stop of its group has reached the core (R88). -/
def State.pastStop (s : State) (c : Nat) : Bool :=
  match (s.grp (s.grpOf c)).stop with
  | some m => decide (s.bc c ≥ m + holdH)
  | none => false
theorem State.pastStop_false (h : ∀ m, (s.grp (s.grpOf c)).stop = some m → s.bc c < m + 8) : s.pastStop c = false := by
  unfold State.pastStop
  split
  next m hm => exact decide_eq_false (Nat.not_le.2 (h m hm))
  next => rfl
theorem State.pastStop_true {m : Nat} (hm : (s.grp (s.grpOf c)).stop = some m) (h : m + 8 ≤ s.bc c) : s.pastStop c = true := by
  simp only [State.pastStop, hm]
  exact decide_eq_true h

/-- Issue at index i, once nothing holds or stops the core. -/
def State.issueAt (s : State) (c : CoreIx) (up : List Upset) (i : Nat) : Host.Outcome State Fault Refusal :=
  let n := s.bc c
  let s := (s.land c n).strikes (dsWord c i) 4 up
  let b := decodeBundle (Tab.get 0 s.dstore (c * 2048 + i))
  match s.issueFault c b i with
  | some (cause, slot, line) => .next (s.coreFault c cause slot false line n)
  | none => .next (s.issue c i n b)
theorem State.issueAt_none {i : Nat} {u : State} {b : Bundle} (hu : u = (s.land c (s.bc c)).strikes (dsWord c i) 4 up)
    (hb : b = decodeBundle (Tab.get 0 u.dstore (c * 2048 + i))) (h : u.issueFault c b i = none) :
    s.issueAt c up i = .next (u.issue c i (s.bc c) b) := by
  unfold State.issueAt
  dsimp only
  rw [← hu, ← hb, h]
theorem exec_bundleIssue : exec (.bundleIssue c up) s =
    if s.seqState c = 2 then .next (s.haltedBeat c)
    else if !s.running c || s.pastStop c then .next s
    else if s.held c then .next (s.heldBeat c)
    else s.issueAt c up (s.rf (CD_SEQ_STATUS c) CD_SEQ_STATUS_PC) := rfl
theorem exec_bundleIssue_halted (h : s.seqState c = 2) : exec (.bundleIssue c up) s = .next (s.haltedBeat c) := by
  rw [exec_bundleIssue, if_pos h]
theorem exec_bundleIssue_none (h : s.seqState c = 0 ∨ s.seqState c = 3 ∨
    s.running c = true ∧ (∃ m, (s.grp (s.grpOf c)).stop = some m ∧ m + 8 ≤ s.bc c)) : exec (.bundleIssue c up) s = .next s := by
  have hne : s.seqState c ≠ 2 ∧ (!s.running c || s.pastStop c) = true := by
    rcases h with h | h | ⟨h, m, hm, hn⟩
    · simp [State.running, h]
    · simp [State.running, h]
    · rw [s.pastStop_true c hm hn, Bool.or_true]
      refine ⟨fun h2 => ?_, rfl⟩
      simp [State.running, h2] at h
  rw [exec_bundleIssue, if_neg hne.1, if_pos hne.2]
section
variable (hrun : s.running c = true) (hstop : ∀ m, (s.grp (s.grpOf c)).stop = some m → s.bc c < m + 8)
include hrun hstop

theorem exec_bundleIssue_running : exec (.bundleIssue c up) s =
    if s.held c then .next (s.heldBeat c) else s.issueAt c up (s.rf (CD_SEQ_STATUS c) CD_SEQ_STATUS_PC) := by
  have hne : s.seqState c ≠ 2 := fun h2 => by simp [State.running, h2] at hrun
  rw [exec_bundleIssue, if_neg hne, s.pastStop_false c hstop, hrun]
  rfl
end

/-! ### Held beats -/

/-- HELD and CD_HOLD of a held beat, but for its event. -/
def State.heldRegs (s : State) (c run : Nat) : State :=
  let s := (s.wf (CD_SEQ_STATUS c) CD_SEQ_STATUS_HELD 1).bump (CD_HOLD c) CD_HOLD_HELD_BEATS 1
  s.wf (CD_HOLD c) CD_HOLD_MAX_HOLD (max (s.rf (CD_HOLD c) CD_HOLD_MAX_HOLD) run)
theorem State.heldBeat_eq : s.heldBeat c =
    ((s.setCore c { s.core c with holdRun := (s.core c).holdRun + 1 }).heldRegs c ((s.core c).holdRun + 1)).cdEvc c 0x03 1 := rfl
theorem State.heldRegs_onlyRegs (run : Nat) : OnlyRegs s (s.heldRegs c run) :=
  ((OnlyRegs.wf ..).trans (.wf ..)).trans (.wf ..)
theorem State.rget_heldRegs_other (run : Nat) {a : Nat} (hs : a ≠ CD_SEQ_STATUS c) (hh : a ≠ CD_HOLD c) :
    (s.heldRegs c run).rget a = s.rget a := by
  unfold State.heldRegs
  rw [State.rget_wf_other _ _ _ hh, State.bump, State.rget_wf_other _ _ _ hh, State.rget_wf_other _ _ _ hs]
theorem State.rf_heldRegs_status (run : Nat) (f : Fld) :
    (s.heldRegs c run).rf (CD_SEQ_STATUS c) f = (s.wf (CD_SEQ_STATUS c) CD_SEQ_STATUS_HELD 1).rf (CD_SEQ_STATUS c) f := by
  have hne : CD_SEQ_STATUS c ≠ CD_HOLD c := (CD_HOLD_ne_CD_SEQ_STATUS c c).symm
  unfold State.heldRegs
  rw [State.rf_wf_other _ _ _ _ hne, State.bump, State.rf_wf_other _ _ _ _ hne]
theorem State.rf_heldRegs_beats (run : Nat) : (s.heldRegs c run).rf (CD_HOLD c) CD_HOLD_HELD_BEATS =
    min (s.rf (CD_HOLD c) CD_HOLD_HELD_BEATS + 1) CD_HOLD_HELD_BEATS.max := by
  unfold State.heldRegs
  rw [State.rf_wf_apart _ _ _ (by decide), State.rf_bump_same _ _ _ _ (by decide),
    State.rf_wf_other _ _ _ _ (CD_HOLD_ne_CD_SEQ_STATUS c c)]

theorem State.heldBeat_spec : (s.heldBeat c).mem = s.mem ∧ (s.heldBeat c).dstore = s.dstore ∧
    (s.heldBeat c).core c = { s.core c with holdRun := (s.core c).holdRun + 1 } ∧ SameCoresBut s (s.heldBeat c) c ∧
    SameRegsBut s (s.heldBeat c) (fun a => a = CD_SEQ_STATUS c ∨ a = CD_HOLD c) ∧
    (∀ f, (s.heldBeat c).rf (CD_SEQ_STATUS c) f = (s.wf (CD_SEQ_STATUS c) CD_SEQ_STATUS_HELD 1).rf (CD_SEQ_STATUS c) f) ∧
    (s.heldBeat c).rf (CD_HOLD c) CD_HOLD_HELD_BEATS =
      min (s.rf (CD_HOLD c) CD_HOLD_HELD_BEATS + 1) CD_HOLD_HELD_BEATS.max := by
  rw [State.heldBeat_eq]
  generalize hk : { s.core c with holdRun := (s.core c).holdRun + 1 } = k
  have honly := (s.setCore c k).heldRegs_onlyRegs c ((s.core c).holdRun + 1)
  have hother (a : Nat) := (s.setCore c k).rget_heldRegs_other c ((s.core c).holdRun + 1) (a := a)
  have hstatus := (s.setCore c k).rf_heldRegs_status c ((s.core c).holdRun + 1)
  have hbeats := (s.setCore c k).rf_heldRegs_beats c ((s.core c).holdRun + 1)
  generalize (s.setCore c k).heldRegs c ((s.core c).holdRun + 1) = v at *
  have hevents := CountsOnly.cdEvc v c.isLt 0x03 1
  generalize v.cdEvc c 0x03 1 = t at *
  obtain ⟨hem, _, hec, _, hed⟩ := hevents.keeps
  obtain ⟨hvm, hvc, _⟩ := honly.sameCompute
  obtain ⟨r, w, m, hv⟩ := honly
  have hcore (d : Nat) : t.core d = (s.setCore c k).core d := by rw [State.core, hec, hvc, ← State.core]
  refine ⟨hem.trans hvm, hed.trans (by rw [hv]; rfl), ?_, fun d hd => ?_, fun a he ha => ?_, fun f => ?_, ?_⟩
  · rw [hcore, State.core_setCore_same]
  · rw [hcore, State.core_setCore_other _ _ hd]
  · rw [not_or] at ha
    exact (hevents.2 a he not_false).trans (hother a ha.1 ha.2)
  · exact (State.rf_congr (hevents.2 _ (isEvc_CD_SEQ_STATUS c) not_false) f).trans (hstatus f)
  · exact (State.rf_congr (hevents.2 _ (isEvc_core c.isLt (by decide : 0x10 < 0x1000)) not_false) _).trans hbeats
end

theorem isEvc_CD_BEAT_COUNT (c : CoreIx) : isEvc (CD_BEAT_COUNT c) = false := isEvc_core c.isLt (by decide : 0x8 < 0x1000)
theorem State.bc_heldBeat (c : CoreIx) (s : State) : (s.heldBeat c).bc c = s.bc c := by
  obtain ⟨_, _, _, _, hregs, _⟩ := s.heldBeat_spec c
  exact State.rf_congr (hregs _ (isEvc_CD_BEAT_COUNT c) (by simp)) _
theorem State.haltedBeat_spec (c : CoreIx) (s : State) (h : s.seqState c = 2) : (s.haltedBeat c).bc c = s.bc c ∧
    (s.haltedBeat c).mem = s.mem ∧ (s.haltedBeat c).dstore = s.dstore ∧ (s.haltedBeat c).seqState c = 2 ∧
    (s.haltedBeat c).rf (CD_SEQ_STATUS c) CD_SEQ_STATUS_HELD = (s.held c).toNat := by
  unfold State.haltedBeat
  split
  next hheld =>
    obtain ⟨hmem, hds, _, _, _, hstatus, _⟩ := s.heldBeat_spec c
    refine ⟨s.bc_heldBeat c, hmem, hds, ?_, ?_⟩
    · rw [State.seqState, hstatus, State.rf_wf_apart _ _ _ (by decide)]
      exact h
    · rw [hstatus, State.rf_wf_same _ _ _ _ (by decide), hheld]
      rfl
  next hheld =>
    rw [Bool.not_eq_true] at hheld
    generalize ({ s.core c with holdRun := 0 } : Core) = k
    refine ⟨State.rf_wf_other _ _ _ _ (CD_BEAT_COUNT_ne_CD_SEQ_STATUS c c), rfl, rfl,
      (State.rf_wf_apart _ _ _ (by decide)).trans h, ?_⟩
    rw [State.rf_wf_same _ _ _ _ (by decide), hheld]
    rfl

/-! ### Issue -/

section
variable (s : State) (c : CoreIx) (i : Nat) (up : List Upset)

/-- The state a bundle issues on: results have landed, and errors have struck the draft store (R56, R68). -/
def State.struck (s : State) (c : CoreIx) (i : Nat) (up : List Upset) : State := (s.land c (s.bc c)).strikes (dsWord c i) 4 up
theorem State.struck_keeps : (s.struck c i up).mem = s.mem ∧ (s.struck c i up).dstore = s.dstore ∧
    (s.struck c i up).poolOps = s.poolOps ∧ (s.struck c i up).grp = s.grp ∧ SameCoresBut s (s.struck c i up) c ∧
    ((s.struck c i up).core c).loops = (s.core c).loops ∧ ((s.struck c i up).core c).banks = (s.core c).banks := by
  obtain ⟨honly, hothers, _⟩ := s.land_onlyCore c (s.bc c)
  obtain ⟨hloops, hbanks⟩ := s.core_land_keeps c (s.bc c)
  have hgrp := s.grp_land c (s.bc c)
  unfold State.struck
  generalize s.land c (s.bc c) = u at *
  refine ⟨?_, ?_, ?_, funext hgrp, hothers, hloops, hbanks⟩
  all_goals rw [honly]; rfl
theorem State.rf_struck {f : Fld} (h : CD_SEQ_STATUS_ZOPEN.Apart f) :
    (s.struck c i up).rf (CD_SEQ_STATUS c) f = s.rf (CD_SEQ_STATUS c) f := s.rf_land_status c (s.bc c) h
theorem State.grpOf_struck : (s.struck c i up).grpOf c = s.grpOf c := s.grpOf_land c (s.bc c)
end

/-- A bundle that issues without a scrub stands below the limit of scrubs (R83). -/
theorem State.scnt_of_issueFault {s : State} {c : Nat} {b : Bundle} {i : Nat} (h : s.issueFault c b i = none)
    (hb : b.scrub = false) : s.rf (CD_SEQ_STATUS c) CD_SEQ_STATUS_SCNT < 511 := by
  unfold State.issueFault at h
  rw [hb] at h
  by_contra hge
  split at h
  · exact absurd h (by simp)
  · rw [if_pos (by simpa using hge)] at h
    exact absurd h (by simp)

theorem stateAfter_eq (st : Nat) (op : COp) : stateAfter st op = if op = .halt then 2 else st := by
  cases op with
  | halt => rfl
  | _ => exact (if_neg nofun).symm

/-- Settles O18: the slots by `issue_spec` on what has landed, held and halted beats by `heldBeat_spec`. -/
theorem bundleIssueCompletes : Obligations.BundleIssueCompletes := by
  intro c up s
  refine ⟨fun hrun hstop => ⟨fun hheld => ?_, fun b u i hheld hi hu hb hfault => ?_⟩, fun h => ?_,
    exec_bundleIssue_none c up s⟩
  · obtain ⟨hmem, hds, hown, hothers, hregs, hstatus, hbeats⟩ := s.heldBeat_spec c
    have hexec := (exec_bundleIssue_running c up s hrun hstop).trans (if_pos hheld)
    refine ⟨_, hexec, s.bc_heldBeat c, hmem, hds, hown, hothers, hregs, ?_, ?_, hbeats⟩
    · rw [hstatus, State.rf_wf_apart _ _ _ (by decide)]
    · rw [hstatus, State.rf_wf_same _ _ _ _ (by decide)]
      rfl
  · obtain rfl : u = s.struck c i up := hu
    obtain ⟨hmem, hds, hpool, hgrp, hothers, hloops, hbanks⟩ := s.struck_keeps c i up
    obtain ⟨hbc, hm, ho, hh, hpc, hst, hscnt, hbk, hp, hvr, hacc, hcount⟩ :=
      (s.struck c i up).issue_spec c i (s.bc c) b (hi ▸ Fld.get_lt ..)
    have hexec : exec (.bundleIssue c up) s = .next ((s.struck c i up).issue c i (s.bc c) b) := by
      rw [exec_bundleIssue_running c up s hrun hstop, hheld, ← hi]
      exact s.issueAt_none c up rfl (by rw [hds, hb]) hfault
    have hstate : (s.struck c i up).seqState c = 1 := (s.rf_struck c i up (by decide)).trans (eq_of_beq hrun)
    rw [s.grpOf_struck, hgrp] at hcount
    refine ⟨_, hexec, hbc, hm.trans hmem, fun d hd => (ho d hd).trans (hothers d hd), hh, ?_, ?_, ?_, ?_, ?_, hvr, hacc, hcount⟩
    · rw [hpc, hloops]
      cases b.c <;> rfl
    · rw [hst, hstate, stateAfter_eq]
    · rw [hscnt, s.rf_struck c i up (by decide)]
      cases hscrub : b.scrub with
      | true => rfl
      | false =>
        have hlim := State.scnt_of_issueFault hfault hscrub
        rw [s.rf_struck c i up (by decide)] at hlim
        exact Nat.mod_eq_of_lt (Nat.lt_of_lt_of_le (Nat.succ_lt_succ hlim) (by decide))
    · rw [hbk, hbanks]
      simp only [bundleAcc, List.append_assoc]
    · rw [hp, hpool, bundlePool, List.append_assoc]
  · exact ⟨_, exec_bundleIssue_halted c up s h, s.haltedBeat_spec c h⟩

end Sys2Proof.Machine
end

section
/-! PROOF. Draft commands: the record of a stored slot in a state whose partition lies beyond the eight pairs (O49). -/
namespace Sys2Proof.Machine

/-! ## A group whose SLOTVALID address is a response word -/

/-- Byte 8 of a response is the low byte of the second word of its buffer (R338). -/
theorem State.respOf_byte8 (s : State) (fn : Nat) :
    (s.respOf fn).getD 8 0 = BitVec.ofNat 8 (s.rget (respBase fn + 8)).toNat := by
  rw [State.respOf, List.range_succ_eq_map, List.range_succ_eq_map]
  rfl

/-- The group number for which the address formula of LM_WEFT_SLOTVALID gives the second word of PF0's response buffer; the
package has groups 0 to 7 only (R23). -/
def farGroup : Nat := 0x6D200
/-- A loaded partition of that one group. -/
def farPart : Part :=
  { first := farGroup, pairs := 1, domain := 1, bulkBase := 0, bulkGib := 0, state := .loaded, cores := [], groups := [],
    knots := [], origins := [], level := 0, bounded := false, stopping := false, enc := false, draftId := 0, dump := none }
/-- The package is READY, with that partition as partition 1. -/
def farState : State := { State.reset.wf HD_BRINGUP HD_BRINGUP_OUTCOME 1 with parts := [(1, farPart)] }
/-- WEFT_SLOT_WRITE of slot 1 without a circuit, for partition 1 from PF0. -/
def writeSlotOne : Mail := ⟨0, ⟨0x30, 0, 1, 0, 7, 64, 0, 0, 0⟩, fitBytes 64 [1]⟩

theorem LM_WEFT_SLOTVALID_farGroup : LM_WEFT_SLOTVALID farGroup = respBase 0 + 8 := rfl
theorem writeSlotOne_admitted : Admits farState writeSlotOne 0x30 .own true writeSlotOne.hdr.length.toNat := by
  unfold Admits
  decide +kernel
theorem writeSlotOne_accepted : farState.ready = true ∧ slotOk farPart writeSlotOne.payload = true ∧
    farState.slotBusy writeSlotOne.part farPart 1 = false := by
  decide +kernel
/-- Byte 8 of the answer OK without a payload is the low byte of its length (R339). -/
theorem okResponse_byte8 : (fitBytes 4096 (mbResponse writeSlotOne.hdr stOK [])).getD 8 0 = 0 := by decide +kernel

/-- Refutes O49, in the clause of WEFT_SLOT_WRITE: the statement keeps no partition on the eight pairs (R23), and for one of
group `farGroup` the two things it asks of the next state exclude each other. The register that should show slot 1 valid is
the second word of the response buffer, and there the answer holds its payload length 0. -/
theorem not_draftCommands : ¬ Obligations.DraftCommands := by
  intro ⟨_, _, _, hweft, _⟩
  obtain ⟨hready, hok, hfree⟩ := writeSlotOne_accepted
  obtain ⟨hstore, _, _⟩ := hweft writeSlotOne farState farPart 1 writeSlotOne_admitted rfl rfl hready rfl
  obtain ⟨t, _, ⟨_, _, _, _, hresp⟩, _, hvalid, _⟩ := hstore hok hfree
  obtain ⟨hbit, _⟩ := hvalid farGroup (List.mem_singleton.2 rfl)
  have hlow : BitVec.ofNat 8 (t.rget (LM_WEFT_SLOTVALID farGroup)).toNat = 0 := by
    rw [LM_WEFT_SLOTVALID_farGroup, ← t.respOf_byte8 0, ← okResponse_byte8]
    exact congrArg (·.getD 8 0) hresp
  have hbit' : (BitVec.ofNat 8 (t.rget (LM_WEFT_SLOTVALID farGroup)).toNat).getLsbD 1 = true := by
    rw [State.rf, Fld.testBit_get] at hbit
    simpa [LM_WEFT_SLOTVALID_VALID, BitVec.getLsbD_ofNat] using hbit
  simp [hlow] at hbit'

end Sys2Proof.Machine
end

section
/-! PROOF. Crossing slips: the partition stops, and the crossing's register keeps the slip (O28). -/
namespace Sys2Proof.Machine

/-! ## What leaves the crossings' registers (R118) -/

/-- The crossing register of every cluster is as before. -/
structure CrossingsStand (s t : State) : Prop where
  rget : ∀ cl : ClusterIx, t.rget (CD_XING_STAT cl) = s.rget (CD_XING_STAT cl)

theorem CD_XING_STAT_lt (cl : ClusterIx) : CD_XING_STAT cl < 0x900000 := by
  unfold CD_XING_STAT
  omega
theorem isEvc_CD_XING_STAT (cl : ClusterIx) : isEvc (CD_XING_STAT cl) = false := by
  have hcl := cl.isLt
  unfold CD_XING_STAT
  simp [isEvc]
  omega

namespace CrossingsStand

theorem refl (s : State) : CrossingsStand s s := ⟨fun _ => rfl⟩
theorem trans {s t u : State} (h1 : CrossingsStand s t) (h2 : CrossingsStand t u) : CrossingsStand s u :=
  ⟨fun cl => (h2.rget cl).trans (h1.rget cl)⟩
theorem ofRegs {s t : State} (h : t.regs = s.regs) : CrossingsStand s t :=
  ⟨fun cl => congrArg (Tab.get (regReset (CD_XING_STAT cl)) · (CD_XING_STAT cl)) h⟩
theorem foldl {α : Type} {f : State → α → State} (h : ∀ s x, CrossingsStand s (f s x)) (l : List α) :
    ∀ s : State, CrossingsStand s (l.foldl f s) := by
  induction l with
  | nil => exact refl
  | cons x l ih => exact fun s => (h s x).trans (ih _)
theorem wf (s : State) {a : Nat} (f : Fld) (v : Nat) (h : ∀ cl : ClusterIx, CD_XING_STAT cl ≠ a) :
    CrossingsStand s (s.wf a f v) :=
  ⟨fun cl => s.rget_wf_other f v (h cl)⟩

/-! ### Cores that stop (R88) -/

theorem coreStops (s : State) (c cause slot : Nat) (both : Bool) (line beat : Nat) :
    CrossingsStand s (s.coreStops c cause slot both line beat) := by
  refine ⟨fun cl => s.rget_coreStops_other _ _ _ _ _ _ ?_ ?_⟩
  · unfold CD_XING_STAT CD_CORE_FAULT
    omega
  · unfold CD_XING_STAT CD_SEQ_STATUS
    omega
theorem stopIf (cause : Nat) (beat : State → Nat → Nat) (s : State) (c : Nat) : CrossingsStand s (s.stopIf cause beat c) := by
  unfold State.stopIf
  split
  · exact coreStops ..
  · exact refl s
theorem groupStop (s : State) (key : Nat) : CrossingsStand s (s.groupStop key) := by
  rcases s.groupStop_cases key with h | ⟨n, h⟩
  · rw [h]
    exact refl s
  · rw [h]
    exact foldl (stopIf _ _) _ s
theorem showWaits (s : State) (c : Nat) : CrossingsStand s (s.showWaits c) := by
  refine ⟨fun cl => s.rget_showWaits_other c ?_⟩
  unfold CD_XING_STAT CD_SEQ_STATUS
  omega
theorem stopChannels (s : State) (c : Nat) : CrossingsStand s (s.stopChannels c) := by
  refine foldl (fun u i => ?_) _ s
  split
  · refine wf _ _ _ fun cl => ?_
    unfold CD_XING_STAT SH_CH_STAT
    omega
  · exact refl u
theorem stopCores (s : State) (n : Nat) (p : Part) : CrossingsStand s (s.stopCores n p) := by
  rw [State.stopCores_eq]
  have hgroups : CrossingsStand s (s.stopGroups n) := foldl groupStop _ s
  have hwaits (u : State) (mine : List Nat) : CrossingsStand u (u.endWaits n p mine) := by
    refine .trans ?_ (foldl showWaits mine _)
    exact (foldl stopChannels p.coreIx u).trans (ofRegs rfl)
  exact (hgroups.trans (foldl (stopIf _ _) _ _)).trans (hwaits ..)

/-! ### Streams that abort, and a command that ends (R284, R340) -/

theorem evc (s : State) (cl k code : Nat) (sc : Nat → Bool) (n : Nat) (hk : k ≤ 8) :
    CrossingsStand s (s.evc (CD_EVC cl 0) k code sc n) := by
  refine ⟨fun x => s.rget_evc _ _ _ _ _ _ ?_⟩
  unfold CD_XING_STAT CD_EVC
  omega
theorem cdEvc (s : State) (c code n : Nat) : CrossingsStand s (s.cdEvc c code n) := evc s _ _ _ _ _ (Nat.le_refl 8)
theorem clEvc (s : State) (cl code n : Nat) : CrossingsStand s (s.clEvc cl code n) := evc s _ _ _ _ _ (Nat.le_refl 8)
theorem ofRecords {s t : State} (h : OnlyRecords s t) : CrossingsStand s t :=
  ⟨fun cl => h.rget (Nat.lt_trans (CD_XING_STAT_lt cl) (by decide)) (isEvc_CD_XING_STAT cl)⟩
theorem poolWrite (s : State) (cl off : Nat) (bs : List Byte) : CrossingsStand s (s.poolWrite cl off bs) := by
  have huse : CrossingsStand s (s.portUse cl off bs.length) := by
    refine .trans ?_ (clEvc ..)
    exact ofRegs rfl
  exact huse.trans (ofRegs rfl)
theorem epWrite (s : State) (p : Nat) (e : EpAddr) (c fmt : Nat) (bs : List Byte) :
    CrossingsStand s (s.epWrite p e c fmt bs).2 := by
  cases e with
  | sp core l =>
    unfold State.epWrite
    dsimp only
    split
    · exact refl s
    · split
      · refine .trans ?_ (cdEvc ..)
        exact ofRegs rfl
      · exact refl s
  | pool cl l =>
    unfold State.epWrite
    dsimp only
    split
    · exact poolWrite ..
    · exact refl s
  | slot ix => exact ofRegs rfl
theorem fillErr (s : State) (p i : Nat) : CrossingsStand s (s.fillErr p i) := by
  have hupd (u : State) (f : Stream → Stream) : CrossingsStand u (u.updStream p i f) := by
    unfold State.updStream
    split <;> exact ofRegs rfl
  unfold State.fillErr
  split
  · exact refl s
  next t _ =>
    split
    · exact refl s
    next e _ =>
      refine foldl (fun u c => ?_) _ s
      have hw := epWrite u p e c (cFmt t.raw) (errBytes (cFmt t.raw) 256)
      split
      next heq =>
        rw [heq] at hw
        exact hw
      next heq =>
        rw [heq] at hw
        exact hw.trans (hupd ..)
theorem freeEntries (s : State) (p i : Nat) : CrossingsStand s (s.freeEntries p i) := by
  have hcomb (u : State) (x : Nat) (f : Fld) (v : Nat) : CrossingsStand u (u.wf (LM_COMB x) f v) := by
    refine wf u f v fun cl => ?_
    unfold CD_XING_STAT LM_COMB
    omega
  unfold State.freeEntries
  refine (foldl (fun u e => ?_) _ s).trans (foldl (fun u e => ?_) _ _)
  · refine .trans (.trans ?_ (hcomb ..)) (hcomb ..)
    exact ofRegs rfl
  · refine .trans ?_ (hcomb ..)
    exact ofRegs rfl
theorem colAbort (s : State) (q : Part) : CrossingsStand s (s.colAbort q) := by
  have hend (u : State) (p i : Nat) : CrossingsStand u (u.streamEnd p i stColAborted 0) := by
    unfold State.streamEnd
    split
    · exact refl u
    · split
      · exact refl u
      · refine .trans (.trans ?_ (freeEntries ..)) (fillErr ..)
        exact ofRegs rfl
  refine foldl (fun u p => ?_) _ s
  refine .trans ?_ (foldl (fun u i => hend u p i) _ _)
  exact ofRegs rfl
theorem complete (s : State) (e : MbEnt) (st : Nat) (pl : List Byte) : CrossingsStand s (s.complete e st pl) := by
  have hresponse (fn seq : Nat) (bs : List Byte) : CrossingsStand s (s.putResponse fn seq st bs) := by
    refine ⟨fun cl => s.rget_putResponse_other fn seq st bs ?_ (.inl ?_)⟩
    · have hlt := CD_XING_STAT_lt cl
      unfold HD_MB_STAT
      omega
    · have hlt := CD_XING_STAT_lt cl
      unfold respBase
      omega
  unfold State.complete
  split
  · exact refl s
  · split
    · exact hresponse ..
    · split
      · exact ofRegs rfl
      · split
        · exact refl s
        · refine .trans ?_ (ofRecords (.hdEvc ..))
          exact ofRegs rfl
theorem lateDone (s : State) (n st : Nat) (pl : List Byte) : CrossingsStand s (s.lateDone n st pl) := by
  unfold State.lateDone
  split
  · exact refl s
  · refine .trans ?_ (complete ..)
    exact ofRegs rfl
theorem stopWhole (s : State) (n level : Nat) (r : FaultRec) : CrossingsStand s (s.stopWhole n level r) := by
  have hfaulted (u : State) : CrossingsStand u (u.enterFaulted n level r none) := by
    unfold State.enterFaulted
    split
    · exact refl u
    · refine .trans (.trans ?_ (colAbort ..)) (lateDone ..)
      exact ofRegs rfl
  unfold State.stopWhole
  split
  · exact refl s
  · exact ((stopCores ..).trans (hfaulted _)).trans (ofRecords (.report ..))

end CrossingsStand

/-! ## CROSSING_SLIP (R118, R384) -/

/-- A partition that is stopped as a whole has the record of a FAULTED one, on the same pairs. -/
theorem State.part?_stopWhole (s : State) {n : Nat} {p : Part} (level : Nat) (r : FaultRec) (h : s.part? n = some p) :
    (s.stopWhole n level r).part? n = some (p.faultedAs level (s.stopCores n p).recSeq r none) := by
  have hstop : (s.stopCores n p).part? n = some p := by
    obtain ⟨hparts, _⟩ := OnlyEnds.stopCores s n p
    rw [State.part?, hparts]
    exact h
  obtain ⟨hq, _⟩ := (s.stopCores n p).enterFaulted_spec level r none hstop
  simp only [State.stopWhole, h]
  exact ((BeyondCores.ofRecords (.report ..)).part? n).trans hq

/-- The state with the port's bit set in SLIPPED. -/
def State.slipped (s : State) (cl : ClusterIx) (port : Fin 6) : State :=
  s.wf (CD_XING_STAT cl) CD_XING_STAT_SLIPPED (s.rf (CD_XING_STAT cl) CD_XING_STAT_SLIPPED ||| 2 ^ port.val)

section
variable (s : State) (cl : ClusterIx) (port : Fin 6)

theorem State.rf_slipped : (s.slipped cl port).rf (CD_XING_STAT cl) CD_XING_STAT_SLIPPED =
    s.rf (CD_XING_STAT cl) CD_XING_STAT_SLIPPED ||| 2 ^ port.val := by
  have hlt : s.rf (CD_XING_STAT cl) CD_XING_STAT_SLIPPED ||| 2 ^ port.val < 2 ^ 6 :=
    Nat.or_lt_two_pow (Fld.get_lt ..) (Nat.pow_lt_pow_right (by decide) port.isLt)
  exact (s.rf_wf_same _ _ _ (by decide)).trans (Nat.mod_eq_of_lt hlt)

/-- The record of the slip, in the state that shows it. -/
def State.slipRec (s : State) (cl : ClusterIx) : FaultRec :=
  s.mkRec 0x02 0x01 (unitOf 2 cl) (s.ctx (s.partOfPair (cl.val / 32))) 0 (s.rf (CD_XING_STAT cl) CD_XING_STAT_SLIPPED) 0 0

/-- The pair's partition does not change with the register. -/
theorem exec_crossingSlip_some {p : Part} (h : s.part? (s.partOfPair (cl.val / 32)) = some p) :
    exec (.crossingSlip cl port) s =
      if p.state = .faulted then
        .next (((s.slipped cl port).setPart (s.partOfPair (cl.val / 32)) { p with level := max 1 p.level }).report
          ((s.slipped cl port).slipRec cl))
      else .next ((s.slipped cl port).stopWhole (s.partOfPair (cl.val / 32)) 1 ((s.slipped cl port).slipRec cl)) := by
  change (match s.part? (s.partOfPair (cl.val / 32)) with
    | some p => _
    | none => _) = _
  rw [h]
  rfl
theorem exec_crossingSlip_none (h : s.part? (s.partOfPair (cl.val / 32)) = none) :
    exec (.crossingSlip cl port) s = .next ((s.slipped cl port).event 0x02 0x01 (unitOf 2 cl) 0 0
      ((s.slipped cl port).rf (CD_XING_STAT cl) CD_XING_STAT_SLIPPED) 0 0) := by
  change (match s.part? (s.partOfPair (cl.val / 32)) with
    | some p => _
    | none => _) = _
  rw [h]
  rfl

end

/-- The register of a slipped port through whatever leaves the crossings. -/
theorem CrossingsStand.rf_slipped {s t : State} {cl : ClusterIx} {port : Fin 6} (h : CrossingsStand (s.slipped cl port) t) :
    t.rf (CD_XING_STAT cl) CD_XING_STAT_SLIPPED = s.rf (CD_XING_STAT cl) CD_XING_STAT_SLIPPED ||| 2 ^ port.val :=
  (State.rf_congr (h.rget cl) _).trans (s.rf_slipped cl port)

/-- Settles O28: a partition that is FAULTED already takes the level of its one new record, any other stops as a whole, and
without a partition the slip is an event. Each of the three leaves the crossings' registers. -/
theorem crossingSlipStopsPartition : Obligations.CrossingSlipStopsPartition := by
  unfold Obligations.CrossingSlipStopsPartition
  intro cl port s
  cases hp : s.part? (s.partOfPair (cl.val / 32)) with
  | none =>
    have hrec := OnlyRecords.event (s.slipped cl port) 0x02 0x01 (unitOf 2 cl) 0 0
      ((s.slipped cl port).rf (CD_XING_STAT cl) CD_XING_STAT_SLIPPED) 0 0
    obtain ⟨hmem, hcores, _⟩ := hrec.sameCompute
    obtain ⟨hparts, _⟩ := BeyondCores.ofRecords hrec
    exact ⟨_, exec_crossingSlip_none s cl port hp, (CrossingsStand.ofRecords hrec).rf_slipped,
      fun _ h => (nomatch h), fun _ => ⟨hmem, hparts, hcores⟩⟩
  | some p =>
    rw [exec_crossingSlip_some s cl port hp]
    have hp' : (s.slipped cl port).part? (s.partOfPair (cl.val / 32)) = some p := hp
    by_cases hfault : p.state = .faulted
    · have hset : CrossingsStand (s.slipped cl port)
          ((s.slipped cl port).setPart (s.partOfPair (cl.val / 32)) { p with level := max 1 p.level }) := .ofRegs rfl
      have hrec := OnlyRecords.report
        ((s.slipped cl port).setPart (s.partOfPair (cl.val / 32)) { p with level := max 1 p.level })
        ((s.slipped cl port).slipRec cl)
      have hpart := (BeyondCores.ofRecords hrec).part? (s.partOfPair (cl.val / 32))
      have hcross := hset.trans (.ofRecords hrec)
      refine ⟨_, if_pos hfault, hcross.rf_slipped, fun q hq => ?_, fun h => (nomatch h)⟩
      obtain rfl := Option.some.inj hq
      exact ⟨_, hpart.trans (State.part?_setPart_same _ _ hp'), hfault, Nat.le_max_left .., rfl, rfl⟩
    · have hcross :=
        CrossingsStand.stopWhole (s.slipped cl port) (s.partOfPair (cl.val / 32)) 1 ((s.slipped cl port).slipRec cl)
      refine ⟨_, if_neg hfault, hcross.rf_slipped, fun q hq => ?_, fun h => (nomatch h)⟩
      obtain rfl := Option.some.inj hq
      exact ⟨_, State.part?_stopWhole _ 1 _ hp', rfl, Nat.le_refl 1, rfl, rfl⟩

end Sys2Proof.Machine
end

section
/-! PROOF. The gear controller (O27). -/
namespace Sys2Proof.Machine

theorem exec_gearLatch (p : PairIx) (s : State) : exec (.gearLatch p) s = execGearLatch p s := rfl
theorem exec_gearAckCheck (p : PairIx) (acks : BitVec 32) (s : State) :
    exec (.gearAckCheck p acks) s = execGearAckCheck p acks s := rfl
theorem exec_gearBoundary (p : PairIx) (low : BitVec 32) (s : State) :
    exec (.gearBoundary p low) s = execGearBoundary p low s := rfl
theorem exec_voltConfirm (p : PairIx) (g : Fin 25) (s : State) :
    exec (.voltConfirm p g) s = .next (s.wf (CD_GEAR_CTL p) CD_GEAR_CTL_VOLT_OK g) := rfl
theorem exec_voltTimeout (p : PairIx) (g : Fin 25) (mv : BitVec 16) (s : State) :
    exec (.voltTimeout p g mv) s = .next ((s.event 0x0B 0x10 (unitOf 3 p) 0 0 g mv.toNat 0).askVolt p g) := rfl
theorem exec_crossingMarginLow (cl : ClusterIx) (port : Fin 6) (s : State) :
    exec (.crossingMarginLow cl port) s = .next (s.raise (CD_XING_STAT cl) CD_XING_STAT_MARGIN_LOW (2 ^ port.val)) := rfl

/-! ## The latch (R121, R122, R426) -/

section
variable (s : State) (p : PairIx)

theorem CD_GEAR_CTL_lt : CD_GEAR_CTL p < 0x1000000 := by
  unfold CD_GEAR_CTL
  omega
theorem CD_GEAR_CTL_ne_HD_PWR_STAT : CD_GEAR_CTL p ≠ HD_PWR_STAT := by
  unfold CD_GEAR_CTL HD_PWR_STAT
  omega
theorem CD_GEAR_STAT_ne_CD_GEAR_CTL : CD_GEAR_STAT p ≠ CD_GEAR_CTL p := by
  unfold CD_GEAR_CTL CD_GEAR_STAT
  omega

/-- The CAP_REQ that a latch beat brings (R426). -/
def State.latchedCap (s : State) (p : Nat) : Nat := if s.brake then 24 else Tab.get 0 s.capping.req p
theorem State.rget_latchCap_other {a : Nat} (hc : a ≠ CD_GEAR_CTL p) (hp : a ≠ HD_PWR_STAT) :
    (s.latchCap p).rget a = s.rget a := by
  refine (State.rget_wf_other _ _ _ hp).trans (State.rget_wf_other _ _ _ hc)
theorem State.rf_latchCap_cap : (s.latchCap p).rf (CD_GEAR_CTL p) CD_GEAR_CTL_CAP_REQ = s.latchedCap p % 32 :=
  (State.rf_wf_other _ _ _ _ (CD_GEAR_CTL_ne_HD_PWR_STAT p)).trans (State.rf_wf_same _ _ _ _ (by decide))
theorem State.rf_latchCap_apart {f : Fld} (h : CD_GEAR_CTL_CAP_REQ.Apart f) :
    (s.latchCap p).rf (CD_GEAR_CTL p) f = s.rf (CD_GEAR_CTL p) f :=
  (State.rf_wf_other _ _ _ _ (CD_GEAR_CTL_ne_HD_PWR_STAT p)).trans (State.rf_wf_apart _ _ _ h)
/-- The target with the latched CAP_REQ among the requests (R121). -/
def State.latchTarget (s : State) (p : Nat) : Nat :=
  max (max (s.rf (CD_GEAR_CTL p) CD_GEAR_CTL_HOST_REQ) (s.latchedCap p % 32))
    (max (s.rf (CD_GEAR_CTL p) CD_GEAR_CTL_THERM_REQ) (s.rf (CD_GEAR_CTL p) CD_GEAR_CTL_MON_REQ))
theorem State.gearTarget_latchCap : (s.latchCap p).gearTarget p = s.latchTarget p := by
  rw [State.gearTarget, s.rf_latchCap_cap, s.rf_latchCap_apart p (by decide), s.rf_latchCap_apart p (by decide),
    s.rf_latchCap_apart p (by decide), State.latchTarget]

/-- The gear the latch takes for a target (R121, R122). -/
def State.nextGear (s : State) (p : Nat) : Nat :=
  if s.gearTarget p ≥ s.rf (CD_GEAR_CTL p) CD_GEAR_CTL_CUR then s.gearTarget p
  else max (s.gearTarget p) (s.rf (CD_GEAR_CTL p) CD_GEAR_CTL_VOLT_OK)
/-- The target's voltage is not confirmed (R122). -/
def State.voltLacks (s : State) (p : Nat) : Bool :=
  decide (s.gearTarget p < s.rf (CD_GEAR_CTL p) CD_GEAR_CTL_CUR) &&
    decide (s.gearTarget p < s.rf (CD_GEAR_CTL p) CD_GEAR_CTL_VOLT_OK)
/-- NEXT and VPEND take what the target asks for. -/
def State.latchNext (s : State) (p : Nat) : State :=
  (s.wf (CD_GEAR_CTL p) CD_GEAR_CTL_NEXT (s.nextGear p)).wb (CD_GEAR_CTL p) CD_GEAR_CTL_VPEND (s.voltLacks p)
/-- The latch once CAP_REQ stands: NEXT, VPEND, the request for a voltage, and the mark of a change under way. -/
def State.latchGear (s : State) (p : Nat) : State :=
  let t := if s.voltLacks p then (s.latchNext p).askVolt p (s.gearTarget p) else s.latchNext p
  t.setPair p { t.pair p with changing := decide (s.nextGear p ≠ s.rf (CD_GEAR_CTL p) CD_GEAR_CTL_CUR) }
theorem exec_gearLatch_at (h : s.pb p % 4096 = 3840) : exec (.gearLatch p) s = .next ((s.latchCap p).latchGear p) :=
  (exec_gearLatch p s).trans (if_neg (not_not_intro h))

theorem State.nextGear_latchCap : (s.latchCap p).nextGear p =
    if s.latchTarget p ≥ s.rf (CD_GEAR_CTL p) CD_GEAR_CTL_CUR then s.latchTarget p
    else max (s.latchTarget p) (s.rf (CD_GEAR_CTL p) CD_GEAR_CTL_VOLT_OK) := by
  rw [State.nextGear, s.gearTarget_latchCap, s.rf_latchCap_apart p (by decide), s.rf_latchCap_apart p (by decide)]
theorem State.voltLacks_latchCap : (s.latchCap p).voltLacks p = true ↔
    s.latchTarget p < s.rf (CD_GEAR_CTL p) CD_GEAR_CTL_CUR ∧ s.latchTarget p < s.rf (CD_GEAR_CTL p) CD_GEAR_CTL_VOLT_OK := by
  rw [State.voltLacks, s.gearTarget_latchCap, s.rf_latchCap_apart p (by decide), s.rf_latchCap_apart p (by decide),
    Bool.and_eq_true, decide_eq_true_eq, decide_eq_true_eq]
theorem State.nextGear_lt : s.nextGear p < 32 := by
  have hfield (f : Fld) (hf : f.w = 5) : s.rf (CD_GEAR_CTL p) f < 32 := by
    have hlt := f.get_lt (s.rget (CD_GEAR_CTL p))
    rwa [hf] at hlt
  have htarget : s.gearTarget p < 32 :=
    Nat.max_lt.2 ⟨Nat.max_lt.2 ⟨hfield _ rfl, hfield _ rfl⟩, Nat.max_lt.2 ⟨hfield _ rfl, hfield _ rfl⟩⟩
  unfold State.nextGear
  split
  · exact htarget
  · exact Nat.max_lt.2 ⟨htarget, hfield _ rfl⟩

theorem State.latchNext_keeps :
    (s.latchNext p).mem = s.mem ∧ (s.latchNext p).cores = s.cores ∧ (s.latchNext p).pmbus = s.pmbus := by
  simp only [State.latchNext, State.wb, State.wf_mem, State.wf_cores, State.wf_pmbus, and_self]
theorem State.rget_setPair (q : Nat) (k : Pair) (a : Nat) : (s.setPair q k).rget a = s.rget a := rfl
theorem State.rget_askVolt (g a : Nat) : (s.askVolt p g).rget a = s.rget a := rfl
theorem State.rget_latchGear (a : Nat) : (s.latchGear p).rget a = (s.latchNext p).rget a := by
  rw [State.latchGear, State.rget_setPair]
  split
  · exact State.rget_askVolt ..
  · rfl
theorem State.mem_latchGear : (s.latchGear p).mem = s.mem := by
  obtain ⟨hmem, _, _⟩ := s.latchNext_keeps p
  rw [State.latchGear, State.setPair_mem]
  split
  · exact hmem
  · exact hmem
theorem State.cores_latchGear : (s.latchGear p).cores = s.cores := by
  obtain ⟨_, hcores, _⟩ := s.latchNext_keeps p
  rw [State.latchGear, State.setPair_cores]
  split
  · exact hcores
  · exact hcores
theorem State.pmbus_latchGear : (s.latchGear p).pmbus =
    s.pmbus ++ if s.voltLacks p = true then [(0x40 + p.val, railMv p (s.gearTarget p))] else [] := by
  obtain ⟨_, _, hpmbus⟩ := s.latchNext_keeps p
  rw [State.latchGear, State.setPair_pmbus, ← hpmbus]
  split
  · rfl
  · exact (List.append_nil _).symm
theorem State.rf_latchGear (a : Nat) (f : Fld) : (s.latchGear p).rf a f = (s.latchNext p).rf a f :=
  State.rf_congr (s.rget_latchGear p a) f
theorem State.rget_latchGear_other {a : Nat} (h : a ≠ CD_GEAR_CTL p) : (s.latchGear p).rget a = s.rget a :=
  (s.rget_latchGear p a).trans ((State.rget_wf_other _ _ _ h).trans (State.rget_wf_other _ _ _ h))
theorem State.rf_latchGear_next : (s.latchGear p).rf (CD_GEAR_CTL p) CD_GEAR_CTL_NEXT = s.nextGear p := by
  rw [s.rf_latchGear, State.latchNext, State.wb, State.rf_wf_apart _ _ _ (by decide), State.rf_wf_same _ _ _ _ (by decide)]
  exact Nat.mod_eq_of_lt (s.nextGear_lt p)
theorem State.rf_latchGear_vpend : (s.latchGear p).rf (CD_GEAR_CTL p) CD_GEAR_CTL_VPEND = 1 ↔ s.voltLacks p = true := by
  rw [s.rf_latchGear, State.latchNext, State.wb, State.rf_wf_same _ _ _ _ (by decide)]
  cases s.voltLacks p <;> decide
theorem State.rf_latchGear_apart {f : Fld} (hn : CD_GEAR_CTL_NEXT.Apart f) (hv : CD_GEAR_CTL_VPEND.Apart f) :
    (s.latchGear p).rf (CD_GEAR_CTL p) f = s.rf (CD_GEAR_CTL p) f := by
  rw [s.rf_latchGear, State.latchNext, State.wb, State.rf_wf_apart _ _ _ hv, State.rf_wf_apart _ _ _ hn]
theorem State.changing_latchGear : ((s.latchGear p).pair p).changing =
    decide (s.nextGear p ≠ s.rf (CD_GEAR_CTL p) CD_GEAR_CTL_CUR) := by
  rw [State.latchGear, State.pair_setPair_same]
end

/-- GEAR_LATCH at its beat. -/
theorem gearLatch_spec (p : PairIx) (s : State) (h : s.pb p % 4096 = 3840) : ∃ t, exec (.gearLatch p) s = .next t ∧
    t.rf (CD_GEAR_CTL p) CD_GEAR_CTL_CAP_REQ = s.latchedCap p % 32 ∧
    t.rf (CD_GEAR_CTL p) CD_GEAR_CTL_NEXT = (s.latchCap p).nextGear p ∧
    t.rf (CD_GEAR_CTL p) CD_GEAR_CTL_CUR = s.rf (CD_GEAR_CTL p) CD_GEAR_CTL_CUR ∧
    (t.rf (CD_GEAR_CTL p) CD_GEAR_CTL_VPEND = 1 ↔ (s.latchCap p).voltLacks p = true) ∧
    (t.pair p).changing = decide (t.rf (CD_GEAR_CTL p) CD_GEAR_CTL_NEXT ≠ s.rf (CD_GEAR_CTL p) CD_GEAR_CTL_CUR) ∧
    t.pmbus = s.pmbus ++ (if (s.latchCap p).voltLacks p = true then [(0x40 + p.val, railMv p (s.latchTarget p))] else []) ∧
    SameRegsBut s t (fun b => b = CD_GEAR_CTL p ∨ b = HD_PWR_STAT) ∧ t.mem = s.mem ∧ t.cores = s.cores := by
  refine ⟨_, exec_gearLatch_at s p h, ?_, State.rf_latchGear_next .., ?_, State.rf_latchGear_vpend .., ?_, ?_, fun b _ hb => ?_,
    State.mem_latchGear .., State.cores_latchGear ..⟩
  · rw [State.rf_latchGear_apart _ _ (by decide) (by decide), s.rf_latchCap_cap]
  · rw [State.rf_latchGear_apart _ _ (by decide) (by decide), s.rf_latchCap_apart p (by decide)]
  · rw [State.changing_latchGear, State.rf_latchGear_next, s.rf_latchCap_apart p (by decide)]
  · rw [State.pmbus_latchGear, s.gearTarget_latchCap]
    rfl
  · rw [not_or] at hb
    exact ((s.latchCap p).rget_latchGear_other p hb.1).trans (s.rget_latchCap_other p hb.1 hb.2)

/-! ## The acknowledge check (R122) -/

theorem gearAckCheck_missing (p : PairIx) (acks : BitVec 32) (s : State) (hpb : s.pb p % 4096 = 4095)
    (hch : (s.pair p).changing = true) (hacks : acks ≠ BitVec.allOnes 32) : ∃ t, exec (.gearAckCheck p acks) s = .next t ∧
      t.rf (CD_GEAR_CTL p) CD_GEAR_CTL_NEXT = s.rf (CD_GEAR_CTL p) CD_GEAR_CTL_CUR ∧ (t.pair p).changing = false ∧
      t.rf (CD_GEAR_STAT p) CD_GEAR_STAT_ABORTS = min (s.rf (CD_GEAR_STAT p) CD_GEAR_STAT_ABORTS + 1) (2 ^ 16 - 1) := by
  refine ⟨_, (exec_gearAckCheck p acks s).trans (if_pos ⟨hpb, hch, hacks⟩), ?_, ?_, ?_⟩
  · rw [State.bump, State.rf_wf_other _ _ _ _ (CD_GEAR_STAT_ne_CD_GEAR_CTL p).symm, State.rf_wf_same _ _ _ _ (by decide)]
    exact Nat.mod_eq_of_lt (Fld.get_lt ..)
  · exact congrArg Pair.changing (s.pair_setPair_same p _)
  · rw [State.rf_bump_same _ _ _ _ (by decide), State.rf_wf_other _ _ _ _ (CD_GEAR_STAT_ne_CD_GEAR_CTL p)]
    rfl

/-! ## The margin monitors (R121) -/

/-- One cluster's monitor at a boundary. -/
def Pair.monitor (low : BitVec 32) (q : Pair) (i : Nat) : Pair :=
  let (r, c) := monitorStep (low.getLsbD i) (Tab.get 0 q.monReq i) (Tab.get 0 q.monCalm i)
  { q with monReq := Tab.set 0 q.monReq i r, monCalm := Tab.set 0 q.monCalm i (if r = 0 then 0 else c) }
theorem Pair.monitors_eq (q : Pair) (low : BitVec 32) : q.monitors low = (List.range 32).foldl (Pair.monitor low) q := rfl

section
variable (low : BitVec 32)

/-- The request and the calm boundaries of a cluster's monitor (R121). -/
def Pair.margin (q : Pair) (i : Nat) : Nat × Nat := (Tab.get 0 q.monReq i, Tab.get 0 q.monCalm i)
theorem Pair.margin_monitor_same (q : Pair) (i : Nat) : (q.monitor low i).margin i =
    ((monitorStep (low.getLsbD i) (q.margin i).1 (q.margin i).2).1,
      if (monitorStep (low.getLsbD i) (q.margin i).1 (q.margin i).2).1 = 0 then 0
      else (monitorStep (low.getLsbD i) (q.margin i).1 (q.margin i).2).2) :=
  Prod.ext (Tab.get_set_same ..) (Tab.get_set_same ..)
theorem Pair.margin_monitor_other (q : Pair) {i j : Nat} (h : j ≠ i) : (q.monitor low i).margin j = q.margin j :=
  Prod.ext (Tab.get_set_other _ _ _ _ h) (Tab.get_set_other _ _ _ _ h)
/-- A cluster's monitor stands while the others move. -/
theorem Pair.margin_foldl_other {j : Nat} (l : List Nat) (h : j ∉ l) :
    ∀ q : Pair, (l.foldl (Pair.monitor low) q).margin j = q.margin j := by
  induction l with
  | nil => exact fun _ => rfl
  | cons i l ih =>
    rw [List.mem_cons, not_or] at h
    exact fun q => (ih h.2 _).trans (q.margin_monitor_other low h.1)
/-- Each cluster's monitor takes one step from where it stood before the boundary. -/
theorem Pair.margin_foldl {j : Nat} (l : List Nat) (hl : l.Nodup) (h : j ∈ l) : ∀ q : Pair,
    (l.foldl (Pair.monitor low) q).margin j = (q.monitor low j).margin j := by
  induction l with
  | nil => exact absurd h List.not_mem_nil
  | cons i l ih =>
    intro q
    obtain ⟨hi, hl⟩ := List.nodup_cons.1 hl
    rw [List.foldl_cons]
    by_cases hj : j = i
    · subst hj
      exact Pair.margin_foldl_other low l hi _
    · rw [ih hl ((List.mem_cons.1 h).resolve_left hj), margin_monitor_same, margin_monitor_same, q.margin_monitor_other low hj]
theorem Pair.margin_monitors (q : Pair) {i : Nat} (hi : i < 32) : (q.monitors low).margin i = (q.monitor low i).margin i := by
  rw [Pair.monitors_eq]
  exact Pair.margin_foldl low _ List.nodup_range (List.mem_range.2 hi) q
theorem Pair.changing_monitors (q : Pair) : (q.monitors low).changing = q.changing := by
  refine List.foldlRecOn (motive := fun r => r.changing = q.changing) (List.range 32) (Pair.monitor low) rfl ?_
  exact fun r h i _ => h
end

/-! ## The boundary (R121, R122) -/

section
variable (s : State) (p : PairIx) (low : BitVec 32)

/-- The monitors move, and no change is under way any more. -/
def State.monitored (s : State) (p : Nat) (low : BitVec 32) : State :=
  (s.setPair p { (s.pair p).monitors low with changing := false }).wf (CD_GEAR_CTL p) CD_GEAR_CTL_MON_REQ
    ((((s.pair p).monitors low).monReq.map Prod.snd).foldl max 0)
/-- Gear `g` is in force, and the change is counted. -/
def State.geared (s : State) (p g : Nat) : State :=
  ((s.wf (CD_GEAR_CTL p) CD_GEAR_CTL_CUR g).bump (CD_GEAR_STAT p) CD_GEAR_STAT_CHANGES 1).pairEvc p 0x07 1
/-- After a change to a slower gear the lower voltage is still to be asked for. -/
def State.owesVolt (s : State) (p : Nat) (slower : Bool) : State :=
  if slower then s.setPair p { s.pair p with lower := true } else s
/-- The change that was latched is to a slower gear. -/
def State.slows (s : State) (p : Nat) : Bool :=
  decide (s.rf (CD_GEAR_CTL p) CD_GEAR_CTL_NEXT > s.rf (CD_GEAR_CTL p) CD_GEAR_CTL_CUR)

theorem exec_gearBoundary_at (h : s.pb p % 4096 = 0) : exec (.gearBoundary p low) s = .next
    (if (s.pair p).changing = true then
      ((s.monitored p low).geared p (s.rf (CD_GEAR_CTL p) CD_GEAR_CTL_NEXT)).owesVolt p (s.slows p)
    else s.monitored p low) := by
  rw [exec_gearBoundary, execGearBoundary, if_neg (not_not_intro h)]
  dsimp only
  rw [Pair.changing_monitors]
  cases (s.pair p).changing with
  | false => rfl
  | true =>
    simp only [Bool.not_true, Bool.false_eq_true, if_false, if_true, State.owesVolt, State.slows, decide_eq_true_eq]
    rfl

theorem State.rget_monitored_other {a : Nat} (h : a ≠ CD_GEAR_CTL p) : (s.monitored p low).rget a = s.rget a :=
  State.rget_wf_other _ _ _ h
theorem State.rf_monitored_apart {f : Fld} (h : CD_GEAR_CTL_MON_REQ.Apart f) :
    (s.monitored p low).rf (CD_GEAR_CTL p) f = s.rf (CD_GEAR_CTL p) f :=
  State.rf_wf_apart _ _ _ h
theorem State.pair_monitored : (s.monitored p low).pair p = { (s.pair p).monitors low with changing := false } :=
  s.pair_setPair_same ..
theorem State.rf_monitored_monReq : (s.monitored p low).rf (CD_GEAR_CTL p) CD_GEAR_CTL_MON_REQ =
    (((s.pair p).monitors low).monReq.map Prod.snd).foldl max 0 % 32 :=
  State.rf_wf_same _ _ _ _ (by decide)

theorem HD_EVC_range_CD_GEAR_CTL : CD_GEAR_CTL p < HD_EVC 0 ∨ HD_EVC 0 + 8 * 32 ≤ CD_GEAR_CTL p := by
  unfold CD_GEAR_CTL HD_EVC
  omega
theorem HD_EVC_range_CD_GEAR_STAT : CD_GEAR_STAT p < HD_EVC 0 ∨ HD_EVC 0 + 8 * 32 ≤ CD_GEAR_STAT p := by
  unfold CD_GEAR_STAT HD_EVC
  omega
theorem State.rf_geared_cur {g : Nat} (h : g < 32) : (s.geared p g).rf (CD_GEAR_CTL p) CD_GEAR_CTL_CUR = g := by
  rw [State.geared, State.pairEvc, State.rf_evc _ _ _ _ _ _ _ _ (HD_EVC_range_CD_GEAR_CTL p), State.bump,
    State.rf_wf_other _ _ _ _ (CD_GEAR_STAT_ne_CD_GEAR_CTL p).symm, State.rf_wf_same _ _ _ _ (by decide)]
  exact Nat.mod_eq_of_lt h
theorem State.rf_geared_apart (g : Nat) {f : Fld} (h : CD_GEAR_CTL_CUR.Apart f) :
    (s.geared p g).rf (CD_GEAR_CTL p) f = s.rf (CD_GEAR_CTL p) f := by
  rw [State.geared, State.pairEvc, State.rf_evc _ _ _ _ _ _ _ _ (HD_EVC_range_CD_GEAR_CTL p), State.bump,
    State.rf_wf_other _ _ _ _ (CD_GEAR_STAT_ne_CD_GEAR_CTL p).symm, State.rf_wf_apart _ _ _ h]
theorem State.rf_geared_changes (g : Nat) : (s.geared p g).rf (CD_GEAR_STAT p) CD_GEAR_STAT_CHANGES =
    min (s.rf (CD_GEAR_STAT p) CD_GEAR_STAT_CHANGES + 1) (2 ^ 32 - 1) := by
  rw [State.geared, State.pairEvc, State.rf_evc _ _ _ _ _ _ _ _ (HD_EVC_range_CD_GEAR_STAT p),
    State.rf_bump_same _ _ _ _ (by decide), State.rf_wf_other _ _ _ _ (CD_GEAR_STAT_ne_CD_GEAR_CTL p)]
  rfl
theorem State.pairs_geared (g : Nat) : (s.geared p g).pairs = s.pairs := by
  rw [State.geared, State.pairEvc, State.evc_pairs, State.bump, State.wf_pairs, State.wf_pairs]
theorem State.mem_geared (g : Nat) : (s.geared p g).mem = s.mem := by
  rw [State.geared, State.pairEvc, State.evc_mem, State.bump, State.wf_mem, State.wf_mem]

theorem State.rget_owesVolt (b : Bool) (a : Nat) : (s.owesVolt p b).rget a = s.rget a := by
  cases b <;> rfl
theorem State.mem_owesVolt (b : Bool) : (s.owesVolt p b).mem = s.mem := by
  cases b <;> rfl
theorem State.pair_owesVolt (b : Bool) : (s.owesVolt p b).pair p = { s.pair p with lower := b || (s.pair p).lower } := by
  cases b with
  | false => rfl
  | true => exact s.pair_setPair_same ..
/-- GEAR_BOUNDARY with no change under way. -/
theorem gearBoundary_steady (h : s.pb p % 4096 = 0) (hch : (s.pair p).changing = false) :
    exec (.gearBoundary p low) s = .next (s.monitored p low) := by
  rw [exec_gearBoundary_at s p low h, hch]
  rfl
/-- GEAR_BOUNDARY with a change under way. -/
theorem gearBoundary_change (h : s.pb p % 4096 = 0) (hch : (s.pair p).changing = true) : exec (.gearBoundary p low) s = .next
    (((s.monitored p low).geared p (s.rf (CD_GEAR_CTL p) CD_GEAR_CTL_NEXT)).owesVolt p (s.slows p)) := by
  rw [exec_gearBoundary_at s p low h, if_pos hch]

/-- What a boundary does to the monitors, whether a change is under way or not. -/
def MonitorsMoved (s t : State) (p : PairIx) (low : BitVec 32) : Prop :=
  (t.pair p).changing = false ∧ t.mem = s.mem ∧
  t.rf (CD_GEAR_CTL p) CD_GEAR_CTL_MON_REQ = ((t.pair p).monReq.map Prod.snd).foldl max 0 % 32 ∧
  ∀ i < 32, (t.pair p).margin i = ((s.pair p).monitor low i).margin i
theorem State.monitored_moved : MonitorsMoved s (s.monitored p low) p low := by
  rw [MonitorsMoved, s.pair_monitored p low]
  exact ⟨rfl, rfl, s.rf_monitored_monReq p low, fun i hi => (s.pair p).margin_monitors low hi⟩
theorem State.geared_moved (g : Nat) (b : Bool) : MonitorsMoved s (((s.monitored p low).geared p g).owesVolt p b) p low := by
  obtain ⟨hch, hmem, hmon, hmargin⟩ := s.monitored_moved p low
  have hpair : ((s.monitored p low).geared p g).pair p = (s.monitored p low).pair p := by
    rw [State.pair, State.pairs_geared, State.pair]
  rw [MonitorsMoved, State.pair_owesVolt, hpair]
  refine ⟨hch, ?_, ?_, hmargin⟩
  · rw [State.mem_owesVolt, State.mem_geared, hmem]
  · rw [State.rf_congr (State.rget_owesVolt ..), State.rf_geared_apart _ _ _ (by decide), hmon]

theorem gearBoundary_spec (h : s.pb p % 4096 = 0) : ∃ t, exec (.gearBoundary p low) s = .next t ∧ MonitorsMoved s t p low ∧
    ((s.pair p).changing = true → t.rf (CD_GEAR_CTL p) CD_GEAR_CTL_CUR = s.rf (CD_GEAR_CTL p) CD_GEAR_CTL_NEXT ∧
      t.rf (CD_GEAR_STAT p) CD_GEAR_STAT_CHANGES = min (s.rf (CD_GEAR_STAT p) CD_GEAR_STAT_CHANGES + 1) (2 ^ 32 - 1) ∧
      (s.rf (CD_GEAR_CTL p) CD_GEAR_CTL_NEXT > s.rf (CD_GEAR_CTL p) CD_GEAR_CTL_CUR → (t.pair p).lower = true)) ∧
    ((s.pair p).changing = false → t.rf (CD_GEAR_CTL p) CD_GEAR_CTL_CUR = s.rf (CD_GEAR_CTL p) CD_GEAR_CTL_CUR) := by
  cases hch : (s.pair p).changing with
  | false =>
    exact ⟨_, gearBoundary_steady s p low h hch, s.monitored_moved p low, nofun,
      fun _ => s.rf_monitored_apart p low (by decide)⟩
  | true =>
    refine ⟨_, gearBoundary_change s p low h hch, s.geared_moved p low _ _, fun _ => ⟨?_, ?_, fun hslow => ?_⟩, nofun⟩
    · rw [State.rf_congr (State.rget_owesVolt ..), State.rf_geared_cur _ _ (Fld.get_lt ..)]
    · rw [State.rf_congr (State.rget_owesVolt ..), State.rf_geared_changes,
        State.rf_congr (s.rget_monitored_other p low (CD_GEAR_STAT_ne_CD_GEAR_CTL p))]
    · rw [State.pair_owesVolt, State.slows, decide_eq_true hslow, Bool.true_or]
end

/-! ## Voltages and margins (R118, R122, R424) -/

theorem State.tickGear_asks (s : State) (p : Nat) (hlow : (s.pair p).lower = true) (hpb : s.pb p % 4096 = 1) :
    s.tickGear p = ((s.setPair p { s.pair p with lower := false }).wf (CD_GEAR_CTL p) CD_GEAR_CTL_VOLT_OK
      (s.rf (CD_GEAR_CTL p) CD_GEAR_CTL_CUR)).askVolt p (s.rf (CD_GEAR_CTL p) CD_GEAR_CTL_CUR) := by
  rw [State.tickGear, hlow, hpb]
  rfl
theorem State.tickGear_spec (s : State) (p : Nat) (hlow : (s.pair p).lower = true) (hpb : s.pb p % 4096 = 1) :
    (s.tickGear p).rf (CD_GEAR_CTL p) CD_GEAR_CTL_VOLT_OK = s.rf (CD_GEAR_CTL p) CD_GEAR_CTL_CUR ∧
    (s.tickGear p).pmbus = s.pmbus ++ [(0x40 + p, railMv p (s.rf (CD_GEAR_CTL p) CD_GEAR_CTL_CUR))] := by
  rw [s.tickGear_asks p hlow hpb]
  refine ⟨?_, rfl⟩
  have hput := (s.setPair p { s.pair p with lower := false }).rf_wf_same (CD_GEAR_CTL p) CD_GEAR_CTL_VOLT_OK
    (s.rf (CD_GEAR_CTL p) CD_GEAR_CTL_CUR) (by decide)
  exact hput.trans (Nat.mod_eq_of_lt (Fld.get_lt ..))

theorem voltConfirm_spec (p : PairIx) (g : Fin 25) (s : State) : ∃ t, exec (.voltConfirm p g) s = .next t ∧
    t.rf (CD_GEAR_CTL p) CD_GEAR_CTL_VOLT_OK = g.val ∧ SameRegsBut s t (fun b => b = CD_GEAR_CTL p) ∧
    t = { s with regs := t.regs } := by
  refine ⟨_, exec_voltConfirm p g s, ?_, fun b _ hb => s.rget_wf_other _ _ hb, rfl⟩
  rw [s.rf_wf_same _ _ _ (by decide)]
  exact Nat.mod_eq_of_lt (Nat.lt_trans g.isLt (by decide))
theorem isEvc_CD_GEAR_CTL (p : PairIx) : isEvc (CD_GEAR_CTL p) = false := by
  have hoff : CD_GEAR_CTL p % 0x1000 = 0 := by
    unfold CD_GEAR_CTL
    omega
  have hrange : 0x900000 ≤ CD_GEAR_CTL p ∧ CD_GEAR_CTL p < 0x910000 := by
    unfold CD_GEAR_CTL
    omega
  simp [isEvc]
  omega
theorem voltTimeout_spec (p : PairIx) (g : Fin 25) (mv : BitVec 16) (s : State) :
    ∃ t, exec (.voltTimeout p g mv) s = .next t ∧ t.rget (CD_GEAR_CTL p) = s.rget (CD_GEAR_CTL p) ∧
      t.pmbus = s.pmbus ++ [(0x40 + p.val, railMv p g)] ∧ t.mem = s.mem := by
  have hrec := OnlyRecords.event s 0x0B 0x10 (unitOf 3 p) 0 0 g mv.toNat 0
  refine ⟨_, exec_voltTimeout p g mv s, hrec.rget (CD_GEAR_CTL_lt p) (isEvc_CD_GEAR_CTL p), ?_, ?_⟩
  · obtain ⟨⟨_, _, _, _, _, _, _, h⟩, _⟩ := hrec
    rw [State.askVolt, h]
  · obtain ⟨hmem, _, _⟩ := hrec.sameCompute
    exact hmem
theorem crossingMarginLow_spec (cl : ClusterIx) (port : Fin 6) (s : State) : ∃ t, exec (.crossingMarginLow cl port) s = .next t ∧
    t.rf (CD_XING_STAT cl) CD_XING_STAT_MARGIN_LOW = s.rf (CD_XING_STAT cl) CD_XING_STAT_MARGIN_LOW ||| 2 ^ port.val ∧
    t.rf (CD_XING_STAT cl) CD_XING_STAT_SLIPPED = s.rf (CD_XING_STAT cl) CD_XING_STAT_SLIPPED ∧
    t = { s with regs := t.regs, hwSet := t.hwSet } ∧ SameRegsBut s t (fun b => b = CD_XING_STAT cl) := by
  obtain ⟨hframe, hregs⟩ := s.raise_frame (CD_XING_STAT cl) CD_XING_STAT_MARGIN_LOW (2 ^ port.val)
  refine ⟨_, exec_crossingMarginLow cl port s, ?_, s.rf_raise_apart _ _ (by decide), hframe, hregs⟩
  have hlt : s.rf (CD_XING_STAT cl) CD_XING_STAT_MARGIN_LOW ||| 2 ^ port.val < 2 ^ 6 :=
    Nat.or_lt_two_pow (Fld.get_lt ..) (Nat.pow_lt_pow_right (by decide) port.isLt)
  exact (s.rf_raise_same _ _ _ (by decide)).trans (Nat.mod_eq_of_lt hlt)

/-- Settles O27: the latch, the check and the boundary by their specs, each in its beat; the other rows write one field. -/
theorem gearController : Obligations.GearController := by
  unfold Obligations.GearController
  intro p s
  refine ⟨fun h => if_pos h, fun h => ?_, fun acks => ⟨fun h1 h2 h3 => gearAckCheck_missing p acks s h1 h2 h3, fun h => ?_⟩,
    fun low h => ?_, fun hlow hpb => s.tickGear_spec p hlow hpb, fun g => voltConfirm_spec p g s,
    fun g mv => voltTimeout_spec p g mv s, fun cl port => crossingMarginLow_spec cl port s⟩
  · obtain ⟨t, hexec, hcap, hnext, hcur, hvpend, hch, hpmbus, hregs, hmem, hcores⟩ := gearLatch_spec p s h
    exact ⟨t, hexec, hcap, hnext.trans (s.nextGear_latchCap p), hcur, hvpend.trans (s.voltLacks_latchCap p), hch,
      hpmbus.trans (congrArg (s.pmbus ++ ·) (if_congr (s.voltLacks_latchCap p) rfl rfl)), hregs, hmem, hcores⟩
  · refine if_neg fun ⟨h1, h2, h3⟩ => ?_
    rcases h with h | h | h
    · exact h h1
    · exact Bool.false_ne_true (h.symm.trans h2)
    · exact h3 h
  · obtain ⟨t, hexec, ⟨hch, hmem, hmon, hmargin⟩, hchange, hsteady⟩ := gearBoundary_spec s p low h
    refine ⟨t, hexec, hch, hmem, hmon, fun i hi r hr => ?_, hchange, hsteady⟩
    have hi' := (hmargin i hi).trans (Pair.margin_monitor_same ..)
    subst hr
    exact ⟨congrArg Prod.fst hi', congrArg Prod.snd hi'⟩

end Sys2Proof.Machine
end

section
/-! PROOF. The pool port: a claimant that the cluster's ECC register moves (O26). -/
namespace Sys2Proof.Machine

/-! ## A claimant beyond the package's cores (R3, R107) -/

theorem exec_poolPortAccess (cl : ClusterIx) (a : PoolAcc) (up : List Upset) (s : State) (h : a.addr.toNat % 64 = 0)
    (hd : a.write = true → a.data.length = 64) :
    exec (.poolPortAccess cl a up) s = .next (((s.poolStrikes cl up).portWait cl a).servePort cl) :=
  if_neg (not_or.2 ⟨not_not_intro h, fun ⟨hw, hl⟩ => hl (hd hw)⟩)

/-- The first core number past the package's 2,048 (R3). The address formula of CD_SEQ_STATUS gives it 0x800000, which is
CD_POOL_ECC of cluster 0. -/
def pastCore : Nat := 2048
/-- A read of line 0, which waits, and one of line 15. -/
def readLine0 : PoolAcc := ⟨0, false, []⟩
def readLine15 : PoolAcc := ⟨0x780, false, []⟩
/-- Line 15 of pool 0 has a claimant of core `pastCore`, for count 1, where that core's group stands; a word of line 0 has a
single-bit error, and the read of line 0 waits. -/
def claimedPastCores : State :=
  { State.reset with
    groups := [(256, { Grp.none with count := 1 })], poolOps := [⟨1, pastCore, 0, 0, 0, 15, 1, none, 0⟩],
    pools := [(0, { PoolSide.reset with wait := [readLine0] })], ecc := [(poolBase 0 / 8, 1)] }

theorem claimedPastCores_waits : (claimedPastCores.pool 0).atoms = [] ∧ (claimedPastCores.pool 0).reps = [] ∧
    (claimedPastCores.pool 0).wait = [readLine0] := by
  decide +kernel
theorem claimedPastCores_taken : claimedPastCores.portFree 0 (readLine15.addr.toNat / 128 % 16) = false := by
  decide +kernel
/-- The read of line 0 counts a corrected word, by which core `pastCore` would run, at its own count 0: its claim for count 1
has not come any more, and the read of line 15 takes the bank. -/
theorem claimedPastCores_served :
    ((((claimedPastCores.poolStrikes 0 []).portWait 0 readLine15).servePort 0).pool 0).wait = [] := by
  decide +kernel

/-- Refutes O26, in the clause of the taken bank: the statement ranges over every state, and bounds neither the core of a
static claimant nor its register's address. In `claimedPastCores` the claimant's core is past the package's 2,048 (R3), so that
its status register is CD_POOL_ECC of the cluster; a corrected read that waited before moves that core, the bank is free when
the new read's turn comes, and nothing is left waiting. -/
theorem not_poolPort : ¬ Obligations.PoolPort := by
  unfold Obligations.PoolPort
  rintro ⟨hport, -⟩
  obtain ⟨hatoms, hreps, hwait⟩ := claimedPastCores_waits
  have hothers : ∀ b ∈ (claimedPastCores.pool 0).wait,
      b.addr.toNat / 128 % 16 ≠ readLine15.addr.toNat / 128 % 16 ∧ b.addr.toNat % 64 = 0 ∧ b.data.length ≤ 64 := by
    rw [hwait]
    decide
  obtain ⟨-, -, htaken⟩ :=
    hport 0 readLine15 [] claimedPastCores _ _ _ rfl rfl claimedPastCores_taken.symm hatoms hreps (by decide) hothers
  obtain ⟨t, hexec, hmem, -⟩ := htaken rfl nofun
  rw [exec_poolPortAccess 0 readLine15 [] claimedPastCores (by decide) nofun] at hexec
  obtain rfl := Host.Outcome.next.inj hexec
  have hnone : readLine15 ∈ [] := claimedPastCores_served ▸ hmem
  exact List.not_mem_nil hnone

end Sys2Proof.Machine
end

section
/-! PROOF. One tick of the clock with nothing waiting: what it leaves, and the beats of the pairs (O2, O3). -/
namespace Sys2Proof.Machine

/-! ## What a tick's clocks leave as it was -/

/-- What a tick with nothing waiting leaves as it was, besides the pairs. -/
def State.resting (s : State) :=
  (s.pending, s.mem, s.cores, s.groups, s.parts, s.shch, s.tags, s.streams, s.ports, s.log, s.recBuf, s.edge, s.pools)

/-- Fabric time, the power domains, and the beat and gear registers of the pairs that do not beat. -/
def ClockReg (beats : Nat → Prop) (a : Nat) : Prop :=
  a = HD_TIME_NOW ∨ a = HD_PWR_DOM0 ∨ ∃ p < 8, ¬ beats p ∧ (a = CD_PAIR_BEAT p ∨ a = CD_GEAR_CTL p)

/-- A clock has moved: nothing else has but counts of time, and the beats, gears and voltages of the pairs named. -/
structure Clocked (beats : Nat → Prop) (s t : State) : Prop where
  resting : t.resting = s.resting
  time : t.tick = s.tick ∧ t.nsPhase = s.nsPhase
  pair : ∀ p, t.pair p = { s.pair p with lower := (t.pair p).lower }
  regs : ∀ a, ClockReg beats a → t.rget a = s.rget a
  phase : ∀ p, ¬ beats p → Tab.get 0 t.beatPhase p = Tab.get 0 s.beatPhase p

/-- No pool's port has anything to serve. -/
def State.portsIdle (s : State) : Prop := ∀ e ∈ s.pools, e.2.busy = false

theorem State.portsIdle_of_resting {s t : State} (h : t.resting = s.resting) (hs : s.portsIdle) : t.portsIdle := by
  simp only [State.resting, Prod.mk.injEq] at h
  obtain ⟨-, -, -, -, -, -, -, -, -, -, -, -, hpools⟩ := h
  unfold State.portsIdle
  rw [hpools]
  exact hs

namespace Clocked
variable {beats : Nat → Prop}

theorem refl (s : State) : Clocked beats s s := ⟨rfl, ⟨rfl, rfl⟩, fun _ => rfl, fun _ _ => rfl, fun _ _ => rfl⟩
theorem trans {s t u : State} (h1 : Clocked beats s t) (h2 : Clocked beats t u) : Clocked beats s u := by
  refine ⟨h2.resting.trans h1.resting, ⟨h2.time.1.trans h1.time.1, h2.time.2.trans h1.time.2⟩, fun p => ?_,
    fun a ha => (h2.regs a ha).trans (h1.regs a ha), fun p hp => (h2.phase p hp).trans (h1.phase p hp)⟩
  rw [h2.pair p, h1.pair p]
theorem foldl {α : Type} {f : State → α → State} (l : List α) (h : ∀ x ∈ l, ∀ s, Clocked beats s (f s x)) :
    ∀ s : State, Clocked beats s (l.foldl f s) := by
  induction l with
  | nil => exact refl
  | cons x l ih =>
    rw [List.forall_mem_cons] at h
    exact fun s => (h.1 s).trans (ih h.2 _)
theorem ite {s t u : State} (c : Prop) [Decidable c] (ht : Clocked beats s t) (hu : Clocked beats s u) :
    Clocked beats s (if c then t else u) := by
  split
  · exact ht
  · exact hu
theorem portsIdle {s t : State} (h : Clocked beats s t) (hs : s.portsIdle) : t.portsIdle :=
  State.portsIdle_of_resting h.resting hs

/-- A change of what no clock reads. -/
theorem ofEq {s t : State} (hrest : t.resting = s.resting) (htick : t.tick = s.tick) (hns : t.nsPhase = s.nsPhase)
    (hpairs : t.pairs = s.pairs) (hregs : t.regs = s.regs) (hphase : t.beatPhase = s.beatPhase) : Clocked beats s t := by
  have hpair (p : Nat) : t.pair p = s.pair p := by rw [State.pair, State.pair, hpairs]
  refine ⟨hrest, ⟨htick, hns⟩, fun p => ?_, fun a _ => ?_, fun p _ => ?_⟩
  · rw [hpair]
  · rw [State.rget, State.rget, hregs]
  · rw [hphase]
theorem wf (s : State) {a : Nat} (f : Fld) (v : Nat) (h : ¬ ClockReg beats a) : Clocked beats s (s.wf a f v) :=
  ⟨rfl, ⟨rfl, rfl⟩, fun _ => rfl, fun _ hb => s.rget_wf_other f v fun he => h (he ▸ hb), fun _ _ => rfl⟩
theorem evc (s : State) (base k code : Nat) (sc : Nat → Bool) (n : Nat)
    (h : ∀ b, ClockReg beats b → b < base ∨ base + 8 * k ≤ b) : Clocked beats s (s.evc base k code sc n) := by
  obtain ⟨r, w, he⟩ := s.evc_only base k code sc n
  refine ⟨?_, ?_, fun p => ?_, fun b hb => s.rget_evc _ _ _ _ _ _ (h b hb), fun p _ => ?_⟩ <;> rw [he]
  · rfl
  · exact ⟨rfl, rfl⟩
  · rfl
end Clocked

/-! ## Registers no clock reads -/

theorem ClockReg.cases {beats : Nat → Prop} {a : Nat} (h : ClockReg beats a) :
    a = 0x970408 ∨ a = 0x970438 ∨ ∃ p < 8, a = 0x900000 + 0x1000 * p + 0x10 ∨ a = 0x900000 + 0x1000 * p := by
  rcases h with rfl | rfl | ⟨p, hp, -, h⟩
  · exact .inl rfl
  · exact .inr (.inl rfl)
  · exact .inr (.inr ⟨p, hp, h⟩)

section
variable {beats : Nat → Prop}

theorem not_clockReg_XP_SEL_HEALTH {n : Nat} (h : n < 16) : ¬ ClockReg beats (XP_SEL_HEALTH n) := by
  intro hr
  have := hr.cases
  unfold XP_SEL_HEALTH at this
  omega
theorem not_clockReg_CD_THERM {p : Nat} (h : p < 8) : ¬ ClockReg beats (CD_THERM p) := by
  intro hr
  have := hr.cases
  unfold CD_THERM at this
  omega
theorem not_clockReg_BM_SELFTEST {k : Nat} (h : k < 8) : ¬ ClockReg beats (BM_SELFTEST k) := by
  intro hr
  have := hr.cases
  unfold BM_SELFTEST at this
  omega
theorem not_clockReg_HD_BRINGUP : ¬ ClockReg beats HD_BRINGUP := by
  intro hr
  have := hr.cases
  unfold HD_BRINGUP at this
  omega
/-- The beat and gear registers of a pair that beats are among those its beat may change. -/
theorem not_clockReg_own {p : Nat} (hp : p < 8) (hb : beats p) :
    ¬ ClockReg beats (CD_PAIR_BEAT p) ∧ ¬ ClockReg beats (CD_GEAR_CTL p) := by
  have hother {a : Nat} (ha : a = CD_PAIR_BEAT p ∨ a = CD_GEAR_CTL p) (hr : ClockReg beats a) : False := by
    unfold CD_PAIR_BEAT CD_GEAR_CTL at ha
    rcases hr with rfl | rfl | ⟨q, hq, hqb, h⟩
    · unfold HD_TIME_NOW at ha
      omega
    · unfold HD_PWR_DOM0 at ha
      omega
    · unfold CD_PAIR_BEAT CD_GEAR_CTL at h
      obtain rfl : q = p := by omega
      exact hqb hb
  exact ⟨hother (.inl rfl), hother (.inr rfl)⟩
theorem ClockReg.CD_EVC_range {b : Nat} (h : ClockReg beats b) (cl : Nat) :
    b < CD_EVC cl 0 ∨ CD_EVC cl 0 + 8 * 8 ≤ b := by
  have := h.cases
  unfold CD_EVC
  omega
theorem ClockReg.LM_EVC_range {b : Nat} (h : ClockReg beats b) (d : Nat) :
    b < LM_EVC d 0 ∨ LM_EVC d 0 + 8 * 8 ≤ b := by
  have := h.cases
  unfold LM_EVC
  omega
theorem ClockReg.HD_EVC_range {b : Nat} (h : ClockReg beats b) : b < HD_EVC 0 ∨ HD_EVC 0 + 8 * 32 ≤ b := by
  have := h.cases
  unfold HD_EVC
  omega
end

/-! ## The counts of a tick besides the beats (R142, R200, R205, R373, R428, R434) -/

/-- Each site counts the tick (R433). -/
def State.countTicks (s : State) : State :=
  (List.range 32).foldl (fun s d => s.evc (LM_EVC d 0) 8 0x01 (fun sc => sc == 0) 1) s
/-- The package's microsecond (R433), millisecond, and second. -/
def State.countMicro (s : State) : State := if s.tick % 1500 = 0 then s.hdEvc 0x01 1 else s
def State.countMilli (s : State) : State := if s.tick % 1500000 = 0 then s.tickMs else s
def State.countSecond (s : State) : State :=
  if s.tick % 1500000000 = 0 then
    (List.range 8).foldl (fun s k => s.bump (BM_SELFTEST k) BM_SELFTEST_AGE_S 1) s
  else s
/-- A tick has begun: the arbiters have seen the requests, and no register has been written in it. -/
def State.tickBegun (s : State) : State := { s.raiseAll with tick := s.raiseAll.tick + 1, hwSet := [], evcSet := [] }
/-- The beats of the eight pairs. -/
def State.pairBeats (s : State) : State := (List.range 8).foldl (fun s p => s.tickBeat p) s
/-- What a tick counts when the pairs have made their beats. -/
def State.tickCounts (s : State) : State := s.countTicks.tickMeters.countMicro.countMilli.countSecond.tickBringup
theorem State.clockTick_eq (s : State) : s.clockTick = s.tickBegun.tickTime.tickStand.tickWaits.pairBeats.tickCounts := rfl

/-- A partition's open epoch advances by a tick (R434). -/
def State.meterPart (s : State) (e : Nat × Part) : State :=
  s.setMeter e.1 { s.meter e.1 with run := (s.meter e.1).run + (if e.2.state = .running then e.2.pairs else 0),
                                    gib := (s.meter e.1).gib + e.2.bulkGib }

namespace Clocked
variable {beats : Nat → Prop}

theorem countTicks (s : State) : Clocked beats s s.countTicks :=
  foldl _ (fun d _ s => evc s _ _ _ _ _ fun _ hb => hb.LM_EVC_range d) s
theorem hdEvc (s : State) (code n : Nat) : Clocked beats s (s.hdEvc code n) := evc s _ _ _ _ _ fun _ hb => hb.HD_EVC_range
theorem countMicro (s : State) : Clocked beats s s.countMicro := ite _ (hdEvc ..) (refl s)
theorem tickMs (s : State) : Clocked beats s s.tickMs := by
  have hheld (u : State) : Clocked beats u (if u.lightHold then u
      else (List.range 16).foldl (fun u n => u.bump (XP_SEL_HEALTH n) XP_SEL_HEALTH_AGE_MS 1) u) :=
    ite _ (refl u) (foldl _ (fun n hn u => wf u _ _ (not_clockReg_XP_SEL_HEALTH (List.mem_range.1 hn))) u)
  refine (hheld s).trans (foldl _ (fun p hp u => ?_) _)
  exact ite _ (wf u _ _ (not_clockReg_CD_THERM (List.mem_range.1 hp))) (refl u)
theorem countMilli (s : State) : Clocked beats s s.countMilli := ite _ (tickMs s) (refl s)
theorem countSecond (s : State) : Clocked beats s s.countSecond :=
  ite _ (foldl _ (fun _ hk u => wf u _ _ (not_clockReg_BM_SELFTEST (List.mem_range.1 hk))) s) (refl s)
theorem tickBringup (s : State) : Clocked beats s s.tickBringup := ite _ (wf s _ _ not_clockReg_HD_BRINGUP) (refl s)
theorem setMeter (s : State) (n : Nat) (m : Meter) : Clocked beats s (s.setMeter n m) := ofEq rfl rfl rfl rfl rfl rfl
theorem tickMeters (s : State) : Clocked beats s s.tickMeters := by
  unfold State.tickMeters
  dsimp only
  have hparts := foldl (beats := beats) (f := State.meterPart) s.parts (fun e _ u => setMeter u e.1 _) s
  exact ite _ hparts (hparts.trans (setMeter ..))
theorem tickCounts (s : State) : Clocked beats s s.tickCounts :=
  (((((countTicks s).trans (tickMeters _)).trans (countMicro _)).trans (countMilli _)).trans (countSecond _)).trans (tickBringup _)
end Clocked

/-! ## A pair's beat (R116, R117, R120) -/

/-- Fortieths of a beat that stand after a tick of a powered pair, before a whole beat is taken out of them. -/
def State.nextPhase (s : State) (p : Nat) : Nat := Tab.get 0 s.beatPhase p + (40 - s.rf (CD_GEAR_CTL p) CD_GEAR_CTL_CUR)
def State.setPhase (s : State) (p v : Nat) : State := { s with beatPhase := Tab.set 0 s.beatPhase p v }
/-- The pair's count of beats goes on by one. -/
def State.countBeat (s : State) (p : Nat) : State := s.wf (CD_PAIR_BEAT p) CD_PAIR_BEAT_PB (s.pb p + 1)
/-- Each cluster of the pair counts the wall beat (R433). -/
def State.countWallBeat (s : State) (p : Nat) : State :=
  (List.range 32).foldl (fun s i => s.evc (CD_EVC (32 * p + i) 0) 8 0x01 (fun sc => decide (sc ≤ 8)) 1) s

section
variable (s : State) (p : Nat)

theorem State.tickBeat_unpowered (h : s.pairPowered p = false) : s.tickBeat p = s := by
  rw [State.tickBeat, h]
  rfl
theorem State.tickBeat_between (h : s.pairPowered p = true) (hph : s.nextPhase p < 40) :
    s.tickBeat p = s.setPhase p (s.nextPhase p % 40) := by
  rw [State.tickBeat, if_pos h]
  exact if_neg (Nat.not_le.2 hph)
/-- With idle ports a beat is the count, the gear controller's request, and the clusters' counts. -/
theorem State.tickBeat_whole (h : s.pairPowered p = true) (hph : 40 ≤ s.nextPhase p) (hidle : s.portsIdle) :
    s.tickBeat p = (((s.setPhase p (s.nextPhase p % 40)).countBeat p).tickGear p).countWallBeat p := by
  have hserve (u : State) : (s.pools.filter fun e => e.1 / 32 = p ∧ e.2.busy).foldl (fun s e => s.servePort e.1) u = u := by
    have hnone : (s.pools.filter fun e => e.1 / 32 = p ∧ e.2.busy) = [] :=
      List.filter_eq_nil_iff.2 fun e he => by simp [hidle e he]
    rw [hnone]
    rfl
  rw [State.tickBeat, if_pos h]
  exact (if_pos hph).trans (congrArg (·.countWallBeat p) (hserve _))
end

namespace Clocked
variable {beats : Nat → Prop} {p : Nat}

theorem setPhase (s : State) (hb : beats p) (v : Nat) : Clocked beats s (s.setPhase p v) :=
  ⟨rfl, ⟨rfl, rfl⟩, fun _ => rfl, fun _ _ => rfl, fun _ hq => Tab.get_set_other _ _ _ _ fun he => hq (he ▸ hb)⟩
theorem countBeat (s : State) (hp : p < 8) (hb : beats p) : Clocked beats s (s.countBeat p) := wf s _ _ (not_clockReg_own hp hb).1
theorem countWallBeat (s : State) : Clocked beats s (s.countWallBeat p) :=
  foldl _ (fun i _ s => evc s _ _ _ _ _ fun _ hb => hb.CD_EVC_range (32 * p + i)) s
theorem clearLower (s : State) (p : Nat) : Clocked beats s (s.setPair p { s.pair p with lower := false }) := by
  refine ⟨rfl, ⟨rfl, rfl⟩, fun q => ?_, fun _ _ => rfl, fun _ _ => rfl⟩
  by_cases hq : q = p
  · rw [hq, State.pair_setPair_same]
  · rw [State.pair_setPair_other _ _ hq]
theorem askVolt (s : State) (p g : Nat) : Clocked beats s (s.askVolt p g) := ofEq rfl rfl rfl rfl rfl rfl
theorem tickGear (s : State) (hp : p < 8) (hb : beats p) : Clocked beats s (s.tickGear p) := by
  unfold State.tickGear
  exact ite _ (((clearLower s p).trans (wf _ _ _ (not_clockReg_own hp hb).2)).trans (askVolt ..)) (refl s)
theorem tickBeat (s : State) (hp : p < 8) (hb : beats p) (hidle : s.portsIdle) : Clocked beats s (s.tickBeat p) := by
  cases hpow : s.pairPowered p with
  | false =>
    rw [s.tickBeat_unpowered p hpow]
    exact refl s
  | true =>
    rcases Nat.lt_or_ge (s.nextPhase p) 40 with hph | hph
    · rw [s.tickBeat_between p hpow hph]
      exact setPhase s hb _
    · rw [s.tickBeat_whole p hpow hph hidle]
      exact (((setPhase s hb _).trans (countBeat _ hp hb)).trans (tickGear _ hp hb)).trans (countWallBeat _)
theorem foldl_tickBeat (l : List Nat) (hl : ∀ q ∈ l, q < 8 ∧ beats q) :
    ∀ s : State, s.portsIdle → Clocked beats s (l.foldl (fun s p => s.tickBeat p) s) := by
  induction l with
  | nil => exact fun s _ => refl s
  | cons q l ih =>
    rw [List.forall_mem_cons] at hl
    intro s hidle
    have hq := tickBeat s hl.1.1 hl.1.2 hidle
    exact hq.trans (ih hl.2 _ (hq.portsIdle hidle))
end Clocked

/-! ## Nothing that waits goes on (R107, R223, R270, R298) -/

/-- Nothing waits but packets of a link in HB mode, which a tick moves between queues only. -/
def State.NoneWaits (s : State) : Prop :=
  (∀ e ∈ s.stalled, e.stack.isSome = true) ∧ s.ctlOut = [] ∧ (∀ e ∈ s.streams, e.2 = none) ∧ s.standSince = none ∧
  (∀ e ∈ s.pairEnd, e.2.owe = 0) ∧ ∀ e ∈ s.ctlEnd, e.2.owe = 0
theorem Still.noneWaits {s : State} (h : Still s) : s.NoneWaits := by
  obtain ⟨hstall, hctl, hstream, hstand, _, hpair, hend, _⟩ := h
  exact ⟨hstall, hctl, hstream, hstand, hpair, hend⟩

theorem Tab.get_of_forall {α : Type} {P : α → Prop} {d : α} (hd : P d) {t : List (Nat × α)} (ht : ∀ e ∈ t, P e.2) (k : Nat) :
    P (Tab.get d t k) := by
  induction t with
  | nil => exact hd
  | cons e t ih =>
    rw [List.forall_mem_cons] at ht
    rw [Tab.get]
    split
    · exact ht.1
    · exact ih ht.2

section
variable {s : State}

theorem State.retryStalled_of_stacked (h : ∀ e ∈ s.stalled, e.stack.isSome = true) : s.retryStalled = s := by
  have hgo : (s.stalled.filter fun e => e.stack.isNone) = [] :=
    List.filter_eq_nil_iff.2 fun e he => by simp [Option.isNone_eq_false_iff.2 (h e he)]
  rw [State.retryStalled, hgo, List.filter_eq_self.2 h]
  rfl
theorem State.standAcks_of_none_owed (hpair : ∀ e ∈ s.pairEnd, e.2.owe = 0)
    (hctl : ∀ e ∈ s.ctlEnd, e.2.owe = 0) : s.standAcks = s := by
  have hack (pair : Bool) (p k : Nat) : s.standAck pair p k = s := by
    refine if_neg fun h => h.1 ?_
    cases pair with
    | false => exact Tab.get_of_forall (P := fun c : CircEnd => c.owe = 0) rfl hctl _
    | true => exact Tab.get_of_forall (P := fun c : CircEnd => c.owe = 0) rfl hpair _
  have hpairs : s.pairEnd.foldl (fun s e => s.standAck true (e.1 / 8) (e.1 % 8)) s = s :=
    foldl_eq_self _ fun e _ => hack true _ _
  rw [State.standAcks, hpairs]
  exact foldl_eq_self _ fun e _ => hack false _ _
theorem State.heddleIssue_of_none (h : s.ctlOut = []) : s.heddleIssue = s := by
  rw [State.heddleIssue, h]
theorem State.streamsGoOn_of_none (h : ∀ e ∈ s.streams, e.2 = none) : s.streamsGoOn = s := by
  have hnone (p i : Nat) : s.stream? p i = none := Tab.get_of_forall (P := (· = none)) rfl h _
  refine foldl_eq_self _ fun e _ => ?_
  rw [State.streamGoOn, hnone]
theorem State.tickStand_of_none (h : s.standSince = none) : s.tickStand = s := by
  rw [State.tickStand, h]
end

/-- Packets have moved from a site's queue to a link's. -/
def OnlyQueues (s t : State) : Prop := ∃ q r l, t = { s with epIn := q, warpRx := r, links := l }
theorem OnlyQueues.trans {s t u : State} (h1 : OnlyQueues s t) (h2 : OnlyQueues t u) : OnlyQueues s u := by
  obtain ⟨_, _, _, rfl⟩ := h1
  obtain ⟨q, r, l, rfl⟩ := h2
  exact ⟨q, r, l, rfl⟩
theorem OnlyQueues.refl (s : State) : OnlyQueues s s := ⟨s.epIn, s.warpRx, s.links, rfl⟩
theorem OnlyQueues.creditBack (s : State) (d : Nat) (k : Pkt) : OnlyQueues s (s.creditBack d k) := by
  unfold State.creditBack
  dsimp only
  split
  · exact .refl s
  · exact ⟨s.epIn, _, s.links, rfl⟩
theorem OnlyQueues.unqueue (s : State) (p : Nat) (k : Pkt) : OnlyQueues s (s.unqueue p k) := by
  unfold State.unqueue
  dsimp only
  split
  · exact .refl s
  · refine .trans ?_ (.creditBack ..)
    exact ⟨_, s.warpRx, s.links, rfl⟩
theorem OnlyQueues.setLink (s : State) (n : Nat) (l : Link) : OnlyQueues s (s.setLink n l) := ⟨s.epIn, s.warpRx, _, rfl⟩
theorem OnlyQueues.linkQueue (n fuel : Nat) : ∀ s : State, OnlyQueues s (s.linkQueue n fuel) := by
  induction fuel with
  | zero => exact .refl
  | succ fuel ih =>
    intro s
    rw [State.linkQueue]
    dsimp only
    split
    · exact .refl s
    · split
      · exact .refl s
      · exact ((OnlyQueues.unqueue ..).trans (.setLink ..)).trans (ih _)
theorem State.tickWaits_onlyQueues {s : State} (h : s.NoneWaits) : OnlyQueues s s.tickWaits := by
  obtain ⟨hstall, hctl, hstream, _, hpair, hend⟩ := h
  have hlinks (l : List Nat) : ∀ u : State, OnlyQueues u (l.foldl (fun s n => s.linkQueue n 8192) u) := by
    induction l with
    | nil => exact .refl
    | cons n l ih => exact fun u => (OnlyQueues.linkQueue n 8192 u).trans (ih _)
  rw [State.tickWaits, State.retryStalled_of_stacked hstall, State.standAcks_of_none_owed hpair hend,
    State.heddleIssue_of_none hctl]
  have hq := hlinks (s.links.map Prod.fst) s
  rw [State.streamsGoOn_of_none]
  · exact hq
  · obtain ⟨_, _, _, he⟩ := hq
    rw [he]
    exact hstream

/-! ## The tick as a whole (R116, R142, R413) -/

theorem OnlyQueues.clocked {beats : Nat → Prop} {s t : State} (h : OnlyQueues s t) : Clocked beats s t := by
  obtain ⟨_, _, _, rfl⟩ := h
  exact .ofEq rfl rfl rfl rfl rfl rfl

/-- Only the edge arbiters have changed. -/
def OnlyArbs (s t : State) : Prop := ∃ a, t = { s with arbs := a }
theorem OnlyArbs.foldl {α : Type} {f : State → α → State} (h : ∀ s x, OnlyArbs s (f s x)) (l : List α) :
    ∀ s : State, OnlyArbs s (l.foldl f s) := by
  induction l with
  | nil => exact fun s => ⟨s.arbs, rfl⟩
  | cons x l ih =>
    intro s
    obtain ⟨a, ha⟩ := ih (f s x)
    obtain ⟨b, hb⟩ := h s x
    exact ⟨a, by rw [List.foldl_cons, ha, hb]⟩
theorem State.raiseAll_onlyArbs (s : State) : OnlyArbs s s.raiseAll := by
  obtain ⟨a, ha⟩ := OnlyArbs.foldl (f := fun (s : State) (e : Nat × Arb) => s.setArb e.1 { s.arb e.1 with req := [], holder := none })
    (fun _ _ => ⟨_, rfl⟩) s.arbs s
  have hraise := OnlyArbs.foldl (f := fun (s : State) (e : Nat × List (Nat × EdgeLoad)) => s.arbRaise e.1) (fun _ _ => ⟨_, rfl⟩)
  rw [State.raiseAll, ha]
  exact hraise ..

/-- Units of 1/(3 × 10⁹) ns not yet counted at the end of a tick, before whole nanoseconds are taken out of them (R413). -/
def State.nextNs (s : State) : Nat := s.nsPhase + (2 * (1000000000 + s.ratePpb)).toNat

/-- A tick has begun, and fabric time has advanced. -/
structure TimeBegun (s t : State) : Prop where
  resting : t.resting = s.resting
  tick : t.tick = s.tick + 1
  pair : ∀ p, t.pair p = s.pair p
  phase : t.beatPhase = s.beatPhase
  ns : t.nsPhase = s.nextNs % 3000000000
  now : t.now = (s.now + s.nextNs / 3000000000) % 2 ^ 64
  regs : ∀ a, a ≠ HD_TIME_NOW → t.rget a = s.rget a
  waits : s.NoneWaits → t.NoneWaits

theorem State.timeBegun (s : State) : TimeBegun s s.tickBegun.tickTime := by
  obtain ⟨a, ha⟩ := s.raiseAll_onlyArbs
  have hbegun : s.tickBegun = { s with arbs := a, tick := s.tick + 1, hwSet := [], evcSet := [] } := by
    rw [State.tickBegun, ha]
  rw [hbegun]
  refine ⟨rfl, rfl, fun _ => rfl, rfl, rfl, ?_, fun b hb => State.rget_rset_other _ _ hb, fun h => h⟩
  exact (congrArg BitVec.toNat (State.rget_rset_same ..)).trans (BitVec.toNat_ofNat ..)

section
variable {s : State} (h : Still s)
include h

theorem Still.portsIdle : s.portsIdle := by
  obtain ⟨_, _, _, _, hpools, _⟩ := h
  exact hpools

theorem Still.waits_clocked {beats : Nat → Prop} :
    Clocked beats s.tickBegun.tickTime s.tickBegun.tickTime.tickStand.tickWaits := by
  have hnone := s.timeBegun.waits h.noneWaits
  have hqueues := State.tickWaits_onlyQueues hnone
  obtain ⟨_, _, _, hstand, _⟩ := hnone
  rw [State.tickStand_of_none hstand]
  exact hqueues.clocked

theorem Still.clockTick_clocked : Clocked (fun _ => True) s.tickBegun.tickTime s.clockTick := by
  have hwait := h.waits_clocked (beats := fun _ => True)
  have hidle := State.portsIdle_of_resting s.timeBegun.resting h.portsIdle
  rw [State.clockTick_eq]
  refine (hwait.trans (.foldl_tickBeat _ (fun q hq => ⟨List.mem_range.1 hq, trivial⟩) _ ?_)).trans (.tickCounts _)
  exact hwait.portsIdle hidle

/-- A pair's beat in a tick: before it and after it the pair's beat count, gear and phase stand. -/
theorem Still.clockTick_beat (p : PairIx) : ∃ u, u.portsIdle ∧ Clocked (· ≠ p.val) s.tickBegun.tickTime u ∧
    Clocked (· ≠ p.val) (u.tickBeat p) s.clockTick := by
  have hwait := h.waits_clocked (beats := (· ≠ p.val))
  have hidle := hwait.portsIdle (State.portsIdle_of_resting s.timeBegun.resting h.portsIdle)
  obtain ⟨l, r, hsplit⟩ := List.append_of_mem (List.mem_range.2 p.isLt)
  have hnodup : (l ++ p.val :: r).Nodup := hsplit ▸ List.nodup_range
  obtain ⟨-, hr, hdisj⟩ := List.nodup_append.1 hnodup
  have hlt (q : Nat) (hq : q ∈ l ++ p.val :: r) : q < 8 := List.mem_range.1 (hsplit ▸ hq)
  have hl (q : Nat) (hq : q ∈ l) : q < 8 ∧ q ≠ p.val := ⟨hlt q (List.mem_append_left _ hq), hdisj q hq p List.mem_cons_self⟩
  have hr' (q : Nat) (hq : q ∈ r) : q < 8 ∧ q ≠ p.val :=
    ⟨hlt q (List.mem_append_right _ (List.mem_cons_of_mem _ hq)), fun he => (List.nodup_cons.1 hr).1 (he ▸ hq)⟩
  have hbefore := Clocked.foldl_tickBeat l hl _ hidle
  have hidle' := hbefore.portsIdle hidle
  have hown := (Clocked.tickBeat (beats := fun _ => True) _ p.isLt trivial hidle').portsIdle hidle'
  refine ⟨_, hidle', hwait.trans hbefore, ?_⟩
  rw [State.clockTick_eq, State.pairBeats, hsplit, List.foldl_append, List.foldl_cons]
  exact (Clocked.foldl_tickBeat r hr' _ hown).trans (.tickCounts _)
end

theorem step_of_idle {s : State} (h : s.pending = []) : step s = .next s.clockTick := by
  rw [step, h]

/-- Settles O2: time advances by `timeBegun`; what follows in the tick leaves the rest by `clockTick_clocked`. -/
theorem idleStepIsATick : Obligations.IdleStepIsATick := by
  unfold Obligations.IdleStepIsATick
  intro s hpend hstill
  have hbegun := s.timeBegun
  have hclock := hstill.clockTick_clocked
  have hrest := hclock.resting.trans hbegun.resting
  simp only [State.resting, Prod.mk.injEq] at hrest
  obtain ⟨hp, hmem, hcores, hgroups, hparts, hshch, htags, hstreams, hports, hlog, hbuf, hedge, -⟩ := hrest
  obtain ⟨htick, hns⟩ := hclock.time
  refine ⟨_, step_of_idle hpend, htick.trans hbegun.tick, hp.trans hpend, hmem, hcores, hgroups, hparts, hshch, htags, hstreams, hports,
    hlog, hbuf, hedge, fun p => ?_, ?_, hns.trans hbegun.ns, Int.le_max_left ..⟩
  · have hpair := hclock.pair p
    rwa [hbegun.pair] at hpair
  · rw [State.now, hclock.regs _ (.inl rfl)]
    exact hbegun.now

/-! ## The beat of one pair (R117, R120) -/

section
variable (s : State) (p : PairIx)

theorem CD_PAIR_BEAT_ne_CD_GEAR_CTL : CD_PAIR_BEAT p ≠ CD_GEAR_CTL p := by
  unfold CD_PAIR_BEAT CD_GEAR_CTL
  omega
theorem CD_PAIR_BEAT_ne_HD_TIME_NOW : CD_PAIR_BEAT p ≠ HD_TIME_NOW := by
  unfold CD_PAIR_BEAT HD_TIME_NOW
  omega
theorem CD_GEAR_CTL_ne_HD_TIME_NOW : CD_GEAR_CTL p ≠ HD_TIME_NOW := by
  unfold CD_GEAR_CTL HD_TIME_NOW
  omega
theorem State.tickGear_beat : (s.tickGear p).pb p = s.pb p ∧ (s.tickGear p).beatPhase = s.beatPhase := by
  have hne := CD_PAIR_BEAT_ne_CD_GEAR_CTL p
  unfold State.tickGear
  dsimp only
  split
  · refine ⟨?_, rfl⟩
    rw [State.pb, State.rf_congr (State.rget_askVolt ..), State.rf_wf_other _ _ _ _ hne, State.rf_congr (State.rget_setPair ..),
      State.pb]
  · exact ⟨rfl, rfl⟩
theorem State.countWallBeat_beat : (s.countWallBeat p).pb p = s.pb p ∧
    Tab.get 0 (s.countWallBeat p).beatPhase p = Tab.get 0 s.beatPhase p := by
  have h := Clocked.countWallBeat (beats := fun _ => False) (p := p) s
  exact ⟨State.rf_congr (h.regs _ (.inr (.inr ⟨p, p.isLt, not_false, .inl rfl⟩))) _, h.phase p not_false⟩
theorem State.tickBeat_beat (hpow : s.pairPowered p = true) (hidle : s.portsIdle) :
    Tab.get 0 (s.tickBeat p).beatPhase p = s.nextPhase p % 40 ∧
      (s.tickBeat p).pb p = if s.nextPhase p < 40 then s.pb p else (s.pb p + 1) % 2 ^ 48 := by
  rcases Nat.lt_or_ge (s.nextPhase p) 40 with hph | hph
  · rw [s.tickBeat_between p hpow hph, if_pos hph]
    exact ⟨Tab.get_set_same .., rfl⟩
  · rw [s.tickBeat_whole p hpow hph hidle, if_neg (Nat.not_lt.2 hph)]
    obtain ⟨hpb, hphase⟩ := ((((s.setPhase p (s.nextPhase p % 40)).countBeat p).tickGear p)).countWallBeat_beat p
    obtain ⟨hpb', hphase'⟩ := ((s.setPhase p (s.nextPhase p % 40)).countBeat p).tickGear_beat p
    rw [hpb, hpb', hphase, hphase']
    exact ⟨Tab.get_set_same .., State.rf_wf_same _ _ _ _ (by decide)⟩
end

/-- Settles O3: before its beat the pair stands as it did, its beat is `tickBeat_beat`, and after it the pair stands again. -/
theorem pairBeatAtGear : Obligations.PairBeatAtGear := by
  unfold Obligations.PairBeatAtGear
  intro s p hpend hstill
  obtain ⟨u, hidle, hbefore, hafter⟩ := hstill.clockTick_beat p
  have hbegun := s.timeBegun
  have hown {a : Nat} (ha : a = CD_PAIR_BEAT p ∨ a = CD_GEAR_CTL p) : ClockReg (· ≠ p.val) a :=
    .inr (.inr ⟨p, p.isLt, not_not_intro rfl, ha⟩)
  have hreg {a : Nat} (ha : ClockReg (· ≠ p.val) a) (hn : a ≠ HD_TIME_NOW) : u.rget a = s.rget a :=
    (hbefore.regs a ha).trans (hbegun.regs a hn)
  have hpow : u.pairPowered p = s.pairPowered p := by
    rw [State.pairPowered, hreg (.inr (.inl rfl)) (by decide), State.pairPowered]
  have hcur : u.rf (CD_GEAR_CTL p) CD_GEAR_CTL_CUR = s.rf (CD_GEAR_CTL p) CD_GEAR_CTL_CUR :=
    State.rf_congr (hreg (hown (.inr rfl)) (CD_GEAR_CTL_ne_HD_TIME_NOW p)) _
  have hpb : u.pb p = s.pb p := State.rf_congr (hreg (hown (.inl rfl)) (CD_PAIR_BEAT_ne_HD_TIME_NOW p)) _
  have hphase : Tab.get 0 u.beatPhase p = Tab.get 0 s.beatPhase p := by
    rw [hbefore.phase p (not_not_intro rfl), hbegun.phase]
  have hpbEnd : s.clockTick.pb p = (u.tickBeat p).pb p := State.rf_congr (hafter.regs _ (hown (.inl rfl))) _
  have hphaseEnd := hafter.phase p (not_not_intro rfl)
  refine ⟨_, step_of_idle hpend, fun hoff => ?_, fun hon hlt hgear => ?_⟩
  · rw [hpbEnd, hphaseEnd, u.tickBeat_unpowered p (hpow.trans hoff)]
    exact ⟨hpb, hphase⟩
  · have hnext : u.nextPhase p = s.nextPhase p := by rw [State.nextPhase, hphase, hcur, State.nextPhase]
    obtain ⟨hphaseBeat, hpbBeat⟩ := u.tickBeat_beat p (hpow.trans hon) hidle
    rw [hnext] at hphaseBeat hpbBeat
    rw [hpbEnd, hphaseEnd, hphaseBeat, hpbBeat, hpb]
    change _ = s.nextPhase p ∧ _
    have hbound : s.nextPhase p < 80 := Nat.add_lt_add_of_lt_of_le hlt (Nat.sub_le ..)
    rcases Nat.lt_or_ge (s.nextPhase p) 40 with hph | hph
    · rw [if_pos hph, if_pos rfl]
      exact ⟨by omega, .inl rfl⟩
    · have hpbLt : s.pb p < 2 ^ 48 := Fld.get_lt ..
      have hmoves : (s.pb p + 1) % 2 ^ 48 ≠ s.pb p := by omega
      rw [if_neg (Nat.not_lt.2 hph), if_neg hmoves]
      exact ⟨by omega, .inr rfl⟩

end Sys2Proof.Machine
end
